-- ==== Sys2Proof/Word.lean ====
section
/-! DEFINITION. The word types of the block and their plainest arithmetic: bytes, the 16-, 32- and 64-bit words of
R4, and the reading of a multi-byte field as a little-endian list of bytes. -/

namespace Sys2Proof

/-- One byte. -/
abbrev Byte := BitVec 8
/-- A 16-bit field: every status code is one (R6). -/
abbrev W16 := BitVec 16
/-- A 32-bit field. -/
abbrev W32 := BitVec 32
/-- A 64-bit field. -/
abbrev W64 := BitVec 64

/-- Bits `[hi:lo]` of a number (R4: bit 0 is the least significant bit). -/
def bits (x : Nat) (lo width : Nat) : Nat := x / 2 ^ lo % 2 ^ width

/-- Bit `n` of a number. -/
def bit (x n : Nat) : Bool := x / 2 ^ n % 2 == 1

/-- A Bool as the number 0 or 1. -/
def b2n (b : Bool) : Nat := if b then 1 else 0

/-- The little-endian bytes of a number: `n` bytes, the least significant first (R4). -/
def leBytes : Nat → Nat → List Nat
  | 0, _ => []
  | n + 1, x => x % 256 :: leBytes n (x / 256)

/-- The number that little-endian bytes spell (R4). -/
def ofLe : List Nat → Nat
  | [] => 0
  | b :: bs => b + 256 * ofLe bs

/-- A signed reading of the low `width` bits of a number, two's complement. -/
def toSigned (width x : Nat) : Int :=
  if x % 2 ^ width < 2 ^ (width - 1) then (x % 2 ^ width : Nat) else (x % 2 ^ width : Nat) - (2 ^ width : Nat)

/-- The two's-complement encoding of an integer in `width` bits. -/
def ofSigned (width : Nat) (x : Int) : Nat := (x % (2 ^ width : Nat)).toNat

/-- The number without the bits that a mask names. -/
def clearBits (x m : Nat) : Nat := x - (x &&& m)

end Sys2Proof
end

