-- ==== Sys2Proof/Syntax.lean ====
section
/-! DEFINITION. The commands of the block: one constructor for each row of the table of operations and events, with the
operands that come from outside the block or name what the step works on. -/

namespace Sys2Proof

/-- Who makes a register access (R8, R37, R289): PCIe function 0 (the PF) or `t + 1` (the VF of tenant `t`), or the program
context of an Usher through its register window. -/
inductive Requester where
  | fn (f : Nat)
  | usher (u : Nat)
  deriving DecidableEq, Repr

/-- A write that the host makes to its own memory: an address and the bytes. -/
structure HostWrite where
  addr : Nat
  bytes : List Byte
  deriving DecidableEq, Repr

/-- What a device read of host memory was made for (R354): a command in flight, or the entry fetch of a queue. -/
inductive ReadFor where
  | command (id : Nat)
  | fetch (f q : Nat)
  deriving DecidableEq, Repr

/-- What the root got of a rerank vector that another device holds, or whether its own was read in time (R157). -/
inductive VecRead where
  /-- The bytes that the window read answered; for a vector of this device its own store answers. -/
  | bytes (b : List Byte)
  | uncorrectable
  /-- The shard device is lost, or the read is late. -/
  | absent
  deriving DecidableEq, Repr

/-- The words of a Lantern core's memories that the handling of an event finds uncorrectable (R223): the source's entry,
neurons, list entries, kernel entries by 16 * slot + entry, and group actions. -/
structure LntBad where
  source : Bool
  neurons : List Nat
  lists : List Nat
  kernels : List Nat
  actions : List Nat
  deriving DecidableEq, Repr

/-- No errors. -/
def LntBad.none : LntBad := ⟨false, [], [], [], []⟩

/-- How a line's 36 symbols read: the pins whose symbols are in error (data pin i as i, check pin k as 32 + k, R264), and
whether a pattern that the code need not detect lies within reach of another codeword and is miscorrected (R265). -/
structure LineErr where
  pins : List Nat
  missed : Bool
  deriving DecidableEq, Repr

/-- A 64-byte line of hall memory: by its offset, or as a part of a structure whose place the device chooses. -/
inductive LineAt where
  /-- The line at offset 64 * n of the hall. -/
  | phys (n : Nat)
  /-- Line n of the swept bytes of a bay of an extent. -/
  | swept (uid bay n : Nat)
  /-- The line of the ID plane that holds a slot's item ID (eight to a line). -/
  | ids (coll n : Nat)
  /-- The line of a permit-map version that holds a bay's bits (eight bays to a line). -/
  | permit (ver n : Nat)
  /-- A line of a rerank vector. -/
  | vec (coll slot n : Nat)
  /-- A line of an item directory. -/
  | dir (coll n : Nat)
  deriving DecidableEq, Repr

/-- What a read of the Mezzanine's array meets (R254 to R256). -/
inductive ArrayEcc where
  | clean
  | corrected
  | uncorrectable
  deriving DecidableEq, Repr

/-- What a home's read of a line's memory copy meets: in the array, and in hall memory (R254, R265). -/
structure MemErr where
  array : ArrayEcc
  hall : LineErr
  deriving DecidableEq, Repr

/-- A read without errors. -/
def MemErr.none : MemErr := ⟨.clean, ⟨[], false⟩⟩

/-- What an engine's code words meet during an instruction (R152): corrected errors, and the tiles and scale entries found
uncorrectable. -/
structure EngineEcc where
  corrected : Nat
  tiles : List Nat
  srf : List Nat
  deriving DecidableEq, Repr

/-- No errors. -/
def EngineEcc.none : EngineEcc := ⟨0, [], []⟩

/-- How the programs of a commit ended (R398). -/
inductive ProgResult where
  | ok
  /-- A program failed. -/
  | failed
  /-- The controller can no longer read the NAND. -/
  | unreadable
  deriving DecidableEq, Repr

/-- A sector that arrives at a port (R408), as the lanes bring it. -/
structure Sector where
  /-- How many bits of the sync mark differ. -/
  markBits : Nat
  /-- The 32 bytes of the header. -/
  header : List Byte
  /-- The 4,096 payload bytes as transmitted, and what the payload deciphers to (log entry 2). -/
  payload : List Byte
  plain : List Byte
  /-- The 8 bytes of the trailer. -/
  trailer : List Byte
  /-- The mark stands one sector further on (R410). -/
  nextMark : Bool
  /-- The authentication tag verifies under the key of KEY_EPOCH (R425, log entry 2). -/
  tagOk : Bool
  /-- FEC codewords of the sector that were corrected, and that could not be (R435). -/
  fecCorrected : Nat
  fecLost : Nat
  deriving DecidableEq, Repr

/-- The binding over which a management message arrives (R487): SMBus or I3C, or PCIe vendor-defined messages. -/
inductive Transport where
  | smbus
  | i3c
  | pcie
  deriving DecidableEq, Repr

/-- Who sends a management request: the binding and the sender's endpoint ID. -/
structure Mgmt where
  via : Transport
  eid : Nat
  deriving DecidableEq, Repr

/-- Where a mailbox command comes from (R487, R500): the PF's mailbox, or a vendor-defined message with its request bytes. -/
inductive MbxFrom where
  | mailbox
  | message (via : Transport) (request : List Byte)
  deriving DecidableEq, Repr

/-- A sample of one sensor of R478 in milli-units. -/
structure SensorSample where
  sensor : Nat
  milli : Int
  deriving DecidableEq, Repr

/-- Where an SPDM request comes from (R496): MCTP, the PF's Data Object Exchange mailbox, or VC 7 of a port. -/
inductive SpdmVia where
  | mctp (via : Transport)
  | doe
  | link (port : Nat)
  deriving DecidableEq, Repr

/-- An MCTP control request (R487). -/
inductive MctpControl where
  | setEndpointId (eid : Nat)
  | getEndpointId
  | getMessageTypes
  deriving DecidableEq, Repr

/-- What triggers a cold reset: DEV_RESET_CAUSE (R509, R512). -/
inductive ResetCause where
  | powerOn
  | perst
  | resetCtrl
  | railsLost
  | thermalTrip
  deriving DecidableEq, Repr

/-- The self-tests of steps 6 and 7 of bring-up (R504): whether the Span, the Atrium arbiter and the Vestibule pass, whether the
microcode passes, and the Ushers that fail. -/
structure DieTests where
  core : Bool
  microcode : Bool
  failedUshers : List Nat
  deriving DecidableEq, Repr

/-- A unit that fails its self-test or its calibration in step 9 of bring-up (R504). -/
inductive TestedUnit where
  | port (p : Nat)
  | engine (e : Nat)
  | lantern (c : Nat)
  | slice (s : Nat)
  deriving DecidableEq, Repr


/-- A command of the block: one row of the table of operations and events, whole and indivisible. -/
inductive Instr where
  -- Register accesses and pace
  /-- REGISTER_WRITE (R8): A register write to a register with no row of its own is checked in the order of R545,
  then applied or discarded whole with an ERROR record. -/
  | registerWrite (who : Requester) (off size : Nat) (value hwSet : W64) (hwInc : Nat)
  /-- RC_READ (R7): A read of an RC field returns it and then clears it, and a colliding hardware set stays set. -/
  | rcRead (who : Requester) (off : Nat) (hwSet : W64)
  /-- SNAP_LOW_READ (R14): A read of the low word of a SNAP counter latches all its words for the requester and
  returns the low word. -/
  | snapLowRead (who : Requester) (off size : Nat)
  /-- PACE_WINDOW (R28): At the end of each 1 us window each pace monitor updates PACE_NOW and sets its LOW bit if
  pace fell below THRESH. -/
  | paceWindow (counts : List Nat)
  /-- NOP (R366): Host NOP command completes with 0x0000. -/
  | nop (id : Nat)
  -- Collections
  /-- COLL_CREATE (R49): Creates a collection from a 64-byte descriptor and rerank scale table after checks. -/
  | collCreate (id : Nat)
  /-- COLL_SET (R50): Changes a collection's HALLS or shard-map binding, refusing changes to fixed fields. -/
  | collSet (id : Nat)
  /-- COLL_EXTEND (R56): Stages the addition or removal of bays in one hall segment, applied at the hall's next
  Landing. -/
  | collExtend (id : Nat)
  /-- COLL_INFO (R49): Returns the 64-byte collection descriptor to a host buffer. -/
  | collInfo (id : Nat)
  /-- COLL_DESTROY (R549): Closes a collection to further commands and frees its storage once its extents have left
  every loop. -/
  | collDestroy (id : Nat)
  /-- COMPACT (R551): Starts compaction of a collection on named halls as a series of passes. -/
  | compact (id : Nat)
  /-- COMPACTION_PASS (R65): A compaction pass begins at a Landing once it holds its credits, moves live records
  downward and ends with one epoch advance. -/
  | compactionPass (id : Nat) (abandoned : List Nat)
  /-- REBASE (R68): Starts a rebase; at the write point it sets REBASE_ACTIVE, records REBASE_E and enters DRAIN. -/
  | rebase (id : Nat)
  /-- REBASE_REWRITE (R68): Once the last held view epoch is released, the rebase rewrites every stamp and restarts
  the epoch at 1. -/
  | rebaseRewrite (coll : Nat)
  /-- PERMIT_WRITE (R367): Creates a new version of a permit map in every hall of the collection, or deletes it. -/
  | permitWrite (id : Nat)
  -- Stores and the journal
  /-- INSERT (R384): Store command that inserts COUNT records into a collection. -/
  | insert (id : Nat)
  /-- DELETE (R385): Store command that deletes records by locator or item ID. -/
  | delete (id : Nat)
  /-- UPSERT (R386): Store command that inserts new records and deletes the records they replace. -/
  | upsert (id : Nat)
  /-- STORE_WRITE_POINT (R389): A store command or metadata change reaching the collection's write point chooses
  slots, takes credits, writes planes, stages and advances the epoch. -/
  | storeWritePoint (coll : Nat) (bad : Bool) (dirLine : Option (Nat × Nat))
  /-- DIRECTORY_REBUILD (R548): After an uncorrectable directory line is read, the device rebuilds the line from the
  ID and stamp planes while writers wait. -/
  | directoryRebuild (coll hall line : Nat) (members : List Nat)
  /-- JOURNAL_CREDITS_FREE (R390): Freed journal credits are taken by waiting commands in arrival order, which then
  proceed. -/
  | journalCreditsFree (w : Nat)
  /-- FLUSH (R392): Requests a commit of the wing and completes when a commit covering all earlier advances
  completes. -/
  | flush (id : Nat)
  /-- AUTO_COMMIT (R391): When UCR_W_AUTO_US_w has passed since the last commit start and staging holds uncovered
  data, a commit cut begins. -/
  | autoCommit (w : Nat)
  /-- COMMIT_COMPLETE (R391): When a commit page is programmed, DURABLE_SEQ advances, credits are freed and covered
  FLUSHes complete. -/
  | commitComplete (w spare : Nat) (res : ProgResult)
  /-- CHECKPOINT (R397): A background checkpoint of collection segments is written to reclaim journal space. -/
  | checkpoint (w bytes : Nat)
  /-- WING_RECOVERY (R395): At bring-up each wing is recovered to its last intact commit before commands for it run. -/
  | wingRecovery (w : Nat)
  -- The Stair and the Turnstile
  /-- SWEEP_ENABLE (R46): Writing SWEEP_EN = 1 starts or resumes the Stair, unless TRN_SPILL_SIZE reads 0. -/
  | sweepEnable (who : Requester) (h : Nat)
  /-- SWEEP_PAUSE (R90): Writing SWEEP_EN = 0 pauses the head at the next bay boundary with treads kept aboard. -/
  | sweepPause (h : Nat)
  /-- BAY_STREAM (R70): The head streams one bay: every occupied tread compares and admits its records, and bay-
  boundary grants, Landings and alightings occur. -/
  | bayStream (h : Nat) (errs : List (LineAt × LineErr))
  /-- SELECTION_PASS (R83): A queued intermediate selection pass keeps a tread's k best candidates and lowers its
  threshold. -/
  | selectionPass (h n : Nat) (errs : List (LineAt × LineErr))
  /-- FINAL_SELECTION (R101): After alighting the Turnstile selects the query's winners, reads item IDs and writes
  the hall result record. -/
  | finalSelection (h ctx : Nat) (errs : List (LineAt × LineErr))
  /-- SPILL_FINISH (R85): Ushers run selection over spilled entries, return thresholds and finish a spilled query at
  alighting. -/
  | spillFinish (h ctx units : Nat) (errs : List (LineAt × LineErr))
  /-- DELAY_THRESHOLD (R470): A flight that has waited DELAY_US without full grant posts one DELAYED record. -/
  | delayThreshold (ctx : Nat)
  -- Hall memory
  /-- TEMP_SAMPLE (R277): Each stack temperature sample sets the hall's thermal step, sweep rate, refresh interval
  and halt state. -/
  | tempSample (h : Nat) (t : Int)
  /-- SENSOR_TIMEOUT (R279): No valid stack reading for 1 ms sets SENSOR_FAULT and takes the hall to step 3. -/
  | sensorTimeout (h : Nat)
  /-- REFRESH_ROUND (R276): A refresh round starts at its interval, forming the hall controller's Landing. -/
  | refreshRound (h : Nat)
  /-- SCRUB_LINE (R268): The patrol scrub reads and checks the next line of its pass, tallying pin corrections. -/
  | scrubLine (h : Nat) (at_ : Option LineAt) (e : LineErr)
  /-- REPAIR (R269): A queued repair reads, corrects and writes back a line as one controller step. -/
  | repair (h : Nat) (e : LineErr)
  /-- WCB_PARTIAL_WRITE (R274): A partial-line write merges into an open write-combining entry or opens a new one. -/
  | wcbPartialWrite (u : Option Nat) (line mask : Nat) (data : List Byte)
  /-- WCB_TIMEOUT (R274): An entry open for TIMEOUT_NS closes and sends one WR_MERGE. -/
  | wcbTimeout (line : Nat)
  /-- WCB_CLOSE_REQUEST (R274): A writer's close request closes the entry holding its bytes and sends its WR_MERGE. -/
  | wcbCloseRequest (line : Nat)
  -- The Mezzanine
  /-- RD_S (R234): Home serves a read to share, pulling from an owner if any. -/
  | rdS (agent line : Nat) (err : MemErr)
  /-- RD_U (R234): Home serves a read for ownership, invalidating other holders. -/
  | rdU (agent line : Nat) (err : MemErr)
  /-- UPGR (R234): Home grants ownership without data, or serves as RD_U if the requester is recorded I. -/
  | upgr (agent line : Nat) (err : MemErr)
  /-- WB (R234): Home takes an eviction with data, writing the memory copy if the sender is still recorded X or O. -/
  | wb (agent line : Nat)
  /-- EVC (R234): Home records an announced clean eviction. -/
  | evc (agent line : Nat)
  /-- RD_NC (R234): Home serves a non-caching read, peeking an owner if any. -/
  | rdNc (line wing : Nat) (err : MemErr)
  /-- WR_FULL (R241): Home applies a full-line invalidating write. -/
  | wrFull (line wing : Nat) (data : List Byte)
  /-- WR_MERGE (R234): Home merges a masked partial-line write into the owner's or memory copy. -/
  | wrMerge (line : Nat) (err : MemErr)
  /-- ATOM_H (R243): Home executes an Usher atomic on a STREAM or host-bias line. -/
  | atomH (u line off op size : Nat) (arg cmp : W64) (err : MemErr)
  /-- RRD (R247): Home serves a peer remote read as RD_NC, or NACKs it if the line is busy. -/
  | rrd (p rtag : Nat) (err : MemErr)
  /-- RWR (R247): Home serves a peer remote write, or NACKs it if the line is busy. -/
  | rwr (p rtag : Nat) (err : MemErr)
  /-- RATOM (R243): Home executes a peer remote atomic, or NACKs it if the line is busy. -/
  | ratom (p rtag : Nat) (err : MemErr)
  /-- SNP_PULL (R239): A holder sends data to the home and keeps a copy. -/
  | snpPull (agent line : Nat) (bad : Bool)
  /-- SNP_PEEK (R234): A holder sends data to the home with its state unchanged. -/
  | snpPeek (agent line : Nat) (bad : Bool)
  /-- SNP_INV (R234): A holder invalidates its copy and answers SRSP. -/
  | snpInv (agent line : Nat)
  /-- SNP_INVD (R239): A holder sends data and invalidates its copy. -/
  | snpInvd (agent line : Nat) (bad : Bool)
  /-- FLUSH_SET (R257): An agent evicts every line of one L1 set so that the home can rebuild a filter word. -/
  | flushSet (agent set slice : Nat)
  /-- SRSP (R231): Home receives a snoop completion without data. -/
  | srsp (agent line : Nat)
  /-- SDAT (R237): Home receives snoop data into the line buffer and forwards it. -/
  | sdat (agent line : Nat)
  /-- GDAT (R235): A requester receives data with its granted state and sends ACK. -/
  | gdat (line : Nat)
  /-- CMP (R235): A requester receives a completion without data. -/
  | cmp (agent line : Nat)
  /-- WCMP (R274): A write completion arrives, freeing a write-combining entry and completing its writers. -/
  | wcmp (line : Nat)
  /-- ACK (R235): Home receives a grant acknowledgement and releases the busy line. -/
  | ack (agent line : Nat)
  /-- NACK (R248): A peer's engine receives a NACK and schedules a retry, or retries at once when RESERVED. -/
  | nack (p : Nat)
  /-- NACK_RETRY (R248): A backoff expires and the peer engine resends its remote request. -/
  | nackRetry (p tag : Nat)
  /-- RESERVATION_LAPSE (R249): A reservation whose retry has not arrived within MZN_RES_HOLD_NS of the line freeing
  lapses. -/
  | reservationLapse (line : Nat)
  /-- SNPDATA (R251): A host SnpData snoop is served with SNP_PULL on the device. -/
  | snpdata (line : Nat)
  /-- SNPINV (R251): A host SnpInv snoop is served with SNP_INVD on the device. -/
  | snpinv (line : Nat)
  /-- SNPCUR (R251): A host SnpCur snoop is served with SNP_PEEK on the device. -/
  | snpcur (line : Nat)
  /-- HOST_D2H_RESPONSE (R250): The host answers a D2H request from a home, which then completes its transaction. -/
  | hostD2hResponse (line : Nat) (data : Option (List Byte))
  /-- CXL_MEM_READ (R253): A host CXL.mem read is served under the page's bias. -/
  | cxlMemRead (addr : Nat) (err : MemErr)
  /-- CXL_MEM_WRITE (R253): A host CXL.mem write is served under the page's bias. -/
  | cxlMemWrite (addr mask : Nat) (data : List Byte)
  /-- BIAS_SET (R252): Changes the bias of a range of BAR2 pages, flushing copies page by page. -/
  | biasSet (id : Nat)
  -- The Usher instructions
  /-- ALU (R300): Usher scalar register-register integer operation. -/
  | alu (u : Nat)
  /-- ADDI (R301): Adds a sign-extended immediate. -/
  | addi (u : Nat)
  /-- ANDI (R301): ANDs with a sign-extended immediate. -/
  | andi (u : Nat)
  /-- ORI (R301): ORs with a sign-extended immediate. -/
  | ori (u : Nat)
  /-- XORI (R301): XORs with a sign-extended immediate. -/
  | xori (u : Nat)
  /-- SHI (R301): Shifts by an immediate amount. -/
  | shi (u : Nat)
  /-- SLTI (R301): Sets on signed less-than against an immediate. -/
  | slti (u : Nat)
  /-- FPU (R304): Scalar floating-point operation or conversion. -/
  | fpu (u : Nat)
  /-- LD (R302): Scalar load after the checks of R288. -/
  | ld (u : Nat)
  /-- ST (R302): Scalar store, including register-window stores. -/
  | st (u : Nat)
  /-- BR (R303): Conditional branch on registers or predicates. -/
  | br (u : Nat)
  /-- JAL (R303): Jump and link by a PC-relative offset. -/
  | jal (u : Nat)
  /-- JALR (R303): Jump and link to a register plus immediate. -/
  | jalr (u : Nat)
  /-- ATOM (R315): Usher atomic read-modify-write with optional acquire and release. -/
  | atom (u : Nat)
  /-- ARGMAX (R313): Returns the best index, best key, remaining sum and NaN count of a key row. -/
  | argmax (u : Nat)
  /-- VARITH (R305): Lane-wise vector arithmetic under a guard. -/
  | varith (u : Nat)
  /-- VCMP (R306): Lane-wise compare into a predicate. -/
  | vcmp (u : Nat)
  /-- VCVT (R307): Lane type conversion. -/
  | vcvt (u : Nat)
  /-- VPERM (R308): Vector permute, broadcast, lane move and predicate operations. -/
  | vperm (u : Nat)
  /-- VRED (R309): Reduces guarded lanes to a scalar in ascending lane order. -/
  | vred (u : Nat)
  /-- VLD (R310): Vector load of 256 bytes. -/
  | vld (u : Nat)
  /-- VST (R310): Vector store burst of guarded lines. -/
  | vst (u : Nat)
  /-- LI (R298): Loads a sign-extended 32-bit immediate. -/
  | li (u : Nat)
  /-- LIH (R298): Loads an immediate into the high 32 bits. -/
  | lih (u : Nat)
  /-- SELECT (R312): Selects the k best of a key row with sums and a summary block. -/
  | select (u : Nat)
  /-- JL (R298): Long jump and link by a 32-bit offset. -/
  | jl (u : Nat)
  /-- VCOMB (R311): Combines P partials lane by lane in ascending order. -/
  | vcomb (u : Nat)
  /-- SYS_NOP (R316): Usher no-operation. -/
  | sysNop (u : Nat)
  /-- HALT (R316): Ends the program, and its starting command completes returning s1 and s2. -/
  | halt (u : Nat)
  /-- CSRR (R286): Reads a control register. -/
  | csrr (u : Nat)
  /-- CSRW (R286): Writes a control register. -/
  | csrw (u : Nat)
  /-- FENCE (R292): Orders earlier and later accesses by kind. -/
  | fence (u : Nat)
  /-- XRET (R320): Returns from the exception handler to XPC. -/
  | xret (u : Nat)
  /-- TRAP (R316): Raises a TRAP exception with XADDR set. -/
  | trap (u : Nat)
  /-- ISSUE (R317): Copies a descriptor into a unit queue, waiting for room, and returns a token. -/
  | issue (u : Nat)
  /-- ISSUENB (R317): Issues a descriptor, or returns 0 when the queue is full. -/
  | issuenb (u : Nat)
  /-- WAIT (R318): Waits for a token's completion and returns its status. -/
  | wait (u : Nat)
  /-- WAIT_TIMEOUT (R318): A WAIT's timeout passes first and returns all ones, with the token kept. -/
  | waitTimeout (u : Nat)
  /-- TEST (R318): Returns a token's status without waiting. -/
  | test (u : Nat)
  /-- IFLUSH (R290): Empties the instruction cache. -/
  | iflush (u : Nat)
  /-- USHER_GO (R321): USH_CTRL.GO starts the program from IDLE or resumes it from STOPPED. -/
  | usherGo (u : Nat)
  /-- USHER_STOP (R321): USH_CTRL.STOP stops the program context at the next instruction boundary. -/
  | usherStop (u : Nat)
  /-- USHER_RESET (R322): USH_CTRL.RESET resets the program context through the steps of R322. -/
  | usherReset (u : Nat)
  -- Engine descriptors
  /-- BOARD (R335): Admits a query and places its flight entries at every hall Landing of the collection. -/
  | board (h id : Nat)
  /-- TREAD_SET (R338): Lowers a boarded query's RADIUS in every hall of its flight. -/
  | treadSet (h id : Nat)
  /-- TRN_THRESH (R339): Lowers a tread's threshold from microcode. -/
  | trnThresh (h id : Nat) (micro : Option (List Byte))
  /-- TRN_SPILL_FREE (R339): Frees units at the consumer end of the spill ring, releasing a held head. -/
  | trnSpillFree (h id : Nat) (micro : Option (List Byte))
  /-- TRN_DRAIN (R339): Writes out and releases a result context's pool entries. -/
  | trnDrain (h id : Nat) (micro : Option (List Byte))
  /-- MMA (R145): Accumulates a matrix product into Gallery tiles. -/
  | mma (e id : Nat) (ecc : EngineEcc)
  /-- TILE_ZERO (R341): Zeroes n tiles with a tag. -/
  | tileZero (e id : Nat) (ecc : EngineEcc)
  /-- TILE_LOAD (R341): Loads n tiles from memory with a tag. -/
  | tileLoad (e id : Nat) (ecc : EngineEcc)
  /-- TILE_STORE (R341): Stores n tiles to memory unchanged. -/
  | tileStore (e id : Nat) (ecc : EngineEcc)
  /-- TILE_MOVE (R341): Copies n tiles within the Gallery. -/
  | tileMove (e id : Nat) (ecc : EngineEcc)
  /-- REDUCE (R342): Sum, sum of squares or mean-and-variance reduction of rows into a tile. -/
  | reduce (e id : Nat) (ecc : EngineEcc)
  /-- SRF_LOAD (R147): Loads scale register file entries and sets COL_SRF_VER. -/
  | srfLoad (e id : Nat) (ecc : EngineEcc)
  /-- QUANT (R173): Quantises rows to Bell-4 or a narrow float format with statistics. -/
  | quant (e id : Nat) (ecc : EngineEcc)
  /-- DEQUANT (R175): Dequantises Bell-4 rows to BF16 or FP32. -/
  | dequant (e id : Nat) (ecc : EngineEcc)
  /-- QNT_STATS_CLR (R179): Clears a stream's statistics at the engine's next instruction boundary. -/
  | qntStatsClr (e : Nat)
  /-- LNT_LOAD_DESC (R346): Lantern table-load descriptor, checked whole and applied at one Landing. -/
  | lntLoadDesc (c id : Nat)
  /-- LNT_INJECT_DESC (R347): Injects HOST events into a Lantern core's input buffer. -/
  | lntInjectDesc (c id : Nat)
  /-- CLS_PROBE (R348): Cloister probe descriptor. -/
  | clsProbe (g id : Nat)
  /-- CLS_GET (R348): Cloister get descriptor. -/
  | clsGet (g id : Nat) (bad : List Nat)
  /-- CLS_PUT (R348): Cloister put descriptor. -/
  | clsPut (g id : Nat)
  /-- CLS_PIN (R348): Cloister pin descriptor. -/
  | clsPin (g id : Nat)
  /-- CLS_DROP (R348): Cloister drop descriptor. -/
  | clsDrop (g id : Nat)
  /-- DMA_COPY (R349): DMA copy of a memory range. -/
  | dmaCopy (g id : Nat)
  /-- DMA_FILL (R349): DMA fill of a memory range with a pattern. -/
  | dmaFill (g id : Nat)
  /-- DESCRIPTOR_COMPLETE (R333): When a descriptor's outputs are complete its notify word is written and its token
  completes. -/
  | descriptorComplete (cls inst id : Nat)
  -- The Lantern
  /-- LANTERN_EVENT_ARRIVAL (R212): An event enters a core's input buffer, or is dropped and counted when the buffer
  is full. -/
  | lanternEventArrival (c sender : Nat)
  /-- LANTERN_EVENT (R204): A core handles a buffered event, applying leak and synapses in order. -/
  | lanternEvent (c : Nat) (bad : LntBad)
  /-- WINDOW_CLOSE (R213): A window end runs the silent scan, swaps counter banks and advances LNT_WINDOW_SEQ. -/
  | windowClose (c : Nat) (bad : LntBad)
  /-- LANTERN_ACTION (R217): A queued Lantern action reaches the Cloister and pins, marks or promotes blocks. -/
  | lanternAction (c : Nat)
  /-- LNT_LOAD_APPLY (R218): An accepted table load takes effect whole at a core Landing. -/
  | lntLoadApply (c : Nat)
  -- The shared-prefix store
  /-- PREFIX_PROBE (R188): Returns the longest present run of a key chain. -/
  | prefixProbe (id : Nat)
  /-- PREFIX_GET (R191): Delivers blocks narrow or as BF16 with a report. -/
  | prefixGet (id : Nat) (bad : List Nat)
  /-- PREFIX_PUT (R189): Quantises and stores blocks that become present together. -/
  | prefixPut (id : Nat)
  /-- PREFIX_PIN (R197): Sets or clears HOST pins for listed keys. -/
  | prefixPin (id : Nat)
  /-- PREFIX_DROP (R193): Deletes listed blocks. -/
  | prefixDrop (id : Nat)
  /-- FLASH_COPY_COMPLETE (R193): A demotion's flash copy completes and the hall copy is released. -/
  | flashCopyComplete (owner nsId key : Nat)
  /-- PROMOTION_COMPLETE (R193): A promotion copy to hall completes and the block returns to HALL. -/
  | promotionComplete (owner nsId key : Nat)
  /-- NS_CREATE (R181): Creates a namespace with its scale table. -/
  | nsCreate (id : Nat)
  /-- NS_SET (R181): Changes a namespace's mutable fields. -/
  | nsSet (id : Nat)
  /-- NS_INFO (R180): Returns the namespace descriptor. -/
  | nsInfo (id : Nat)
  /-- NS_DESTROY (R182): Deletes every block and frees the namespace after its readers finish. -/
  | nsDestroy (id : Nat)
  -- The Vestibule
  /-- SQ_DOORBELL (R360): A submission queue tail doorbell announces new entries. -/
  | sqDoorbell (f q value : Nat) (writes : List HostWrite)
  /-- EQ_DOORBELL (R374): An event queue head doorbell consumes records, re-arms nudges and releases held records. -/
  | eqDoorbell (f e value : Nat)
  /-- SQ_ENABLE (R377): Enabling a submission queue checks it and resets its head and tail. -/
  | sqEnable (f q : Nat) (cfg : W64)
  /-- SQ_DISABLE (R377): Disabling a submission queue stops fetching at the next boundary. -/
  | sqDisable (f q : Nat)
  /-- EQ_ENABLE (R378): Enabling an event queue resets its tail and phase and arms it. -/
  | eqEnable (f e : Nat) (cfg : W64)
  /-- EQ_DISABLE (R378): Disabling an event queue, refused while it is bound or in use. -/
  | eqDisable (f e : Nat)
  /-- ENTRY_FETCH (R361): The device fetches and checks a submission queue entry in ring order. -/
  | entryFetch (f : Nat)
  /-- HOST_READ_COMPLETION (R354): A completion for a device read of host memory arrives, failing its command if
  poisoned. -/
  | hostReadCompletion (what : ReadFor) (poisoned : Bool)
  /-- COMMAND_COMPLETION (R21): A finished command writes its COMPLETION record after its result data is visible. -/
  | commandCompletion (id : Nat)
  /-- SEARCH (R368): Host search: admission at the root, QUERY fan-out and boarding. -/
  | search (id : Nat)
  /-- RUN (R369): Starts an Usher program context for the issuing tenant. -/
  | run (id : Nat)
  /-- LNT_LOAD (R366): Host command carrying an LNT_LOAD to a core of the tenant's wing. -/
  | lntLoad (id : Nat)
  /-- LNT_INJECT (R366): Host command carrying an LNT_INJECT. -/
  | lntInject (id : Nat)
  /-- COPY (R366): Host command carrying a DMA copy. -/
  | copy (id : Nat)
  /-- FILL (R366): Host command carrying a DMA fill. -/
  | fill (id : Nat)
  /-- POWER_STATE (R402): Begins a move to a power state, waiting for quiet on entry to a higher one. -/
  | powerState (id : Nat)
  /-- POWER_STATE_QUIET (R403): Quiet is reached, fetching pauses and the target state is entered. -/
  | powerStateQuiet
  /-- POWER_STATE_TIMEOUT (R403): TIMEOUT_NS passes before quiet and the entry is abandoned. -/
  | powerStateTimeout
  /-- MAP_PREPARE (R444): Holds a new shard-map image and returns its digest. -/
  | mapPrepare (id : Nat)
  /-- MAP_COMMIT (R444): Commits a prepared map to switch at time T. -/
  | mapCommit (id : Nat)
  /-- MAP_ABORT (R444): Discards a prepared map image. -/
  | mapAbort (id : Nat)
  /-- MAP_ACTIVATION (R441): TIM_NOW reaches T and the new map, parameters and level become current. -/
  | mapActivation (n : Nat)
  /-- GRACE_END (R441): TIM_NOW reaches G and the old map and parameters are released. -/
  | graceEnd (n : Nat)
  /-- COLL_CHANGE_PREPARE (R446): Prepares a GRID_ID or SCALE_VER change tied to a map epoch. -/
  | collChangePrepare (id : Nat)
  /-- COLL_CHANGE_COMMIT (R446): Applies a prepared change to an unsharded collection. -/
  | collChangeCommit (id : Nat)
  /-- WING_SET (R459): Changes a wing's hall groups, quota or peer account. -/
  | wingSet (id : Nat)
  /-- TENANT_SET (R462): Changes a tenant's wing or share settings. -/
  | tenantSet (id : Nat)
  /-- FLR (R381): A function-level reset drops the function's work and resets its queues. -/
  | flr (f : Nat)
  /-- LINK_DOWN (R383): PCIe link loss resets every function as after an FLR. -/
  | linkDown
  /-- BAR2_WRITE (R358): A host BAR2 write TLP is applied chunk by chunk. -/
  | bar2Write (addr : Nat) (data : List Byte) (poisoned : Bool)
  /-- BAR2_READ (R357): A host BAR2 read is served by the homes, or returns zeros outside halls. -/
  | bar2Read (addr n : Nat)
  -- Sharded search
  /-- QUERY (R117): A member checks a Newel QUERY, admits it, forwards it and boards. -/
  | query (p : Nat)
  /-- RESULT (R124): A merge node checks and merges, relays or discards a Newel RESULT. -/
  | result (p : Nat)
  /-- NOTICE (R132): A member records a LATE or LOST NOTICE and relays it. -/
  | notice (p : Nat)
  /-- REFUSAL (R118): A member or root records refused shards. -/
  | refusal (p : Nat)
  /-- DISCARD (R123): A sender receives a DISCARD for its message and counts it. -/
  | discard (p : Nat)
  /-- LOCAL_MERGE (R104): Once every hall record is written, an Usher merges a device's hall results. -/
  | localMerge (queryId tree : Nat)
  /-- SEND_LIMIT (R126): A member's send limit L_d expires and it sends its RESULT. -/
  | sendLimit (queryId tree : Nat)
  /-- SEARCH_DEADLINE (R128): The deadline passes at the root, which writes its result with missing shards. -/
  | searchDeadline (queryId : Nat)
  /-- RERANK (R157): The root scores merged candidates against their rerank vectors and keeps RERANK_K. -/
  | rerank (queryId : Nat) (vecs : List VecRead) (errs : List (LineAt × LineErr))
  /-- SEARCH_RESULT_WRITE (R136): The root writes the search result block and then completes the search. -/
  | searchResultWrite (queryId : Nat)
  -- Mariq links
  /-- SECTOR_SEND (R413): At each sector boundary the port sends a CONTROL, retransmitted, new DATA or IDLE sector. -/
  | sectorSend (p : Nat)
  /-- IDLE_SECTOR (R409): An IDLE sector is received and checked. -/
  | idleSector (p : Nat) (x : Sector)
  /-- CONTROL_SECTOR (R418): A CONTROL sector is received and its records are applied. -/
  | controlSector (p : Nat) (x : Sector)
  /-- DATA_SECTOR (R414): A DATA sector is checked, held or delivered in SEQ order, with NAKs for gaps. -/
  | dataSector (p : Nat) (x : Sector)
  /-- HELLO_SECTOR (R423): A partner HELLO sets link levels or refuses the link. -/
  | helloSector (p : Nat) (x : Sector)
  /-- HELLO_SEND (R422): In HELLO a port sends a HELLO every 10 us. -/
  | helloSend (p : Nat)
  /-- RETRANSMIT_TIMEOUT (R416): The oldest unacknowledged sector is retransmitted after MRQ_P_RETX_NS. -/
  | retransmitTimeout (p : Nat)
  /-- NAK_TIMEOUT (R416): The receiver resends its NAK for an unfilled gap after MRQ_P_RETX_NS. -/
  | nakTimeout (p : Nat)
  /-- CONTROL_RECORD_DUE (R418): ACK or CREDIT records fall due at their intervals. -/
  | controlRecordDue (p vc : Nat)
  /-- HEARTBEAT_SEND (R419): A port sends a HEARTBEAT at least every 10 us in ACTIVE. -/
  | heartbeatSend (p : Nat)
  /-- HEARTBEAT_TIMEOUT (R419): No authenticated heartbeat for 31 us declares the partner lost. -/
  | heartbeatTimeout (p : Nat)
  /-- LOSS_OF_SIGNAL (R419): Loss of signal for 2 us declares the partner lost. -/
  | lossOfSignal (p : Nat)
  /-- SLOW_TIMEOUT (R421): Data waiting over 100 us for credit sets SLOW. -/
  | slowTimeout (p : Nat)
  /-- TRAINING_COMPLETE (R434): Training and FEC lock complete and the receiver hunts. -/
  | trainingComplete (p : Nat)
  /-- TRAINING_TIMEOUT (R434): Training restarts after 500 ms without completion. -/
  | trainingTimeout (p : Nat)
  /-- AUTH_COMPLETE (R424): SPDM session and keys ready; the port becomes ACTIVE. -/
  | authComplete (p : Nat) (credits : List Nat)
  /-- SPDM_FAILURE (R424): A failed or timed-out SPDM exchange is counted and the port waits 10 ms. -/
  | spdmFailure (p : Nat)
  /-- AUTH_RETRY (R424): After 10 ms the port returns to HELLO. -/
  | authRetry (p : Nat)
  /-- KEY_UPDATE_DUE (R426): After 2^32 sectors or 24 hours the Porters run SPDM KEY_UPDATE. -/
  | keyUpdateDue (p : Nat) (done : Bool)
  /-- KEY_SWITCH_WINDOW_END (R426): 1 ms after KEY_SWITCH the previous key epoch stops being accepted. -/
  | keySwitchWindowEnd (p : Nat)
  /-- KEY_UPDATE_TIMEOUT (R426): A key update not done within 1 s sends the port back to HELLO. -/
  | keyUpdateTimeout (p : Nat)
  /-- QUARANTINE_WINDOW (R431): Each 1-second window resets the quarantine counts. -/
  | quarantineWindow (p : Nat)
  /-- REMOTE_REQUEST (R429): The receive engine checks an RRD, RWR or RATOM record and passes it to the home. -/
  | remoteRequest (p : Nat)
  /-- REMOTE_RESPONSE (R430): A remote response completes a request block or triggers a NACK retry. -/
  | remoteResponse (p : Nat)
  /-- RA_SUBMIT (R430): A write to MRQ_P_RA_SUBMIT submits a remote request block. -/
  | raSubmit (who : Requester) (p : Nat) (addr : W64)
  /-- PORT_ENABLE (R434): MRQ_P_CTRL.ENABLE = 1 starts training. -/
  | portEnable (p : Nat)
  /-- PORT_DISABLE (R433): ENABLE = 0 fails outstanding work and idles the port. -/
  | portDisable (p : Nat)
  /-- RETRAIN (R434): MRQ_P_CTRL.RETRAIN returns the port to TRAIN. -/
  | retrain (p : Nat)
  /-- RELEASE (R431): MRQ_P_CTRL.RELEASE takes a port out of QUARANTINED. -/
  | release (p : Nat)
  /-- WINDOW_COMMIT (R519): A write of MRQ_WIN_i's commit word checks and applies the whole entry. -/
  | windowCommit (who : Requester) (n : Nat) (commit : W64)
  -- Shared time
  /-- TIME_PROBE_SEND (R449): Every 100 us an ACTIVE port sends a time probe request. -/
  | timeProbeSend (p : Nat)
  /-- TIME_PROBE_REQUEST (R449): A probe request is timestamped and answered. -/
  | timeProbeRequest (p : Nat)
  /-- TIME_PROBE_RESPONSE (R450): A probe response yields delay and offset, and a follower steps or slews its
  counter. -/
  | timeProbeResponse (p : Nat)
  /-- SYNC_TIMEOUT (R452): No valid measurement for 40 ms makes the follower unsynchronised. -/
  | syncTimeout
  /-- TIM_SET (R448): The timekeeper's counter is set, unless the value is below TIM_NOW. -/
  | timSet (who : Requester) (value : W64)
  -- The Porter
  /-- PORTER_BOOT (R492): The boot ROM chooses and checks the Vipol slot and boots it or falls back. -/
  | porterBoot
  /-- WATCHDOG_EXPIRY (R498): An unrefreshed watchdog restarts the Porter. -/
  | watchdogExpiry (pc : W64)
  /-- DIE_SENSOR_SAMPLE (R481): Die temperature samples adjust each die's thermal voltage limit and may trip. -/
  | dieSensorSample (samples : List SensorSample)
  /-- POWER_CAP_TICK (R480): Every 1 ms the power cap setting is lowered or raised. -/
  | powerCapTick (average : Nat)
  /-- FAST_POWER_LIMIT (R482): Input over 1,600 W for 100 us takes both dies to 0.68 V in hardware. -/
  | fastPowerLimit (peak : Nat)
  /-- TRIAL_COMMIT (R493): After 600 s running, a trial is committed and the security counter advances. -/
  | trialCommit (component : Nat)
  /-- LOG_MIRROR_COMMIT (R485): The log mirror is committed to the Undercroft at least every second. -/
  | logMirrorCommit
  /-- PORTER_EVENT (R280): The Porter takes a unit event from its FIFO and logs it. -/
  | porterEvent
  /-- SENSOR_READ (R500): Mailbox command returning sensor readings. -/
  | sensorRead (from_ : MbxFrom)
  /-- LOG_READ (R500): Mailbox command returning log records. -/
  | logRead (from_ : MbxFrom)
  /-- POWER_SET (R500): Mailbox command setting VMODE and power cap. -/
  | powerSet (from_ : MbxFrom)
  /-- PIN_MARK_CLEAR (R486): Mailbox command clearing a hall pin mark. -/
  | pinMarkClear (from_ : MbxFrom)
  /-- TRUST_SET (R497): Mailbox command replacing the trust store. -/
  | trustSet (from_ : MbxFrom)
  /-- FW_COMMIT (R493): Mailbox command committing a pending trial. -/
  | fwCommit (from_ : MbxFrom)
  /-- WDT_SET (R498): Mailbox command setting the watchdog timeout. -/
  | wdtSet (from_ : MbxFrom)
  /-- PORTER_RESTART (R477): Mailbox command restarting the Porter. -/
  | porterRestart
  -- PLDM and SPDM
  /-- GET_PDR (R488): PLDM GetPDR request. -/
  | getPdr (m : Mgmt) (record : Nat)
  /-- GET_PDR_REPOSITORY_INFO (R488): PLDM GetPDRRepositoryInfo request. -/
  | getPdrRepositoryInfo (m : Mgmt)
  /-- GET_SENSOR_READING (R488): PLDM GetSensorReading request. -/
  | getSensorReading (m : Mgmt) (sensor : Nat)
  /-- GET_STATE_SENSOR_READINGS (R488): PLDM GetStateSensorReadings request. -/
  | getStateSensorReadings (m : Mgmt) (sensor : Nat)
  /-- SET_NUMERIC_SENSOR_ENABLE (R488): PLDM SetNumericSensorEnable request. -/
  | setNumericSensorEnable (m : Mgmt) (sensor : Nat) (enable events : Bool)
  /-- GET_SENSOR_THRESHOLDS (R488): PLDM GetSensorThresholds request. -/
  | getSensorThresholds (m : Mgmt) (sensor : Nat)
  /-- SET_SENSOR_THRESHOLDS (R488): PLDM SetSensorThresholds request, stored persistently. -/
  | setSensorThresholds (m : Mgmt) (sensor : Nat) (values : List Int)
  /-- SET_EVENT_RECEIVER (R488): PLDM SetEventReceiver request. -/
  | setEventReceiver (m : Mgmt) (receiver : Option Nat)
  /-- POLL_FOR_PLATFORM_EVENT_MESSAGE (R488): PLDM PollForPlatformEventMessage request. -/
  | pollForPlatformEventMessage (m : Mgmt)
  /-- EVENT_MESSAGE_SUPPORTED (R488): PLDM EventMessageSupported request. -/
  | eventMessageSupported (m : Mgmt)
  /-- SET_NUMERIC_EFFECTER_VALUE (R488): PLDM request setting the power cap effecter. -/
  | setNumericEffecterValue (m : Mgmt) (effecter value : Nat)
  /-- SET_STATE_EFFECTER_STATES (R488): PLDM request setting the VMODE effecter. -/
  | setStateEffecterStates (m : Mgmt) (effecter state : Nat)
  /-- QUERY_DEVICE_IDENTIFIERS (R494): PLDM firmware update QueryDeviceIdentifiers. -/
  | queryDeviceIdentifiers (m : Mgmt)
  /-- GET_FIRMWARE_PARAMETERS (R494): PLDM GetFirmwareParameters. -/
  | getFirmwareParameters (m : Mgmt)
  /-- REQUEST_UPDATE (R494): PLDM RequestUpdate entering update mode for one agent. -/
  | requestUpdate (m : Mgmt) (components : Nat)
  /-- PASS_COMPONENT_TABLE (R494): PLDM PassComponentTable. -/
  | passComponentTable (m : Mgmt) (component : Nat) (last : Bool)
  /-- UPDATE_COMPONENT (R495): PLDM UpdateComponent starting a transfer into the inactive slot. -/
  | updateComponent (m : Mgmt) (component size : Nat)
  /-- REQUEST_FIRMWARE_DATA (R495): An agent's reply to RequestFirmwareData is written to the slot; the last one
  triggers verification. -/
  | requestFirmwareData (data : List Byte)
  /-- ACTIVATE_FIRMWARE (R495): PLDM ActivateFirmware starting a Vipol trial or marking microcode pending. -/
  | activateFirmware (m : Mgmt)
  /-- GET_STATUS (R494): PLDM GetStatus. -/
  | getStatus (m : Mgmt)
  /-- CANCEL_UPDATE_COMPONENT (R495): PLDM CancelUpdateComponent leaving the slot invalid. -/
  | cancelUpdateComponent (m : Mgmt)
  /-- CANCEL_UPDATE (R495): PLDM CancelUpdate. -/
  | cancelUpdate (m : Mgmt)
  /-- GET_VERSION (R496): SPDM GET_VERSION request. -/
  | getVersion (via : SpdmVia)
  /-- GET_CAPABILITIES (R496): SPDM GET_CAPABILITIES request. -/
  | getCapabilities (via : SpdmVia)
  /-- NEGOTIATE_ALGORITHMS (R496): SPDM NEGOTIATE_ALGORITHMS request. -/
  | negotiateAlgorithms (via : SpdmVia) (agreed : Bool)
  /-- GET_DIGESTS (R496): SPDM GET_DIGESTS request. -/
  | getDigests (via : SpdmVia)
  /-- GET_CERTIFICATE (R496): SPDM GET_CERTIFICATE request. -/
  | getCertificate (via : SpdmVia) (slot offset length : Nat)
  /-- CHALLENGE (R496): SPDM CHALLENGE request. -/
  | challenge (via : SpdmVia) (slot : Nat)
  /-- GET_MEASUREMENTS (R496): SPDM GET_MEASUREMENTS request. -/
  | getMeasurements (via : SpdmVia) (index : Nat)
  /-- KEY_EXCHANGE (R496): SPDM KEY_EXCHANGE request. -/
  | keyExchange (via : SpdmVia) (slot requester : Nat)
  /-- FINISH (R496): SPDM FINISH request. -/
  | finish (via : SpdmVia) (session : Nat) (verified : Bool)
  /-- KEY_UPDATE (R496): SPDM KEY_UPDATE request. -/
  | keyUpdate (via : SpdmVia) (session : Nat)
  /-- HEARTBEAT (R496): SPDM HEARTBEAT request. -/
  | heartbeat (via : SpdmVia) (session : Nat)
  /-- END_SESSION (R496): SPDM END_SESSION request. -/
  | endSession (via : SpdmVia) (session : Nat)
  -- Power and bring-up
  /-- STANDBY_POWER_ON (R509): Standby power applied clears the Porter and starts its boot. -/
  | standbyPowerOn (address : Nat)
  /-- STANDBY_POWER_LOSS (R499): Loss of standby power clears the Porter and its session vault. -/
  | standbyPowerLoss
  /-- PWR_EN_ASSERT (R503): The main-power enable asserted lets the main rails rise when the other conditions hold. -/
  | pwrEnAssert
  /-- PWR_EN_DEASSERT (R503): The main-power enable deasserted takes the main rails down. -/
  | pwrEnDeassert
  /-- RAIL_REGULATED (R502): A rail reaching regulation starts the next one, or asserts power-good after the last. -/
  | railRegulated
  /-- RAIL_FAULT (R503): A rail failing to regulate takes every main rail down. -/
  | railFault
  /-- RAIL_RETRY (R503): One retry of the rails runs 1 s after a rail fault. -/
  | railRetry
  /-- MAIN_BRINGUP (R504): On power-good the dies leave reset, self-test and load microcode. -/
  | mainBringup (tests : DieTests)
  /-- STACK_TRAINING (R504): A stack completes or fails training at 10 Gb/s. -/
  | stackTraining (h : Nat) (trained : Bool)
  /-- BRINGUP_READY (R504): After stack training and unit self-tests, presence is fixed and READY is set. -/
  | bringupReady (failed : List TestedUnit)
  /-- PERST_ASSERT (R509): PERST# asserted causes a cold reset. -/
  | perstAssert
  /-- PERST_DEASSERT (R505): PERST# deasserted lets the PCIe link train. -/
  | perstDeassert
  /-- COLD_RESET (R509): A cold reset clears the main domain and reruns bring-up. -/
  | coldReset (cause : ResetCause)
  /-- COLD (R512): DEV_RESET_CTRL.COLD written by the PF starts a cold reset. -/
  | cold (who : Requester)
  /-- UNIT_RESET (R510): DEV_UNIT_RESET.GO aborts, clears and self-tests one unit. -/
  | unitReset (who : Requester) (cls inst : Nat) (pass : Bool)
  /-- POWER_FAIL (R535): Input below the power-fail threshold for 5 us, or overvoltage, resets the dies and shuts
  the rails after NAND programs finish. -/
  | powerFail
  /-- INPUT_RESTORED (R534): The 54 V input reaching 48.0 V lets the main rails rise again. -/
  | inputRestored
  /-- PWRBRK_ASSERT (R536): PWRBRK_N asserted takes both dies to 0.68 V within 50 us. -/
  | pwrbrkAssert
  /-- PWRBRK_RELEASE (R536): PWRBRK_N released lets the Porter raise the voltages. -/
  | pwrbrkRelease
  /-- THERMAL_TRIP (R541): THERMTRIP_N asserted latches, removes the main rails and causes a cold reset. -/
  | thermalTrip (comparator : Bool) (sensor : Nat)
  /-- TRIP_RELEASE (R541): After PWR_EN deasserted for 1 s and both trip diodes below 95 C, the trip latch releases. -/
  | tripRelease
  -- Further events
  /-- POWER_STATE_EXIT (R403): A move to a lower-numbered power state completes once its exit time has passed: halls
  leave park or self-refresh, the Lantern thaws and the POWER_STATE reply is posted. -/
  | powerStateExit
  /-- LINK_TRAINED (R505): The PCIe link finishes training, VST_LINK takes its rate and width, and the functions
  come up in their reset state. -/
  | linkTrained (rate width : Nat) (flit cxl : Bool)
  /-- TRANSLATION_INVALIDATE (R332): The host invalidates an ATS translation that an accepted descriptor still uses,
  so the descriptor stops and completes with 0x010B. -/
  | translationInvalidate (cls inst id lines : Nat)
  /-- VF_ENABLE (R353): A PF configuration write of SR-IOV VF Enable creates or removes the virtual functions, and
  so the tenants that exist. -/
  | vfEnable (n : Nat)
  /-- MCTP_CONTROL_MESSAGE (R487): An MCTP control message, such as the bus owner assigning the Porter's endpoint
  ID, is received and answered. -/
  | mctpControlMessage (via : Transport) (request : MctpControl)
  /-- CREDIT_WAIT_DELAY (R390): A store or metadata command waiting for journal credits passes the tenant's delay
  threshold, and one DELAYED record with 0x0201 is posted. -/
  | creditWaitDelay (id : Nat)
  /-- DEADLINE_AT_SHARD (R156): A query's deadline passes on a shard device, which releases the query's view epoch
  and closes its query windows. -/
  | deadlineAtShard (queryId tree : Nat)
  /-- PORTER_SRAM_UNCORRECTABLE (R477): An uncorrectable Porter SRAM word causes a Porter restart, which counts
  against a running trial. -/
  | porterSramUncorrectable
  deriving DecidableEq, Repr

end Sys2Proof
end

