-- ==== Sys2Proof/Config.lean ====
section
/-! DEFINITION. What one module fixes and what the manual leaves open. A constant without a body is a free value: nothing
in Lean can evaluate it, so no statement can rest on a value of it. -/

namespace Sys2Proof.Config

/-- A value that the manual leaves open, drawn afresh: the argument is the state's counter of draws (log entry 1). -/
opaque freeValue : Nat → W64

/-- The bytes of a value that the manual leaves open (a key, a nonce, a signature), drawn afresh by the counter and
indexed by position (log entry 1). -/
opaque freeByte : Nat → Nat → Byte

/-- DEV_SERIAL, the serial number fused into the module (R520). -/
opaque serial : W64

/-- Whether an ECDSA P-384 signature verifies: key, message and signature bytes (R490). The manual cites the standard
and gives no arithmetic (log entry 2). -/
opaque ecdsaVerify : List Byte → List Byte → List Byte → Bool

/-- The set of a Mezzanine slice's array in which a line lies: the manual gives 16,384 sets (R228) and no index (log entry
9). -/
opaque arraySet : Nat → W64

/-- The 512-byte header of the signed image with which a component's slot ships (R489, R542): component, slot, byte. -/
opaque shippedHeader : Nat → Nat → Nat → Byte

/-- Whether a signing key is fused and not revoked (R490). -/
opaque keyUsable : Nat → Bool

/-- The SHA-384 digest fused for a signing key: key, byte (R490). -/
opaque keyDigest : Nat → Nat → Byte

/-- Bytes of a log record that R483 and R484 name and do not encode: record type, payload fields, byte of the record (log entry
1). -/
opaque logByte : Nat → List Nat → Nat → Byte

/-- DEV_STEPPING, the stepping fused into the module: 0x00, 0x01 or 0x10 (R512, R542). -/
opaque stepping : Nat

end Sys2Proof.Config
end

