-- ==== Sys2Proof/Machine/Tbl.lean ====
section
/-! DEFINITION. A sparse table: a list of (key, value) pairs whose keys rise strictly. A memory is a table in one canonical form,
in which moreover no entry equals what an unlisted key reads as, so that equal memories are equal data. -/

namespace Sys2Proof.Machine

/-- A sparse table. The memories are held in the canonical form that `twf` states. -/
abbrev Tbl (α : Type) := List (Nat × α)

variable {α : Type}

/-- The value at a key; an unlisted key reads as `d` says. -/
def tget (d : Nat → α) : Tbl α → Nat → α
  | [], k => d k
  | (j, v) :: t, k => if k = j then v else tget d t k

/-- The table with no entry at a key, whatever the order of its keys. -/
def terase : Tbl α → Nat → Tbl α
  | [], _ => []
  | (j, v) :: t, k => if k = j then terase t k else (j, v) :: terase t k

/-- The table with exactly the entry `(k, v)` at the key, in key order. -/
def tput : Tbl α → Nat → α → Tbl α
  | [], k, v => [(k, v)]
  | (j, w) :: t, k, v =>
    if k = j then (k, v) :: t else if k < j then (k, v) :: (j, w) :: t else (j, w) :: tput t k v

/-- Write a value at a key and keep the canonical form: writing what the key reads as when unlisted removes it. -/
def tset [DecidableEq α] (d : Nat → α) (t : Tbl α) (k : Nat) (v : α) : Tbl α :=
  if v = d k then terase t k else tput t k v

/-- Change the value at a key by a function. -/
def tmod [DecidableEq α] (d : Nat → α) (t : Tbl α) (k : Nat) (f : α → α) : Tbl α :=
  tset d t k (f (tget d t k))

/-- Erase every entry whose key satisfies a test. -/
def tclear (p : Nat → Bool) (t : Tbl α) : Tbl α := t.filter fun e => !p e.1

/-- Every key of the table lies above `k`. -/
def tabove (k : Nat) : Tbl α → Bool
  | [] => true
  | (j, _) :: t => decide (k < j) && tabove k t

/-- Keys rise strictly. -/
def tsorted : Tbl α → Bool
  | [] => true
  | (j, _) :: t => tabove j t && tsorted t

/-- The canonical form: keys rise strictly and no entry equals what an unlisted key reads as. -/
def twf [DecidableEq α] (d : Nat → α) (t : Tbl α) : Bool :=
  tsorted t && t.all fun e => decide (e.2 ≠ d e.1)

end Sys2Proof.Machine
end

