-- ==== Sys2Proof/Machine/CloisterTypes.lean ====
section
/-! DEFINITION. The Cloister: namespaces and blocks (R180 to R199), and a Lantern core (R200 to R224). -/

namespace Sys2Proof.Machine

/-- A namespace: its descriptor (R180) and its channel-scale table (R183). -/
structure Ns where
  nsId : Nat
  owner : Nat
  wing : Nat
  halls : Nat
  layers : Nat
  kvHeads : Nat
  flags : Nat
  headDim : Nat
  quant : Nat
  wideCount : Nat
  wide : List Nat
  engines : Nat
  scaleVer : Nat
  hallQuota : Nat
  flashQuota : Nat
  grants : List Nat
  scales : List Nat
  hits : Nat
  demotions : Nat
  deletions : Nat
  sse : Nat
  ignored : Nat
  deriving DecidableEq, Repr

/-- The state of a present block (R193); a put is one step, so no block is ever seen WRITING. -/
inductive BlockSt where
  | hall
  | copying
  | flash
  | promoting
  deriving DecidableEq, Repr

/-- A present block. -/
structure Block where
  owner : Nat
  nsId : Nat
  key : Nat
  parent : Nat
  depth : Nat
  tokens : List Nat
  /-- Layer segments, byte for byte (R185). -/
  segs : List (List Byte)
  st : BlockSt
  /-- A flash copy exists, and it and the block record are committed (R194). -/
  flash : Bool
  committed : Bool
  pinHost : Bool
  pinLantern : Bool
  touch : Nat
  /-- When a Lantern DEMOTE marked it (R196). -/
  mark : Option Nat
  handle : Nat
  /-- The handles that its put took (R214). -/
  lo : Nat
  hi : Nat
  deriving DecidableEq, Repr

/-- The Cloister. -/
structure Cloister where
  nss : List Ns
  blocks : List Block
  /-- Marks made, for their order (R196). -/
  marks : Nat
  deriving DecidableEq, Repr

/-- An event on its way to or in a core's input buffer (R207, R212). -/
structure LEvent where
  src : Nat
  time : Nat
  deriving DecidableEq, Repr

/-- A table load that awaits the core's Landing (R218, R346): the descriptor, the kind, the first entry and the entries. -/
structure LLoad where
  desc : Nat
  kind : Nat
  first : Nat
  entries : List (List Byte)
  deriving DecidableEq, Repr

/-- A Lantern core beside its registers. -/
structure LCore where
  /-- Neuron states as numbers of 16 bytes (R202). -/
  neurons : Tbl (BitVec 128)
  sources : Tbl (BitVec 128)
  lists : Tbl W32
  kernels : Tbl (BitVec 512)
  actions : Tbl W32
  /-- Events on their way to the core, in the order sent: the sending core, or 16 for the Cloister, and the event. -/
  net : List (Nat × LEvent)
  buffer : List LEvent
  /-- The timestamp of the last event handled (R205). -/
  last : Nat
  /-- The active bank of group counters (R213). -/
  active : Tbl Nat
  /-- The window that is open. -/
  window : Nat
  /-- Neurons that have spiked in it (R216). -/
  spiked : List Nat
  /-- Actions on their way to the Cloister: code and neuron (R217). -/
  queue : List (Nat × Nat)
  loads : List LLoad
  deriving DecidableEq, Repr

/-- A core after a reset: every table zero (R223). -/
def resetCore : LCore := ⟨[], [], [], [], [], [], [], 0, [], 0, [], [], []⟩

end Sys2Proof.Machine
end

