-- ==== Sys2Proof/Machine/NewelTypes.lean ====
section
/-! DEFINITION. Newel messages and merged results as values (R104, R120 to R122). -/

namespace Sys2Proof.Machine

/-- One entry of a RESULT: distance, shard and hall it came from, slot, item ID (R122). -/
structure MergeEntry where
  dist : Nat
  shard : Nat
  hall : Nat
  slot : Nat
  item : Nat
  deriving DecidableEq, Repr

/-- The summary and entries of a merged result (R104, R122). -/
structure Merged where
  entries : List MergeEntry
  pace : Nat
  skipped : Nat
  examined : Nat
  selSum : Nat
  remSum : Nat
  hallsEcc : Nat
  hallsThermal : Nat
  hallsSpill : Nat
  shardsEcc : Nat
  shardsThermal : Nat
  shardsSpill : Nat
  deriving DecidableEq, Repr

/-- The fields of a message header (R120); SENT_AT is written when the sector leaves. -/
structure NewelHead where
  type : Nat
  level : Nat
  flags : Nat
  sealLo : Nat
  mapEpoch : Nat
  queryId : Nat
  deadline : Nat
  sender : Nat
  coll : Nat
  mapId : Nat
  tree : Nat
  depth : Nat
  lines : Nat
  status : Nat
  shards : Nat
  deriving DecidableEq, Repr

end Sys2Proof.Machine
end

