-- ==== Sys2Proof/Machine/StoreTypes.lean ====
section
/-! DEFINITION. Collections, bays, queries and treads: the state of the store, the Stair, the Turnstile and the journal
(R49 to R138, R384 to R404). -/

namespace Sys2Proof.Machine

/-- A record slot (R51, R53): stamp, code, item ID and rerank vector. -/
structure Slot where
  ins : Nat
  del : Nat
  code : Nat
  item : Nat
  vec : List Byte
  deriving DecidableEq, Repr

/-- A version of a permit map: for each hall of the collection the permission bits by slot index and the length in slots
(R57, R58). -/
structure PermitVer where
  coll : Nat
  mapId : Nat
  /-- The version is the one that new queries take. -/
  current : Bool
  halls : Tbl (Nat × Nat)
  deriving DecidableEq, Repr

/-- The stages of a rebase (R68). -/
inductive RebaseState where
  | idle
  | drain
  | rewrite
  deriving DecidableEq, Repr

/-- A pending change of GRID_ID or SCALE_VER (R446). -/
structure CollChange where
  mapEpoch : Nat
  grid : Option Nat
  scaleVer : Option Nat
  scales : List Nat
  deriving DecidableEq, Repr

/-- A collection (R49). -/
structure Coll where
  wing : Nat
  wCode : Nat
  halls : Nat
  denseDim : Nat
  directory : Bool
  owner : Nat
  engines : Nat
  grid : Nat
  scaleVer : Nat
  epoch : Nat
  epochHigh : Bool
  rebase : RebaseState
  rebaseE : Nat
  /-- REBASE commands that complete with the running rebase (R69). -/
  rebaseCmds : List Nat
  /-- COLL_DESTROY accepted: the command that waits (R549). -/
  closing : Option Nat
  /-- The MAP_ID that the collection is bound to (R115). -/
  mapId : Option Nat
  /-- The rerank scale table, FP16 bits by channel (R155). -/
  scales : List Nat
  /-- The change that COLL_CHANGE_PREPARE holds (R446). -/
  change : Option CollChange
  /-- The seal parameters (GRID_ID, SCALE_VER) and scales that the grace period still accepts (R442, R446). -/
  old : Option (Nat × Nat × List Nat)
  /-- Record slots by hall * 2^30 + slot index, as a locator's low 34 bits (R52). -/
  slots : Tbl Slot
  /-- The write point (R389): commands in arrival order; the front one writes. -/
  writers : List Nat
  /-- Slots the front command has chosen (R389), as keys of `slots`. -/
  chosen : List Nat
  /-- A directory line is being rebuilt: writers wait (R548). -/
  rebuilding : Bool
  /-- Slots whose records the directory does not hold, as keys of `slots` (R548). -/
  undirected : List Nat
  /-- The halls of the latest COMPACT; extents numbered below `compactUid` lose their emptied bays there (R551). -/
  compactHalls : Nat
  compactUid : Nat
  deriving DecidableEq, Repr

/-- A run of contiguous bays of one segment in a hall's extent table (R55). -/
structure Extent where
  /-- The model's own number of the extent. -/
  uid : Nat
  coll : Nat
  bays : Nat
  deriving DecidableEq, Repr

/-- An extent change that waits for a Landing (R56, R549). -/
inductive ExtChange where
  | add (cmd coll bays : Nat)
  | remove (cmd coll bays : Nat)
  | destroy (coll : Nat)
  deriving DecidableEq, Repr

/-- A candidate in the pool (R82). -/
structure Cand where
  dist : Nat
  slot : Nat
  deriving DecidableEq, Repr

/-- The states of a tread (R80). -/
inductive TreadState where
  | free
  | reserved
  | aboard
  deriving DecidableEq, Repr

/-- A tread (R74, R80 to R83). -/
structure Tread where
  state : TreadState
  /-- The query that holds or reserves it. -/
  ctx : Nat
  /-- The quarter of a wide flight's tread, none for a narrow one (R75). -/
  quarter : Option Nat
  /-- Boarding bay, or where its stop mark has moved (R87): extent and bay. -/
  stopUid : Nat
  stopBay : Nat
  /-- No bay has streamed since the grant. -/
  fresh : Bool
  thresh : Nat
  cands : List Cand
  /-- Candidates written to the spill ring and not yet finished (R85). -/
  spill : List Cand
  /-- A selection pass is queued (R83). -/
  passQueued : Bool
  examined : Nat
  skipped : Nat
  remSum : Nat
  boardTime : Nat
  deriving DecidableEq, Repr

/-- A flight entry at a Landing (R76). -/
structure FlightEntry where
  ctx : Nat
  /-- Order of admission. -/
  seq : Nat
  deriving DecidableEq, Repr

/-- What a query's treads left in one hall, before final selection (R81, R101). -/
structure Alighted where
  ctx : Nat
  cands : List Cand
  /-- How many of the candidates each tread brought, by tread number. -/
  treads : List (Nat × Nat)
  /-- RADIUS when it alighted: a later change does not reach it (R338). -/
  radius : Nat
  spill : List Cand
  spilled : Bool
  thermal : Bool
  skipped : Nat
  examined : Nat
  remSum : Nat
  boardTime : Nat
  alightTime : Nat
  pace : Nat
  deriving DecidableEq, Repr

/-- An entry of a hall result record (R93). -/
structure HallEntry where
  dist : Nat
  slot : Nat
  item : Nat
  tied : Bool
  deriving DecidableEq, Repr

/-- A hall result record (R93). -/
structure HallRec where
  hall : Nat
  /-- RADIUS in this hall. -/
  radius : Nat
  ecc : Bool
  thermal : Bool
  spilled : Bool
  pace : Nat
  entries : List HallEntry
  skipped : Nat
  examined : Nat
  selSum : Nat
  remSum : Nat
  boardTime : Nat
  alightTime : Nat
  deriving DecidableEq, Repr

/-- Where a query on this device came from. -/
inductive QuerySource where
  /-- A host search or a Newel QUERY: the device's own query record. -/
  | newel (queryId tree : Nat)
  /-- A BOARD descriptor. -/
  | board (desc : Nat)
  deriving DecidableEq, Repr

/-- A query on this device: what its flight needs (R74 to R81, R335). -/
structure Query where
  ctx : Nat
  source : QuerySource
  coll : Nat
  /-- The tenant whose account it uses; 128 for the wing's peer account (R464). -/
  account : Nat
  tag : Nat
  k : Nat
  prio : Nat
  radius : Nat
  code : Nat
  permit : Option Nat
  /-- The permit-map version, fixed at the first grant (R78). -/
  permitVer : Option Nat
  /-- The view epoch, fixed at the first grant (R60). -/
  view : Option Nat
  deadline : Nat
  /-- The shared time that its estimate must not pass (R468); none without a deadline. -/
  limit : Option Nat
  /-- The halls of its flight that are still to grant (R76). -/
  waiting : Nat
  /-- The halls of its flight. -/
  halls : Nat
  admitted : Nat
  resultAddr : Nat
  recs : List HallRec
  delayed : Bool
  /-- The view epoch has been released (R60). -/
  released : Bool
  deriving DecidableEq, Repr

/-- What the root or a member knows of one shard of a query (R126 to R135). -/
inductive ShardState where
  | unsettled
  | covered
  | refused (status : Nat)
  | lost
  | late (eta : Nat)
  deriving DecidableEq, Repr

/-- A Newel query at this device, as its root or as a member (R117 to R137). A search on a collection without a shard map is
a root query with one shard (R116). -/
structure NewelQuery where
  queryId : Nat
  tree : Nat
  isRoot : Bool
  /-- The host command, at the root. -/
  cmd : Nat
  tenant : Nat
  coll : Nat
  mapEpoch : Nat
  level : Nat
  depth : Nat
  /-- The port towards the parent; 255 for the root's own part of a fallback tree (R134). -/
  parentPort : Nat
  deadline : Nat
  hopUs : Nat
  tag : Nat
  k : Nat
  rerankK : Nat
  radius : Nat
  permit : Nat
  code : Nat
  shardCount : Nat
  /-- The shard that this device serves in the tree, if any. -/
  ownShard : Option Nat
  /-- The context of this device's own flight. -/
  ctx : Option Nat
  /-- The shards of the subtree (all of them at the root), as a bitmap. -/
  subtree : Nat
  shards : Tbl ShardState
  merged : Merged
  /-- Shards rerouted, as a bitmap (R134). -/
  rerouted : Nat
  /-- The RESULT has been sent. -/
  sent : Bool
  lateSeen : Bool
  noticesSent : Nat
  lastEta : Nat
  /-- The root's entries after rerank with their scores (R157), once done. -/
  reranked : Option (List (Nat × MergeEntry))
  /-- The root has decided what the result holds; the block is still to be written (R128). -/
  decided : Bool
  resultAddr : Nat
  scoreAddr : Nat
  /-- The dense query vector and the rerank scales that the search was accepted under (R157, R446). -/
  dense : List Nat
  scales : List Nat
  deriving DecidableEq, Repr

/-- A compaction that runs under a COMPACT command (R551). -/
structure Compaction where
  cmd : Nat
  coll : Nat
  /-- The halls still to do. -/
  halls : Nat
  reportAddr : Nat
  reportLeft : Nat
  written : Nat
  /-- The hall of the pass that is planned, and its moves as pairs of slot indexes, from and to (R65). -/
  hall : Nat
  plan : List (Nat × Nat)
  /-- The moves are planned and wait for credits or for the hall's Landing. -/
  planned : Bool
  /-- No further pass starts (R551: FLR). -/
  stopping : Bool
  deriving DecidableEq, Repr

/-- What recovery restores for one wing: the committed image (R395). -/
structure Image where
  colls : Tbl (Option Coll)
  extents : Tbl (List Extent)
  nss : List Ns
  blocks : List Block
  permits : Tbl (Option PermitVer)
  deriving DecidableEq, Repr

/-- A FLUSH that waits: its command, the commit it waits for, and the blocks of DURABLE namespaces that must be durable, by
owner, namespace and key (R392). -/
structure Flush where
  cmd : Nat
  seq : Nat
  blocks : List (Nat × Nat × Nat)
  deriving DecidableEq, Repr

/-- The journal of a wing (R389 to R397). -/
structure Journal where
  /-- Credits staged and covered by no commit yet. -/
  uncovered : Nat
  /-- Data units of the running commit. -/
  covered : Nat
  running : Bool
  /-- Sequence number of the running or last commit. -/
  seq : Nat
  lastStart : Nat
  /-- Advances and metadata completions since the last cut. -/
  dirty : Bool
  /-- FLUSH commands that wait. -/
  flushes : List Flush
  /-- Commands waiting for credits, in arrival order: command, credits needed, since when (R390). -/
  waiters : List (Nat × Nat × Nat)
  /-- Credits that commands have taken and not yet staged with, by command (R389, R390). -/
  granted : List (Nat × Nat)
  /-- The image at the running commit's cut, and at the last completed commit. -/
  cutImage : Image
  durableImage : Image
  /-- A commit is wanted as soon as the running one ends. -/
  again : Bool
  /-- Commits that recovery still needs, with the bytes they hold (R397, R404). -/
  log : List (Nat × Nat)
  /-- Bytes of the checkpoint that counts in recovery, and the last commit that it replaces (R397). -/
  ckpt : Nat
  /-- Checkpoints that do not count yet: bytes, and the last commit cut before their end (R397). -/
  newCkpts : List (Nat × Nat)
  /-- The wing awaits its recovery (R395). -/
  recovering : Bool
  deriving DecidableEq, Repr

/-- An empty image. -/
def noImage : Image := ⟨[], [], [], [], []⟩

/-- The journal of a wing at reset. -/
def resetJournal : Journal := ⟨0, 0, false, 0, 0, false, [], [], [], noImage, noImage, false, [], 0, [], false⟩

/-- The power state and a move under way (R401 to R403). -/
structure PowerState where
  current : Nat
  /-- The POWER_STATE command under way, its target, its limit and the time of its acceptance. -/
  moving : Option (Nat × Nat × Nat × Nat)
  during : Nat
  /-- The device is parked for an entry and fetching pauses. -/
  paused : Bool
  deriving DecidableEq, Repr

/-- Collections, queries and the journal. -/
structure Store where
  colls : Tbl (Option Coll)
  permits : Tbl (Option PermitVer)
  nextVer : Nat
  nextUid : Nat
  queries : List Query
  /-- Queries that ended without a result, with their status, whose requesters are still to be told (R336, R466). -/
  ended : List (Query × Nat)
  nextCtx : Nat
  nextSeq : Nat
  newel : List NewelQuery
  rootSeq : Nat
  /-- QUERY_IDs of searches that a reset abandoned (R381). -/
  abandoned : List Nat
  compactions : List Compaction
  journals : Tbl Journal
  power : PowerState
  deriving DecidableEq, Repr

end Sys2Proof.Machine
end

