-- ==== Sys2Proof/Machine/HallTypes.lean ====
section
/-! DEFINITION. One hall: its memory and controller (R260 to R282), its Stair and its Turnstile (R70 to R96). -/

namespace Sys2Proof.Machine

/-- Who waits for a write to complete (R274, R294). -/
inductive Writer where
  | command (id : Nat)
  | desc (id : Nat)
  | usher (u : Nat)
  | peer (port reqId : Nat)
  | host
  deriving DecidableEq, Repr

/-- An entry of the write-combining buffer (R274). -/
structure WcbEntry where
  line : Nat
  /-- Bit i set: byte i is written. -/
  mask : Nat
  data : List Byte
  writers : List Writer
  opened : Nat
  /-- HAL_WCB_CFG.TIMEOUT_NS when it opened (R282). -/
  timeout : Nat
  /-- Closed: its WR_MERGE has been sent and its WCMP is awaited. -/
  closed : Bool
  deriving DecidableEq, Repr

/-- A partial write that waits for a free entry (R274). -/
structure WcbWaiter where
  line : Nat
  mask : Nat
  data : List Byte
  writer : Writer
  deriving DecidableEq, Repr

/-- The hall's memory and its controller, beside its registers. -/
structure HallCtl where
  /-- Bytes by hall offset (R262). -/
  mem : Tbl Byte
  /-- The bad-line table, at most 1,024 lines (R270). -/
  badLines : List LineAt
  /-- Pin tallies by pseudo-channel * 64 + pin (R266). -/
  tally : Tbl Nat
  /-- The repair queue, at most 64 lines (R269). -/
  repairs : List LineAt
  wcb : List WcbEntry
  wcbWaiting : List WcbWaiter
  /-- The scrub period in effect for the running pass, in hours (R268). -/
  passPeriod : Nat
  /-- The refresh interval of the running round in picoseconds (R276). -/
  round : Nat
  deriving DecidableEq, Repr

/-- The hall's Stair and Turnstile, beside their registers. -/
structure Stair where
  /-- Running in the sense of R46. -/
  running : Bool
  /-- The extent table (R55). -/
  extents : List Extent
  /-- Extent changes that wait for a Landing (R56). -/
  changes : List ExtChange
  /-- The head: index in the extent table and bay in the extent (STR_HEAD). -/
  headExt : Nat
  headBay : Nat
  /-- Since when a pause or a full spill ring has held the head (R86, R90). -/
  stallSince : Option Nat
  /-- Parking for P1 or parked (R91). -/
  parking : Bool
  /-- The head holds because the spill ring is full (R86). -/
  ringHeld : Bool
  treads : Tbl Tread
  landing : List FlightEntry
  /-- Virtual time of each account (R465). -/
  vtime : Tbl Nat
  alighted : List Alighted
  /-- Spill entries written and freed since the ring was last placed (R85, R86). -/
  spillProd : Nat
  spillCons : Nat
  /-- Shared time at which the current revolution began. -/
  revStart : Nat
  /-- The sweep was compare-limited in this revolution (R35). -/
  limited : Bool
  deriving DecidableEq, Repr

/-- One hall. -/
structure Hall where
  ctl : HallCtl
  stair : Stair
  deriving DecidableEq, Repr

/-- A tread that nothing has taken (R80). -/
def freeTread : Tread := ⟨.free, 0, none, 0, 0, false, 0, [], [], false, 0, 0, 0, 0⟩

/-- A hall after a cold reset: no memory written, no extents, every tread FREE, scrub period 24 h (R282). -/
def resetHall : Hall :=
  { ctl := ⟨[], [], [], [], [], [], 24, 3900000⟩
    stair := ⟨false, [], [], 0, 0, none, false, false, [], [], [], [], 0, 0, 0, false⟩ }

end Sys2Proof.Machine
end

