-- ==== Sys2Proof/Machine/MapTypes.lean ====
section
/-! DEFINITION. Shard maps (R440, R441). -/

namespace Sys2Proof.Machine

/-- A member entry of a tree (R440). -/
structure Member where
  device : Nat
  /-- 0xFFFF for the root. -/
  parent : Nat
  port : Nat
  depth : Nat
  /-- 0xFFFF for none. -/
  shard : Nat
  deriving DecidableEq, Repr

/-- A tree of a map (R116, R440). -/
structure Tree where
  root : Nat
  /-- 0xFF for none. -/
  fallback : Nat
  members : List Member
  deriving DecidableEq, Repr

/-- A shard-map image (R440). -/
structure MapImage where
  epoch : Nat
  level : Nat
  /-- The devices that hold copies of each shard. -/
  shards : List (List Nat)
  trees : List Tree
  /-- The first 16 bytes of the image's SHA-384 digest (R444). -/
  digest : Nat
  deriving DecidableEq, Repr

/-- The states of a map as SEL_MAP shows them (R441, R456). -/
inductive MapState where
  | none
  | active
  | prepared
  | committed
  | grace
  deriving DecidableEq, Repr

/-- A map on this device (R441). -/
structure MapEnt where
  state : MapState
  cur : Option MapImage
  /-- The image that is prepared or committed. -/
  next : Option MapImage
  /-- The image that the grace period still accepts. -/
  old : Option MapImage
  t : Nat
  g : Nat
  /-- The MAP_COMMIT command that completes at T (R444). -/
  cmd : Option Nat
  outAddr : Nat
  deriving DecidableEq, Repr

/-- A map number without a map. -/
def noMap : MapEnt := ⟨.none, none, none, none, 0, 0, none, 0⟩

end Sys2Proof.Machine
end

