-- ==== Sys2Proof/Machine/MariqTypes.lean ====
section
/-! DEFINITION. The state of a Mariq port beside its registers (R405 to R436). -/

namespace Sys2Proof.Machine

/-- A DATA sector that awaits its acknowledgement (R414, R416). -/
structure TxSector where
  seq : Nat
  vc : Nat
  bytes : List Byte
  sends : Nat
  lastSent : Nat
  deriving DecidableEq, Repr

/-- A remote request that this device has submitted (R430). -/
structure RaReq where
  /-- RTAG of its record. -/
  tag : Nat
  /-- Device address of the 256-byte request block. -/
  block : Nat
  op : Nat
  record : List Byte
  data : List Byte
  /-- When a NACK's backoff ends, while one runs (R248). -/
  due : Option Nat
  deriving DecidableEq, Repr

/-- A request of the partner that its home serves (R247, R429). -/
structure Served where
  rtag : Nat
  op : Nat
  /-- The slice of its home, and the credit that it holds there, by slice * 1024 + credit; none in a query window. -/
  slice : Nat
  credit : Option Nat
  /-- A query window's vector area: collection and hall (R428). -/
  vec : Option (Nat × Nat)
  /-- Device address, or the offset in the vector area. -/
  addr : Nat
  size : Nat
  aop : Nat
  data : List Byte
  deriving DecidableEq, Repr

/-- A sector that a port put on its lanes (R408): its header and the plaintext of its payload bytes in use. Tag and trailer
follow from them (log entry 2). -/
structure OutSector where
  header : List Byte
  payload : List Byte
  deriving DecidableEq, Repr

/-- One port. -/
structure Port where
  session : Nat
  partnerSession : Nat
  txCount : Nat
  txNext : Nat
  unacked : List TxSector
  /-- SEQs that a NAK or the timeout has named for retransmission (R416). -/
  retx : List Nat
  rxNext : Nat
  /-- Sectors held behind a gap: SEQ, virtual channel, payload (R414). -/
  reorder : List (Nat × Nat × List Byte)
  /-- Delivered payloads that wait for their consumer, by virtual channel. -/
  rxBuf : Tbl (List (List Byte))
  /-- Payloads that wait to be sent, by virtual channel. -/
  txQueue : Tbl (List (List Byte))
  /-- Credits that the partner advertises, spent on it and returned by it, by virtual channel (R412). -/
  advertised : Tbl Nat
  spent : Tbl Nat
  returned : Tbl Nat
  /-- Credits that this receiver has returned since session start, and told of, by virtual channel (R412, R418). -/
  freed : Tbl Nat
  told : Tbl Nat
  /-- Since when data of a virtual channel has waited for a credit (R412, R421). -/
  waitSince : Tbl (Option Nat)
  /-- The virtual channel served last (R413). -/
  turn : Nat
  /-- Control records that are due (R418). -/
  control : List (List Byte)
  /-- The last sector that left (R413). -/
  out : Option OutSector
  /-- Missing SEQs that a NAK has named, and when the last NAK was made (R416). -/
  nakSent : List Nat
  nakAt : Nat
  /-- The epoch of the partner's key; the next one is ready; the previous one is still accepted, until when (R426). -/
  rxEpoch : Nat
  newKey : Bool
  oldKey : Bool
  oldUntil : Nat
  /-- A key update is under way, since when (R426). -/
  keyUpdate : Bool
  updateSince : Nat
  /-- When the keys were made, and the sectors sent and received in this session until then (R426). -/
  keySince : Nat
  keyTx : Nat
  keyRx : Nat
  rxCount : Nat
  /-- Counts of the running quarantine window (R431). -/
  malformed : Nat
  violations : Nat
  authFails : Nat
  /-- When the running quarantine window began. -/
  window : Nat
  /-- When training started, and since when a failed authentication waits to return to HELLO (R424, R434). -/
  trainSince : Nat
  authWait : Option Nat
  /-- When the next HELLO, the next HEARTBEAT and the next time probe are due (R419, R422, R449). -/
  helloDue : Nat
  beatDue : Nat
  probeDue : Nat
  /-- When the last authenticated HEARTBEAT arrived (R419). -/
  lastBeat : Nat
  requests : List RaReq
  served : List Served
  /-- The microsecond in which remote records were last handled, and how many were (R429). -/
  raTime : Nat
  raCount : Nat
  /-- The probe that awaits its response: PROBE_ID and T1 (R449). -/
  probe : Option (Nat × Nat)
  nextProbe : Nat
  /-- The fields of the partner's last HELLO (R422, R434). -/
  hello : List Nat
  deriving DecidableEq, Repr

/-- A port that has no session. -/
def idlePort : Port :=
  { session := 0, partnerSession := 0, txCount := 0, txNext := 0, unacked := [], retx := [], rxNext := 0, reorder := [],
    rxBuf := [], txQueue := [], advertised := [], spent := [], returned := [], freed := [], told := [], waitSince := [], turn := 0,
    control := [], out := none, nakSent := [], nakAt := 0, rxEpoch := 0, newKey := false, oldKey := false, oldUntil := 0,
    keyUpdate := false, updateSince := 0, keySince := 0, keyTx := 0, keyRx := 0, rxCount := 0, malformed := 0, violations := 0,
    authFails := 0, window := 0, trainSince := 0, authWait := none, helloDue := 0, beatDue := 0, probeDue := 0, lastBeat := 0,
    requests := [], served := [], raTime := 0, raCount := 0, probe := none, nextProbe := 0, hello := [] }

/-- The discipline of shared time beside its registers (R448 to R454). -/
structure Tim where
  /-- The device follows ALT_PORT (R454). -/
  alt : Bool
  /-- Consecutive valid measurements with |o| at most 500 ns while unsynchronised (R452). -/
  good : Nat
  /-- When the last valid measurement from a synchronised responder arrived. -/
  lastValid : Nat
  /-- The offset still to absorb, and the nanoseconds counted for its rate (R450). -/
  slew : Int
  tick : Nat
  /-- Since when the device has been unsynchronised. -/
  since : Nat
  deriving DecidableEq, Repr

/-- Nothing measured yet. -/
def noTim : Tim := ⟨false, 0, 0, 0, 0, 0⟩

end Sys2Proof.Machine
end

