-- ==== Sys2Proof/Machine/MezzTypes.lean ====
section
/-! DEFINITION. The Mezzanine: lines in the caching agents, the homes' records, transactions and messages, the array, the
credits of peers, and bias (R225 to R259). -/

namespace Sys2Proof.Machine

/-- The state of a line in a caching agent (R230); a line in I is not listed. -/
inductive LineSt where
  | m
  | o
  | e
  | s
  deriving DecidableEq, Repr

/-- What a home records of an agent's holding (R230); I is not listed. X stands for E or M. -/
inductive Hold where
  | s
  | o
  | x
  deriving DecidableEq, Repr

/-- A line in an agent's cache. -/
structure CLine where
  st : LineSt
  data : List Byte
  /-- The data is marked poisoned (R256). -/
  poison : Bool
  /-- When the agent last used it: the order of replacement. -/
  used : Nat
  deriving DecidableEq, Repr

/-- A line in an agent's writeback buffer until CMP arrives (R239). -/
structure WbLine where
  /-- M or O; none once a snoop has taken it. -/
  st : Option LineSt
  data : List Byte
  poison : Bool
  deriving DecidableEq, Repr

/-- The kinds of request that a home serves (R231, R251). -/
inductive ReqKind where
  | rdS
  | rdU
  | upgr
  | wb
  | evc
  | rdNc
  | wrFull
  | wrMerge
  | atomH
  | snpData
  | snpInv
  | snpCur
  deriving DecidableEq, Repr

/-- Who made a request. -/
inductive Asker where
  /-- A caching agent: Usher 0 to 255, or the Porter, 256. -/
  | agent (a : Nat)
  /-- A cacheless unit of the device. -/
  | unit
  /-- The closed write-combining entry of a hall's line. -/
  | buffer (h : Nat)
  | peer (port rtag : Nat)
  | host
  deriving DecidableEq, Repr

/-- An atomic operation: its code, its size in bytes, its operand and its compare value (R247, R315). -/
structure AtomOp where
  op : Nat
  size : Nat
  arg : Nat
  cmp : Nat
  deriving DecidableEq, Repr

/-- A request at its home. -/
structure HomeReq where
  kind : ReqKind
  asker : Asker
  line : Nat
  /-- Bit i set: byte i is written (WR_MERGE). -/
  mask : Nat
  data : List Byte
  atom : AtomOp
  /-- The byte of the line at which an atomic acts. -/
  off : Nat
  /-- The wing that allocates, if any does (R228). -/
  wing : Option Nat
  /-- The reads of the memory copy that this request meets. -/
  err : MemErr
  /-- When it arrived (MZN_BUSY_WAIT_NS). -/
  since : Nat
  deriving DecidableEq, Repr

/-- The requests from a home to the host (R250, R252, R253). -/
inductive D2h where
  | rdCurr
  | rdShared
  | rdOwn
  | rdOwnNoData
  | dirtyEvict
  deriving DecidableEq, Repr

/-- A transaction that a home has accepted. -/
structure Txn where
  req : HomeReq
  /-- The holders whose answer to a snoop is awaited. -/
  awaiting : List Nat
  /-- The line buffer (R237), whether its data is dirty, and whether it is poisoned. -/
  buffer : Option (List Byte)
  dirty : Bool
  poison : Bool
  /-- The request to the host that is outstanding. -/
  host : Option D2h
  /-- GDAT or CMP has been sent and the ACK is awaited. -/
  granted : Bool
  deriving DecidableEq, Repr

/-- The device's host-side state of a line (R250). -/
inductive HostSt where
  | i
  | s
  | e
  deriving DecidableEq, Repr

/-- What a home records of one line. -/
structure LineRec where
  holders : List (Nat × Hold)
  txn : Option Txn
  waiting : List HomeReq
  hostWaiting : List HomeReq
  /-- Credits of the reserved requests, in the order of their 8th NACKs (R249). -/
  reserved : List Nat
  /-- Reserved requests whose retry has arrived and is held (R249). -/
  held : List (Nat × HomeReq)
  /-- Since when a reserved line has been free. -/
  freeSince : Nat
  host : HostSt
  deriving DecidableEq, Repr

/-- The record of a line that nothing holds. -/
def noRec : LineRec := ⟨[], none, [], [], [], [], 0, .i⟩

/-- A line of a slice's array (R228). -/
structure ArrLine where
  way : Nat
  data : List Byte
  dirty : Bool
  poison : Bool
  used : Nat
  deriving DecidableEq, Repr

/-- The snoops of a home (R231). -/
inductive SnpKind where
  | pull
  | peek
  | inv
  | invd
  deriving DecidableEq, Repr

/-- Messages on the Corridor that a step of their own receives (R231). -/
inductive Msg where
  | snp (agent line : Nat) (kind : SnpKind)
  | srsp (agent line : Nat)
  | sdat (agent line : Nat) (data : List Byte) (dirty poison : Bool)
  | gdat (dest : Asker) (line : Nat) (st : Option LineSt) (data : List Byte) (status : Nat)
  | cmp (dest : Asker) (line : Nat) (kind : ReqKind)
  | wcmp (dest : Asker) (line : Nat) (status : Nat)
  | ack (agent line : Nat)
  | req (q : HomeReq)
  deriving DecidableEq, Repr

/-- A commons request credit of a slice (R247, R248). -/
structure Credit where
  port : Nat
  rtag : Nat
  line : Nat
  nacks : Nat
  deriving DecidableEq, Repr

/-- The Mezzanine. -/
structure Mezz where
  /-- Lines held by agents, by agent * 2^58 + line number. -/
  caches : Tbl (Option CLine)
  wbuf : Tbl (Option WbLine)
  /-- Home records by line number: the address divided by 64. -/
  recs : Tbl LineRec
  /-- Array lines by line number. -/
  array : Tbl (Option ArrLine)
  msgs : List Msg
  /-- Credits by slice * 1024 + credit. -/
  credits : Tbl (Option Credit)
  /-- Pages of device memory under host bias (R252), ascending. -/
  bias : List Nat
  /-- Steps counted for the order of use. -/
  tick : Nat
  /-- What the last GDAT or WCMP to a requester without a cache brought: the model's own fields. -/
  answer : List Byte
  answerStatus : Nat
  /-- Failed stores that have retired: Usher, address, status (R295). -/
  deferred : List (Nat × Nat × Nat)
  deriving DecidableEq, Repr

/-- The Mezzanine after a cold reset. -/
def resetMezz : Mezz := ⟨[], [], [], [], [], [], [], 0, [], 0, []⟩

end Sys2Proof.Machine
end

