-- ==== Sys2Proof/Machine/PorterTypes.lean ====
section
/-! DEFINITION. The Porter, its NOR, fuses and sessions (R475 to R501), and the module's rails and control pins (R502 to R513,
R531 to R541). -/

namespace Sys2Proof.Machine

/-- PRT_STATUS.STATE (R501); `off` while there is no standby power. -/
inductive PState where
  | off
  | rom
  | running
  | recovery
  | restarting
  deriving DecidableEq, Repr

/-- Why the Porter starts: the cause that its BOOT record carries (R477, R484). -/
inductive RestartCause where
  | powerOn
  | watchdog
  | activation
  | sram
  | command
  deriving DecidableEq, Repr

/-- What an image slot of the NOR holds (R476, R489): the signed image with which the module ships (R542), an image written
by an update, or nothing valid. -/
inductive SlotData where
  | shipped
  | image (bytes : List Byte)
  | invalid
  deriving DecidableEq, Repr

/-- A component's slots, trial and fuses (R491 to R495). Slot 0 is A and slot 1 is B. -/
structure Firmware where
  slotA : SlotData
  slotB : SlotData
  /-- ACTIVE, TRIAL and TRIES of the configuration area (R492). -/
  active : Nat
  trial : Bool
  tries : Nat
  /-- The inactive slot is marked STAGED (R495). -/
  staged : Bool
  /-- The slot from which the component runs, and whether it runs on trial. -/
  running : Nat
  onTrial : Bool
  /-- The fuse field of the security version counter (R491). -/
  fuses : W64
  deriving DecidableEq, Repr

/-- A record of the persistent log (R483), its payload as the fields of R484. -/
structure LogRec where
  seq : Nat
  time : Nat
  boot : Nat
  type : Nat
  localTime : Bool
  cls : Nat
  inst : Nat
  fields : List Nat
  deriving DecidableEq, Repr

/-- The trust store after a TRUST_SET (R497). -/
structure TrustStore where
  roots : List (List Byte)
  minVipol : Nat
  minMicro : Nat
  deriving DecidableEq, Repr

/-- Voltage, power and thermal policy (R479 to R482, R536); voltages in mV, power in 0.1 W. -/
structure Policy where
  vmode : Nat
  capW : Nat
  /-- The cap setting of both dies. -/
  capMv : Nat
  /-- Consecutive milliseconds below the cap less 50 W. -/
  below : Nat
  /-- A POWER_LIMIT episode is under way. -/
  episode : Bool
  /-- The thermal limits and the voltages of the East and the West die. -/
  limitE : Nat
  limitW : Nat
  voltE : Nat
  voltW : Nat
  /-- Samples of 100 µs taken of the present millisecond, and samples in a row at or above 110 °C. -/
  tick : Nat
  trip : Nat
  /-- The hottest sensor of the East and of the West die stood at or above 105 °C at the last sample. -/
  hotE : Bool
  hotW : Bool
  deriving DecidableEq, Repr

/-- A PLDM sensor's settings: enabled, events enabled, and the highest threshold that its last reading met (R488). -/
structure PldmSensor where
  enabled : Bool
  events : Bool
  level : Nat
  deriving DecidableEq, Repr

/-- A PLDM platform event: sensor, previous and present level, and the reading in milli-units. -/
structure PldmEvent where
  sensor : Nat
  before : Nat
  after : Nat
  milli : Int
  deriving DecidableEq, Repr

/-- The stages of a firmware update (R494, R495). -/
inductive UpdateStage where
  | learn
  | ready
  | download
  | applied
  deriving DecidableEq, Repr

/-- A firmware update under way. -/
structure Update where
  agent : Mgmt
  stage : UpdateStage
  /-- Component 1 or 2, the image's size, the bytes received, and the result of VerifyComplete. -/
  component : Nat
  size : Nat
  data : List Byte
  verify : Nat
  deriving DecidableEq, Repr

/-- An SPDM session (R496). -/
structure SpdmSession where
  id : Nat
  via : SpdmVia
  established : Bool
  /-- Key updates made in it. -/
  keys : Nat
  deriving DecidableEq, Repr

/-- An answer of the Porter to a management request: message type, code, completion code, numbers and bytes. The model's own
form of a response, whose encoding is the standard's. -/
structure Reply where
  mtype : Nat
  code : Nat
  result : Nat
  nums : List Nat
  bytes : List Byte
  deriving DecidableEq, Repr

/-- The Porter beside its registers. -/
structure Porter where
  state : PState
  cause : RestartCause
  vipol : Firmware
  micro : Firmware
  /-- The NOR ring and the committed mirror, oldest record first (R483, R485). -/
  log : List LogRec
  mirror : List LogRec
  /-- The pin-mark table, by hall * 64 + pseudo-channel: pin + 1 (R267, R486). -/
  pinMarks : Tbl Nat
  trust : Option TrustStore
  policy : Policy
  wdtMs : Nat
  /-- The Porter time at which the Porter entered RUNNING, and at which bring-up ended (R493). -/
  runSince : Nat
  upSince : Nat
  /-- What turns shared time into Porter time since the last standby power-on (R483). -/
  localBase : Int
  /-- The last sample of each sensor: value in milli-units and time (R478, R500). -/
  samples : Tbl (Option (Int × Nat))
  /-- The mailbox buffer PRT_MBX_DATA (R501). -/
  mbx : Tbl Byte
  /-- MCTP endpoint ID and SMBus address (R487, R532). -/
  eid : Nat
  address : Nat
  sensors : Tbl PldmSensor
  /-- Upper warning, critical and fatal thresholds that SetSensorThresholds stored, by sensor. -/
  thresholds : Tbl (List Int)
  receiver : Option Nat
  /-- Events queued for polling, and events sent to the receiver. -/
  pldmQueue : List PldmEvent
  pldmSent : List (Nat × PldmEvent)
  update : Option Update
  /-- SPDM connection state by place of origin: messages of the handshake that have been answered. -/
  spdm : Tbl Nat
  sessions : List SpdmSession
  nextSession : Nat
  /-- The answer to the last management request. -/
  reply : Option Reply
  /-- A THERMAL_TRIP record that waits for the next boot: sensor and temperature (R541). -/
  tripNote : Option (Nat × Int)
  /-- A WATCHDOG record that waits for the restart to end: timeout and program counter (R498). -/
  wdtNote : Option (Nat × Nat)
  deriving DecidableEq, Repr

/-- The module's supplies, pins and bring-up (R502 to R513, R531 to R541). -/
structure Module where
  standby : Bool
  /-- PWR_EN asserted. -/
  pwrEn : Bool
  /-- The 54 V input has reached 48.0 V and has not failed since (R534). -/
  inputOk : Bool
  /-- PERST_N asserted. -/
  perst : Bool
  /-- Main rails in regulation, in the order of R502; 7 with the last (6 on the D1600-N). -/
  rails : Nat
  /-- The next rail has started. -/
  rising : Bool
  /-- PWRGD. -/
  powerGood : Bool
  /-- A rail failed to regulate; the retry is still to come, or has failed too (R503). -/
  railFailed : Bool
  retryFailed : Bool
  /-- The thermal trip latch THERMTRIP_N (R541). -/
  trip : Bool
  /-- PWRBRK_N asserted (R536). -/
  brake : Bool
  /-- Stacks that have completed or failed training since the dies left reset. -/
  trained : List Nat
  /-- The Porter time of the last rail failure, or of the last deassertion of PWR_EN (R503, R541). -/
  since : Nat
  deriving DecidableEq, Repr

/-- A component as the module ships (R542): signed images in both slots, no trial, no counter advanced. -/
def shippedFirmware : Firmware := ⟨.shipped, .shipped, 0, false, 0, false, 0, false, 0⟩

/-- The policy at NOMINAL with a cap of 1,600 W, both dies at 0.75 V (R479, R480). -/
def resetPolicy : Policy := ⟨0, 1600, 750, 0, false, 750, 750, 750, 750, 0, 0, false, false⟩

/-- The Porter of a module as it ships, RUNNING. -/
def resetPorter : Porter :=
  { state := .running, cause := .powerOn, vipol := shippedFirmware, micro := shippedFirmware, log := [], mirror := []
    pinMarks := [], trust := none, policy := resetPolicy, wdtMs := 2000, runSince := 0, upSince := 0, localBase := 0, samples := []
    mbx := [], eid := 0, address := 0x40, sensors := [], thresholds := [], receiver := none, pldmQueue := [], pldmSent := []
    update := none, spdm := [], sessions := [], nextSession := 1, reply := none, tripNote := none, wdtNote := none }

/-- The module with every supply present, the main rails up and the dies out of reset. -/
def resetModule : Module := ⟨true, true, true, false, 7, false, true, false, false, false, false, [], 0⟩

end Sys2Proof.Machine
end

