-- ==== Sys2Proof/Machine/Regs.lean ====
section
/-! DEFINITION. The register map of R515 and R521: one name per register of every block, its offset in BAR0, its
width, the access code of each of its bits (R7, R543), their change classes (R10) and the reset value (R9). -/

namespace Sys2Proof.Machine

/-- Every register of the device, named as its chapter names it. Indices (hall, engine, queue, ...) are apart. -/
inductive Reg where
  | devId
  | devStepping
  | devBoot
  | devResetCause
  | devResetCtrl
  | devUnitReset
  | devSerial
  | devVariant
  | devLevels
  | devVipolVer
  | devMicroVer
  | devUnitPresence
  | devUnitFaulted
  | pceMon
  | pceLowThresh
  | pceLowStatus
  | pceSweepLimited
  | pceCtrl
  | vstFnStatus
  | vstFnRefused
  | vstFnCommands
  | vstFnEventsLost
  | vstSqBase
  | vstSqCfg
  | vstSqPasid
  | vstSqHead
  | vstSqStatus
  | vstEqBase
  | vstEqCfg
  | vstEqPasid
  | vstEqTail
  | vstSqTail
  | vstEqHead
  | msixAddr
  | msixData
  | msixCtrl
  | msixPending
  | vstLink
  | vstLinkDowns
  | vstFlrs
  | vstBar2Discards
  | wngGroup
  | wngAdmMarginNs
  | wngPfHostWeight
  | wngW
  | wngWQuota
  | wngTCfg
  | wngTDelay
  | wngTServed
  | wngTDelayed
  | wngTQuota
  | wngTOverload
  | wngTDeadline
  | wngTShed
  | halStatus
  | halTemp
  | halEvents
  | halEventEn
  | halCeThresh
  | halPinMarkThresh
  | halScrubCfg
  | halScrubPos
  | halWcbCfg
  | halWcbStatus
  | halUeHead
  | halUeTail
  | halScrubPasses
  | halCeTotal
  | halUeTotal
  | halUeLost
  | halRepairDrops
  | halWcbMerges
  | halStep1Ns
  | halStep2Ns
  | halStep3Ns
  | halPcCe
  | halUeLog
  | strCtrl
  | strStatus
  | strStage
  | strHead
  | strLoopBays
  | strRevNs
  | strRevEstNs
  | strRevCount
  | strTreads
  | strLanding
  | strMaps
  | strStallNs
  | strSkipCount
  | strEvents
  | strEventEn
  | trnPoolCtrl
  | trnPoolFree
  | trnSpillBase
  | trnSpillSize
  | trnSpillCount
  | colCtrl
  | colStatus
  | colEvents
  | colEventEn
  | colSrfVer
  | colRefused
  | colRowSteps
  | colInstr
  | colEccCorrected
  | qntCfg
  | qntWide01
  | qntWide23
  | qntWide45
  | qntWide67
  | qntSat
  | qntEsc
  | qntNonfinite
  | qntCount
  | qntSse
  | qntStatsClr
  | qntStatus
  | qntEvents
  | qntEventEn
  | lntCoreCfg
  | lntTickNs
  | lntHorizonNs
  | lntWindowNs
  | lntPolicy
  | lntStatus
  | lntEvents
  | lntEventEn
  | lntEccUncorr
  | lntInEvents
  | lntSynops
  | lntSpikes
  | lntDropNeuron
  | lntDropHit
  | lntDropPut
  | lntDropHost
  | lntLate
  | lntActions
  | lntActionDrops
  | lntWindowSeq
  | lntWindowEnd
  | lntCount
  | ushCtrl
  | ushStatus
  | ushEntry
  | ushContext
  | ushFaultPc
  | ushFaultAddr
  | ushFaultCause
  | ushExceptions
  | ushInstr
  | ushMemStallNs
  | ushWaitNs
  | ushMicroNs
  | mznStatus
  | mznEvents
  | mznEventEn
  | mznEccCorrected
  | mznPoisoned
  | mznHits
  | mznMisses
  | mznSnoops
  | mznOwnedPulls
  | mznWritebacks
  | mznNacks
  | mznReservations
  | mznResLapsed
  | mznBusyWaitNs
  | mznHostSnoops
  | mznBiasFlips
  | mznWingWays
  | mznResHoldNs
  | mznSlices
  | ucrStatus
  | ucrEvents
  | ucrEventEn
  | ucrUserBytes
  | ucrUsedBytes
  | ucrProgrammed
  | ucrRated
  | ucrWear
  | ucrWCredits
  | ucrWAutoUs
  | ucrWState
  | ucrWDurableSeq
  | ucrWNextSeq
  | ucrWRecoveredSeq
  | ucrWCreditWaitNs
  | ucrWQuota
  | ucrWUsed
  | mrqPCtrl
  | mrqPState
  | mrqPPartner
  | mrqPRefusal
  | mrqPQuar
  | mrqPRaRate
  | mrqPRetxNs
  | mrqPDelayNs
  | mrqPEvents
  | mrqPEventEn
  | mrqPRaSubmit
  | mrqPCredits
  | mrqPTxSectors
  | mrqPRxSectors
  | mrqPRetx
  | mrqPNaksSent
  | mrqPHcrcFail
  | mrqPPcrcFail
  | mrqPAuthFail
  | mrqPMalformed
  | mrqPViolations
  | mrqPDuplicates
  | mrqPHunts
  | mrqPFecCorrected
  | mrqPFecUncorrected
  | mrqPCreditWaitNs
  | mrqPRaRefused
  | nwlHopMargin
  | nwlRooted
  | nwlResultsSent
  | nwlMerged
  | nwlLateReceived
  | nwlLateTold
  | nwlNoticesSent
  | nwlSealRefused
  | nwlEpochRefused
  | nwlReroutes
  | nwlPartial
  | nwlDuplicates
  | nwlCreditWaitNs
  | nwlOrphaned
  | mrqDeviceIndex
  | mrqLevelFloor
  | mrqLevelMax
  | mrqWinBase
  | mrqWinSize
  | mrqWinCommit
  | mrqWinHigh
  | prtStatus
  | prtMbxCtrl
  | prtMbxCmd
  | prtMbxResp
  | prtEvents
  | prtEventEn
  | prtVipolVer
  | prtMicroVer
  | prtSecver
  | prtPower
  | prtBoots
  | prtWdtFires
  | prtLogSeq
  | timNow
  | timCtrl
  | timSet
  | timStatus
  | timOffsetNs
  | timEvents
  | timEventEn
  | timUnsyncNs
  | timRefused
  | selColl
  | selSeal
  | selMap
  deriving DecidableEq, Repr

/-- One row of a register table: where the register lies and what each of its bits is. A bit in no mask is RSV (R543). -/
structure RegSpec where
  /-- BAR0 offset of the register at index 0. -/
  base : Nat
  /-- Width in bytes: 4 or 8. -/
  bytes : Nat
  /-- Stride and count of the first index (hall, engine, queue, tenant, ...). -/
  stride : Nat
  count : Nat
  /-- Stride and count of the second index (stream, pseudo-channel, ...). -/
  stride2 : Nat
  count2 : Nat
  /-- The bits that the register's table names. -/
  named : Nat
  /-- RW bits. -/
  rw : Nat
  /-- W1C bits. -/
  w1c : Nat
  /-- W1S bits. -/
  w1s : Nat
  /-- RC bits. -/
  rc : Nat
  /-- WO bits. -/
  wo : Nat
  /-- Bits of change class Fixed. -/
  fixed : Nat
  /-- Bits of change class Staged. -/
  staged : Nat
  /-- A SNAP counter (R14). -/
  snap : Bool
  /-- Kept across a cold reset. -/
  kept : Bool
  /-- Value after a cold reset. -/
  reset : Nat
  deriving DecidableEq, Repr

/-- The row of a register: R31, R95, R96, R138, R159, R179, R224, R259, R282, R321, R355, R376 to R380, R404, R435,
R436, R456, R473, R501, R512, R520. -/
def regSpec : Reg → RegSpec
  | .devId => ⟨0, 4, 0, 1, 0, 1, 0xffffffff, 0, 0, 0, 0, 0, 0, 0, false, false, 0⟩
  | .devStepping => ⟨4, 4, 0, 1, 0, 1, 0xff, 0, 0, 0, 0, 0, 0, 0, false, false, 0⟩
  | .devBoot => ⟨8, 4, 0, 1, 0, 1, 0xffff07ff, 0, 0, 0, 0, 0, 0, 0, false, false, 0⟩
  | .devResetCause => ⟨0xc, 4, 0, 1, 0, 1, 0xf, 0, 0, 0, 0, 0, 0, 0, false, false, 0⟩
  | .devResetCtrl => ⟨0x10, 4, 0, 1, 0, 1, 1, 0, 0, 1, 0, 0, 0, 0, false, false, 0⟩
  | .devUnitReset => ⟨0x14, 4, 0, 1, 0, 1, 0x1ff0f, 0xff0f, 0, 0x10000, 0, 0, 0, 0, false, false, 0⟩
  | .devSerial => ⟨0x18, 8, 0, 1, 0, 1, 0xffffffffffffffff, 0, 0, 0, 0, 0, 0, 0, false, false, 0⟩
  | .devVariant => ⟨0x20, 4, 0, 1, 0, 1, 3, 0, 0, 0, 0, 0, 0, 0, false, false, 0⟩
  | .devLevels => ⟨0x24, 4, 0, 1, 0, 1, 0xffff, 0, 0, 0, 0, 0, 0, 0, false, false, 0⟩
  | .devVipolVer => ⟨0x28, 4, 0, 1, 0, 1, 0xffffffff, 0, 0, 0, 0, 0, 0, 0, false, false, 0⟩
  | .devMicroVer => ⟨0x2c, 4, 0, 1, 0, 1, 0xffffffff, 0, 0, 0, 0, 0, 0, 0, false, false, 0⟩
  | .devUnitPresence => ⟨0x40, 8, 8, 8, 0, 1, 0xffffffffffffffff, 0, 0, 0, 0, 0, 0, 0, false, false, 0⟩
  | .devUnitFaulted => ⟨0x80, 8, 8, 8, 0, 1, 0xffffffffffffffff, 0, 0, 0, 0, 0, 0, 0, false, false, 0⟩
  | .pceMon => ⟨0x10000, 4, 4, 32, 0, 1, 0xffff, 0, 0, 0, 0, 0, 0, 0, false, false, 0⟩
  | .pceLowThresh => ⟨0x10080, 4, 0, 1, 0, 1, 0xffff, 0xffff, 0, 0, 0, 0, 0, 0, false, false, 800⟩
  | .pceLowStatus => ⟨0x10084, 4, 0, 1, 0, 1, 0xffffffff, 0, 0xffffffff, 0, 0, 0, 0, 0, false, false, 0⟩
  | .pceSweepLimited => ⟨0x10088, 4, 0, 1, 0, 1, 0xffff, 0, 0xffff, 0, 0, 0, 0, 0, false, false, 0⟩
  | .pceCtrl => ⟨0x1008c, 4, 0, 1, 0, 1, 3, 3, 0, 0, 0, 0, 0, 0, false, false, 0⟩
  | .vstFnStatus => ⟨0x101000, 4, 0, 1, 0, 1, 0xff01, 0, 0, 0, 0, 0, 0, 0, false, false, 0⟩
  | .vstFnRefused => ⟨0x101004, 4, 0, 1, 0, 1, 0xffffffff, 0xffffffff, 0, 0, 0, 0, 0, 0, false, false, 0⟩
  | .vstFnCommands => ⟨0x101008, 8, 0, 1, 0, 1, 0xffffffffffffffff, 0, 0, 0, 0, 0, 0, 0, true, false, 0⟩
  | .vstFnEventsLost => ⟨0x101010, 8, 0, 1, 0, 1, 0xffffffffffffffff, 0, 0, 0, 0, 0, 0, 0, true, false, 0⟩
  | .vstSqBase => ⟨0x110000, 8, 0x40, 64, 0, 1, 0xfffffffffffff000, 0xfffffffffffff000, 0, 0, 0, 0, 0xfffffffffffff000, 0, false, false, 0⟩
  | .vstSqCfg => ⟨0x110008, 4, 0x40, 64, 0, 1, 0x80ff0f1f, 0x80ff0f1f, 0, 0, 0, 0, 0x1f, 0xff0f00, false, false, 65536⟩
  | .vstSqPasid => ⟨0x11000c, 4, 0x40, 64, 0, 1, 0x800fffff, 0x800fffff, 0, 0, 0, 0, 0x800fffff, 0, false, false, 0⟩
  | .vstSqHead => ⟨0x110010, 4, 0x40, 64, 0, 1, 0xffff, 0, 0, 0, 0, 0, 0, 0, false, false, 0⟩
  | .vstSqStatus => ⟨0x110014, 4, 0x40, 64, 0, 1, 0xffff0007, 0, 0, 0, 0, 0, 0, 0, false, false, 0⟩
  | .vstEqBase => ⟨0x120000, 8, 0x40, 16, 0, 1, 0xfffffffffffff000, 0xfffffffffffff000, 0, 0, 0, 0, 0xfffffffffffff000, 0, false, false, 0⟩
  | .vstEqCfg => ⟨0x120008, 4, 0x40, 16, 0, 1, 0x8000011f, 0x8000011f, 0, 0, 0, 0, 0x1f, 0, false, false, 0⟩
  | .vstEqPasid => ⟨0x12000c, 4, 0x40, 16, 0, 1, 0x800fffff, 0x800fffff, 0, 0, 0, 0, 0x800fffff, 0, false, false, 0⟩
  | .vstEqTail => ⟨0x120010, 4, 0x40, 16, 0, 1, 0x7ffff, 0, 0, 0, 0, 0, 0, 0, false, false, 0⟩
  | .vstSqTail => ⟨0x130000, 4, 4, 64, 0, 1, 0xffff, 0xffff, 0, 0, 0, 0, 0, 0, false, false, 0⟩
  | .vstEqHead => ⟨0x130100, 4, 4, 16, 0, 1, 0xffff, 0xffff, 0, 0, 0, 0, 0, 0, false, false, 0⟩
  | .msixAddr => ⟨0x138000, 8, 0x10, 16, 0, 1, 0xfffffffffffffffc, 0xfffffffffffffffc, 0, 0, 0, 0, 0, 0, false, false, 0⟩
  | .msixData => ⟨0x138008, 4, 0x10, 16, 0, 1, 0xffffffff, 0xffffffff, 0, 0, 0, 0, 0, 0, false, false, 0⟩
  | .msixCtrl => ⟨0x13800c, 4, 0x10, 16, 0, 1, 1, 1, 0, 0, 0, 0, 0, 0, false, false, 1⟩
  | .msixPending => ⟨0x138800, 8, 0, 1, 0, 1, 0xffff, 0, 0, 0, 0, 0, 0, 0, false, false, 0⟩
  | .vstLink => ⟨0x180000, 4, 0, 1, 0, 1, 0x303ff, 0, 0, 0, 0, 0, 0, 0, false, false, 0⟩
  | .vstLinkDowns => ⟨0x180008, 8, 0, 1, 0, 1, 0xffffffffffffffff, 0, 0, 0, 0, 0, 0, 0, true, false, 0⟩
  | .vstFlrs => ⟨0x180010, 8, 0, 1, 0, 1, 0xffffffffffffffff, 0, 0, 0, 0, 0, 0, 0, true, false, 0⟩
  | .vstBar2Discards => ⟨0x180018, 8, 0, 1, 0, 1, 0xffffffffffffffff, 0, 0, 0, 0, 0, 0, 0, true, false, 0⟩
  | .wngGroup => ⟨0x200000, 4, 4, 16, 0, 1, 0x1f, 0, 0, 0, 0, 0, 0, 0, false, false, 0⟩
  | .wngAdmMarginNs => ⟨0x200040, 4, 0, 1, 0, 1, 0xffffffff, 0xffffffff, 0, 0, 0, 0, 0, 0, false, false, 20000⟩
  | .wngPfHostWeight => ⟨0x200044, 4, 0, 1, 0, 1, 0xff, 0xff, 0, 0, 0, 0, 0, 0, false, false, 32⟩
  | .wngW => ⟨0x200100, 8, 0x20, 16, 0, 1, 0x7ffff03ffff, 0, 0, 0, 0, 0, 0, 0, false, false, 0⟩
  | .wngWQuota => ⟨0x200108, 8, 0x20, 16, 0, 1, 0xffffffffffffffff, 0, 0, 0, 0, 0, 0, 0, false, false, 0⟩
  | .wngTCfg => ⟨0x201000, 8, 0x40, 144, 0, 1, 0x7ffffff3f, 0, 0, 0, 0, 0, 0, 0, false, false, 0⟩
  | .wngTDelay => ⟨0x201008, 4, 0x40, 144, 0, 1, 0xffffffff, 0, 0, 0, 0, 0, 0, 0, false, false, 0⟩
  | .wngTServed => ⟨0x201010, 8, 0x40, 144, 0, 1, 0xffffffffffffffff, 0, 0, 0, 0, 0, 0, 0, true, false, 0⟩
  | .wngTDelayed => ⟨0x201018, 8, 0x40, 144, 0, 1, 0xffffffffffffffff, 0, 0, 0, 0, 0, 0, 0, true, false, 0⟩
  | .wngTQuota => ⟨0x201020, 8, 0x40, 144, 0, 1, 0xffffffffffffffff, 0, 0, 0, 0, 0, 0, 0, true, false, 0⟩
  | .wngTOverload => ⟨0x201028, 8, 0x40, 144, 0, 1, 0xffffffffffffffff, 0, 0, 0, 0, 0, 0, 0, true, false, 0⟩
  | .wngTDeadline => ⟨0x201030, 8, 0x40, 144, 0, 1, 0xffffffffffffffff, 0, 0, 0, 0, 0, 0, 0, true, false, 0⟩
  | .wngTShed => ⟨0x201038, 8, 0x40, 144, 0, 1, 0xffffffffffffffff, 0, 0, 0, 0, 0, 0, 0, true, false, 0⟩
  | .halStatus => ⟨0x1000000, 4, 0x100000, 16, 0, 1, 0x3f, 0, 0, 0, 0, 0, 0, 0, false, false, 0⟩
  | .halTemp => ⟨0x1000004, 4, 0x100000, 16, 0, 1, 0xffff, 0, 0, 0, 0, 0, 0, 0, false, false, 0⟩
  | .halEvents => ⟨0x1000008, 4, 0x100000, 16, 0, 1, 0x3ff, 0, 0x3ff, 0, 0, 0, 0, 0, false, false, 0⟩
  | .halEventEn => ⟨0x100000c, 4, 0x100000, 16, 0, 1, 0x3ff, 0x3ff, 0, 0, 0, 0, 0, 0, false, false, 0⟩
  | .halCeThresh => ⟨0x1000010, 4, 0x100000, 16, 0, 1, 0xffff, 0xffff, 0, 0, 0, 0, 0, 0, false, false, 1024⟩
  | .halPinMarkThresh => ⟨0x1000014, 4, 0x100000, 16, 0, 1, 0xff, 0xff, 0, 0, 0, 0, 0, 0, false, false, 16⟩
  | .halScrubCfg => ⟨0x1000018, 4, 0x100000, 16, 0, 1, 0x3f, 0x3f, 0, 0, 0, 0, 0, 0x3f, false, false, 49⟩
  | .halScrubPos => ⟨0x100001c, 4, 0x100000, 16, 0, 1, 0x3fffffff, 0, 0, 0, 0, 0, 0, 0, false, false, 0⟩
  | .halWcbCfg => ⟨0x1000020, 4, 0x100000, 16, 0, 1, 0xffff, 0xffff, 0, 0, 0, 0, 0, 0, false, false, 500⟩
  | .halWcbStatus => ⟨0x1000024, 4, 0x100000, 16, 0, 1, 0x7f, 0, 0, 0, 0, 0, 0, 0, false, false, 0⟩
  | .halUeHead => ⟨0x1000028, 4, 0x100000, 16, 0, 1, 0xff, 0, 0, 0, 0, 0, 0, 0, false, false, 0⟩
  | .halUeTail => ⟨0x100002c, 4, 0x100000, 16, 0, 1, 0xff, 0xff, 0, 0, 0, 0, 0, 0, false, false, 0⟩
  | .halScrubPasses => ⟨0x1000030, 8, 0x100000, 16, 0, 1, 0xffffffffffffffff, 0, 0, 0, 0, 0, 0, 0, true, false, 0⟩
  | .halCeTotal => ⟨0x1000038, 8, 0x100000, 16, 0, 1, 0xffffffffffffffff, 0, 0, 0, 0, 0, 0, 0, true, false, 0⟩
  | .halUeTotal => ⟨0x1000040, 8, 0x100000, 16, 0, 1, 0xffffffffffffffff, 0, 0, 0, 0, 0, 0, 0, true, false, 0⟩
  | .halUeLost => ⟨0x1000048, 8, 0x100000, 16, 0, 1, 0xffffffffffffffff, 0, 0, 0, 0, 0, 0, 0, true, false, 0⟩
  | .halRepairDrops => ⟨0x1000050, 8, 0x100000, 16, 0, 1, 0xffffffffffffffff, 0, 0, 0, 0, 0, 0, 0, true, false, 0⟩
  | .halWcbMerges => ⟨0x1000058, 8, 0x100000, 16, 0, 1, 0xffffffffffffffff, 0, 0, 0, 0, 0, 0, 0, true, false, 0⟩
  | .halStep1Ns => ⟨0x1000060, 8, 0x100000, 16, 0, 1, 0xffffffffffffffff, 0, 0, 0, 0, 0, 0, 0, true, false, 0⟩
  | .halStep2Ns => ⟨0x1000068, 8, 0x100000, 16, 0, 1, 0xffffffffffffffff, 0, 0, 0, 0, 0, 0, 0, true, false, 0⟩
  | .halStep3Ns => ⟨0x1000070, 8, 0x100000, 16, 0, 1, 0xffffffffffffffff, 0, 0, 0, 0, 0, 0, 0, true, false, 0⟩
  | .halPcCe => ⟨0x1000100, 4, 0x100000, 16, 4, 64, 0x7f3fffff, 0, 0, 0, 0, 0, 0, 0, false, false, 0⟩
  | .halUeLog => ⟨0x1001000, 8, 0x100000, 16, 8, 1024, 0xffffffffffffffff, 0, 0, 0, 0, 0, 0, 0, false, false, 0⟩
  | .strCtrl => ⟨0x1004000, 4, 0x100000, 16, 0, 1, 1, 1, 0, 0, 0, 0, 0, 0, false, false, 0⟩
  | .strStatus => ⟨0x1004004, 4, 0x100000, 16, 0, 1, 0x7f, 0, 0, 0, 0, 0, 0, 0, false, false, 0⟩
  | .strStage => ⟨0x1004008, 4, 0x100000, 16, 0, 1, 0x7ff, 0x7ff, 0, 0, 0, 0, 0, 0x7ff, false, false, 1024⟩
  | .strHead => ⟨0x100400c, 4, 0x100000, 16, 0, 1, 0xffffffff, 0, 0, 0, 0, 0, 0, 0, false, false, 0⟩
  | .strLoopBays => ⟨0x1004010, 4, 0x100000, 16, 0, 1, 0xffffffff, 0, 0, 0, 0, 0, 0, 0, false, false, 0⟩
  | .strRevNs => ⟨0x1004014, 4, 0x100000, 16, 0, 1, 0xffffffff, 0, 0, 0, 0, 0, 0, 0, false, false, 0⟩
  | .strRevEstNs => ⟨0x1004018, 4, 0x100000, 16, 0, 1, 0xffffffff, 0, 0, 0, 0, 0, 0, 0, false, false, 0⟩
  | .strRevCount => ⟨0x1004020, 8, 0x100000, 16, 0, 1, 0xffffffffffffffff, 0, 0, 0, 0, 0, 0, 0, true, false, 0⟩
  | .strTreads => ⟨0x1004028, 4, 0x100000, 16, 0, 1, 0x7ff07ff, 0, 0, 0, 0, 0, 0, 0, false, false, 0⟩
  | .strLanding => ⟨0x100402c, 4, 0x100000, 16, 0, 1, 0x1fff, 0, 0, 0, 0, 0, 0, 0, false, false, 0⟩
  | .strMaps => ⟨0x1004030, 4, 0x100000, 16, 0, 1, 0x1f, 0, 0, 0, 0, 0, 0, 0, false, false, 0⟩
  | .strStallNs => ⟨0x1004038, 8, 0x100000, 16, 0, 1, 0xffffffffffffffff, 0, 0, 0, 0, 0, 0, 0, true, false, 0⟩
  | .strSkipCount => ⟨0x1004040, 8, 0x100000, 16, 0, 1, 0xffffffffffffffff, 0, 0, 0, 0, 0, 0, 0, true, false, 0⟩
  | .strEvents => ⟨0x1004048, 4, 0x100000, 16, 0, 1, 0xf, 0, 0xf, 0, 0, 0, 0, 0, false, false, 0⟩
  | .strEventEn => ⟨0x100404c, 4, 0x100000, 16, 0, 1, 0xf, 0xf, 0, 0, 0, 0, 0, 0, false, false, 0⟩
  | .trnPoolCtrl => ⟨0x1008000, 4, 0x100000, 16, 0, 1, 0x1ff, 0x1ff, 0, 0, 0, 0, 0, 0x1ff, false, false, 256⟩
  | .trnPoolFree => ⟨0x1008004, 4, 0x100000, 16, 0, 1, 0x7ffff, 0, 0, 0, 0, 0, 0, 0, false, false, 262144⟩
  | .trnSpillBase => ⟨0x1008008, 8, 0x100000, 16, 0, 1, 0xffffffffffffffff, 0xffffffffffffffff, 0, 0, 0, 0, 0, 0xffffffffffffffff, false, false, 0⟩
  | .trnSpillSize => ⟨0x1008010, 4, 0x100000, 16, 0, 1, 0xffffffff, 0xffffffff, 0, 0, 0, 0, 0, 0xffffffff, false, false, 0⟩
  | .trnSpillCount => ⟨0x1008018, 8, 0x100000, 16, 0, 1, 0xffffffffffffffff, 0, 0, 0, 0, 0, 0, 0, true, false, 0⟩
  | .colCtrl => ⟨0x2000000, 4, 0x10000, 32, 0, 1, 1, 1, 0, 0, 0, 0, 0, 0, false, false, 0⟩
  | .colStatus => ⟨0x2000004, 4, 0x10000, 32, 0, 1, 0x7ff, 0, 0, 0, 0, 0, 0, 0, false, false, 0⟩
  | .colEvents => ⟨0x2000008, 4, 0x10000, 32, 0, 1, 7, 0, 7, 0, 0, 0, 0, 0, false, false, 0⟩
  | .colEventEn => ⟨0x200000c, 4, 0x10000, 32, 0, 1, 7, 7, 0, 0, 0, 0, 0, 0, false, false, 0⟩
  | .colSrfVer => ⟨0x2000010, 4, 0x10000, 32, 0, 1, 0xffffffff, 0, 0, 0, 0, 0, 0, 0, false, false, 0⟩
  | .colRefused => ⟨0x2000014, 4, 0x10000, 32, 0, 1, 0xffffffff, 0xffffffff, 0, 0, 0, 0, 0, 0, false, false, 0⟩
  | .colRowSteps => ⟨0x2000018, 8, 0x10000, 32, 0, 1, 0xffffffffffffffff, 0, 0, 0, 0, 0, 0, 0, true, false, 0⟩
  | .colInstr => ⟨0x2000020, 8, 0x10000, 32, 0, 1, 0xffffffffffffffff, 0, 0, 0, 0, 0, 0, 0, true, false, 0⟩
  | .colEccCorrected => ⟨0x2000028, 4, 0x10000, 32, 0, 1, 0xffffffff, 0, 0, 0, 0xffffffff, 0, 0, 0, false, false, 0⟩
  | .qntCfg => ⟨0x2000100, 4, 0x10000, 32, 0x40, 16, 0x7fff, 0x7fff, 0, 0, 0, 0, 0, 0x7fff, false, false, 64⟩
  | .qntWide01 => ⟨0x2000104, 4, 0x10000, 32, 0x40, 16, 0xffffffff, 0xffffffff, 0, 0, 0, 0, 0, 0xffffffff, false, false, 0⟩
  | .qntWide23 => ⟨0x2000108, 4, 0x10000, 32, 0x40, 16, 0xffffffff, 0xffffffff, 0, 0, 0, 0, 0, 0xffffffff, false, false, 0⟩
  | .qntWide45 => ⟨0x200010c, 4, 0x10000, 32, 0x40, 16, 0xffffffff, 0xffffffff, 0, 0, 0, 0, 0, 0xffffffff, false, false, 0⟩
  | .qntWide67 => ⟨0x2000110, 4, 0x10000, 32, 0x40, 16, 0xffffffff, 0xffffffff, 0, 0, 0, 0, 0, 0xffffffff, false, false, 0⟩
  | .qntSat => ⟨0x2000114, 4, 0x10000, 32, 0x40, 16, 0xffffffff, 0, 0, 0, 0, 0, 0, 0, false, false, 0⟩
  | .qntEsc => ⟨0x2000118, 4, 0x10000, 32, 0x40, 16, 0xffffffff, 0, 0, 0, 0, 0, 0, 0, false, false, 0⟩
  | .qntNonfinite => ⟨0x200011c, 4, 0x10000, 32, 0x40, 16, 0xffffffff, 0, 0, 0, 0, 0, 0, 0, false, false, 0⟩
  | .qntCount => ⟨0x2000120, 8, 0x10000, 32, 0x40, 16, 0xffffffffffffffff, 0, 0, 0, 0, 0, 0, 0, true, false, 0⟩
  | .qntSse => ⟨0x2000128, 8, 0x10000, 32, 0x40, 16, 0xffffffffffffffff, 0, 0, 0, 0, 0, 0, 0, true, false, 0⟩
  | .qntStatsClr => ⟨0x2000500, 4, 0x10000, 32, 0, 1, 0xffff, 0, 0, 0xffff, 0, 0, 0, 0, false, false, 0⟩
  | .qntStatus => ⟨0x2000504, 4, 0x10000, 32, 0, 1, 1, 0, 0, 0, 0, 0, 0, 0, false, false, 0⟩
  | .qntEvents => ⟨0x2000508, 4, 0x10000, 32, 0, 1, 7, 0, 7, 0, 0, 0, 0, 0, false, false, 0⟩
  | .qntEventEn => ⟨0x200050c, 4, 0x10000, 32, 0, 1, 7, 7, 0, 0, 0, 0, 0, 0, false, false, 0⟩
  | .lntCoreCfg => ⟨0x2400000, 4, 0x10000, 16, 0, 1, 7, 7, 0, 0, 0, 0, 6, 0, false, false, 0⟩
  | .lntTickNs => ⟨0x2400004, 4, 0x10000, 16, 0, 1, 0xffffff, 0xffffff, 0, 0, 0, 0, 0xffffff, 0, false, false, 1000⟩
  | .lntHorizonNs => ⟨0x2400008, 4, 0x10000, 16, 0, 1, 0xffff, 0xffff, 0, 0, 0, 0, 0, 0xffff, false, false, 4000⟩
  | .lntWindowNs => ⟨0x2400010, 8, 0x10000, 16, 0, 1, 0xfffffffff, 0xfffffffff, 0, 0, 0, 0, 0xfffffffff, 0, false, false, 1000000⟩
  | .lntPolicy => ⟨0x2400018, 4, 0x10000, 16, 0, 1, 0x3ffff, 0x3ffff, 0, 0, 0, 0, 0, 0x3ffff, false, false, 0⟩
  | .lntStatus => ⟨0x2400020, 4, 0x10000, 16, 0, 1, 0x1fff0003, 0, 0, 0, 0, 0, 0, 0, false, false, 0⟩
  | .lntEvents => ⟨0x2400024, 4, 0x10000, 16, 0, 1, 0x1f, 0, 0x1f, 0, 0, 0, 0, 0, false, false, 0⟩
  | .lntEventEn => ⟨0x2400028, 4, 0x10000, 16, 0, 1, 0x1f, 0x1f, 0, 0, 0, 0, 0, 0, false, false, 0⟩
  | .lntEccUncorr => ⟨0x240002c, 4, 0x10000, 16, 0, 1, 0xffffffff, 0xffffffff, 0, 0, 0, 0, 0, 0, false, false, 0⟩
  | .lntInEvents => ⟨0x2400040, 8, 0x10000, 16, 0, 1, 0xffffffffffffffff, 0, 0, 0, 0, 0, 0, 0, true, false, 0⟩
  | .lntSynops => ⟨0x2400048, 8, 0x10000, 16, 0, 1, 0xffffffffffffffff, 0, 0, 0, 0, 0, 0, 0, true, false, 0⟩
  | .lntSpikes => ⟨0x2400050, 8, 0x10000, 16, 0, 1, 0xffffffffffffffff, 0, 0, 0, 0, 0, 0, 0, true, false, 0⟩
  | .lntDropNeuron => ⟨0x2400058, 8, 0x10000, 16, 0, 1, 0xffffffffffffffff, 0, 0, 0, 0, 0, 0, 0, true, false, 0⟩
  | .lntDropHit => ⟨0x2400060, 8, 0x10000, 16, 0, 1, 0xffffffffffffffff, 0, 0, 0, 0, 0, 0, 0, true, false, 0⟩
  | .lntDropPut => ⟨0x2400068, 8, 0x10000, 16, 0, 1, 0xffffffffffffffff, 0, 0, 0, 0, 0, 0, 0, true, false, 0⟩
  | .lntDropHost => ⟨0x2400070, 8, 0x10000, 16, 0, 1, 0xffffffffffffffff, 0, 0, 0, 0, 0, 0, 0, true, false, 0⟩
  | .lntLate => ⟨0x2400078, 8, 0x10000, 16, 0, 1, 0xffffffffffffffff, 0, 0, 0, 0, 0, 0, 0, true, false, 0⟩
  | .lntActions => ⟨0x2400080, 8, 0x10000, 16, 0, 1, 0xffffffffffffffff, 0, 0, 0, 0, 0, 0, 0, true, false, 0⟩
  | .lntActionDrops => ⟨0x2400088, 8, 0x10000, 16, 0, 1, 0xffffffffffffffff, 0, 0, 0, 0, 0, 0, 0, true, false, 0⟩
  | .lntWindowSeq => ⟨0x2400100, 8, 0x10000, 16, 0, 1, 0xffffffffffffffff, 0, 0, 0, 0, 0, 0, 0, true, false, 0⟩
  | .lntWindowEnd => ⟨0x2400108, 8, 0x10000, 16, 0, 1, 0xffffffffffffffff, 0, 0, 0, 0, 0, 0, 0, true, false, 0⟩
  | .lntCount => ⟨0x2400400, 4, 0x10000, 16, 4, 256, 0xffffffff, 0, 0, 0, 0, 0, 0, 0, false, false, 0⟩
  | .ushCtrl => ⟨0x2500000, 4, 0x100, 256, 0, 1, 7, 0, 0, 7, 0, 0, 0, 0, false, false, 0⟩
  | .ushStatus => ⟨0x2500004, 4, 0x100, 256, 0, 1, 0x1f, 0, 0, 0, 0, 0, 0, 0, false, false, 0⟩
  | .ushEntry => ⟨0x2500008, 8, 0x100, 256, 0, 1, 0xffffffffffffffff, 0xffffffffffffffff, 0, 0, 0, 0, 0xffffffffffffffff, 0, false, false, 0⟩
  | .ushContext => ⟨0x2500010, 4, 0x100, 256, 0, 1, 0x8fffff7f, 0x8fffff7f, 0, 0, 0, 0, 0x8fffff7f, 0, false, false, 0⟩
  | .ushFaultPc => ⟨0x2500018, 8, 0x100, 256, 0, 1, 0xffffffffffffffff, 0, 0, 0, 0, 0, 0, 0, false, false, 0⟩
  | .ushFaultAddr => ⟨0x2500020, 8, 0x100, 256, 0, 1, 0xffffffffffffffff, 0, 0, 0, 0, 0, 0, 0, false, false, 0⟩
  | .ushFaultCause => ⟨0x2500028, 4, 0x100, 256, 0, 1, 0xffffffff, 0, 0, 0, 0, 0, 0, 0, false, false, 0⟩
  | .ushExceptions => ⟨0x250002c, 4, 0x100, 256, 0, 1, 0xffffffff, 0xffffffff, 0, 0, 0, 0, 0, 0, false, false, 0⟩
  | .ushInstr => ⟨0x2500030, 8, 0x100, 256, 0, 1, 0xffffffffffffffff, 0, 0, 0, 0, 0, 0, 0, true, false, 0⟩
  | .ushMemStallNs => ⟨0x2500038, 8, 0x100, 256, 0, 1, 0xffffffffffffffff, 0, 0, 0, 0, 0, 0, 0, true, false, 0⟩
  | .ushWaitNs => ⟨0x2500040, 8, 0x100, 256, 0, 1, 0xffffffffffffffff, 0, 0, 0, 0, 0, 0, 0, true, false, 0⟩
  | .ushMicroNs => ⟨0x2500048, 8, 0x100, 256, 0, 1, 0xffffffffffffffff, 0, 0, 0, 0, 0, 0, 0, true, false, 0⟩
  | .mznStatus => ⟨0x2600000, 4, 0x10000, 16, 0, 1, 0x7ff01ff, 0, 0, 0, 0, 0, 0, 0, false, false, 0⟩
  | .mznEvents => ⟨0x2600004, 4, 0x10000, 16, 0, 1, 0xf, 0, 0xf, 0, 0, 0, 0, 0, false, false, 0⟩
  | .mznEventEn => ⟨0x2600008, 4, 0x10000, 16, 0, 1, 0xf, 0xf, 0, 0, 0, 0, 0, 0, false, false, 0⟩
  | .mznEccCorrected => ⟨0x260000c, 4, 0x10000, 16, 0, 1, 0xffffffff, 0, 0, 0, 0xffffffff, 0, 0, 0, false, false, 0⟩
  | .mznPoisoned => ⟨0x2600010, 4, 0x10000, 16, 0, 1, 0x7ffff, 0, 0, 0, 0, 0, 0, 0, false, false, 0⟩
  | .mznHits => ⟨0x2600020, 8, 0x10000, 16, 0, 1, 0xffffffffffffffff, 0, 0, 0, 0, 0, 0, 0, true, false, 0⟩
  | .mznMisses => ⟨0x2600028, 8, 0x10000, 16, 0, 1, 0xffffffffffffffff, 0, 0, 0, 0, 0, 0, 0, true, false, 0⟩
  | .mznSnoops => ⟨0x2600030, 8, 0x10000, 16, 0, 1, 0xffffffffffffffff, 0, 0, 0, 0, 0, 0, 0, true, false, 0⟩
  | .mznOwnedPulls => ⟨0x2600038, 8, 0x10000, 16, 0, 1, 0xffffffffffffffff, 0, 0, 0, 0, 0, 0, 0, true, false, 0⟩
  | .mznWritebacks => ⟨0x2600040, 8, 0x10000, 16, 0, 1, 0xffffffffffffffff, 0, 0, 0, 0, 0, 0, 0, true, false, 0⟩
  | .mznNacks => ⟨0x2600048, 8, 0x10000, 16, 0, 1, 0xffffffffffffffff, 0, 0, 0, 0, 0, 0, 0, true, false, 0⟩
  | .mznReservations => ⟨0x2600050, 8, 0x10000, 16, 0, 1, 0xffffffffffffffff, 0, 0, 0, 0, 0, 0, 0, true, false, 0⟩
  | .mznResLapsed => ⟨0x2600058, 8, 0x10000, 16, 0, 1, 0xffffffffffffffff, 0, 0, 0, 0, 0, 0, 0, true, false, 0⟩
  | .mznBusyWaitNs => ⟨0x2600060, 8, 0x10000, 16, 0, 1, 0xffffffffffffffff, 0, 0, 0, 0, 0, 0, 0, true, false, 0⟩
  | .mznHostSnoops => ⟨0x2600068, 8, 0x10000, 16, 0, 1, 0xffffffffffffffff, 0, 0, 0, 0, 0, 0, 0, true, false, 0⟩
  | .mznBiasFlips => ⟨0x2600070, 8, 0x10000, 16, 0, 1, 0xffffffffffffffff, 0, 0, 0, 0, 0, 0, 0, true, false, 0⟩
  | .mznWingWays => ⟨0x2700000, 4, 4, 16, 0, 1, 0xffff, 0xffff, 0, 0, 0, 0, 0, 0, false, false, 65535⟩
  | .mznResHoldNs => ⟨0x2700040, 4, 0, 1, 0, 1, 0xffff, 0xffff, 0, 0, 0, 0, 0, 0, false, false, 20000⟩
  | .mznSlices => ⟨0x2700044, 4, 0, 1, 0, 1, 0xffff, 0, 0, 0, 0, 0, 0, 0, false, false, 0⟩
  | .ucrStatus => ⟨0x2800000, 4, 0, 1, 0, 1, 0xf, 0, 0, 0, 0, 0, 0, 0, false, false, 0⟩
  | .ucrEvents => ⟨0x2800004, 4, 0, 1, 0, 1, 0x1f, 0, 0x1f, 0, 0, 0, 0, 0, false, false, 0⟩
  | .ucrEventEn => ⟨0x2800008, 4, 0, 1, 0, 1, 0x1f, 0x1f, 0, 0, 0, 0, 0, 0, false, false, 0⟩
  | .ucrUserBytes => ⟨0x2800010, 8, 0, 1, 0, 1, 0xffffffffffffffff, 0, 0, 0, 0, 0, 0, 0, true, false, 0⟩
  | .ucrUsedBytes => ⟨0x2800018, 8, 0, 1, 0, 1, 0xffffffffffffffff, 0, 0, 0, 0, 0, 0, 0, true, false, 0⟩
  | .ucrProgrammed => ⟨0x2800020, 8, 0, 1, 0, 1, 0xffffffffffffffff, 0, 0, 0, 0, 0, 0, 0, true, true, 0⟩
  | .ucrRated => ⟨0x2800028, 8, 0, 1, 0, 1, 0xffffffffffffffff, 0, 0, 0, 0, 0, 0, 0, true, false, 0⟩
  | .ucrWear => ⟨0x2800030, 4, 0, 1, 0, 1, 0xffff, 0, 0, 0, 0, 0, 0, 0, false, true, 25600⟩
  | .ucrWCredits => ⟨0x2800100, 4, 0x40, 16, 0, 1, 0x7ffff, 0x7ffff, 0, 0, 0, 0, 0, 0x7ffff, false, false, 16384⟩
  | .ucrWAutoUs => ⟨0x2800104, 4, 0x40, 16, 0, 1, 0x1ffff, 0x1ffff, 0, 0, 0, 0, 0, 0x1ffff, false, false, 5000⟩
  | .ucrWState => ⟨0x2800108, 4, 0x40, 16, 0, 1, 0x7ffff07, 0, 0, 0, 0, 0, 0, 0, false, false, 0⟩
  | .ucrWDurableSeq => ⟨0x2800110, 8, 0x40, 16, 0, 1, 0xffffffffffffffff, 0, 0, 0, 0, 0, 0, 0, true, false, 0⟩
  | .ucrWNextSeq => ⟨0x2800118, 8, 0x40, 16, 0, 1, 0xffffffffffffffff, 0, 0, 0, 0, 0, 0, 0, true, false, 0⟩
  | .ucrWRecoveredSeq => ⟨0x2800120, 8, 0x40, 16, 0, 1, 0xffffffffffffffff, 0, 0, 0, 0, 0, 0, 0, true, false, 0⟩
  | .ucrWCreditWaitNs => ⟨0x2800128, 8, 0x40, 16, 0, 1, 0xffffffffffffffff, 0, 0, 0, 0, 0, 0, 0, true, false, 0⟩
  | .ucrWQuota => ⟨0x2800130, 8, 0x40, 16, 0, 1, 0xffffffffffffffff, 0, 0, 0, 0, 0, 0, 0, true, false, 0⟩
  | .ucrWUsed => ⟨0x2800138, 8, 0x40, 16, 0, 1, 0xffffffffffffffff, 0, 0, 0, 0, 0, 0, 0, true, false, 0⟩
  | .mrqPCtrl => ⟨0x3000000, 4, 0x10000, 64, 0, 1, 0xf, 3, 0, 0xc, 0, 0, 2, 0, false, false, 0⟩
  | .mrqPState => ⟨0x3000004, 4, 0x10000, 64, 0, 1, 0xffffffff, 0, 0, 0, 0, 0, 0, 0, false, false, 0⟩
  | .mrqPPartner => ⟨0x3000008, 4, 0x10000, 64, 0, 1, 0x80000fff, 0, 0, 0, 0, 0, 0, 0, false, false, 0⟩
  | .mrqPRefusal => ⟨0x300000c, 4, 0x10000, 64, 0, 1, 0xffff, 0, 0, 0, 0, 0, 0, 0, false, false, 0⟩
  | .mrqPQuar => ⟨0x3000010, 4, 0x10000, 64, 0, 1, 0xffffffff, 0xffffffff, 0, 0, 0, 0, 0, 0, false, false, 138412288⟩
  | .mrqPRaRate => ⟨0x3000014, 4, 0x10000, 64, 0, 1, 0xffff, 0xffff, 0, 0, 0, 0, 0, 0xffff, false, false, 100⟩
  | .mrqPRetxNs => ⟨0x3000018, 4, 0x10000, 64, 0, 1, 0xffff, 0xffff, 0, 0, 0, 0, 0xffff, 0, false, false, 25000⟩
  | .mrqPDelayNs => ⟨0x300001c, 4, 0x10000, 64, 0, 1, 0xffffffff, 0, 0, 0, 0, 0, 0, 0, false, false, 0⟩
  | .mrqPEvents => ⟨0x3000020, 4, 0x10000, 64, 0, 1, 0x7f, 0, 0x7f, 0, 0, 0, 0, 0, false, false, 0⟩
  | .mrqPEventEn => ⟨0x3000024, 4, 0x10000, 64, 0, 1, 0x7f, 0x7f, 0, 0, 0, 0, 0, 0, false, false, 0⟩
  | .mrqPRaSubmit => ⟨0x3000028, 8, 0x10000, 64, 0, 1, 0xffffffffffffffff, 0, 0, 0, 0, 0xffffffffffffffff, 0, 0, false, false, 0⟩
  | .mrqPCredits => ⟨0x3000044, 4, 0x10000, 64, 4, 7, 0x3ff, 0x3ff, 0, 0, 0, 0, 0x3ff, 0, false, false, 0⟩
  | .mrqPTxSectors => ⟨0x3000080, 8, 0x10000, 64, 0, 1, 0xffffffffffffffff, 0, 0, 0, 0, 0, 0, 0, true, false, 0⟩
  | .mrqPRxSectors => ⟨0x3000088, 8, 0x10000, 64, 0, 1, 0xffffffffffffffff, 0, 0, 0, 0, 0, 0, 0, true, false, 0⟩
  | .mrqPRetx => ⟨0x3000090, 8, 0x10000, 64, 0, 1, 0xffffffffffffffff, 0, 0, 0, 0, 0, 0, 0, true, false, 0⟩
  | .mrqPNaksSent => ⟨0x3000098, 8, 0x10000, 64, 0, 1, 0xffffffffffffffff, 0, 0, 0, 0, 0, 0, 0, true, false, 0⟩
  | .mrqPHcrcFail => ⟨0x30000a0, 8, 0x10000, 64, 0, 1, 0xffffffffffffffff, 0, 0, 0, 0, 0, 0, 0, true, false, 0⟩
  | .mrqPPcrcFail => ⟨0x30000a8, 8, 0x10000, 64, 0, 1, 0xffffffffffffffff, 0, 0, 0, 0, 0, 0, 0, true, false, 0⟩
  | .mrqPAuthFail => ⟨0x30000b0, 8, 0x10000, 64, 0, 1, 0xffffffffffffffff, 0, 0, 0, 0, 0, 0, 0, true, false, 0⟩
  | .mrqPMalformed => ⟨0x30000b8, 8, 0x10000, 64, 0, 1, 0xffffffffffffffff, 0, 0, 0, 0, 0, 0, 0, true, false, 0⟩
  | .mrqPViolations => ⟨0x30000c0, 8, 0x10000, 64, 0, 1, 0xffffffffffffffff, 0, 0, 0, 0, 0, 0, 0, true, false, 0⟩
  | .mrqPDuplicates => ⟨0x30000c8, 8, 0x10000, 64, 0, 1, 0xffffffffffffffff, 0, 0, 0, 0, 0, 0, 0, true, false, 0⟩
  | .mrqPHunts => ⟨0x30000d0, 8, 0x10000, 64, 0, 1, 0xffffffffffffffff, 0, 0, 0, 0, 0, 0, 0, true, false, 0⟩
  | .mrqPFecCorrected => ⟨0x30000d8, 8, 0x10000, 64, 0, 1, 0xffffffffffffffff, 0, 0, 0, 0, 0, 0, 0, true, false, 0⟩
  | .mrqPFecUncorrected => ⟨0x30000e0, 8, 0x10000, 64, 0, 1, 0xffffffffffffffff, 0, 0, 0, 0, 0, 0, 0, true, false, 0⟩
  | .mrqPCreditWaitNs => ⟨0x30000e8, 8, 0x10000, 64, 0, 1, 0xffffffffffffffff, 0, 0, 0, 0, 0, 0, 0, true, false, 0⟩
  | .mrqPRaRefused => ⟨0x30000f0, 8, 0x10000, 64, 0, 1, 0xffffffffffffffff, 0, 0, 0, 0, 0, 0, 0, true, false, 0⟩
  | .nwlHopMargin => ⟨0x3400000, 4, 0, 1, 0, 1, 0x3fff, 0x3fff, 0, 0, 0, 0, 0, 0, false, false, 50⟩
  | .nwlRooted => ⟨0x3400008, 8, 0, 1, 0, 1, 0xffffffffffffffff, 0, 0, 0, 0, 0, 0, 0, true, false, 0⟩
  | .nwlResultsSent => ⟨0x3400010, 8, 0, 1, 0, 1, 0xffffffffffffffff, 0, 0, 0, 0, 0, 0, 0, true, false, 0⟩
  | .nwlMerged => ⟨0x3400018, 8, 0, 1, 0, 1, 0xffffffffffffffff, 0, 0, 0, 0, 0, 0, 0, true, false, 0⟩
  | .nwlLateReceived => ⟨0x3400020, 8, 0, 1, 0, 1, 0xffffffffffffffff, 0, 0, 0, 0, 0, 0, 0, true, false, 0⟩
  | .nwlLateTold => ⟨0x3400028, 8, 0, 1, 0, 1, 0xffffffffffffffff, 0, 0, 0, 0, 0, 0, 0, true, false, 0⟩
  | .nwlNoticesSent => ⟨0x3400030, 8, 0, 1, 0, 1, 0xffffffffffffffff, 0, 0, 0, 0, 0, 0, 0, true, false, 0⟩
  | .nwlSealRefused => ⟨0x3400038, 8, 0, 1, 0, 1, 0xffffffffffffffff, 0, 0, 0, 0, 0, 0, 0, true, false, 0⟩
  | .nwlEpochRefused => ⟨0x3400040, 8, 0, 1, 0, 1, 0xffffffffffffffff, 0, 0, 0, 0, 0, 0, 0, true, false, 0⟩
  | .nwlReroutes => ⟨0x3400048, 8, 0, 1, 0, 1, 0xffffffffffffffff, 0, 0, 0, 0, 0, 0, 0, true, false, 0⟩
  | .nwlPartial => ⟨0x3400050, 8, 0, 1, 0, 1, 0xffffffffffffffff, 0, 0, 0, 0, 0, 0, 0, true, false, 0⟩
  | .nwlDuplicates => ⟨0x3400058, 8, 0, 1, 0, 1, 0xffffffffffffffff, 0, 0, 0, 0, 0, 0, 0, true, false, 0⟩
  | .nwlCreditWaitNs => ⟨0x3400060, 8, 0, 1, 0, 1, 0xffffffffffffffff, 0, 0, 0, 0, 0, 0, 0, true, false, 0⟩
  | .nwlOrphaned => ⟨0x3400068, 8, 0, 1, 0, 1, 0xffffffffffffffff, 0, 0, 0, 0, 0, 0, 0, true, false, 0⟩
  | .mrqDeviceIndex => ⟨0x3400080, 4, 0, 1, 0, 1, 0x80000fff, 0xfff, 0, 0, 0, 0, 0xfff, 0, false, false, 0⟩
  | .mrqLevelFloor => ⟨0x3400084, 4, 0, 1, 0, 1, 0xff, 0xff, 0, 0, 0, 0, 0xff, 0, false, false, 0⟩
  | .mrqLevelMax => ⟨0x3400088, 4, 0, 1, 0, 1, 0xff, 0, 0, 0, 0, 0, 0, 0, false, false, 0⟩
  | .mrqWinBase => ⟨0x3401000, 8, 0x20, 256, 0, 1, 0xffffffffffffffff, 0xffffffffffffffff, 0, 0, 0, 0, 0, 0, false, false, 0⟩
  | .mrqWinSize => ⟨0x3401008, 8, 0x20, 256, 0, 1, 0xffffffffffffffff, 0xffffffffffffffff, 0, 0, 0, 0, 0, 0, false, false, 0⟩
  | .mrqWinCommit => ⟨0x3401010, 8, 0x20, 256, 0, 1, 0xff870fff, 0xff870fff, 0, 0, 0, 0, 0, 0, false, false, 0⟩
  | .mrqWinHigh => ⟨0x3401018, 8, 0x20, 256, 0, 1, 0, 0, 0, 0, 0, 0, 0, 0, false, false, 0⟩
  | .prtStatus => ⟨0x3800000, 4, 0, 1, 0, 1, 0xff, 0, 0, 0, 0, 0, 0, 0, false, true, 0⟩
  | .prtMbxCtrl => ⟨0x3800004, 4, 0, 1, 0, 1, 1, 0, 0, 1, 0, 0, 0, 0, false, false, 0⟩
  | .prtMbxCmd => ⟨0x3800008, 4, 0, 1, 0, 1, 0xffffffff, 0xffffffff, 0, 0, 0, 0, 0xffffffff, 0, false, false, 0⟩
  | .prtMbxResp => ⟨0x380000c, 4, 0, 1, 0, 1, 0xffffffff, 0, 0, 0, 0, 0, 0, 0, false, false, 0⟩
  | .prtEvents => ⟨0x3800010, 4, 0, 1, 0, 1, 0x7f, 0, 0x7f, 0, 0, 0, 0, 0, false, false, 0⟩
  | .prtEventEn => ⟨0x3800014, 4, 0, 1, 0, 1, 0x7f, 0x7f, 0, 0, 0, 0, 0, 0, false, false, 0⟩
  | .prtVipolVer => ⟨0x3800018, 4, 0, 1, 0, 1, 0xffffffff, 0, 0, 0, 0, 0, 0, 0, false, true, 0⟩
  | .prtMicroVer => ⟨0x380001c, 4, 0, 1, 0, 1, 0xffffffff, 0, 0, 0, 0, 0, 0, 0, false, false, 0⟩
  | .prtSecver => ⟨0x3800020, 4, 0, 1, 0, 1, 0x3f3f, 0, 0, 0, 0, 0, 0, 0, false, true, 0⟩
  | .prtPower => ⟨0x3800024, 4, 0, 1, 0, 1, 0xffffffff, 0, 0, 0, 0, 0, 0, 0, false, false, 0⟩
  | .prtBoots => ⟨0x3800028, 8, 0, 1, 0, 1, 0xffffffffffffffff, 0, 0, 0, 0, 0, 0, 0, true, true, 0⟩
  | .prtWdtFires => ⟨0x3800030, 8, 0, 1, 0, 1, 0xffffffffffffffff, 0, 0, 0, 0, 0, 0, 0, true, true, 0⟩
  | .prtLogSeq => ⟨0x3800038, 8, 0, 1, 0, 1, 0xffffffffffffffff, 0, 0, 0, 0, 0, 0, 0, true, true, 0⟩
  | .timNow => ⟨0x3c00000, 8, 0, 1, 0, 1, 0xffffffffffffffff, 0, 0, 0, 0, 0, 0, 0, true, false, 0⟩
  | .timCtrl => ⟨0x3c00010, 4, 0, 1, 0, 1, 0x7f7f01, 0x7f7f01, 0, 0, 0, 0, 0, 0, false, false, 0⟩
  | .timSet => ⟨0x3c00018, 8, 0, 1, 0, 1, 0xffffffffffffffff, 0, 0, 0, 0, 0xffffffffffffffff, 0, 0, false, false, 0⟩
  | .timStatus => ⟨0x3c00020, 4, 0, 1, 0, 1, 0x3f, 0, 0, 0, 0, 0, 0, 0, false, false, 0⟩
  | .timOffsetNs => ⟨0x3c00024, 4, 0, 1, 0, 1, 0xffffffff, 0, 0, 0, 0, 0, 0, 0, false, false, 0⟩
  | .timEvents => ⟨0x3c00028, 4, 0, 1, 0, 1, 0xf, 0, 0xf, 0, 0, 0, 0, 0, false, false, 0⟩
  | .timEventEn => ⟨0x3c0002c, 4, 0, 1, 0, 1, 0xf, 0xf, 0, 0, 0, 0, 0, 0, false, false, 0⟩
  | .timUnsyncNs => ⟨0x3c00030, 8, 0, 1, 0, 1, 0xffffffffffffffff, 0, 0, 0, 0, 0, 0, 0, true, false, 0⟩
  | .timRefused => ⟨0x3c00038, 8, 0, 1, 0, 1, 0xffffffffffffffff, 0, 0, 0, 0, 0, 0, 0, true, false, 0⟩
  | .selColl => ⟨0x3c00100, 4, 0, 1, 0, 1, 0xfff, 0xfff, 0, 0, 0, 0, 0, 0, false, false, 0⟩
  | .selSeal => ⟨0x3c00110, 8, 8, 2, 0, 1, 0xffffffffffffffff, 0, 0, 0, 0, 0, 0, 0, true, false, 0⟩
  | .selMap => ⟨0x3c00200, 8, 0x20, 32, 8, 4, 0xffffffffffffffff, 0, 0, 0, 0, 0, 0, 0, true, false, 0⟩

/-- Registers of the map, part 0. -/
def regNames0 : List Reg := [
  .devId, .devStepping, .devBoot, .devResetCause, .devResetCtrl, .devUnitReset, .devSerial, .devVariant,
  .devLevels, .devVipolVer, .devMicroVer, .devUnitPresence, .devUnitFaulted, .pceMon, .pceLowThresh, .pceLowStatus,
  .pceSweepLimited, .pceCtrl, .vstFnStatus, .vstFnRefused, .vstFnCommands, .vstFnEventsLost, .vstSqBase, .vstSqCfg,
  .vstSqPasid, .vstSqHead, .vstSqStatus, .vstEqBase, .vstEqCfg, .vstEqPasid, .vstEqTail, .vstSqTail,
  .vstEqHead, .msixAddr, .msixData, .msixCtrl, .msixPending, .vstLink, .vstLinkDowns, .vstFlrs]

/-- Registers of the map, part 1. -/
def regNames1 : List Reg := [
  .vstBar2Discards, .wngGroup, .wngAdmMarginNs, .wngPfHostWeight, .wngW, .wngWQuota, .wngTCfg, .wngTDelay,
  .wngTServed, .wngTDelayed, .wngTQuota, .wngTOverload, .wngTDeadline, .wngTShed, .halStatus, .halTemp,
  .halEvents, .halEventEn, .halCeThresh, .halPinMarkThresh, .halScrubCfg, .halScrubPos, .halWcbCfg, .halWcbStatus,
  .halUeHead, .halUeTail, .halScrubPasses, .halCeTotal, .halUeTotal, .halUeLost, .halRepairDrops, .halWcbMerges,
  .halStep1Ns, .halStep2Ns, .halStep3Ns, .halPcCe, .halUeLog, .strCtrl, .strStatus, .strStage]

/-- Registers of the map, part 2. -/
def regNames2 : List Reg := [
  .strHead, .strLoopBays, .strRevNs, .strRevEstNs, .strRevCount, .strTreads, .strLanding, .strMaps,
  .strStallNs, .strSkipCount, .strEvents, .strEventEn, .trnPoolCtrl, .trnPoolFree, .trnSpillBase, .trnSpillSize,
  .trnSpillCount, .colCtrl, .colStatus, .colEvents, .colEventEn, .colSrfVer, .colRefused, .colRowSteps,
  .colInstr, .colEccCorrected, .qntCfg, .qntWide01, .qntWide23, .qntWide45, .qntWide67, .qntSat,
  .qntEsc, .qntNonfinite, .qntCount, .qntSse, .qntStatsClr, .qntStatus, .qntEvents, .qntEventEn]

/-- Registers of the map, part 3. -/
def regNames3 : List Reg := [
  .lntCoreCfg, .lntTickNs, .lntHorizonNs, .lntWindowNs, .lntPolicy, .lntStatus, .lntEvents, .lntEventEn,
  .lntEccUncorr, .lntInEvents, .lntSynops, .lntSpikes, .lntDropNeuron, .lntDropHit, .lntDropPut, .lntDropHost,
  .lntLate, .lntActions, .lntActionDrops, .lntWindowSeq, .lntWindowEnd, .lntCount, .ushCtrl, .ushStatus,
  .ushEntry, .ushContext, .ushFaultPc, .ushFaultAddr, .ushFaultCause, .ushExceptions, .ushInstr, .ushMemStallNs,
  .ushWaitNs, .ushMicroNs, .mznStatus, .mznEvents, .mznEventEn, .mznEccCorrected, .mznPoisoned, .mznHits]

/-- Registers of the map, part 4. -/
def regNames4 : List Reg := [
  .mznMisses, .mznSnoops, .mznOwnedPulls, .mznWritebacks, .mznNacks, .mznReservations, .mznResLapsed, .mznBusyWaitNs,
  .mznHostSnoops, .mznBiasFlips, .mznWingWays, .mznResHoldNs, .mznSlices, .ucrStatus, .ucrEvents, .ucrEventEn,
  .ucrUserBytes, .ucrUsedBytes, .ucrProgrammed, .ucrRated, .ucrWear, .ucrWCredits, .ucrWAutoUs, .ucrWState,
  .ucrWDurableSeq, .ucrWNextSeq, .ucrWRecoveredSeq, .ucrWCreditWaitNs, .ucrWQuota, .ucrWUsed, .mrqPCtrl, .mrqPState,
  .mrqPPartner, .mrqPRefusal, .mrqPQuar, .mrqPRaRate, .mrqPRetxNs, .mrqPDelayNs, .mrqPEvents, .mrqPEventEn]

/-- Registers of the map, part 5. -/
def regNames5 : List Reg := [
  .mrqPRaSubmit, .mrqPCredits, .mrqPTxSectors, .mrqPRxSectors, .mrqPRetx, .mrqPNaksSent, .mrqPHcrcFail, .mrqPPcrcFail,
  .mrqPAuthFail, .mrqPMalformed, .mrqPViolations, .mrqPDuplicates, .mrqPHunts, .mrqPFecCorrected, .mrqPFecUncorrected, .mrqPCreditWaitNs,
  .mrqPRaRefused, .nwlHopMargin, .nwlRooted, .nwlResultsSent, .nwlMerged, .nwlLateReceived, .nwlLateTold, .nwlNoticesSent,
  .nwlSealRefused, .nwlEpochRefused, .nwlReroutes, .nwlPartial, .nwlDuplicates, .nwlCreditWaitNs, .nwlOrphaned, .mrqDeviceIndex,
  .mrqLevelFloor, .mrqLevelMax, .mrqWinBase, .mrqWinSize, .mrqWinCommit, .mrqWinHigh, .prtStatus, .prtMbxCtrl]

/-- Registers of the map, part 6. -/
def regNames6 : List Reg := [
  .prtMbxCmd, .prtMbxResp, .prtEvents, .prtEventEn, .prtVipolVer, .prtMicroVer, .prtSecver, .prtPower,
  .prtBoots, .prtWdtFires, .prtLogSeq, .timNow, .timCtrl, .timSet, .timStatus, .timOffsetNs,
  .timEvents, .timEventEn, .timUnsyncNs, .timRefused, .selColl, .selSeal, .selMap]

/-- Every register of the map, in the order of R521. -/
def allRegs : List Reg := regNames0 ++ regNames1 ++ regNames2 ++ regNames3 ++ regNames4 ++ regNames5 ++ regNames6

/-- The BAR0 offset of a register's element. -/
def regOff (r : Reg) (i j : Nat) : Nat := (regSpec r).base + (regSpec r).stride * i + (regSpec r).stride2 * j

/-- The indices of the element of one dimension that an offset lies in, and what is left of the offset. -/
def dimIndex (stride count off : Nat) : Option (Nat × Nat) :=
  if stride = 0 then some (0, off) else if off / stride < count then some (off / stride, off % stride) else none

/-- The element of a register that holds a byte offset, with the offset of the byte inside it. -/
def regAtOff (r : Reg) (off : Nat) : Option (Reg × Nat × Nat × Nat) :=
  if off < (regSpec r).base then none
  else
    match dimIndex (regSpec r).stride (regSpec r).count (off - (regSpec r).base) with
    | none => none
    | some (i, o1) =>
      match dimIndex (regSpec r).stride2 (regSpec r).count2 o1 with
      | none => none
      | some (j, o2) => if o2 < (regSpec r).bytes then some (r, i, j, o2) else none

/-- The register that occupies an offset of the physical function's BAR0 (R521): none where no register lies. -/
def regDecode (off : Nat) : Option (Reg × Nat × Nat × Nat) := allRegs.findSome? fun r => regAtOff r off

end Sys2Proof.Machine
end

