-- ==== Sys2Proof/Machine/UsherTypes.lean ====
section
/-! DEFINITION. The Ushers' program contexts, the engines, and the queues of descriptors (R139 to R160, R283 to R351). -/

namespace Sys2Proof.Machine

/-- The state of a program context: USH_STATUS.STATE (R321). -/
inductive UState where
  | idle
  | running
  | waiting
  | stopped
  | faulted
  deriving DecidableEq, Repr

/-- An outstanding completion token (R333). -/
structure Token where
  value : Nat
  desc : Nat
  status : Option Nat
  deriving DecidableEq, Repr

/-- The program context of an Usher, and its instruction cache (R284, R286, R290). -/
structure Usher where
  st : UState
  /-- s1 to s31; s0 reads 0. -/
  s : Tbl W64
  /-- Vector registers as 256 bytes. -/
  v : Tbl (List Byte)
  /-- p1 to p7; p0 reads all ones. -/
  p : Tbl (BitVec 256)
  pc : W64
  xvec : W64
  xpc : W64
  xcause : W32
  xaddr : W64
  fpflags : Nat
  scratch : W64
  inHandler : Bool
  tokens : List Token
  /-- Issues counted (R333). -/
  issues : Nat
  /-- Lines of the instruction cache by line number, the oldest first (R290). -/
  icache : List (Nat × List Byte)
  /-- The host command that started the program (R369). -/
  cmd : Option Nat
  /-- When the timeout of the WAIT under way passes. -/
  until_ : Option Nat
  /-- When the WAIT under way began. -/
  waitFrom : Nat
  deriving DecidableEq, Repr

/-- A program context after a reset (R284, R322). -/
def resetUsher : Usher := ⟨.idle, [], [], [], 0, 0, 0, 0, 0, 0, 0, false, [], 0, [], none, none, 0⟩

/-- A tile (R142): tag 0 FP32, 1 INT32, 2 STATE; elements by 32 * row + column. -/
structure Tile where
  tag : Nat
  poison : Bool
  data : Tbl W32
  deriving DecidableEq, Repr

/-- The tile of a reset engine (R160). -/
def zeroTile : Tile := ⟨0, false, []⟩

/-- An engine beside its registers: Gallery, scale register file, and the entries of it that are uncorrectable (R152). -/
structure Engine where
  tiles : Tbl Tile
  srf : Tbl W16
  srfBad : List Nat
  deriving DecidableEq, Repr

/-- An engine after a reset (R160). -/
def resetEngine : Engine := ⟨[], [], []⟩

/-- Who issued a descriptor (R332). -/
inductive Issuer where
  | usher (u token : Nat)
  | command (id : Nat)
  | micro
  deriving DecidableEq, Repr

/-- A descriptor in a unit's queue, or accepted and not yet complete (R324 to R334). -/
structure Desc where
  id : Nat
  queue : Nat
  issuer : Issuer
  tenant : Nat
  wing : Nat
  bytes : List Byte
  /-- Its status and COUNT, once its outputs are complete. -/
  result : Option (Nat × Nat)
  deriving DecidableEq, Repr

/-- The queues of one unit (R325 to R328). -/
structure UnitQ where
  queued : List Desc
  accepted : List Desc
  /-- The queue of 0 to 2 that was served last. -/
  last : Nat
  /-- Descriptors taken from queue 3 in a row while another queue was not empty. -/
  run3 : Nat
  /-- Ushers that wait for room, in order of arrival, with the queue (R327). -/
  waiters : List (Nat × Nat)
  deriving DecidableEq, Repr

/-- A unit with nothing queued. -/
def idleUnit : UnitQ := ⟨[], [], 2, 0, []⟩

end Sys2Proof.Machine
end

