-- ==== Sys2Proof/Machine/VestibuleTypes.lean ====
section
/-! DEFINITION. The Vestibule's state: commands in flight, held event records, the fetch order, and host memory as the
device sees it (R352 to R383). -/

namespace Sys2Proof.Machine

/-- The three variants (R1). -/
inductive Variant where
  | d1600
  | d1600n
  | d1200
  deriving DecidableEq, Repr

/-- The kinds of unit whose presence DEV_UNIT_PRESENCE shows (R511). -/
inductive UnitKind where
  | hall
  | lantern
  | engine
  | port
  | usher
  | slice
  | group
  | undercroft
  deriving DecidableEq, Repr

/-- Host memory as the device sees it through ATS (R546): bytes, the pages without a translation for reading or for
writing, and the 64-byte lines whose reads come back poisoned (R354). -/
structure HostMem where
  mem : Tbl Byte
  noRead : List Nat
  noWrite : List Nat
  poison : List Nat
  deriving DecidableEq, Repr

/-- How a command ended: the fields of its COMPLETION record (R370, R373). -/
structure Done where
  status : Nat
  a : Nat
  b : Nat
  c : Nat
  d : Nat
  pace : Nat
  deriving DecidableEq, Repr

/-- A command fetched from a submission queue and not yet completed (R361, R363, R364). -/
structure Cmd where
  /-- The model's own number of the command, rising in fetch order. -/
  id : Nat
  /-- Function: 0 for the PF, t + 1 for the VF of tenant t. -/
  fn : Nat
  sq : Nat
  /-- The event queue bound when the entry was fetched. -/
  eq : Nat
  /-- The issuing tenant (R364); 255 for a PF-only command. -/
  tenant : Nat
  /-- The 64 bytes of the entry. -/
  entry : List Byte
  /-- The command has begun to take effect. -/
  started : Bool
  /-- A DELAYED record has been posted for it (R390, R470). -/
  delayed : Bool
  /-- Source bytes that it has read (R550). -/
  buf : List Byte
  /-- Its outcome, once it has one. -/
  done : Option Done
  deriving DecidableEq, Repr

/-- An event record before it is written: SQ_HEAD, TIME and PHASE are added when it is (R370). -/
structure EventRec where
  type : Nat
  sq : Nat
  status : Nat
  tag : Nat
  a : Nat
  b : Nat
  c : Nat
  d : Nat
  pace : Nat
  deriving DecidableEq, Repr

/-- A unit event on its way to the Porter (R280, R383, R398): the TYPE of the log record that it makes and its values. -/
structure UnitEvt where
  type : Nat
  fields : List Nat
  deriving DecidableEq, Repr

/-- The state of the Vestibule beside its registers. -/
structure Vst where
  /-- The virtual functions that SR-IOV has enabled (R353). -/
  numVfs : Nat
  /-- The PCIe link is up (R383, R505). -/
  linkUp : Bool
  /-- Commands in flight, in fetch order. -/
  inflight : List Cmd
  nextId : Nat
  /-- COMPLETION and DELAYED records held for a full event queue (R374), by function * 16 + queue. -/
  held : Tbl (List EventRec)
  /-- The submission queue whose turn it is, by function (R361). -/
  turn : Tbl Nat
  /-- Entries the queue has given in its turn, by function (R361). -/
  given : Tbl Nat
  /-- MSI-X vectors sent, in order, as (function, vector) (R375). -/
  nudges : List (Nat × Nat)
  /-- AER reports of poisoned host writes (R354). -/
  aer : Nat
  deriving DecidableEq, Repr

end Sys2Proof.Machine
end

