-- ==== Sys2Proof/Machine/State.lean ====
section
/-! DEFINITION. The state of the block: every register, buffer, queue, counter, mode and pin that the manual gives it, and
the queue of the commands that wait. -/

namespace Sys2Proof.Machine

/-- The reasons for which the block stops with a fault. -/
inductive Fault where
  /-- No command of this model faults. The constructor stands so that the type has a member. Safe. -/
  | none
  deriving DecidableEq, Repr

/-- The reasons for which the model gives a command no meaning. -/
inductive Refusal where
  /-- A command that this model has not reached. Raised by exec's arms alone. Safe. -/
  | notModelled (mnemonic : String)
  deriving DecidableEq, Repr

/-- The state of the block. -/
structure State where
  /-- The commands that wait, first in, first out. -/
  pending : List Instr
  /-- The counter of free values drawn: the model's own field, not the manual's (log entry 1). -/
  free : Nat
  /-- The variant fused into the module (R1). -/
  variant : Variant
  /-- Shared time in nanoseconds, TIM_NOW (R448, R456). -/
  now : Nat
  /-- The registers that hold a value of their own, by register key; an unlisted one holds its reset value. -/
  regs : Tbl W64
  /-- Staged values that wait for a Landing, by register key (R10, R48). -/
  staged : Tbl W64
  /-- Snapshot latches, by requester and register key (R14, R45). -/
  latch : Tbl W64
  /-- The value that the last register read answered: the model's own field. -/
  readData : W64
  /-- The LOW bit of a monitor may set again (R31), by monitor. -/
  paceArmed : Tbl Bool
  /-- Units that bring-up found failed, as the words of DEV_UNIT_PRESENCE (R511). -/
  failed : Tbl W64
  /-- The Porter's event FIFO, at most 1,024 entries, and the events that it dropped (R477). -/
  fifo : List UnitEvt
  fifoLost : Nat
  host : HostMem
  vst : Vst
  store : Store
  halls : Tbl Hall
  /-- Shard maps by MAP_ID (R441). -/
  maps : Tbl MapEnt
  ports : Tbl Port
  tim : Tim
  mzn : Mezz
  /-- Ushers by number. -/
  ushers : Tbl Usher
  /-- Engines by number. -/
  engines : Tbl Engine
  /-- Queues of units by class * 256 + instance (R324). -/
  units : Tbl UnitQ
  nextDesc : Nat
  /-- Lantern cores by number. -/
  cores : Tbl LCore
  cloister : Cloister
  porter : Porter
  oam : Module
  /-- The configuration record of wings and tenants in the Undercroft (R507). -/
  wingRecord : Option (Tbl W64)
  deriving DecidableEq, Repr

/-- The machine right after a cold reset that followed a power-on (R9, R458, R509): a D1600 as it ships, the Porter running and the main
rails up, the dies just out of reset, so that bring-up is still to come; wing 0 owns every hall group and has the whole Undercroft,
and every wing's journal awaits its recovery. -/
def State.reset : State :=
  { pending := [], free := 0, variant := .d1600, now := 0
    regs := [(regOff .devResetCause 0 0, 1), (regOff .wngWQuota 0 0, 0x1C0000000000)]
    staged := [], latch := [], readData := 0
    paceArmed := [], failed := [], fifo := [], fifoLost := 0, host := ⟨[], [], [], []⟩
    vst := ⟨0, false, [], 0, [], [], [], [], 0⟩
    store :=
      { colls := [], permits := [], nextVer := 0, nextUid := 1, queries := [], ended := [], nextCtx := 0, nextSeq := 0, newel := []
        rootSeq := 0, abandoned := [], compactions := []
        journals := (List.range 16).map fun w => (w, { resetJournal with recovering := true })
        power := ⟨0, none, 0, false⟩ }
    halls := [], maps := [], ports := [], tim := noTim, mzn := resetMezz, ushers := [], engines := [], units := [], nextDesc := 0, cores := []
    cloister := ⟨[], [], 0⟩, porter := resetPorter, oam := resetModule, wingRecord := none }

end Sys2Proof.Machine
end

