-- ==== Sys2Proof/Machine/Ops.lean ====
section
/-! DEFINITION. The named operations over registers, host memory, events and completions that every meaning shares. -/

namespace Sys2Proof.Machine

/-- What a meaning answers. -/
abbrev Out := Host.Outcome State Fault Refusal

/-! ### Status codes (R525) -/

abbrev stOk := 0x0000
abbrev stBadOpcode := 0x0101
abbrev stReservedSet := 0x0102
abbrev stBadField := 0x0103
abbrev stBadAlign := 0x0104
abbrev stUnitBusy := 0x0105
abbrev stNoSuchObject := 0x0106
abbrev stUnitAbsent := 0x0107
abbrev stDelayUnsupported := 0x0108
abbrev stEpochExhausted := 0x0109
abbrev stKeyConflict := 0x010A
abbrev stNoTranslation := 0x010B
abbrev stDelayed := 0x0201
abbrev stRefusedQuota := 0x0202
abbrev stRefusedOverload := 0x0203
abbrev stRefusedDeadline := 0x0204
abbrev stShedPriority := 0x0205
abbrev stRefusedSpace := 0x0206
abbrev stPartialShards := 0x0301
abbrev stPartialThermal := 0x0302
abbrev stCandidatesSpilled := 0x0303
abbrev stQuantSaturated := 0x0304
abbrev stBlocksMissing := 0x0305
abbrev stEcc := 0x0401
abbrev stUnitFault := 0x0402
abbrev stAbortedReset := 0x0403
abbrev stSealMismatch := 0x0501
abbrev stEpochMismatch := 0x0502
abbrev stPeerLost := 0x0503
abbrev stPeerReset := 0x0504
abbrev stLateDiscarded := 0x0505
abbrev stVersion := 0x0506
abbrev stNotDurable := 0x0601
abbrev stJournalFull := 0x0602
abbrev stAuthFailed := 0x0701
abbrev stWindow := 0x0702
abbrev stQuarantined := 0x0703

/-- The class of a status (R6). -/
def statusClass (st : Nat) : Nat := st / 256

/-! ### Registers -/

/-- The key of a register element: the function's number above the PF BAR0 offset. -/
def regKey (f : Nat) (r : Reg) (i j : Nat) : Nat := f * 2 ^ 32 + regOff r i j

/-- The value of a register after a cold reset (R9), where it depends on the element: the credits of R411 and the wing and
tenant settings of R458, R462 and R464. -/
def resetVal (r : Reg) (i j : Nat) : Nat :=
  match r with
  | .mrqPCredits => [8, 64, 128, 32, 64, 64, 16].getD j 0
  | .wngW => 2 ^ 16 + 16 * 2 ^ 24 + 1024 * 2 ^ 32
  | .wngTCfg =>
    if i < 128 then 16 * 2 ^ 8 + 16 * 2 ^ 16 + 1024 * 2 ^ 24 else (i - 128) + 2 ^ 4 + 16 * 2 ^ 8 + 1024 * 2 ^ 24
  | .wngTDelay => if i < 128 then 1000 else 0
  | .wngGroup => 16
  | r => (regSpec r).reset

/-- The value a register holds, its settings in effect; `f` is the function of a per-function register. -/
def getR (s : State) (r : Reg) (i : Nat := 0) (j : Nat := 0) (f : Nat := 0) : Nat :=
  (tget (fun _ => BitVec.ofNat 64 (resetVal r i j)) s.regs (regKey f r i j)).toNat

/-- Set the value a register holds, in its width. -/
def setR (s : State) (r : Reg) (v : Nat) (i : Nat := 0) (j : Nat := 0) (f : Nat := 0) : State :=
  { s with regs := tput s.regs (regKey f r i j) (BitVec.ofNat 64 (v % 2 ^ (8 * (regSpec r).bytes))) }

/-- Add to a counter, modulo its width (R42). -/
def addR (s : State) (r : Reg) (n : Nat) (i : Nat := 0) (j : Nat := 0) (f : Nat := 0) : State :=
  setR s r (getR s r i j f + n) i j f

/-- Add to a counter that holds at its maximum (R42). -/
def addSat (s : State) (r : Reg) (n : Nat) (i : Nat := 0) (j : Nat := 0) (f : Nat := 0) : State :=
  setR s r (min (getR s r i j f + n) (2 ^ (8 * (regSpec r).bytes) - 1)) i j f

/-- Bits `[lo + width - 1 : lo]` of a register. -/
def fieldR (s : State) (r : Reg) (lo width : Nat) (i : Nat := 0) (j : Nat := 0) (f : Nat := 0) : Nat :=
  bits (getR s r i j f) lo width

/-- Replace a field of a register. -/
def setField (s : State) (r : Reg) (lo width v : Nat) (i : Nat := 0) (j : Nat := 0) (f : Nat := 0) : State :=
  setR s r (getR s r i j f - fieldR s r lo width i j f * 2 ^ lo + v % 2 ^ width * 2 ^ lo) i j f

/-- The staged value of a register, if one waits for a Landing (R48). -/
def stagedR (s : State) (r : Reg) (i : Nat := 0) (j : Nat := 0) (f : Nat := 0) : Option Nat :=
  (s.staged.find? fun e => e.1 == regKey f r i j).map fun e => e.2.toNat

/-- Put a staged register into effect: what a Landing does to it (R11, R48). -/
def landR (s : State) (r : Reg) (i : Nat := 0) (j : Nat := 0) (f : Nat := 0) : State :=
  match stagedR s r i j f with
  | none => s
  | some v => { setR s r v i j f with staged := terase s.staged (regKey f r i j) }

/-- Hold a staged value until the unit's Landing; a later write replaces it (R11). -/
def stageR (s : State) (r : Reg) (v : Nat) (i : Nat := 0) (j : Nat := 0) (f : Nat := 0) : State :=
  { s with staged := tput s.staged (regKey f r i j) (BitVec.ofNat 64 v) }

/-! ### Presence, wings and tenants -/

/-- The word and bit of DEV_UNIT_PRESENCE that shows a unit (R511). -/
def presenceBit (k : UnitKind) (i : Nat) : Nat × Nat :=
  match k with
  | .hall => (0, i)
  | .lantern => (0, 16 + i)
  | .engine => (0, 32 + i)
  | .port => (1, i)
  | .usher => (2 + i / 64, i % 64)
  | .slice => (6, i)
  | .group => (6, 16 + i)
  | .undercroft => (6, 32)

/-- How many units of a kind the register map has room for. -/
def unitCount : UnitKind → Nat
  | .hall => 16
  | .lantern => 16
  | .engine => 32
  | .port => 64
  | .usher => 256
  | .slice => 16
  | .group => 16
  | .undercroft => 1

/-- The words of DEV_UNIT_PRESENCE by the variant fuses (R511). -/
def fuseWord (v : Variant) (n : Nat) : Nat :=
  match v, n with
  | .d1600, 0 => 0xFFFFFFFFFFFFFFFF
  | .d1600n, 0 => 0xFFFFFFFFFFFFFFFF
  | .d1200, 0 => 0x0FFF0FFF00003F3F
  | .d1200, 1 => 0x00FFFFFF00FFFFFF
  | _, 1 => 0xFFFFFFFFFFFFFFFF
  | .d1200, 2 => 0xFFFFFFFFFFFFFFFF
  | .d1200, 3 => 0x00000000FFFFFFFF
  | .d1200, 4 => 0xFFFFFFFFFFFFFFFF
  | .d1200, 5 => 0x00000000FFFFFFFF
  | .d1600, 6 => 0x00000001FFFFFFFF
  | .d1600n, 6 => 0x00000000FFFFFFFF
  | .d1200, 6 => 0x000000013F3F3F3F
  | _, 7 => 0
  | _, n => if n < 6 then 0xFFFFFFFFFFFFFFFF else 0

/-- A word of DEV_UNIT_PRESENCE: the fused units less those that failed bring-up (R511). -/
def presenceWord (s : State) (n : Nat) : Nat :=
  clearBits (fuseWord s.variant n) (tget (fun _ => 0) s.failed n).toNat

/-- A unit is present (R1, R511). -/
def present (s : State) (k : UnitKind) (i : Nat) : Bool :=
  decide (i < unitCount k) && bit (presenceWord s (presenceBit k i).1) (presenceBit k i).2

/-- A unit reports a fault until a unit reset passes (R510). -/
def faulted (s : State) (k : UnitKind) (i : Nat) : Bool :=
  bit (getR s .devUnitFaulted (presenceBit k i).1) (presenceBit k i).2

/-- Wings of the variant: 16, or 12 on the D1200 (R1, R457). -/
def wingCount (s : State) : Nat := match s.variant with | .d1200 => 12 | _ => 16

/-- A tenant exists while SR-IOV has enabled its VF (R353). -/
def tenantExists (s : State) (t : Nat) : Bool := decide (t < s.vst.numVfs)

/-- The wing of a tenant (R462). -/
def wingOf (s : State) (t : Nat) : Nat := fieldR s .wngTCfg 0 4 t

/-- The wing that owns a hall group, if one does (R457, R473). -/
def groupWing (s : State) (g : Nat) : Option Nat :=
  if present s .group g && bit (getR s .wngGroup g) 4 then some (fieldR s .wngGroup 0 4 g) else none

/-- A wing owns a hall group. -/
def ownsGroup (s : State) (w g : Nat) : Bool := groupWing s g == some w

/-! ### Host memory -/

/-- The 4 KiB page of an address. -/
def pageOf (a : Nat) : Nat := a / 4096

/-- Some page of a range lies in a list of pages. -/
def touchesPage (ps : List Nat) (a n : Nat) : Bool :=
  ps.any fun p => decide (n ≠ 0) && decide (p * 4096 < a + n) && decide (a < (p + 1) * 4096)

/-- Every page of a range has a translation for reading (R546). -/
def hostReadable (s : State) (a n : Nat) : Bool := !touchesPage s.host.noRead a n

/-- Every page of a range has a translation for writing (R546). -/
def hostWritable (s : State) (a n : Nat) : Bool := !touchesPage s.host.noWrite a n

/-- A read of a range meets poisoned data (R354). -/
def hostPoisoned (s : State) (a n : Nat) : Bool :=
  s.host.poison.any fun l => decide (n ≠ 0) && decide (l * 64 < a + n) && decide (a < (l + 1) * 64)

/-- One byte of host memory; a byte that nothing has written reads 0 (log entry 3). -/
def hostByte (s : State) (a : Nat) : Byte := tget (fun _ => 0) s.host.mem a

/-- `n` bytes of host memory. -/
def hostRead (s : State) (a : Nat) : Nat → List Byte
  | 0 => []
  | n + 1 => hostByte s a :: hostRead s (a + 1) n

/-- A little-endian number of `n` bytes in host memory (R4). -/
def hostNum (s : State) (a n : Nat) : Nat := ofLe ((hostRead s a n).map BitVec.toNat)

/-- Write bytes into a byte memory in which an unlisted byte reads 0. -/
def putBytes (m : Tbl Byte) (a : Nat) : List Byte → Tbl Byte
  | [] => m
  | b :: bs => putBytes (tset (fun _ => 0) m a b) (a + 1) bs

/-- Write bytes to host memory. -/
def hostPut (s : State) (a : Nat) (bs : List Byte) : State :=
  { s with host := { s.host with mem := putBytes s.host.mem a bs } }

/-- The bytes of a number, little-endian (R4). -/
def bytesOf (n x : Nat) : List Byte := (leBytes n x).map (BitVec.ofNat 8)

/-- The number that a run of a byte list spells: bytes `[lo + n - 1 : lo]` (R4). -/
def numAt (bs : List Byte) (lo n : Nat) : Nat := ofLe (((bs.drop lo).take n).map BitVec.toNat)

/-! ### Event records -/

/-- The ring size of an event queue. -/
def eqSize (s : State) (f e : Nat) : Nat := 2 ^ fieldR s .vstEqCfg 0 5 e 0 f

/-- An event queue is enabled (R378). -/
def eqEnabled (s : State) (f e : Nat) : Bool := bit (getR s .vstEqCfg e 0 f) 31

/-- An event queue is full: one slot short of its head (R374). -/
def eqFull (s : State) (f e : Nat) : Bool :=
  decide ((fieldR s .vstEqTail 0 16 e 0 f + 1) % eqSize s f e = fieldR s .vstEqHead 0 16 e 0 f)

/-- The records held for a full event queue (R374). -/
def heldOf (s : State) (f e : Nat) : List EventRec := tget (fun _ => []) s.vst.held (f * 16 + e)

/-- Replace the records held for an event queue. -/
def setHeld (s : State) (f e : Nat) (l : List EventRec) : State :=
  { s with vst := { s.vst with held := tset (fun _ => []) s.vst.held (f * 16 + e) l } }

/-- The 64 bytes of an event record (R370). -/
def recordBytes (r : EventRec) (sqHead time : Nat) (phase : Nat) : List Byte :=
  bytesOf 1 r.type ++ bytesOf 1 r.sq ++ bytesOf 2 r.status ++ bytesOf 2 sqHead ++ bytesOf 2 r.pace ++ bytesOf 8 r.tag ++
    bytesOf 8 r.a ++ bytesOf 8 r.b ++ bytesOf 8 r.c ++ bytesOf 8 r.d ++ bytesOf 8 time ++ bytesOf 7 0 ++ bytesOf 1 phase

/-- Count a dropped record (R374). -/
def dropRecord (s : State) (f : Nat) : State := addR s .vstFnEventsLost 1 0 0 f

/-- Send the queue's MSI-X vector if nudges are enabled and the queue is armed, and disarm it; a masked vector sets its
pending bit (R375). -/
def nudge (s : State) (f e : Nat) : State :=
  if bit (getR s .vstEqCfg e 0 f) 8 && bit (getR s .vstEqTail e 0 f) 17 then
    let s1 := setField s .vstEqTail 17 1 0 e 0 f
    if bit (getR s .msixCtrl e 0 f) 0 then setR s1 .msixPending (getR s1 .msixPending 0 0 f ||| 2 ^ e) 0 0 f
    else { s1 with vst := { s1.vst with nudges := s1.vst.nudges ++ [(f, e)] } }
  else s

/-- Write one record at the tail of an enabled queue that is not full, advance the tail, invert the phase when it wraps, and
nudge (R370, R371, R375). A record whose page has no translation is lost and counted (log entry 4). -/
def writeRecord (s : State) (f e : Nat) (r : EventRec) : State :=
  let tail := fieldR s .vstEqTail 0 16 e 0 f
  let phase := fieldR s .vstEqTail 16 1 e 0 f
  let a := getR s .vstEqBase e 0 f + 64 * tail
  let sqHead := if r.sq = 255 then 0 else getR s .vstSqHead r.sq 0 f
  if hostWritable s a 64 then
    let s1 := hostPut s a (recordBytes r sqHead s.now phase)
    let s2 := setField s1 .vstEqTail 0 16 ((tail + 1) % eqSize s f e) e 0 f
    let s3 := if tail + 1 = eqSize s f e then setField s2 .vstEqTail 16 1 (1 - phase) e 0 f else s2
    nudge s3 f e
  else dropRecord s f

/-- Post an event record to an event queue (R374): a disabled queue drops it and counts it; a full queue holds COMPLETION
and DELAYED records and drops the others. -/
def postRecord (s : State) (f e : Nat) (r : EventRec) : State :=
  if !eqEnabled s f e then dropRecord s f
  else if eqFull s f e || !(heldOf s f e).isEmpty then
    if r.type = 1 || r.type = 3 then setHeld s f e (heldOf s f e ++ [r]) else dropRecord s f
  else writeRecord s f e r

/-- Write held records in order while the queue has room (R374). -/
def releaseHeld (s : State) (f e : Nat) : Nat → State
  | 0 => s
  | n + 1 =>
    match heldOf s f e with
    | [] => s
    | r :: rs => if eqFull s f e then s else releaseHeld (writeRecord (setHeld s f e rs) f e r) f e n

/-- A record that answers no command: event queue 0 of a function, SQ 0xFF, TAG 0 (R370, R372). -/
def postEvent (s : State) (f type status a b c d : Nat) : State :=
  postRecord s f 0 ⟨type, 255, status, 0, a, b, c, d, 0⟩

/-- Set sticky bits of an events register: one update posts one UNIT record with the enabled bits that went from 0 to 1
(R528, R529). -/
def setSticky (s : State) (ev en : Reg) (m : Nat) (i : Nat := 0) : State :=
  let fresh := clearBits m (getR s ev i)
  let s1 := setR s ev (getR s ev i ||| m) i
  if fresh &&& getR s en i = 0 then s1 else postEvent s1 0 4 0 (regOff ev i 0) (fresh &&& getR s en i) 0 0

/-- The function that receives the ERROR record of a requester's write: the function itself, or for an Usher's program the
VF of the tenant in USH_CONTEXT (R8, R289). -/
def errorFn (s : State) : Requester → Nat
  | .fn f => f
  | .usher u => fieldR s .ushContext 0 7 u + 1

/-- Field C of the ERROR record (R372). -/
def errorSource : Requester → Nat
  | .fn _ => 0
  | .usher u => u + 1

/-- Discard a register write with a status: one ERROR record to event queue 0 (R8, R10, R356, R516). -/
def discardWrite (s : State) (who : Requester) (off value status : Nat) : State :=
  postEvent s (errorFn s who) 2 status off value (errorSource who) 0

/-! ### Commands in flight -/

/-- A command in flight by its number. -/
def findCmd (s : State) (id : Nat) : Option Cmd := s.vst.inflight.find? fun c => c.id == id

/-- Change a command in flight. -/
def modCmd (s : State) (id : Nat) (g : Cmd → Cmd) : State :=
  { s with vst := { s.vst with inflight := s.vst.inflight.map fun c => if c.id == id then g c else c } }

/-- A field of the entry: bytes `[lo + n - 1 : lo]` (R363). -/
def Cmd.num (c : Cmd) (lo n : Nat) : Nat := numAt c.entry lo n

/-- The host-level opcode (R363). -/
def Cmd.opcode (c : Cmd) : Nat := c.num 0 1

/-- FLAGS.BARRIER (R363). -/
def Cmd.barrier (c : Cmd) : Bool := bit (c.num 1 1) 0

/-- FLAGS.PRIO (R363). -/
def Cmd.prio (c : Cmd) : Nat := bits (c.num 1 1) 1 2

/-- TAG (R363). -/
def Cmd.tag (c : Cmd) : Nat := c.num 8 8

/-- End a command with its status and the fields of its completion record (R373). Its record is written by a step of its
own, after its result data is visible (R21). A command ends once. -/
def finish (s : State) (id status : Nat) (a b c d : Nat := 0) (pace : Nat := 0) : State :=
  modCmd s id fun x => { x with started := true, done := match x.done with | none => some ⟨status, a, b, c, d, pace⟩ | some d => some d }

/-- The command may start: fetched and unstarted, every earlier entry of its queue has started, and behind a barrier every
earlier one has completed (R361). In P2 only NOP and POWER_STATE may (R401). -/
def mayStart (s : State) (c : Cmd) : Bool :=
  !c.started && c.done.isNone && (decide (s.store.power.current < 2) || c.opcode == 0x00 || c.opcode == 0x60) &&
    s.vst.inflight.all fun x =>
      !(decide (x.fn = c.fn) && decide (x.sq = c.sq) && decide (x.id < c.id)) || (x.started && !c.barrier)

/-- Start a command in flight of a given opcode and give it its effect; without such a command nothing happens (log entry 5).
The effect is given the state in which the command is marked as started. -/
def withCmd (s : State) (id op : Nat) (k : Cmd → State → State) : State :=
  match findCmd s id with
  | none => s
  | some c => if c.opcode = op && mayStart s c then k c (modCmd s id fun x => { x with started := true }) else s

/-- Draw a free value: the counter advances (log entry 1). -/
def drawFree (s : State) : State := { s with free := s.free + 1 }

/-- The free value that the next draw takes (log entry 1). -/
def freeNow (s : State) : W64 := Config.freeValue s.free

end Sys2Proof.Machine
end

