-- ==== Sys2Proof/Machine/StoreOps.lean ====
section
/-! DEFINITION. Shared operations on collections, halls, hall memory in use and the journal's credits (R49 to R69, R389 to
R397). -/

namespace Sys2Proof.Machine

/-! ### Halls -/

/-- A hall of the device. -/
def getHall (s : State) (h : Nat) : Hall := tget (fun _ => resetHall) s.halls h

/-- Replace a hall. -/
def setHall (s : State) (h : Nat) (x : Hall) : State := { s with halls := tset (fun _ => resetHall) s.halls h x }

/-- A hall's Stair and Turnstile. -/
def stair (s : State) (h : Nat) : Stair := (getHall s h).stair

/-- A hall's controller. -/
def ctl (s : State) (h : Nat) : HallCtl := (getHall s h).ctl

/-- Change a hall's Stair. -/
def modStair (s : State) (h : Nat) (f : Stair → Stair) : State :=
  setHall s h { getHall s h with stair := f (stair s h) }

/-- Change a hall's controller. -/
def modCtl (s : State) (h : Nat) (f : HallCtl → HallCtl) : State :=
  setHall s h { getHall s h with ctl := f (ctl s h) }

/-- The halls that a 16-bit mask names, ascending. -/
def maskHalls (m : Nat) : List Nat := (List.range 16).filter fun h => bit m h

/-- The mask of the present halls. -/
def presentHalls (s : State) : Nat := ((List.range 16).filter fun h => present s .hall h).foldl (fun a h => a + 2 ^ h) 0

/-- The mask of the halls that a wing owns (R457). -/
def wingHalls (s : State) (w : Nat) : Nat :=
  ((List.range 16).filter fun h => present s .hall h && ownsGroup s w h).foldl (fun a h => a + 2 ^ h) 0

/-- The mask of the engines that a wing owns: engines 2g and 2g + 1 of each of its groups (R17, R457). -/
def wingEngines (s : State) (w : Nat) : Nat :=
  ((List.range 32).filter fun e => present s .engine e && ownsGroup s w (e / 2)).foldl (fun a e => a + 2 ^ e) 0

/-- Note whether a pause or a full spill ring holds the head, and add a hold that has ended to STR_STALL_NS (R86, R90, R95). -/
def noteStall (s : State) (h : Nat) : State :=
  let t := stair s h
  let held := t.running && (!bit (getR s .strCtrl h) 0 || t.ringHeld)
  match t.stallSince with
  | none => if held then modStair s h fun t => { t with stallSince := some s.now } else s
  | some b => if held then s else modStair (addR s .strStallNs (s.now - b) h) h fun t => { t with stallSince := none }

/-- A hall is halted (R277). -/
def halted (s : State) (h : Nat) : Bool := bit (getR s .halStatus h) 2

/-- The thermal step of a hall, 3 while halted (R277). -/
def thermalStep (s : State) (h : Nat) : Nat := fieldR s .halStatus 0 2 h

/-! ### Collections -/

/-- The epoch of a free or live stamp's open end (R51). -/
abbrev noEpoch := 0xFFFFFFFF

/-- A free slot (R51). -/
def freeSlot : Slot := ⟨noEpoch, 0, 0, 0, []⟩

/-- A collection by COLL_ID; none while the number is unused. -/
def collOf (s : State) (c : Nat) : Option Coll := tget (fun _ => none) s.store.colls c

/-- Set a collection. -/
def setColl (s : State) (c : Nat) (x : Option Coll) : State :=
  { s with store := { s.store with colls := tset (fun _ => none) s.store.colls c x } }

/-- Change a collection that exists. -/
def modColl (s : State) (c : Nat) (f : Coll → Coll) : State :=
  match collOf s c with
  | none => s
  | some x => setColl s c (some (f x))

/-- The code width W (R49). -/
def Coll.width (c : Coll) : Nat := 64 * (c.wCode + 1)

/-- Swept bytes of a bay (R53). -/
def Coll.bayBytes (c : Coll) : Nat := 8 * c.width + 512

/-- Bytes of one rerank vector (R53). -/
def Coll.vecBytes (c : Coll) : Nat := if c.denseDim = 0 then 0 else 64 * ((c.denseDim / 2 + 2 + 63) / 64)

/-- Bytes that a bay takes in hall memory: swept bytes, ID plane, vectors, directory (R54). -/
def Coll.bayCost (c : Coll) : Nat := c.bayBytes + 512 + 64 * c.vecBytes + if c.directory then 1024 else 0

/-- The key of a slot: its locator's low 34 bits (R52). -/
def slotKey (h i : Nat) : Nat := h * 2 ^ 30 + i

/-- A record slot. -/
def Coll.slot (c : Coll) (h i : Nat) : Slot := tget (fun _ => freeSlot) c.slots (slotKey h i)

/-- Set a record slot. -/
def Coll.setSlot (c : Coll) (h i : Nat) (x : Slot) : Coll :=
  { c with slots := tset (fun _ => freeSlot) c.slots (slotKey h i) x }

/-- The locator of a record (R52). -/
def locator (coll h i : Nat) : Nat := coll * 2 ^ 34 + h * 2 ^ 30 + i

/-- A slot is free (R51). -/
def Slot.free (x : Slot) : Bool := decide (x.ins = noEpoch) && decide (x.del = 0)

/-- A record is live (R51). -/
def Slot.live (x : Slot) : Bool := decide (x.ins ≠ noEpoch) && decide (x.del = noEpoch)

/-- A record is visible at a view epoch (R61). -/
def Slot.visible (x : Slot) (v : Nat) : Bool := decide (x.ins ≤ v) && decide (v < x.del)

/-- Bays of a collection's segment in a hall that are in the loop (R55). -/
def segBays (s : State) (c h : Nat) : Nat :=
  (((stair s h).extents.filter fun x => x.coll == c).map Extent.bays).sum

/-- Bays whose removal is accepted and waits for the hall's Landing (R56). -/
def pendingRemoval (s : State) (c h : Nat) : Nat :=
  ((stair s h).changes.map fun x =>
    match x with
    | .remove _ k n => if k = c then n else 0
    | .add _ _ _ => 0
    | .destroy k => if k = c then segBays s c h else 0).sum

/-- Bays added and not yet in the loop (R56). -/
def pendingAdd (s : State) (c h : Nat) : Nat :=
  ((stair s h).changes.map fun x => match x with | .add _ k n => if k = c then n else 0 | _ => 0).sum

/-- The queries that hold a view epoch of a collection (R60). -/
def heldViews (s : State) (c : Nat) : List Nat :=
  s.store.queries.filterMap fun q => if q.coll = c && !q.released then q.view else none

/-- The low-water epoch: the lowest held view epoch, or the current epoch (R63). -/
def lowWater (s : State) (c : Nat) : Nat :=
  match collOf s c with
  | none => 0
  | some x => (heldViews s c).foldl min x.epoch

/-- A deleted slot that no query on the device can see (R63). -/
def reclaimable (low : Nat) (x : Slot) : Bool := decide (x.ins ≠ noEpoch) && decide (x.del ≤ low)

/-- Find the extent and bay of a segment's local bay number (R55). -/
def locateBay : List Extent → Nat → Option (Nat × Nat)
  | [], _ => none
  | x :: xs, b => if b < x.bays then some (x.uid, b) else locateBay xs (b - x.bays)

/-- The extents of one collection in a hall, in table order. -/
def collExtents (s : State) (c h : Nat) : List Extent := (stair s h).extents.filter fun x => x.coll == c

/-- A slot's code, stamp, ID or vector line is held in the hall's bad-line table (R547). -/
def slotBad (s : State) (c h i : Nat) (x : Coll) : Bool :=
  let cb := x.width / 8
  let j := i % 64
  let place := locateBay (collExtents s c h) (i / 64)
  (ctl s h).badLines.any fun l =>
    match l with
    | .swept u b n =>
      decide (place = some (u, b)) &&
        ((decide (j * cb < (n + 1) * 64) && decide (n * 64 < (j + 1) * cb)) || decide (n = 8 * x.width / 64 + j / 8))
    | .ids k n => decide (k = c) && decide (n = i / 8)
    | .vec k m _ => decide (k = c) && decide (m = i)
    | _ => false

/-- A slot that an insert or a move may take: free or reclaimable, not chosen, on good lines, in a bay that stays in the loop
(R56, R64, R389, R547). -/
def slotAvail (s : State) (c : Nat) (x : Coll) (h i : Nat) : Bool :=
  decide (i < 64 * (segBays s c h - pendingRemoval s c h)) &&
    ((x.slot h i).free || reclaimable (lowWater s c) (x.slot h i)) &&
      !x.chosen.contains (slotKey h i) && !slotBad s c h i x

/-- How many slots of a hall an insert may take. -/
def availCount (s : State) (c : Nat) (x : Coll) (h : Nat) : Nat :=
  ((List.range (64 * segBays s c h)).filter fun i => slotAvail s c x h i).length

/-- The hall that has the most slots to take, the lowest number on a tie (R64). -/
def bestHall (s : State) (c : Nat) (x : Coll) : Option Nat :=
  (maskHalls x.halls).foldl
    (fun b h =>
      match b with
      | none => if availCount s c x h = 0 then none else some h
      | some g => if availCount s c x g < availCount s c x h then some h else some g) none

/-- Choose the slots of `n` new records, in entry order (R64); none when they cannot all be placed. -/
def chooseSlots (s : State) (c : Nat) (x : Coll) : Nat → Option (List (Nat × Nat))
  | 0 => some []
  | n + 1 =>
    match bestHall s c x with
    | none => none
    | some h =>
      match (List.range (64 * segBays s c h)).find? fun i => slotAvail s c x h i with
      | none => none
      | some i =>
        match chooseSlots s c { x with chosen := slotKey h i :: x.chosen } n with
        | none => none
        | some l => some ((h, i) :: l)

/-- Live records of a collection (R49). -/
def liveRecords (x : Coll) : Nat := (x.slots.filter fun e => e.2.live).length

/-- Deleted records whose slots have not been reused or freed (R49). -/
def deletedRecords (x : Coll) : Nat := (x.slots.filter fun e => !e.2.live && !e.2.free).length

/-- Bays of a collection summed over its halls (R49). -/
def occupiedBays (s : State) (c : Nat) : Nat := ((List.range 16).map fun h => segBays s c h).sum

/-- A query on the collection is aboard or waiting, or a store, compaction or rebase command on it is in flight (R50). -/
def collRuns (s : State) (c : Nat) : Bool :=
  (s.store.queries.any fun q => decide (q.coll = c) && !q.released) ||
    (match collOf s c with
     | none => false
     | some x => !x.writers.isEmpty || decide (x.rebase ≠ .idle) || !x.rebaseCmds.isEmpty) ||
    s.store.compactions.any fun k => decide (k.coll = c)

/-! ### The shared-prefix store's share of hall memory (R185, R186) -/

/-- D of a namespace: KV_HEADS × HEAD_DIM (R180). -/
def Ns.dim (n : Ns) : Nat := n.kvHeads * n.headDim

/-- ESCAPE of QUANT (R180). -/
def Ns.escape (n : Ns) : Bool := bit n.quant 1

/-- Bytes of one layer segment (R185). -/
def Ns.segBytes (n : Ns) : Nat :=
  256 * n.dim + 1024 + (if n.escape then 32768 * ((n.dim + 255) / 256) else 0) + if n.wideCount = 0 then 0 else 8192

/-- Bytes of a block: its layers' segments (R185). -/
def Ns.blockBytes (n : Ns) : Nat := n.layers * n.segBytes

/-- Bytes of a block's record (R185). -/
abbrev blockRecord := 1088

/-- A block holds hall memory: its segments are there, on their way out, or on their way in (R193). -/
def BlockSt.inHall : BlockSt → Bool
  | .hall => true
  | .copying => true
  | .flash => false
  | .promoting => true

/-- The namespace of an owner and an NS_ID (R182). -/
def findNs (s : State) (owner id : Nat) : Option Ns := s.cloister.nss.find? fun n => n.owner == owner && n.nsId == id

/-- Bytes that a block's segments take in a hall: layer l lies in the hall numbered l mod nh (R186). -/
def Ns.hallShare (n : Ns) (h : Nat) : Nat :=
  let hs := maskHalls n.halls
  ((List.range n.layers).filter fun l => hs.getD (l % max 1 hs.length) 16 = h).length * n.segBytes

/-- Bytes that the namespaces' blocks and block records take in a hall (R185, R186). -/
def cloisterUsed (s : State) (h : Nat) : Nat :=
  (s.cloister.blocks.map fun b =>
    match findNs s b.owner b.nsId with
    | none => 0
    | some n => (if b.st.inHall then n.hallShare h else 0) + if (maskHalls n.halls).head? = some h then blockRecord else 0).sum

/-! ### Hall memory in use -/

/-- Bytes of hall memory that segments, permit maps, pending additions and blocks take (R54, R57, R186). -/
def hallUsed (s : State) (h : Nat) : Nat :=
  (s.store.colls.map fun e =>
    match e.2 with
    | none => 0
    | some x => (segBays s e.1 h + pendingAdd s e.1 h) * x.bayCost).sum +
  (s.store.permits.map fun e =>
    match e.2 with
    | none => 0
    | some v => ((tget (fun _ => (0, 0)) v.halls h).2 / 8 + 63) / 64 * 64).sum + cloisterUsed s h

/-- The bytes of a hall that the allocator may use (R54, R263). -/
def hallCapacity (s : State) : Nat := match s.variant with | .d1600n => 51271172096 | _ => 51002736640

/-! ### Journal -/

/-- The journal of a wing. -/
def journal (s : State) (w : Nat) : Journal := tget (fun _ => resetJournal) s.store.journals w

/-- Change a wing's journal. -/
def modJournal (s : State) (w : Nat) (f : Journal → Journal) : State :=
  { s with store := { s.store with journals := tset (fun _ => resetJournal) s.store.journals w (f (journal s w)) } }

/-- The device stages and commits (R400). -/
def hasUndercroft (s : State) : Bool := present s .undercroft 0

/-- The Undercroft's HEALTH (R398). -/
def health (s : State) : Nat := fieldR s .ucrStatus 0 2

/-- Credits of a wing in use (R390). -/
def creditsUsed (s : State) (w : Nat) : Nat := 
  (journal s w).uncovered + (journal s w).covered + ((journal s w).granted.map Prod.snd).sum

/-- Credits that staged bytes take (R390); none on the D1600-N (R400). -/
def creditsFor (s : State) (bytes : Nat) : Nat := if hasUndercroft s then (bytes + 16383) / 16384 else 0

/-- The state of a wing's collections and extents, as a commit's cut covers it (R391). -/
def imageOf (s : State) (w : Nat) : Image :=
  { colls := s.store.colls.filter fun e => match e.2 with | none => false | some x => decide (x.wing = w)
    extents := ((List.range 16).filter fun h => ownsGroup s w h).map fun h => (h, (stair s h).extents)
    nss := s.cloister.nss.filter fun n => decide (n.wing = w)
    blocks := s.cloister.blocks.filter fun b => b.flash && s.cloister.nss.any fun n => n.owner == b.owner && n.nsId == b.nsId && n.wing == w
    permits := s.store.permits.filter fun e =>
      e.2.any fun v => v.current && (collOf s v.coll).any fun x => decide (x.wing = w) }

/-- The journal data of a command can never be held: it exceeds the wing's limit or its quota (R387, R397). -/
def journalFull (s : State) (w need : Nat) : Bool :=
  hasUndercroft s && (decide (getR s .ucrWCredits w < need) || decide (getR s .wngWQuota w < getR s .ucrWUsed w + 16384 * need))

/-- The quota is what the data exceeds (R397). -/
def quotaFull (s : State) (w need : Nat) : Bool :=
  hasUndercroft s && decide (getR s .wngWQuota w < getR s .ucrWUsed w + 16384 * need)

/-- Begin a commit of a wing with its cut (R391): what is staged is covered and the sequence number rises by one. -/
def beginCommit (s : State) (w : Nat) : State :=
  modJournal s w fun j =>
    { j with running := true, seq := j.seq + 1, covered := j.covered + j.uncovered, uncovered := 0, dirty := false,
             lastStart := s.now, cutImage := imageOf s w, again := false }

/-- A would-be commit of a wing: it begins, or, with the Undercroft READ_ONLY or FAILED, frees the credits with nothing made
durable (R391, R398). -/
def tryCommit (s : State) (w : Nat) : State :=
  if health s < 2 then beginCommit s w else modJournal s w fun j => { j with uncovered := 0, dirty := false, lastStart := s.now }

/-- The automatic commit that half the credit limit in use brings about (R391). -/
def commitAtHalf (s : State) (w : Nat) : State :=
  if hasUndercroft s && !(journal s w).running && decide (0 < (journal s w).uncovered) &&
      decide (getR s .ucrWCredits w ≤ 2 * creditsUsed s w) then tryCommit s w
  else s

/-- Stage data: take credits of the wing, which the next cut covers (R389, R390). Credits granted to the command earlier
are spent. -/
def stageCredits (s : State) (w id n : Nat) : State :=
  if hasUndercroft s then
    modJournal s w fun j =>
      { j with uncovered := j.uncovered + n, dirty := true, granted := j.granted.filter fun g => g.1 ≠ id }
  else s

/-- The credits are free now, and no earlier command of the wing waits (R390). -/
def creditsFree (s : State) (w id n : Nat) : Bool :=
  !hasUndercroft s || (journal s w).granted.any (fun g => g.1 == id) || (decide (creditsUsed s w + n ≤ getR s .ucrWCredits w) && (journal s w).waiters.isEmpty)

/-- JSEQ of a command that completes now: the commit that will cover it; 0 on the D1600-N (R388, R400). -/
def jseq (s : State) (w : Nat) : Nat := if hasUndercroft s then (journal s w).seq + 1 else 0

/-- A command starts to wait for credits (R390): CREDIT_STALL sets. -/
def waitCredits (s : State) (w id n : Nat) : State :=
  setSticky (modJournal s w fun j => { j with waiters := j.waiters ++ [(id, n, s.now)] }) .ucrEvents .ucrEventEn 8

/-! ### Wear and health (R398, R399) -/

/-- The rated program volume in bytes (R399). -/
def ratedBytes (s : State) : Nat := match s.variant with | .d1200 => 52500000000000000 | _ => 105000000000000000

/-- WEAR_PCT of a number of bytes programmed (R399). -/
def wearPct (s : State) (n : Nat) : Nat := min 255 (n * 100 / ratedBytes s)

/-- The Undercroft's HEALTH rises (R398). Entering READ_ONLY or FAILED abandons the running commits: their credits are freed
and the FLUSHes that wait complete with 0x0601; in FAILED, FLASH-only blocks are deleted. -/
def enterHealth (s : State) (h : Nat) : State :=
  if h ≤ health s then s
  else
    let s1 := setField s .ucrStatus 0 2 h
    let s2 := setSticky s1 .ucrEvents .ucrEventEn 1
    let s3 := { s2 with fifo := if s2.fifo.length < 1024 then s2.fifo ++ [⟨0x40, [health s, h, fieldR s .ucrWear 0 8, fieldR s .ucrWear 8 8]⟩] else s2.fifo
                        fifoLost := if s2.fifo.length < 1024 then s2.fifoLost else s2.fifoLost + 1 }
    if h < 2 then s3
    else
      (List.range 16).foldl
        (fun t w =>
          let j := journal t w
          let epochOf := fun id =>
            match findCmd t id with
            | none => 0
            | some c => if c.num 16 2 = 0xFFFF then 0 else match collOf t (c.num 16 2) with | some x => x.epoch | none => 0
          let t1 := j.flushes.foldl (fun u f => finish u f.cmd stNotDurable 0 0 (getR u .ucrWDurableSeq w) (epochOf f.cmd)) t
          if j.running || !j.flushes.isEmpty then
            modJournal t1 w fun k => { k with running := false, covered := 0, flushes := [], again := false }
          else t1)
        (if h = 3 then { s3 with cloister := { s3.cloister with blocks := s3.cloister.blocks.filter fun b => b.st != .flash && b.st != .promoting } }
         else s3)

/-- Bytes are programmed: UCR_PROGRAMMED and WEAR_PCT follow, and HEALTH becomes WARN at 90% (R398, R399). -/
def programmed (s : State) (n : Nat) : State :=
  let s1 := addR s .ucrProgrammed n
  let s2 := setField s1 .ucrWear 0 8 (wearPct s1 (getR s1 .ucrProgrammed))
  if 90 ≤ fieldR s2 .ucrWear 0 8 then enterHealth s2 1 else s2

end Sys2Proof.Machine
end

