-- ==== Sys2Proof/Machine/Access.lean ====
section
/-! DEFINITION. Addresses in device and host memory, and the checks of a command entry in the order of R331 and R365. -/

namespace Sys2Proof.Machine

/-! ### Memory by address (R225) -/

/-- The address names host memory. -/
def isHostAddr (a : Nat) : Bool := bit a 63

/-- The host address that an operand names: bits [62:0] (R225, log entry 6). -/
def hostOf (a : Nat) : Nat := a % 2 ^ 63

/-- The hall of a device address. -/
def addrHall (a : Nat) : Nat := bits a 36 4

/-- The offset of a device address in its hall. -/
def addrOff (a : Nat) : Nat := a % 2 ^ 36

/-- The end of the hall offsets that software may be granted (R457). -/
def grantEnd (s : State) : Nat := match s.variant with | .d1600n => 0xC00000000 | _ => 0xBF0000000

/-- A range of device addresses lies in one hall, below the grant's end. -/
def inHall (s : State) (a n : Nat) : Bool :=
  decide (a < 2 ^ 40) && decide (addrOff a + n ≤ grantEnd s) && present s .hall (addrHall a)

/-- A range lies in memory granted to a wing (R457); host memory needs no grant. -/
def grantedTo (s : State) (w a n : Nat) : Bool :=
  isHostAddr a || (inHall s a n && ownsGroup s w (addrHall a))

/-- One byte of hall memory; a byte that nothing has written reads 0 (log entry 3). -/
def hallByte (s : State) (h o : Nat) : Byte := tget (fun _ => 0) (ctl s h).mem o

/-- `n` bytes of hall memory. -/
def hallRead (s : State) (h o : Nat) : Nat → List Byte
  | 0 => []
  | n + 1 => hallByte s h o :: hallRead s h (o + 1) n

/-- Write bytes to hall memory. -/
def hallPut (s : State) (h o : Nat) (bs : List Byte) : State :=
  modCtl s h fun c => { c with mem := putBytes c.mem o bs }

/-- A byte memory is in its one canonical form: addresses rise strictly, and no entry is what an unlisted byte reads as. -/
def Memory.wf (m : Tbl Byte) : Bool := twf (fun _ => 0) m

/-- Host memory and every hall's memory are in canonical form. -/
def memoryWf (s : State) : Bool := Memory.wf s.host.mem && s.halls.all fun e => Memory.wf e.2.ctl.mem

/-- A range of a hall meets a line of its bad-line table (R270). -/
def hallBad (s : State) (h o n : Nat) : Bool :=
  (ctl s h).badLines.any fun l =>
    match l with
    | .phys k => decide (n ≠ 0) && decide (k * 64 < o + n) && decide (o < (k + 1) * 64)
    | _ => false

/-! ### Lines as their homes see them (R225 to R239) -/

/-- A line number names host memory: its address has bit 63 set. -/
def hostLine (l : Nat) : Bool := bit l 57

/-- The hall of a line of device memory. -/
def lineHall (l : Nat) : Nat := bits l 30 4

/-- The line's number in its hall. -/
def lineOff (l : Nat) : Nat := l % 2 ^ 30

/-- The line lies in a STREAM page: the spill region of its hall (R226, R263, log entry 10). -/
def isStream (l : Nat) : Bool := !hostLine l && decide (0xBE0000000 ≤ lineOff l * 64) && decide (lineOff l * 64 < 0xBF0000000)

/-- The line lies in a page of device memory under host bias (R252). -/
def hostBias (s : State) (l : Nat) : Bool := !hostLine l && s.mzn.bias.contains (l / 64)

/-- The present slices, ascending (R227). -/
def presentSlices (s : State) : List Nat := (List.range 16).filter fun i => present s .slice i

/-- The home slice of a line (R227). -/
def homeSlice (s : State) (l : Nat) : Nat :=
  if isStream l then lineHall l
  else (presentSlices s).getD (l % 2 ^ 57 / 64 % max 1 (presentSlices s).length) 0

/-- What the home records of a line. -/
def lineRec (s : State) (l : Nat) : LineRec := tget (fun _ => noRec) s.mzn.recs l

/-- The array's copy of a line. -/
def arrayLine (s : State) (l : Nat) : Option ArrLine := tget (fun _ => none) s.mzn.array l

/-- The key of a line in an agent's cache. -/
def cacheKey (agent l : Nat) : Nat := agent * 2 ^ 58 + l

/-- A line in an agent's cache. -/
def cacheLine (s : State) (agent l : Nat) : Option CLine := tget (fun _ => none) s.mzn.caches (cacheKey agent l)

/-- A line in an agent's writeback buffer. -/
def wbLine (s : State) (agent l : Nat) : Option WbLine := tget (fun _ => none) s.mzn.wbuf (cacheKey agent l)

/-- The agent that the home records as owner, X or O (R234). -/
def ownerOf (r : LineRec) : Option Nat := (r.holders.find? fun e => e.2 != .s).map Prod.fst

/-- The copy that an agent answers a snoop with: its cache's, or its writeback buffer's (R239). -/
def agentCopy (s : State) (agent l : Nat) : Option (List Byte × Bool) :=
  match cacheLine s agent l with
  | some c => some (c.data, c.poison)
  | none => (wbLine s agent l).map fun w => (w.data, w.poison)

/-- The memory copy of a line and the failure that its reader meets: the array's copy, or hall memory's (R228, R256, R270,
R278), or the host's (R354). -/
def memCopy (s : State) (l : Nat) : List Byte × Nat :=
  if hostLine l then
    (hostRead s (l % 2 ^ 57 * 64) 64, if hostPoisoned s (l % 2 ^ 57 * 64) 64 then stEcc else 0)
  else
    match arrayLine s l with
    | some a => (a.data, if a.poison then stEcc else 0)
    | none =>
      (hallRead s (lineHall l) (lineOff l * 64) 64,
        if halted s (lineHall l) then stUnitFault else if hallBad s (lineHall l) (lineOff l * 64) 64 then stEcc else 0)

/-- The value of a line and the failure that its reader meets: the owner's copy, or the memory copy (R234, RD_NC). -/
def lineValue (s : State) (l : Nat) : List Byte × Nat :=
  match ownerOf (lineRec s l) with
  | none => memCopy s l
  | some a =>
    match agentCopy s a l with
    | some (d, p) => (d, if p then stEcc else 0)
    | none => memCopy s l

/-- The lines that a range of addresses touches. -/
def linesOf (a n : Nat) : List Nat := if n = 0 then [] else (List.range ((a + n - 1) / 64 - a / 64 + 1)).map fun i => a / 64 + i

/-- Read bytes of device or host memory: what RD_NC of each line answers. -/
def memRead (s : State) (a n : Nat) : List Byte :=
  (((linesOf a n).flatMap fun l => (lineValue s l).1).drop (a % 64)).take n

/-- A little-endian number in device or host memory. -/
def memNum (s : State) (a n : Nat) : Nat := ofLe ((memRead s a n).map BitVec.toNat)

/-- The first failure that a read of a range meets. -/
def readFail (s : State) (a n : Nat) : Option Nat :=
  (linesOf a n).findSome? fun l => if (lineValue s l).2 = 0 then none else some (lineValue s l).2

/-- The range may be read, as far as translation goes (R331 step 8). -/
def mayRead (s : State) (a n : Nat) : Bool := !isHostAddr a || hostReadable s (hostOf a) n

/-- The range may be written, as far as translation goes (R331 step 8). -/
def mayWrite (s : State) (a n : Nat) : Bool := !isHostAddr a || hostWritable s (hostOf a) n

/-! ### Checks of an entry (R331, R365, R550) -/

/-- The first failure of a list of checks in order. -/
def firstFail : List (Bool × Nat) → Option Nat
  | [] => none
  | (b, st) :: t => if b then some st else firstFail t

/-- Who may issue an opcode (R366). -/
inductive IssuedBy where
  | anyone
  | tenant
  | pf
  deriving DecidableEq, Repr

/-- A byte of the entry, or of a buffer, that no field names holds something other than 0. -/
def unnamedSet (bs : List Byte) (named : List (Nat × Nat)) : Bool :=
  ((List.range bs.length).zip bs).any fun e =>
    decide (e.2 ≠ 0) && !(named.any fun f => decide (f.1 ≤ e.1) && decide (e.1 < f.1 + f.2))

/-- The reserved bytes of an entry (R363): those that the header and the operands do not name, FLAGS[7:3], and TENANT in an
entry of a VF. -/
def entryReserved (c : Cmd) (named : List (Nat × Nat)) : Bool :=
  unnamedSet c.entry ([(0, 3), (8, 8)] ++ named) || decide (8 ≤ c.num 1 1) || (decide (c.fn ≠ 0) && decide (c.num 2 1 ≠ 0))

/-- The checks of TENANT in step 5 (R353, R365). -/
def tenantChecks (s : State) (c : Cmd) (by_ : IssuedBy) : List (Bool × Nat) :=
  let t := c.num 2 1
  if c.fn ≠ 0 then []
  else
    match by_ with
    | .pf => [(t ≠ 255, stBadField)]
    | .tenant => [(decide (128 ≤ t), stBadField), (!tenantExists s t, stNoSuchObject)]
    | .anyone => [(decide (128 ≤ t) && decide (t ≠ 255), stBadField), (decide (t ≠ 255) && !tenantExists s t, stNoSuchObject)]

/-- The lists of checks that one opcode adds to the steps of R331. -/
structure EntryChecks where
  named : List (Nat × Nat) := []
  absent : List (Bool × Nat) := []
  busy : List (Bool × Nat) := []
  reserved : List (Bool × Nat) := []
  fields : List (Bool × Nat) := []
  align : List (Bool × Nat) := []
  window : List (Bool × Nat) := []
  trans : List (Bool × Nat) := []

/-- The status of the first check that an entry fails, in the order of R331 with the additions of R365. -/
def entryFail (s : State) (c : Cmd) (by_ : IssuedBy) (k : EntryChecks) : Option Nat :=
  firstFail (k.absent ++ k.busy ++ [(decide (by_ = .pf) && decide (c.fn ≠ 0), stBadOpcode), (entryReserved c k.named, stReservedSet)] ++
    k.reserved ++ tenantChecks s c by_ ++ k.fields ++ k.align ++ k.window ++ k.trans)

/-- The wing of a command's issuing tenant. -/
def cmdWing (s : State) (c : Cmd) : Nat := wingOf s c.tenant

/-- An address breaks 64-byte alignment. -/
def misaligned (a : Nat) : Bool := a % 64 ≠ 0

/-- Answer a command with a status, or go on with what is left to do. -/
def orElse (s : State) (c : Cmd) (f : Option Nat) (go : State) : State :=
  match f with
  | some st => finish s c.id st
  | none => go

/-- The collection exists and the command's tenant may use it (R50, R366, R549). -/
def usable (s : State) (c : Cmd) (coll : Nat) : Bool :=
  match collOf s coll with
  | none => false
  | some x => decide (x.wing = cmdWing s c) && x.closing.isNone

/-- Take credits for a metadata change and apply it, or wait for them, or refuse it (R389, R390). -/
def stageOrWait (s : State) (w id bytes : Nat) (apply : State → State) : State :=
  let n := creditsFor s bytes
  if journalFull s w n then
    finish (if quotaFull s w n then setSticky s .ucrEvents .ucrEventEn 16 else s) id stJournalFull
  else if creditsFree s w id n then commitAtHalf (apply (stageCredits s w id n)) w
  else waitCredits s w id n

end Sys2Proof.Machine
end

