-- ==== Sys2Proof/Machine/Sensors.lean ====
section
/-! DEFINITION. The Porter's sensors: samples and PLDM threshold events (R478, R488). -/

namespace Sys2Proof.Machine

/-- The default thresholds in thousandths: upper warning, critical and fatal (R488). -/
def defaultThresholds (s : State) (i : Nat) : List Int :=
  if i < 64 then [95000, 105000, 110000]
  else if i < 80 then [85000, 95000, 105000]
  else if i = 160 then [1000 * (s.porter.policy.capW - 50 : Nat), 1000 * (s.porter.policy.capW : Nat)]
  else []

/-- The thresholds of a sensor: those that SetSensorThresholds stored, or the defaults. -/
def thresholdsOf (s : State) (i : Nat) : List Int :=
  match s.porter.thresholds.find? fun e => e.1 == i with
  | some e => e.2
  | none => defaultThresholds s i

/-- The settings of a sensor after a Porter start: enabled, with events. -/
def freshSensor (_ : Nat) : PldmSensor := ⟨true, true, 0⟩

/-- The settings of a sensor. -/
def pldmSensor (s : State) (i : Nat) : PldmSensor := tget freshSensor s.porter.sensors i

/-- Change the settings of a sensor. -/
def modSensor (s : State) (i : Nat) (f : PldmSensor → PldmSensor) : State :=
  { s with porter := { s.porter with sensors := tmod freshSensor s.porter.sensors i f } }

/-- A platform event is sent to the receiver, or queued for polling where none is set (R488). -/
def platformEvent (s : State) (e : PldmEvent) : State :=
  { s with porter :=
    match s.porter.receiver with
    | some r => { s.porter with pldmSent := s.porter.pldmSent ++ [(r, e)] }
    | none => { s.porter with pldmQueue := s.porter.pldmQueue ++ [e] } }

/-- A reading crosses thresholds: an event for an enabled sensor (R488). -/
def crossThresholds (s : State) (i : Nat) (milli : Int) : State :=
  let x := pldmSensor s i
  let level := ((thresholdsOf s i).filter fun t => decide (t ≤ milli)).length
  if s.porter.state != .running || !x.enabled || level = x.level then s
  else
    let s1 := modSensor s i fun y => { y with level := level }
    if x.events then platformEvent s1 ⟨i, x.level, level, milli⟩ else s1

/-- The last sample of a sensor: a value in milli-units and the shared time (R478, R500). -/
def noteSample (s : State) (i : Nat) (milli : Int) : State :=
  crossThresholds { s with porter := { s.porter with samples := tset (fun _ => none) s.porter.samples i (some (milli, s.now)) } } i milli

end Sys2Proof.Machine
end

