-- ==== Sys2Proof/Machine/HallOps.lean ====
section
/-! DEFINITION. Reads of hall memory lines, their errors and their repair (R264 to R273, R280, R281). -/

namespace Sys2Proof.Machine

/-- A unit event enters the Porter's FIFO of 1,024 entries, or is dropped and counted (R477). -/
def porterEvt (s : State) (type : Nat) (fields : List Nat) : State :=
  if s.fifo.length < 1024 then { s with fifo := s.fifo ++ [⟨type, fields⟩] } else { s with fifoLost := s.fifoLost + 1 }

/-- Set bits of HAL_EVENTS; the Porter receives every hall event (R280). -/
def hallEvent (s : State) (h m pc pin : Nat) : State :=
  porterEvt (setSticky s .halEvents .halEventEn m h) 0x20 [h, m, getR s .halTemp h, thermalStep s h, pc, pin]

/-- The pseudo-channel of a line: offset bits [13:8] (R262). The place of a line in a structure is the device's own choice,
so its pseudo-channel is a free value (log entries 1 and 7). -/
def linePc (s : State) : LineAt → Nat
  | .phys n => n / 4 % 64
  | _ => (freeNow s).toNat % 64

/-- The offset of a line, or a free value where the device chooses it (log entries 1 and 7). -/
def lineOffset (s : State) : LineAt → Nat
  | .phys n => n * 64
  | _ => (freeNow s).toNat / 64 * 64

/-- The marked pin of a pseudo-channel (R266). -/
def markedPin (s : State) (h pc : Nat) : Option Nat :=
  if bit (getR s .halPcCe h pc) 30 then some (fieldR s .halPcCe 24 6 h pc) else none

/-- How a line decodes (R265). -/
inductive LineRead where
  | clean
  | corrected (pins : List Nat) (wrong : Bool)
  | bad
  deriving DecidableEq, Repr

/-- The decoder (R265): up to two symbols are corrected without a mark, one beside the marked pin; more are detected, or
miscorrected where the pattern is missed. -/
def decodeLine (mark : Option Nat) (e : LineErr) : LineRead :=
  let others := e.pins.filter fun p => mark ≠ some p
  match mark with
  | none =>
    if e.pins.isEmpty then .clean
    else if e.pins.length ≤ 2 then .corrected e.pins false
    else if e.missed then .corrected e.pins true else .bad
  | some _ =>
    if others.isEmpty then .clean
    else if others.length ≤ 1 then .corrected e.pins false
    else if others.length = 2 then .bad
    else if e.missed then .corrected e.pins true else .bad

/-- Write an entry of the UE log, or count it as lost (R273). -/
def logUe (s : State) (h : Nat) (l : LineAt) (src : Nat) : State :=
  let hd := fieldR s .halUeHead 0 8 h
  let s1 := addR s .halUeTotal 1 h
  let s2 :=
    if (hd + 1) % 256 = fieldR s .halUeTail 0 8 h then addR s1 .halUeLost 1 h
    else
      let a := setR s1 .halUeLog (lineOffset s l) h (4 * hd)
      let b := setR a .halUeLog s.now h (4 * hd + 1)
      let c := setR b .halUeLog (src + 256 * linePc s l) h (4 * hd + 2)
      setR (setR c .halUeLog 0 h (4 * hd + 3)) .halUeHead ((hd + 1) % 256) h
  porterEvt (hallEvent s2 h 2 (linePc s l) 0) 0x21 [h, lineOffset s l, s.now, src, linePc s l]

/-- A line is in the bad-line table. -/
def lineHeld (s : State) (h : Nat) (l : LineAt) : Bool := (ctl s h).badLines.contains l

/-- A line read as uncorrectable enters the bad-line table and the UE log; a line already held does neither (R270, R271). -/
def enterBad (s : State) (h : Nat) (l : LineAt) (src : Nat) : State :=
  if lineHeld s h l then s
  else
    let s1 := if (ctl s h).badLines.length < 1024 then modCtl s h fun c => { c with badLines := c.badLines ++ [l] } else s
    drawFree (logUe s1 h l src)

/-- A full-line write takes a line out of the bad-line table (R270). -/
def clearBad (s : State) (h : Nat) (l : LineAt) : State :=
  if lineHeld s h l then modCtl s h fun c => { c with badLines := c.badLines.filter fun x => x ≠ l } else s

/-- Free bytes (log entry 1). -/
def freeBytes (k n : Nat) : List Byte := (List.range n).map fun i => Config.freeByte k i

/-- The slot with fresh values in the part that one of its lines held (log entry 1). -/
def scramble (k w : Nat) (x : Slot) (stamp : Bool) : Slot :=
  if stamp then { x with ins := bits (Config.freeValue k).toNat 0 32, del := bits (Config.freeValue k).toNat 32 32 }
  else { x with code := ofLe (nums' (freeBytes k (w / 8))) }
where nums' (bs : List Byte) : List Nat := bs.map BitVec.toNat

/-- A miscorrected line holds wrong data from now on (R265): free values take the place of what it held. -/
def corruptLine (s : State) (h : Nat) (l : LineAt) : State :=
  let k := s.free
  let s1 := drawFree s
  match l with
  | .phys n => hallPut s1 h (64 * n) (freeBytes k 64)
  | .swept uid bay n =>
    match (stair s h).extents.find? fun x => x.uid == uid with
    | none => s1
    | some e =>
      modColl s1 e.coll fun x =>
        let before := (((collExtents s e.coll h).takeWhile fun y => y.uid ≠ uid).map Extent.bays).sum
        let g := fun p : Nat × Slot =>
          let i := p.1 - slotKey h 0
          let j := i % 64
          let cb := x.width / 8
          if p.1 / 2 ^ 30 = h ∧ i / 64 = before + bay then
            if n = x.width / 8 + j / 8 then (p.1, scramble (k + j) x.width p.2 true)
            else if j * cb < (n + 1) * 64 ∧ n * 64 < (j + 1) * cb then (p.1, scramble (k + j) x.width p.2 false)
            else p
          else p
        { x with slots := x.slots.map g }
  | .ids c n =>
    modColl s1 c fun x =>
      let g := fun p : Nat × Slot =>
        if p.1 / 2 ^ 30 = h ∧ p.1 % 2 ^ 30 / 8 = n then (p.1, { p.2 with item := (Config.freeValue (k + p.1 % 8)).toNat }) else p
      { x with slots := x.slots.map g }
  | .vec c m _ =>
    modColl s1 c fun x =>
      let g := fun p : Nat × Slot => if p.1 = slotKey h m then (p.1, { p.2 with vec := freeBytes k x.vecBytes }) else p
      { x with slots := x.slots.map g }
  | .permit _ _ => s1
  | .dir _ _ => s1

/-- Count a corrected read, and queue the line's repair (R269, R281). -/
def countCorrected (s : State) (h : Nat) (l : LineAt) (pins : List Nat) : State :=
  let pc := linePc s l
  let n := min (fieldR s .halPcCe 0 16 h pc + 1) 0xFFFF
  let s1 := setField (setField (addR s .halCeTotal 1 h) .halPcCe 0 16 n h pc) .halPcCe 16 6 (pins.getLast?.getD 0) h pc
  let s2 := if n = getR s .halCeThresh h && decide (fieldR s .halPcCe 0 16 h pc ≠ n) then hallEvent s1 h 1 pc 0 else s1
  if (ctl s h).repairs.length < 64 then modCtl s2 h fun c => { c with repairs := c.repairs ++ [l] }
  else hallEvent (addR s2 .halRepairDrops 1 h) h 512 pc 0

/-- Read one line: the state after it, and whether its reader sees a failure (R265, R269, R270). -/
def readLine (s : State) (h : Nat) (l : LineAt) (src : Nat) (e : LineErr) : State × Bool :=
  if lineHeld s h l then (s, true)
  else
    match decodeLine (markedPin s h (linePc s l)) e with
    | .clean => (s, false)
    | .corrected pins wrong =>
      let s1 := countCorrected s h l pins
      (drawFree (if wrong then corruptLine s1 h l else s1), false)
    | .bad => (enterBad s h l src, true)

end Sys2Proof.Machine
end

