-- ==== Sys2Proof/Machine/Float.lean ====
section
/-! DEFINITION. Floating-point arithmetic as the manual uses it: values held exactly, and one rounding to a format
(R149, R163, R172, R304). -/

namespace Sys2Proof.Machine

/-- A floating-point datum: a NaN, an infinity, or the exact value `m * 2^e` with a sign. -/
inductive FP where
  | nan
  | inf (neg : Bool)
  | fin (neg : Bool) (m : Nat) (e : Int)
  deriving DecidableEq, Repr

/-- A format: significand bits with the hidden one, the exponent of the last place of a subnormal, the exponent bits, and
whether it holds infinities (E4M3 does not, and its one NaN magnitude is all ones). -/
structure Fmt where
  p : Nat
  lsb : Int
  ebits : Nat
  infs : Bool
  deriving DecidableEq, Repr

/-- IEEE 754 binary16. -/
def fp16 : Fmt := ⟨11, -24, 5, true⟩
/-- BF16. -/
def bf16 : Fmt := ⟨8, -133, 8, true⟩
/-- IEEE 754 binary32. -/
def fp32 : Fmt := ⟨24, -149, 8, true⟩
/-- IEEE 754 binary64. -/
def fp64 : Fmt := ⟨53, -1074, 11, true⟩
/-- E4M3 with largest finite value 448 (R172). -/
def e4m3 : Fmt := ⟨4, -9, 4, false⟩
/-- E5M2 with largest finite value 57,344 (R172). -/
def e5m2 : Fmt := ⟨3, -16, 5, true⟩

/-- How a value between two neighbours rounds. -/
inductive Round where
  | nearestEven
  | nearestAway
  | up
  | down
  | zero
  deriving DecidableEq, Repr

/-- Bits of an encoding. -/
def Fmt.width (f : Fmt) : Nat := f.p + f.ebits

/-- The significand and the last-place exponent of the largest finite value. -/
def Fmt.maxFin (f : Fmt) : Nat × Int :=
  if f.infs then (2 ^ f.p - 1, f.lsb + 2 ^ f.ebits - 3) else (2 ^ f.p - 2, f.lsb + 2 ^ f.ebits - 2)

/-- `m * 2^a` reaches past `n * 2^b`. -/
def mantGt (m : Nat) (a : Int) (n : Nat) (b : Int) : Bool :=
  if a ≤ b then decide (n * 2 ^ (b - a).toNat < m) else decide (n < m * 2 ^ (a - b).toNat)

/-- Drop `sh` low bits of a magnitude by a rounding mode. -/
def roundShift (r : Round) (neg : Bool) (m sh : Nat) : Nat :=
  let q := m / 2 ^ sh
  let rem := m % 2 ^ sh
  let up :=
    match r with
    | .nearestEven => decide (2 ^ sh < 2 * rem) || (decide (2 * rem = 2 ^ sh) && q % 2 == 1)
    | .nearestAway => decide (2 ^ sh ≤ 2 * rem)
    | .up => !neg && decide (rem ≠ 0)
    | .down => neg && decide (rem ≠ 0)
    | .zero => false
  if sh = 0 then m else if up then q + 1 else q

/-- A rounded magnitude that passed a power of two is brought back to `p` bits. -/
def renorm (p m : Nat) (e : Int) : Nat × Int := if m = 2 ^ p then (2 ^ (p - 1), e + 1) else (m, e)

/-- Round the exact value `m * 2^e` to a format with gradual underflow. A value that would round past the largest finite one
becomes an infinity, or stays at the largest where a directed mode forbids to leave it. -/
def roundMag (f : Fmt) (r : Round) (neg : Bool) (m : Nat) (e : Int) : FP :=
  if m = 0 then .fin neg 0 f.lsb
  else
    let t := max (e + Nat.log2 m - (f.p - 1)) f.lsb
    let x := if t ≤ e then renorm f.p (m * 2 ^ (e - t).toNat) t else renorm f.p (roundShift r neg m (t - e).toNat) t
    if mantGt x.1 x.2 f.maxFin.1 f.maxFin.2 then
      match r, neg with
      | .zero, _ => .fin neg f.maxFin.1 f.maxFin.2
      | .up, true => .fin neg f.maxFin.1 f.maxFin.2
      | .down, false => .fin neg f.maxFin.1 f.maxFin.2
      | _, _ => .inf neg
    else if x.1 = 0 then .fin neg 0 f.lsb
    else .fin neg x.1 x.2

/-- Round a datum to a format. -/
def FP.round (f : Fmt) (r : Round) : FP → FP
  | .nan => .nan
  | .inf n => .inf n
  | .fin n m e => roundMag f r n m e

/-- IEEE 754 rounding to nearest, ties to even. -/
def FP.near (f : Fmt) (x : FP) : FP := x.round f .nearestEven

/-- The encoding of a datum that is exact in a format; a NaN is the format's default one. -/
def FP.enc (f : Fmt) (x : FP) : Nat :=
  let s := fun n : Bool => if n then 2 ^ (f.width - 1) else 0
  let ones := (2 ^ f.ebits - 1) * 2 ^ (f.p - 1)
  match x with
  | .nan => if f.infs then (if f.width = 8 then 0x7F else ones + 2 ^ (f.p - 2)) else 0x7F
  | .inf n => s n + (if f.infs then ones else 0x7E)
  | .fin n m e =>
    match roundMag f .nearestEven n m e with
    | .fin _ m e => s n + (if m < 2 ^ (f.p - 1) then m else (e - f.lsb + 1).toNat * 2 ^ (f.p - 1) + (m - 2 ^ (f.p - 1)))
    | _ => s n + ones

/-- The datum that an encoding stands for. -/
def Fmt.dec (f : Fmt) (b : Nat) : FP :=
  let n := bit b (f.width - 1)
  let ex := bits b (f.p - 1) f.ebits
  let fr := b % 2 ^ (f.p - 1)
  if ex = 2 ^ f.ebits - 1 && f.infs then (if fr = 0 then .inf n else .nan)
  else if !f.infs && decide (ex = 2 ^ f.ebits - 1) && decide (fr = 2 ^ (f.p - 1) - 1) then .nan
  else if ex = 0 then .fin n fr f.lsb
  else .fin n (2 ^ (f.p - 1) + fr) (f.lsb + ex - 1)

namespace FP

/-- Not a NaN and not an infinity. -/
def finite : FP → Bool
  | fin _ _ _ => true
  | _ => false

/-- A NaN. -/
def isNan : FP → Bool
  | nan => true
  | _ => false

/-- A zero of either sign. -/
def isZero : FP → Bool
  | fin _ m _ => decide (m = 0)
  | _ => false

/-- The sign bit; a NaN has none. -/
def sign : FP → Bool
  | nan => false
  | inf n => n
  | fin n _ _ => n

/-- The value without its sign. -/
def abs : FP → FP
  | nan => nan
  | inf _ => inf false
  | fin _ m e => fin false m e

/-- The value with its sign turned. -/
def neg : FP → FP
  | nan => nan
  | inf n => inf !n
  | fin n m e => fin (!n) m e

/-- The signed significand of a finite value, scaled to a last place at or below its own. -/
def scaled (n : Bool) (m : Nat) (e t : Int) : Int :=
  let v : Int := (m * 2 ^ (e - t).toNat : Nat)
  if n then -v else v

/-- The exact sum. A zero sum of finite values is +0 unless both are negative. -/
def add : FP → FP → FP
  | nan, _ => nan
  | _, nan => nan
  | inf a, inf b => if a = b then inf a else nan
  | inf a, fin _ _ _ => inf a
  | fin _ _ _, inf b => inf b
  | fin a m e, fin b n g =>
    let t := min e g
    let v := scaled a m e t + scaled b n g t
    if v = 0 then fin (a && b) 0 t else fin (decide (v < 0)) v.natAbs t

/-- The exact product. -/
def mul : FP → FP → FP
  | nan, _ => nan
  | _, nan => nan
  | inf a, inf b => inf (a != b)
  | inf a, fin b m _ => if m = 0 then nan else inf (a != b)
  | fin a m _, inf b => if m = 0 then nan else inf (a != b)
  | fin a m e, fin b n g => fin (a != b) (m * n) (e + g)

/-- The exact difference. -/
def sub (x y : FP) : FP := add x (neg y)

/-- The quotient rounded to a format, to nearest even. -/
def div (f : Fmt) : FP → FP → FP
  | nan, _ => nan
  | _, nan => nan
  | inf _, inf _ => nan
  | inf a, fin b _ _ => inf (a != b)
  | fin a _ _, inf b => fin (a != b) 0 f.lsb
  | fin a m e, fin b n g =>
    if n = 0 then (if m = 0 then nan else inf (a != b))
    else
      let k := f.p + 3 + Nat.log2 n
      let q := m * 2 ^ k / n
      let sticky := if m * 2 ^ k % n = 0 then 0 else 1
      roundMag f .nearestEven (a != b) (2 * q + sticky) (e - g - k - 1)

/-- The integer square root, bit by bit from bit `k` down. -/
def isqrt (x : Nat) : Nat → Nat → Nat
  | 0, r => if (r + 1) * (r + 1) ≤ x then r + 1 else r
  | k + 1, r => let c := r + 2 ^ (k + 1); isqrt x k (if c * c ≤ x then c else r)

/-- The square root rounded to a format, to nearest even. -/
def sqrt (f : Fmt) : FP → FP
  | nan => nan
  | inf n => if n then nan else inf false
  | fin n m e =>
    if m = 0 then fin n 0 e
    else if n then nan
    else
      let k := 2 * (f.p + 2) + (if e % 2 = 0 then 0 else 1)
      let x := m * 2 ^ k
      let r := isqrt x (Nat.log2 x / 2 + 1) 0
      let sticky := if r * r = x then 0 else 1
      roundMag f .nearestEven false (2 * r + sticky) ((e - k) / 2 - 1)

/-- The two values are ordered and the first is below the second. -/
def lt : FP → FP → Bool
  | nan, _ => false
  | _, nan => false
  | inf a, inf b => a && !b
  | inf a, fin _ _ _ => a
  | fin _ _ _, inf b => !b
  | fin a m e, fin b n g => let t := min e g; decide (scaled a m e t < scaled b n g t)

/-- The two values are equal; zeros of either sign are, NaNs are not. -/
def eq : FP → FP → Bool
  | nan, _ => false
  | _, nan => false
  | inf a, inf b => a == b
  | fin a m e, fin b n g => let t := min e g; decide (scaled a m e t = scaled b n g t)
  | _, _ => false

/-- Below or equal. -/
def le (x y : FP) : Bool := lt x y || eq x y

/-- The integer a finite value rounds to; none for a NaN or an infinity. -/
def toInt (r : Round) : FP → Option Int
  | fin n m e =>
    let v := if e ≥ 0 then m * 2 ^ e.toNat else roundShift r n m (-e).toNat
    some (if n then -(v : Int) else v)
  | _ => none

/-- The value of an integer. -/
def ofInt (x : Int) : FP := fin (decide (x < 0)) x.natAbs 0

end FP

end Sys2Proof.Machine
end

