-- ==== Sys2Proof/Machine/Bell4.lean ====
section
/-! DEFINITION. The Bell-4 grid and the quantisation of rerank vectors (R161 to R168, R177). -/

namespace Sys2Proof.Machine

/-- The eight magnitudes in 256ths (R161). -/
def bellMag : Nat → Nat
  | 0 => 0
  | 1 => 28
  | 2 => 57
  | 3 => 88
  | 4 => 122
  | 5 => 161
  | 6 => 206
  | _ => 256

/-- The midpoint between magnitude `i` and the next, in 512ths (R161). -/
def bellMid (i : Nat) : Nat := bellMag i + bellMag (i + 1)

/-- A finite value lies beyond, or with `orAt` at, a number of 512ths in magnitude. -/
def beyond512 (x : FP) (n : Nat) (orAt : Bool) : Bool :=
  match x with
  | .fin _ m e =>
    let l := m * 512 * 2 ^ e.toNat
    let r := n * 2 ^ (-e).toNat
    if orAt then decide (r ≤ l) else decide (r < l)
  | .inf _ => true
  | .nan => false

/-- The index of the nearest magnitude of a value with |y| ≤ 1; at a midpoint AWAY takes the higher index and NEAREST_EVEN
the even one (R167). -/
def bellIndex (away : Bool) (y : FP) : Nat :=
  ((List.range 7).filter fun i => beyond512 y (bellMid i) (away || i % 2 == 1)).length

/-- The code of a value with |y| ≤ 1: index 0 is written without a sign (R162, R167). -/
def bellCode (away : Bool) (y : FP) : Nat :=
  let i := bellIndex away y
  if i = 0 then 0 else i + if y.sign then 8 else 0

/-- The signed magnitude of a code; 0b1000 reads as zero (R162). -/
def bellValue (code : Nat) : FP := .fin (decide (8 ≤ code) && decide (code ≠ 8)) (bellMag (code % 8)) (-8)

/-- Two codes to a byte, the lower-numbered channel in bits [3:0] (R140). -/
def packCodes : List Nat → List Nat
  | a :: b :: t => (a + 16 * b) :: packCodes t
  | [a] => [a]
  | [] => []

/-- The largest finite BF16 (R177). -/
def bf16Max : FP := .fin false 255 120

/-- The element divided by its channel scale (R163). -/
def channelQuot (x cs : Nat) : FP := FP.div fp32 (bf16.dec x) (fp16.dec cs)

/-- The rerank element may be quantised: its quotient is finite and no larger than the largest finite BF16 (R177). -/
def rerankOk (x cs : Nat) : Bool :=
  let a := channelQuot x cs
  a.finite && a.abs.le bf16Max

/-- The larger magnitude. -/
def fpMaxAbs (x y : FP) : FP := if x.abs.lt y.abs then y.abs else x.abs

/-- The stored rerank vector: codes two per byte, the BF16 token scale, zeros up to whole lines (R53, R177). -/
def rerankVector (xs scales : List Nat) : List Nat :=
  let as := List.zipWith channelQuot xs scales
  let top := as.foldl fpMaxAbs (.fin false 0 0)
  let ts := top.round bf16 .up
  let ts := match ts with | .inf _ => bf16Max | t => t
  let codes := as.map fun a => bellCode false (if ts.isZero then .fin false 0 0 else FP.div fp32 a ts)
  let raw := packCodes codes ++ leBytes 2 (ts.enc bf16)
  raw ++ List.replicate ((64 - raw.length % 64) % 64) 0

/-- A scale-table entry that R155 and R164 accept: positive and finite. -/
def scaleOk (cs : Nat) : Bool :=
  match fp16.dec cs with
  | .fin n m _ => !n && decide (m ≠ 0)
  | _ => false

end Sys2Proof.Machine
end

