-- ==== Sys2Proof/Machine/Store.lean ====
section
/-! DEFINITION. Collections: creation, extents, permit maps and destruction (R49 to R58, R367, R549). -/

namespace Sys2Proof.Machine

/-- The bytes as numbers. -/
def nums (bs : List Byte) : List Nat := bs.map BitVec.toNat

/-- Split bytes into little-endian words of `n` bytes. -/
def wordsOf (n : Nat) : Nat → List Byte → List Nat
  | 0, _ => []
  | k + 1, bs => numAt bs 0 n :: wordsOf n k (bs.drop n)

/-! ### COLL_CREATE -/

/-- The reserved parts of a collection descriptor that COLL_CREATE must carry as 0 (R49). -/
def descReserved (d : List Byte) : Bool :=
  unnamedSet d [(0, 8), (8, 1), (20, 8), (56, 4)] || decide (4096 ≤ numAt d 0 2) || decide (16 ≤ numAt d 3 1) || decide (2 ≤ numAt d 8 1)

/-- The checks of a descriptor's fields (R49, R50, R366). -/
def descFields (s : State) (c : Cmd) (d : List Byte) (scales : Nat) : List (Bool × Nat) :=
  let w := cmdWing s c
  let dim := numAt d 6 2
  let eng := numAt d 56 4
  [((collOf s (numAt d 0 2)).isSome, stBadField), (numAt d 2 1 ≠ w, stBadField), (numAt d 4 2 = 0, stBadField),
   (clearBits (numAt d 4 2) (wingHalls s w) ≠ 0, stBadField),
   (dim ≠ 0 && (decide (dim < 64) || decide (4096 < dim) || decide (dim % 64 ≠ 0)), stBadField),
   (decide (dim = 0) != decide (eng = 0), stBadField), (clearBits eng (wingEngines s w) ≠ 0, stBadField),
   (decide (dim = 0) != decide (scales = 0), stBadField)]

/-- The new collection of a descriptor. -/
def newColl (c : Cmd) (d : List Byte) (scales : List Nat) : Coll :=
  { wing := numAt d 2 1, wCode := numAt d 3 1, halls := numAt d 4 2, denseDim := numAt d 6 2, directory := bit (numAt d 8 1) 0,
    owner := c.tenant, engines := numAt d 56 4, grid := numAt d 20 4, scaleVer := numAt d 24 4, epoch := 0, epochHigh := false,
    rebase := .idle, rebaseE := 0, rebaseCmds := [], closing := none, mapId := none, scales := scales, change := none, old := none,
    slots := [], writers := [], chosen := [], rebuilding := false, undirected := [], compactHalls := 0, compactUid := 0 }

/-- The first check that COLL_CREATE fails, if one does (R49, R155, R389). -/
def collCreateFail (c : Cmd) (s : State) : Option Nat :=
  let da := hostOf (c.num 16 8)
  let sa := hostOf (c.num 24 8)
  let d := hostRead s da 64
  let dim := numAt d 6 2
  let scales := wordsOf 2 dim (hostRead s sa (2 * dim))
  let entry := entryFail s c .tenant
    { named := [(16, 8), (24, 8)]
      align := [(misaligned (c.num 16 8), stBadAlign), (misaligned (c.num 24 8), stBadAlign)]
      trans := [(!hostReadable s da 64, stNoTranslation), (c.num 24 8 ≠ 0 && !hostReadable s sa (2 * dim), stNoTranslation)] }
  let buffers := firstFail ([(hostPoisoned s da 64, stEcc), (descReserved d, stReservedSet),
    (clearBits (numAt d 4 2) (presentHalls s) ≠ 0, stUnitAbsent),
    (((List.range 32).any fun e => bit (numAt d 56 4) e && !present s .engine e), stUnitAbsent)] ++
    descFields s c d (c.num 24 8) ++
    [(dim ≠ 0 && hostPoisoned s sa (2 * dim), stEcc), (scales.any fun x => !scaleOk x, stBadField)])
  entry.or buffers

/-- COLL_CREATE once its credits are free (R49, R155, R389). -/
def collCreateBody (c : Cmd) (s : State) : State :=
  let da := hostOf (c.num 16 8)
  let sa := hostOf (c.num 24 8)
  let d := hostRead s da 64
  let dim := numAt d 6 2
  let scales := wordsOf 2 dim (hostRead s sa (2 * dim))
  orElse s c (collCreateFail c s) (stageOrWait s (cmdWing s c) c.id (64 + 2 * dim) fun s =>
    finish (setColl s (numAt d 0 2) (some (newColl c d scales))) c.id stOk)

/-- COLL_CREATE (R49): creates a collection from a descriptor and a scale table. -/
def execCollCreate (id : Nat) (s : State) : Out := .next (withCmd s id 0x01 collCreateBody)

/-! ### Extents (R55, R56, R549) -/

/-- Extents of a hall, with the ones that wait to join. -/
def extentCount (s : State) (h : Nat) : Nat :=
  (stair s h).extents.length + ((stair s h).changes.filter fun x => match x with | .add _ _ _ => true | _ => false).length

/-- Extents of one collection in a hall, with the ones that wait to join. -/
def collExtentCount (s : State) (c h : Nat) : Nat :=
  (collExtents s c h).length +
    ((stair s h).changes.filter fun x => match x with | .add _ k _ => decide (k = c) | _ => false).length

/-- Bays of the segment's last extent that no accepted removal takes. -/
def lastExtentBays (s : State) (c h : Nat) : Nat :=
  match (collExtents s c h).getLast? with
  | none => 0
  | some x => x.bays - pendingRemoval s c h

/-- A slot among the last `n` bays of a segment is not free, or is chosen by the command at the write point (R56). -/
def tailOccupied (s : State) (c h n : Nat) : Bool :=
  match collOf s c with
  | none => false
  | some x =>
    let stop := 64 * (segBays s c h - pendingRemoval s c h)
    let start := stop - 64 * n
    let inTail := fun k => decide (slotKey h start ≤ k) && decide (k < slotKey h stop)
    (x.slots.any fun e => inTail e.1 && !e.2.free) || x.chosen.any inTail

/-- Put an extent at the end of a hall's table (R55). -/
def addExtent (s : State) (h c n : Nat) : State :=
  let s1 := modStair s h fun t => { t with extents := t.extents ++ [⟨s.store.nextUid, c, n⟩] }
  { s1 with store := { s1.store with nextUid := s1.store.nextUid + 1 } }

/-- Take bays from the end of an extent; an extent without bays leaves the table (R56). -/
def shrinkExtent (uid n : Nat) (l : List Extent) : List Extent :=
  (l.map fun x => if x.uid = uid then { x with bays := x.bays - n } else x).filter fun x => x.bays ≠ 0

/-- Remove the last `n` bays of a segment, with the slots in them (R56, R551). -/
def removeBays (s : State) (h c n : Nat) : State :=
  match (collExtents s c h).getLast? with
  | none => s
  | some x =>
    let s1 := modStair s h fun t => { t with extents := shrinkExtent x.uid n t.extents }
    let stop := 64 * segBays s1 c h
    modColl s1 c fun x => { x with slots := tclear (fun k => decide (slotKey h stop ≤ k) && decide (k < slotKey (h + 1) 0)) x.slots }

/-- Remove every extent of a collection from a hall (R549). -/
def removeExtents (s : State) (h c : Nat) : State :=
  modStair s h fun t => { t with extents := t.extents.filter fun x => x.coll ≠ c }

/-- Remove permit-map versions that are not current and that no query reads (R58). -/
def gcPermits (s : State) : State :=
  { s with store := { s.store with permits := s.store.permits.filter fun e =>
      match e.2 with
      | none => false
      | some v => v.current || s.store.queries.any fun q => q.permitVer == some e.1 } }

/-- Free the storage of a closed collection once its extents have left every hall, and complete the command (R549). -/
def destroyDone (s : State) (c : Nat) : State :=
  match collOf s c with
  | none => s
  | some x =>
    match x.closing with
    | none => s
    | some id =>
      if (List.range 16).any fun h => decide (segBays s c h ≠ 0) then s
      else
        stageOrWait s x.wing id 64 fun s =>
          let s1 := setColl s c none
          let s2 := { s1 with store := { s1.store with permits := s1.store.permits.map fun e =>
              (e.1, match e.2 with | some v => if v.coll = c then some { v with current := false } else some v | none => none) } }
          finish (gcPermits s2) id stOk

/-- Complete a COLL_EXTEND whose change has taken effect: its descriptor is staged (R56, R389). -/
def extendDone (s : State) (id c : Nat) : State :=
  match collOf s c with
  | none => s
  | some x => stageOrWait s x.wing id 64 fun s => finish s id stOk

/-- Apply one extent change of a hall (R56, R549). -/
def applyChange (s : State) (h : Nat) : ExtChange → State
  | .add id c n => extendDone (addExtent s h c n) id c
  | .remove id c n => extendDone (removeBays s h c n) id c
  | .destroy c => destroyDone (removeExtents s h c) c

/-- Stage an extent change until the hall's Landing, or apply it at once where the Stair is not running (R56). -/
def stageChange (s : State) (h : Nat) (x : ExtChange) : State :=
  if (stair s h).running then modStair s h fun t => { t with changes := t.changes ++ [x] } else applyChange s h x

/-- The space checks of an extension (R55, R56). -/
def extendFits (s : State) (c h n : Nat) : Bool :=
  match collOf s c with
  | none => false
  | some x =>
    decide (hallUsed s h + n * x.bayCost ≤ hallCapacity s) && decide (extentCount s h < 256) &&
      decide (collExtentCount s c h < 64) && decide (segBays s c h + pendingAdd s c h + n ≤ 2 ^ 24)

/-- A metadata change that the quota cannot hold sets QUOTA_FULL as it is refused (R397). -/
def noteQuota (s : State) (c : Cmd) (f : Option Nat) : State :=
  if f = some stJournalFull ∧ quotaFull s (cmdWing s c) (creditsFor s 64) then setSticky s .ucrEvents .ucrEventEn 16 else s

/-- The first check that COLL_EXTEND fails, if one does (R56). -/
def collExtendFail (c : Cmd) (s : State) : Option Nat :=
  let coll := c.num 16 2
  let h := c.num 18 1
  let op := c.num 19 1
  let n := c.num 20 4
  let halls := match collOf s coll with | some x => x.halls | none => 0
  let fail := entryFail s c .tenant
    { named := [(16, 8)]
      absent := [(decide (h < 16) && !present s .hall h, stUnitAbsent)]
      fields := [(!usable s c coll, stNoSuchObject), (!bit halls h, stBadField), (decide (1 < op), stBadField), (n = 0, stBadField),
        (decide (op = 1) && decide (lastExtentBays s coll h < n), stBadField),
        (decide (op = 1) && tailOccupied s coll h n, stBadField),
        (decide (op = 0) && !extendFits s coll h n, stRefusedSpace),
        (journalFull s (cmdWing s c) (creditsFor s 64), stJournalFull)] }
  fail

/-- COLL_EXTEND's checks and effect (R56). -/
def collExtendBody (c : Cmd) (s : State) : State :=
  let coll := c.num 16 2
  let h := c.num 18 1
  let op := c.num 19 1
  let n := c.num 20 4
  orElse (noteQuota s c (collExtendFail c s)) c (collExtendFail c s) (stageChange s h (if op = 0 then .add c.id coll n else .remove c.id coll n))

/-- COLL_EXTEND (R56): adds or removes bays of one hall segment at the hall's next Landing. -/
def execCollExtend (id : Nat) (s : State) : Out := .next (withCmd s id 0x03 collExtendBody)

/-! ### COLL_INFO and COLL_DESTROY -/

/-- The collection descriptor (R49). -/
def collDescriptor (s : State) (c : Nat) (x : Coll) : List Byte :=
  bytesOf 2 c ++ bytesOf 1 x.wing ++ bytesOf 1 x.wCode ++ bytesOf 2 x.halls ++ bytesOf 2 x.denseDim ++
    bytesOf 1 (b2n x.directory + 2 * b2n (decide (x.rebase ≠ .idle)) + 4 * b2n x.epochHigh) ++ bytesOf 1 x.owner ++ bytesOf 2 0 ++
    bytesOf 4 x.epoch ++ bytesOf 4 (lowWater s c) ++ bytesOf 4 x.grid ++ bytesOf 4 x.scaleVer ++ bytesOf 4 x.rebaseE ++
    bytesOf 8 (liveRecords x) ++ bytesOf 8 (deletedRecords x) ++ bytesOf 8 (occupiedBays s c) ++ bytesOf 4 x.engines ++ bytesOf 4 0

/-- The first check that COLL_INFO fails, if one does. -/
def collInfoFail (c : Cmd) (s : State) : Option Nat :=
  let coll := c.num 16 2
  let dst := hostOf (c.num 24 8)
  let fail := entryFail s c .tenant
    { named := [(16, 2), (24, 8)]
      fields := [(!usable s c coll, stNoSuchObject)]
      align := [(misaligned (c.num 24 8), stBadAlign)]
      trans := [(!hostWritable s dst 64, stNoTranslation)] }
  fail

/-- COLL_INFO's checks and effect. -/
def collInfoBody (c : Cmd) (s : State) : State :=
  let coll := c.num 16 2
  let dst := hostOf (c.num 24 8)
  orElse s c (collInfoFail c s)
    (match collOf s coll with
     | none => s
     | some x => finish (hostPut s dst (collDescriptor s coll x)) c.id stOk)

/-- COLL_INFO (R49): writes the collection descriptor to a host buffer. -/
def execCollInfo (id : Nat) (s : State) : Out := .next (withCmd s id 0x04 collInfoBody)

/-- The first check that COLL_DESTROY fails, if one does (R549). -/
def collDestroyFail (c : Cmd) (s : State) : Option Nat :=
  let coll := c.num 16 2
  let fail := entryFail s c .tenant
    { named := [(16, 2)]
      busy := [(usable s c coll && collRuns s coll, stUnitBusy)]
      fields := [(!usable s c coll, stNoSuchObject), (journalFull s (cmdWing s c) (creditsFor s 64), stJournalFull)] }
  fail

/-- COLL_DESTROY's checks and effect (R549). -/
def collDestroyBody (c : Cmd) (s : State) : State :=
  let coll := c.num 16 2
  let closed := modColl s coll fun x => { x with closing := some c.id }
  let go := (List.range 16).foldl
    (fun t h =>
      if segBays t coll h = 0 then t
      else if (stair t h).running then modStair t h fun a => { a with changes := a.changes ++ [.destroy coll] }
      else removeExtents t h coll) closed
  orElse (noteQuota s c (collDestroyFail c s)) c (collDestroyFail c s) (destroyDone go coll)

/-- COLL_DESTROY (R549): closes the collection, and frees it once its extents have left every loop. -/
def execCollDestroy (id : Nat) (s : State) : Out := .next (withCmd s id 0x05 collDestroyBody)

/-! ### Permit maps -/

/-- The current version of a permit map (R58). -/
def currentPermit (s : State) (c mapId : Nat) : Option Nat :=
  (s.store.permits.find? fun e =>
    match e.2 with
    | some v => v.current && decide (v.coll = c) && decide (v.mapId = mapId)
    | none => false).map Prod.fst

/-- A map stops being current (R367). -/
def retirePermit (s : State) (c mapId : Nat) : State :=
  gcPermits { s with store := { s.store with permits := s.store.permits.map fun e =>
      (e.1, match e.2 with
            | some v => if v.coll = c ∧ v.mapId = mapId then some { v with current := false } else some v
            | none => none) } }

/-- Bytes of one hall's map: 8 a bay, padded to whole lines (R57). -/
def permitBytes (s : State) (c h : Nat) : Nat := (8 * segBays s c h + 63) / 64 * 64

/-- The maps of a source, one hall after another in ascending order (R367). -/
def readMaps (s : State) (c : Nat) : List Nat → List Byte → Tbl (Nat × Nat)
  | [], _ => []
  | h :: hs, bs => (h, numAt bs 0 (8 * segBays s c h), 64 * segBays s c h) :: readMaps s c hs (bs.drop (permitBytes s c h))

/-- The first check that PERMIT_WRITE fails, if one does (R367). -/
def permitWriteFail (c : Cmd) (s : State) : Option Nat :=
  let coll := c.num 16 2
  let m := c.num 18 2
  let del := bit (c.num 20 1) 0
  let a := c.num 24 8
  let hs := match collOf s coll with | some x => maskHalls x.halls | none => []
  let len := (hs.map (permitBytes s coll)).sum
  let fail := entryFail s c .tenant
    { named := [(16, 5), (24, 8)]
      reserved := [(decide (2 ≤ c.num 20 1), stReservedSet)]
      fields := [(!usable s c coll, stNoSuchObject), (decide (1023 < m), stBadField),
        (del && (currentPermit s coll m).isNone, stNoSuchObject)]
      align := [(misaligned a, stBadAlign)]
      window := [(!del && !grantedTo s (cmdWing s c) a len, stWindow)]
      trans := [(!del && !mayRead s a len, stNoTranslation)] }
  let buffers := firstFail [(!del && (readFail s a len).isSome, (readFail s a len).getD stEcc),
    (!del && hs.any fun h => decide (hallCapacity s < hallUsed s h + permitBytes s coll h), stRefusedSpace)]
  fail.or buffers

/-- PERMIT_WRITE's checks and effect (R367). -/
def permitWriteBody (c : Cmd) (s : State) : State :=
  let coll := c.num 16 2
  let m := c.num 18 2
  let del := bit (c.num 20 1) 0
  let a := c.num 24 8
  let hs := match collOf s coll with | some x => maskHalls x.halls | none => []
  let len := (hs.map (permitBytes s coll)).sum
  orElse s c (permitWriteFail c s) (stageOrWait s (cmdWing s c) c.id (if del then 64 else 64 + len) fun s =>
    let s1 := retirePermit s coll m
    let s2 :=
      if del then s1
      else { s1 with store := { s1.store with
              permits := tput s1.store.permits s1.store.nextVer (some ⟨coll, m, true, readMaps s coll hs (memRead s a len)⟩)
              nextVer := s1.store.nextVer + 1 } }
    finish s2 c.id stOk)

/-- PERMIT_WRITE (R367): a new version of a permit map in every hall of the collection, or its removal. -/
def execPermitWrite (id : Nat) (s : State) : Out := .next (withCmd s id 0x08 permitWriteBody)

end Sys2Proof.Machine
end

