-- ==== Sys2Proof/Machine/StoreWrite.lean ====
section
/-! DEFINITION. Store commands, the write point, compaction and rebase (R59 to R69, R384 to R390, R547 to R551). -/

namespace Sys2Proof.Machine

/-! ### Sources (R384 to R387) -/

/-- Bytes of one source entry: INSERT, DELETE (packed), UPSERT (R384, R385, R386). -/
def entryBytes (x : Coll) (op by_ : Nat) : Nat :=
  if op = 0x11 then 8
  else if op = 0x12 ∧ by_ = 0 then 64 * ((16 + x.width / 8 + 2 * x.denseDim + 63) / 64)
  else 64 * ((x.width / 8 + 8 + 2 * x.denseDim + 63) / 64)

/-- Bytes of a whole source. -/
def sourceBytes (x : Coll) (op by_ count : Nat) : Nat :=
  if op = 0x11 then 64 * ((8 * count + 63) / 64) else count * entryBytes x op by_

/-- Entry `i` of a source. -/
def sourceEntry (x : Coll) (op by_ : Nat) (buf : List Byte) (i : Nat) : List Byte :=
  (buf.drop (i * entryBytes x op by_)).take (entryBytes x op by_)

/-- The part of an UPSERT or INSERT entry that an INSERT entry holds. -/
def insertPart (op by_ : Nat) (e : List Byte) : List Byte := if op = 0x12 ∧ by_ = 0 then e.drop 8 else e

/-- The entry names its targets by locator. -/
def byLocator (op by_ : Nat) : Bool := decide (op ≠ 0x10) && decide (by_ = 0)

/-- The rerank elements of an entry, as BF16 bits. -/
def rerankElems (x : Coll) (e : List Byte) : List Nat := wordsOf 2 x.denseDim (e.drop (x.width / 8 + 8))

/-- The record that an entry brings. -/
def entryRecord (x : Coll) (e : List Byte) (epoch : Nat) : Slot :=
  { ins := epoch, del := noEpoch, code := numAt e 0 (x.width / 8), item := numAt e (x.width / 8) 8,
    vec := if x.denseDim = 0 then [] else (rerankVector (rerankElems x e) x.scales).map (BitVec.ofNat 8) }

/-- A source byte that must be 0 is not, or a locator has bits [63:46] set (R387). -/
def sourceReserved (x : Coll) (op by_ count : Nat) (buf : List Byte) : Bool :=
  (List.range count).any (fun i =>
    let e := sourceEntry x op by_ buf i
    (byLocator op by_ && decide (2 ^ 46 ≤ numAt e 0 8)) ||
      (decide (op ≠ 0x11) && ((insertPart op by_ e).drop (x.width / 8 + 8 + 2 * x.denseDim)).any fun b => decide (b ≠ 0))) ||
    (decide (op = 0x11) && (buf.drop (8 * count)).any fun b => decide (b ≠ 0))

/-- A locator that names no slot of the collection (R52, R387). -/
def badLocator (s : State) (c : Nat) (x : Coll) (l : Nat) : Bool :=
  decide (l / 2 ^ 34 ≠ c) || !bit x.halls (bits l 30 4) || decide (64 * segBays s c (bits l 30 4) ≤ l % 2 ^ 30)

/-- A locator or rerank element of the source breaks a rule of R387's third row. -/
def sourceFields (s : State) (c : Nat) (x : Coll) (op by_ count : Nat) (buf : List Byte) : Bool :=
  (List.range count).any fun i =>
    let e := sourceEntry x op by_ buf i
    (byLocator op by_ && badLocator s c x (numAt e 0 8)) ||
      (decide (op ≠ 0x11) &&
        ((rerankElems x (insertPart op by_ e)).zip x.scales).any fun p => !rerankOk p.1 p.2)

/-- The first check that STORE fails, if one does (R387, R389). -/
def storeFail (op : Nat) (c : Cmd) (s : State) : Option Nat :=
  let coll := c.num 16 2
  let by_ := if op = 0x10 then 0 else c.num 18 1
  let count := c.num 20 4
  let src := c.num 24 8
  let rep := c.num 32 8
  let x := (collOf s coll).getD (newColl c [] [])
  let len := sourceBytes x op by_ count
  let repLen := 64 * (((if op = 0x11 then 4 else 8) * count + 63) / 64)
  let fail := entryFail s c .tenant
    { named := if op = 0x10 then [(16, 2), (20, 20)] else [(16, 3), (20, 20)]
      fields := [(!usable s c coll, stNoSuchObject), (count = 0 || decide (65536 < count), stBadField), (decide (1 < by_), stBadField),
        (decide (by_ = 1) && !x.directory, stBadField)]
      align := [(misaligned src, stBadAlign), (misaligned rep, stBadAlign)]
      window := [(!grantedTo s (cmdWing s c) src len, stWindow)]
      trans := [(!mayRead s src len, stNoTranslation), (rep ≠ 0 && !hostWritable s (hostOf rep) repLen, stNoTranslation)] }
  let buf := memRead s src len
  let buffers := firstFail [((readFail s src len).isSome, (readFail s src len).getD stEcc),
    (sourceReserved x op by_ count buf, stReservedSet), (sourceFields s coll x op by_ count buf, stBadField)]
  fail.or buffers

/-- INSERT, DELETE and UPSERT up to the write point: the checks of the entry and of the source, and the place in the order of
the write point (R387, R389). -/
def storeBody (op : Nat) (c : Cmd) (s : State) : State :=
  let coll := c.num 16 2
  let by_ := if op = 0x10 then 0 else c.num 18 1
  let count := c.num 20 4
  let src := c.num 24 8
  let x := (collOf s coll).getD (newColl c [] [])
  let len := sourceBytes x op by_ count
  let buf := memRead s src len
  orElse s c (storeFail op c s)
    (modColl (modCmd s c.id fun y => { y with buf := buf }) coll fun x => { x with writers := x.writers ++ [c.id] })

/-- INSERT (R384): its checks, then its place at the collection's write point. -/
def execInsert (id : Nat) (s : State) : Out := .next (withCmd s id 0x10 (storeBody 0x10))

/-- DELETE (R385): its checks, then its place at the collection's write point. -/
def execDelete (id : Nat) (s : State) : Out := .next (withCmd s id 0x11 (storeBody 0x11))

/-- UPSERT (R386): its checks, then its place at the collection's write point. -/
def execUpsert (id : Nat) (s : State) : Out := .next (withCmd s id 0x12 (storeBody 0x12))

/-! ### The write point -/

/-- The command at the front has left the write point: its chosen slots are released. -/
def leavePoint (s : State) (coll : Nat) : State :=
  modColl s coll fun x => { x with writers := x.writers.tail, chosen := [] }

/-- Give back the credits that a command was granted and did not stage with (R547). -/
def dropGrant (s : State) (w id : Nat) : State :=
  modJournal s w fun j =>
    { j with granted := j.granted.filter fun g => g.1 ≠ id, waiters := j.waiters.filter fun g => g.1 ≠ id }

/-- Post an EPOCH_HIGH record to event queue 0 of the collection's owner and a copy to the PF's (R67, R372). -/
def epochHighEvents (s : State) (coll owner epoch : Nat) : State :=
  postEvent (postEvent s (owner + 1) 6 0 coll epoch 0 0) 0 6 0 coll epoch 0 0

/-- Advance a collection's epoch by one (R59, R67). -/
def advanceEpoch (s : State) (coll : Nat) : State :=
  match collOf s coll with
  | none => s
  | some x =>
    let e := x.epoch + 1
    let high := decide (0xFF000000 ≤ e) && !x.epochHigh
    let s1 := setColl s coll (some { x with epoch := e, epochHigh := x.epochHigh || high })
    if high then epochHighEvents s1 coll x.owner e else s1

/-- The ID line of a slot is uncorrectable (R548). -/
def idBad (s : State) (c h i : Nat) : Bool := lineHeld s h (.ids c (i / 8))

/-- The live slots that an entry names: by locator the named one, by item ID every live one in the directory (R385, R386). -/
def targets (x : Coll) (op by_ : Nat) (e : List Byte) : List Nat :=
  if op = 0x10 then []
  else if by_ = 0 then
    let k := numAt e 0 8 % 2 ^ 34
    if (tget (fun _ => freeSlot) x.slots k).live then [k] else []
  else
    let item := if op = 0x11 then numAt e 0 8 else numAt e (x.width / 8) 8
    (x.slots.filter fun p => p.2.live && decide (p.2.item = item) && !x.undirected.contains p.1).map Prod.fst

/-- The slots that each entry of a command deletes: a slot that an earlier entry deletes is not deleted again. -/
def deletions (x : Coll) (op by_ : Nat) (buf : List Byte) : Nat → Nat → List Nat → List (List Nat)
  | 0, _, _ => []
  | n + 1, i, gone =>
    let l := (targets x op by_ (sourceEntry x op by_ buf i)).filter fun k => !gone.contains k
    l :: deletions x op by_ buf n (i + 1) (gone ++ l)

/-- Distinct members of a list, first occurrences kept. -/
def distinct : List Nat → List Nat
  | [] => []
  | a :: t => a :: (distinct t).filter fun b => b ≠ a

/-- Bytes that a command stages: the planes of every bay it writes, its vector lines, one directory line a record (R389). -/
def stagedBytes (x : Coll) (new gone : List Nat) : Nat :=
  (distinct ((new ++ gone).map (· / 64))).length * (8 * x.width + 1024) + new.length * x.vecBytes +
    (if x.directory then 64 * (new.length + gone.length) else 0)

/-- The stamp line of a slot is uncorrectable. -/
def stampBad (s : State) (c h i : Nat) (x : Coll) : Bool :=
  match locateBay (collExtents s c h) (i / 64) with
  | none => false
  | some p => lineHeld s h (.swept p.1 p.2 (x.width / 8 + i % 64 / 8))

/-- Write the new records into the chosen slots (R64). -/
def putRecords (x : Coll) (op by_ : Nat) (buf : List Byte) (e : Nat) : Nat → List Nat → Coll
  | _, [] => x
  | i, k :: ks =>
    let y := putRecords x op by_ buf e (i + 1) ks
    { y with slots := tset (fun _ => freeSlot) y.slots k (entryRecord x (insertPart op by_ (sourceEntry x op by_ buf i)) e),
             undirected := y.undirected.filter fun j => j ≠ k }

/-- Stamp deleted records (R59). -/
def stampDeleted (x : Coll) (e : Nat) (ks : List Nat) : Coll :=
  { x with slots := x.slots.map fun p => if ks.contains p.1 then (p.1, { p.2 with del := e }) else p }

/-- The report of a store command (R388). -/
def storeReport (coll op : Nat) (new : List Nat) (dels : List (List Nat)) : List Byte :=
  let raw :=
    if op = 0x11 then (dels.map fun l => bytesOf 4 l.length).flatten
    else (new.map fun k => bytesOf 8 (coll * 2 ^ 34 + k)).flatten
  raw ++ List.replicate ((64 - raw.length % 64) % 64) 0

/-- End the command at the front without effect (R387, R547). -/
def refuseWriter (s : State) (coll w id st : Nat) : State := finish (dropGrant (leavePoint s coll) w id) id st

/-- The store command at the front writes: slots, credits, planes, staging, the epoch's advance, report and completion
(R389). `bad` says that a write meets an uncorrectable line that the bad-line table does not hold yet (R547). -/
def storeWrite (s : State) (coll : Nat) (x : Coll) (c : Cmd) (bad : Bool) : State :=
  let op := c.opcode
  let by_ := if op = 0x10 then 0 else c.num 18 1
  let count := c.num 20 4
  let dels := deletions x op by_ c.buf count 0 []
  let gone := dels.flatten
  let slots :=
    if op = 0x11 then some []
    else if x.chosen.isEmpty then (chooseSlots s coll x count).map fun l => l.map fun p => slotKey p.1 p.2
    else some x.chosen
  if 0xFFFFFFFE ≤ x.epoch then refuseWriter s coll x.wing c.id stEpochExhausted
  else
    match slots with
    | none => refuseWriter s coll x.wing c.id stRefusedSpace
    | some new =>
      let n := creditsFor s (stagedBytes x new gone)
      if journalFull s x.wing n then
        refuseWriter (if quotaFull s x.wing n then setSticky s .ucrEvents .ucrEventEn 16 else s) coll x.wing c.id stJournalFull
      else if !creditsFree s x.wing c.id n then
        waitCredits (modColl s coll fun y => { y with chosen := new }) x.wing c.id n
      else if (new ++ gone).any fun k => halted s (k / 2 ^ 30) then refuseWriter s coll x.wing c.id stUnitFault
      else if bad || gone.any fun k => stampBad s coll (k / 2 ^ 30) (k % 2 ^ 30) x then refuseWriter s coll x.wing c.id stEcc
      else
        let e := x.epoch + 1
        let seq := jseq s x.wing
        let s1 := modColl s coll fun y => putRecords (stampDeleted y e gone) op by_ c.buf e 0 new
        let s2 := advanceEpoch (stageCredits s1 x.wing c.id n) coll
        let rep := c.num 32 8
        let s3 := if rep = 0 then s2 else hostPut s2 (hostOf rep) (storeReport coll op new dels)
        let s4 := finish (leavePoint s3 coll) c.id stOk e (if op = 0x11 then gone.length else new.length) seq
          (if op = 0x12 then gone.length else 0)
        commitAtHalf s4 x.wing

/-! ### Compaction (R65, R66, R551) -/

/-- A compaction by the number of its command. -/
def findCompaction (s : State) (id : Nat) : Option Compaction := s.store.compactions.find? fun k => k.cmd == id

/-- Change a compaction. -/
def modCompaction (s : State) (id : Nat) (f : Compaction → Compaction) : State :=
  { s with store := { s.store with compactions := s.store.compactions.map fun k => if k.cmd == id then f k else k } }

/-- End a compaction with a status; field A gives the report entries written (R551). -/
def endCompaction (s : State) (k : Compaction) (st : Nat) : State :=
  let w := match collOf s k.coll with | some x => x.wing | none => 0
  let s1 := dropGrant (modColl s k.coll fun x => { x with writers := x.writers.filter fun i => i ≠ k.cmd, chosen := [] }) w k.cmd
  finish { s1 with store := { s1.store with compactions := s1.store.compactions.filter fun j => j.cmd ≠ k.cmd } } k.cmd st
    k.written

/-- The first check that COMPACT fails, if one does (R66, R551). -/
def compactFail (c : Cmd) (s : State) : Option Nat :=
  let coll := c.num 16 2
  let halls := c.num 18 2
  let rep := c.num 24 8
  let n := c.num 32 4
  let x := (collOf s coll).getD (newColl c [] [])
  let fail := entryFail s c .tenant
    { named := [(16, 4), (24, 12)]
      absent := [(clearBits halls (presentHalls s) ≠ 0, stUnitAbsent)]
      fields := [(!usable s c coll, stNoSuchObject), (halls = 0, stBadField), (clearBits halls x.halls ≠ 0, stBadField),
        (x.directory && (rep ≠ 0 || n ≠ 0), stBadField), (!x.directory && (rep = 0 || n = 0), stBadField)]
      align := [(misaligned rep, stBadAlign)]
      trans := [(rep ≠ 0 && !hostWritable s (hostOf rep) (24 * n), stNoTranslation)] }
  fail

/-- COMPACT's checks and effect (R66, R551). -/
def compactBody (c : Cmd) (s : State) : State :=
  let coll := c.num 16 2
  let halls := c.num 18 2
  let rep := c.num 24 8
  let n := c.num 32 4
  let x := (collOf s coll).getD (newColl c [] [])
  let k : Compaction := ⟨c.id, coll, halls, hostOf rep, if x.directory then 2 ^ 34 else n, 0, 0, [], false, false⟩
  let s1 := modColl s coll fun x =>
    { x with writers := x.writers ++ [c.id], compactHalls := halls, compactUid := s.store.nextUid }
  orElse s c (compactFail c s) { s1 with store := { s1.store with compactions := s1.store.compactions ++ [k] } }

/-- COMPACT (R551): starts a compaction of a collection on the named halls. -/
def execCompact (id : Nat) (s : State) : Out := .next (withCmd s id 0x06 compactBody)

/-- Plan moves of one hall: the highest live record into the lowest slot that may take it, while a lower bay has one
(R65, R551). -/
def planMoves (s : State) (c : Nat) (x : Coll) (h : Nat) : Nat → Nat → List Nat → List (Nat × Nat)
  | 0, _, _ => []
  | fuel + 1, top, used =>
    let free := (List.range (64 * segBays s c h)).find? fun i => slotAvail s c x h i && !used.contains i
    let live := ((List.range top).filter fun i => (x.slot h i).live).getLast?
    match free, live with
    | some f, some l => if f / 64 < l / 64 then (l, f) :: planMoves s c x h fuel l (f :: used) else []
    | _, _ => []

/-- A move that a pass of the hall would make, if there is one (R551). -/
def hallUndone (s : State) (c : Nat) (x : Coll) (h : Nat) : Bool := !(planMoves s c x h 1 (64 * segBays s c h) []).isEmpty

/-- Bytes that a move stages: two bays' planes, the vector, two directory lines (R389). -/
def moveBytes (x : Coll) (h : Nat) (ms : List (Nat × Nat)) : Nat :=
  stagedBytes x (ms.map fun m => slotKey h m.2) (ms.map fun m => slotKey h m.1)

/-- As many of the planned moves as the credit limit can stage (R551). -/
def fitMoves (s : State) (w : Nat) (x : Coll) (h : Nat) : List (Nat × Nat) → List (Nat × Nat) → List (Nat × Nat)
  | [], acc => acc
  | m :: ms, acc =>
    if hasUndercroft s && decide (getR s .ucrWCredits w < creditsFor s (moveBytes x h (acc ++ [m]))) then acc
    else fitMoves s w x h ms (acc ++ [m])

/-- A compaction at the front of the write point plans its next pass and takes its credits (R551). -/
def planPass (s : State) (coll : Nat) (x : Coll) (k : Compaction) : State :=
  match (maskHalls k.halls).find? fun h => hallUndone s coll x h with
  | none => endCompaction s k stOk
  | some h =>
    if k.stopping || k.reportLeft = 0 then endCompaction s k stOk
    else if 0xFFFFFFFE ≤ x.epoch then endCompaction s k stEpochExhausted
    else
      let all := planMoves s coll x h (min k.reportLeft (64 * segBays s coll h)) (64 * segBays s coll h) []
      let ms := fitMoves s x.wing x h all []
      let n := creditsFor s (moveBytes x h ms)
      if ms.isEmpty || journalFull s x.wing n then
        endCompaction (if !ms.isEmpty && quotaFull s x.wing n then setSticky s .ucrEvents .ucrEventEn 16 else s) k stJournalFull
      else
        let s1 := modCompaction s k.cmd fun k => { k with hall := h, plan := ms, planned := true }
        let s2 := modColl s1 coll fun x => { x with chosen := ms.map fun m => slotKey h m.2 }
        if creditsFree s x.wing k.cmd n then
          (if hasUndercroft s ∧ !(journal s x.wing).granted.any (fun g => g.1 == k.cmd) then
            modJournal s2 x.wing fun j => { j with granted := j.granted ++ [(k.cmd, n)] } else s2)
        else waitCredits s2 x.wing k.cmd n

/-- Make one move: the copy takes the record's code, ID, vector and delete epoch, then the original is deleted (R65). -/
def moveRecord (x : Coll) (h e : Nat) (m : Nat × Nat) : Coll :=
  let r := x.slot h m.1
  (x.setSlot h m.2 { r with ins := e }).setSlot h m.1 { r with del := e }

/-- The relocation report of a pass (R66). -/
def moveReport (x : Coll) (coll h : Nat) (ms : List (Nat × Nat)) : List Byte :=
  (ms.map fun m => bytesOf 8 (x.slot h m.1).item ++ bytesOf 8 (locator coll h m.1) ++ bytesOf 8 (locator coll h m.2)).flatten

/-- Moves whose numbers in the plan are not in a list. -/
def keptMoves (ms : List (Nat × Nat)) (abandoned : List Nat) : List (Nat × Nat) :=
  (((List.range ms.length).zip ms).filter fun e => !abandoned.contains e.1).map Prod.snd

/-- A pass with its credits, at a Landing of its hall (R65): the moves that are not abandoned take effect and end with one
epoch advance. -/
def runPass (s : State) (coll : Nat) (x : Coll) (k : Compaction) (abandoned : List Nat) : State :=
  let ms := keptMoves k.plan abandoned
  let e := x.epoch + 1
  let n := creditsFor s (moveBytes x k.hall k.plan)
  let s1 := modColl s coll fun y => ms.foldl (fun z m => moveRecord z k.hall e m) y
  let s2 := if ms.isEmpty then dropGrant s1 x.wing k.cmd else advanceEpoch (stageCredits s1 x.wing k.cmd n) coll
  let s3 := if x.directory || (findCmd s k.cmd).isNone then s2 else hostPut s2 (k.reportAddr + 24 * k.written) (moveReport x coll k.hall ms)
  let s4 := modColl s3 coll fun y => { y with writers := y.writers.tail ++ [k.cmd], chosen := [] }
  commitAtHalf (modCompaction s4 k.cmd fun j =>
    { j with plan := [], planned := false, written := if x.directory then 0 else j.written + ms.length,
             reportLeft := if x.directory then j.reportLeft else j.reportLeft - ms.length }) x.wing

/-- The head of a hall stands at its revolution boundary: nothing has streamed in this revolution. -/
def atLanding (s : State) (h : Nat) : Bool :=
  (stair s h).running && decide ((stair s h).headExt = 0) && decide ((stair s h).headBay = 0)

/-- COMPACTION_PASS (R65): the planned pass of a compaction runs at a Landing of its hall once it holds its credits.
`abandoned` names the moves that the head overtakes or whose writes fail (R65, R547). -/
def execCompactionPass (id : Nat) (abandoned : List Nat) (s : State) : Out :=
  .next (match findCompaction s id with
    | none => s
    | some k =>
      match collOf s k.coll with
      | none => s
      | some x =>
        if k.planned && atLanding s k.hall &&
            (!hasUndercroft s || (journal s x.wing).granted.any fun g => g.1 == id) then runPass s k.coll x k abandoned
        else s)

/-! ### Rebase (R68, R69) -/

/-- The first check that REBASE fails, if one does (R69, R389). -/
def rebaseFail (c : Cmd) (s : State) : Option Nat :=
  let coll := c.num 16 2
  let fail := entryFail s c .tenant { named := [(16, 2)], fields := [(!usable s c coll, stNoSuchObject)] }
  fail

/-- REBASE's checks: it takes its place at the write point, or joins the rebase that runs (R69, R389). -/
def rebaseBody (c : Cmd) (s : State) : State :=
  let coll := c.num 16 2
  orElse s c (rebaseFail c s) (modColl s coll fun x =>
    if x.rebase = .idle ∧ x.rebaseCmds.isEmpty then { x with rebaseCmds := [c.id], writers := x.writers ++ [c.id] }
    else { x with rebaseCmds := x.rebaseCmds ++ [c.id] })

/-- REBASE (R68): takes its place at the collection's write point. -/
def execRebase (id : Nat) (s : State) : Out := .next (withCmd s id 0x07 rebaseBody)

/-- One stamp of a rebase (R68). -/
def rebaseSlot (e : Nat) (x : Slot) : Slot :=
  if x.del = noEpoch ∧ x.ins ≠ noEpoch then { x with ins := 1 }
  else if x.del ≤ e ∧ x.ins ≠ noEpoch then freeSlot
  else x

/-- Finish commands one after another. -/
def finishAll (s : State) (ids : List Nat) (st : Nat) : State := ids.foldl (fun t i => finish t i st) s

/-- REBASE_REWRITE (R68): once no view epoch is held, every stamp is rewritten, the epoch restarts at 1, and the REBASE
commands complete. -/
def execRebaseRewrite (coll : Nat) (s : State) : Out :=
  .next (match collOf s coll with
    | none => s
    | some x =>
      if x.rebase ≠ .idle ∧ (heldViews s coll).isEmpty then
        let slots := (x.slots.map fun p => (p.1, rebaseSlot x.rebaseE p.2)).filter fun p => p.2 ≠ freeSlot
        let y := { x with slots := slots, epoch := 1, epochHigh := false, rebase := .idle, rebaseCmds := [] }
        let s1 := setColl s coll (some y)
        let s2 := modJournal s1 x.wing fun j => { j with dirty := j.dirty || hasUndercroft s }
        finishAll s2 x.rebaseCmds stOk
      else s)

/-! ### STORE_WRITE_POINT and DIRECTORY_REBUILD -/

/-- The front of the write point is served: a store command writes, a compaction plans a pass, a REBASE enters DRAIN
(R68, R389, R551). -/
def servePoint (s : State) (coll : Nat) (x : Coll) (id : Nat) (bad : Bool) : State :=
  if (journal s x.wing).waiters.any fun g => g.1 == id then s
  else
    match findCompaction s id with
    | some k => if k.planned then s else planPass s coll x k
    | none =>
      if x.rebaseCmds.contains id then
        modJournal (setColl s coll (some { x with rebase := .drain, rebaseE := x.epoch, writers := x.writers.tail })) x.wing
          fun j => { j with dirty := j.dirty || hasUndercroft s }
      else
        match findCmd s id with
        | none => leavePoint s coll
        | some c => storeWrite s coll x c bad

/-- STORE_WRITE_POINT (R389): the front of a collection's write point is served, unless a rebase runs (R68) or a directory
line is being rebuilt (R548). `bad` says that a write meets a line found uncorrectable; `dirLine` that the command reads
that directory line of a hall as uncorrectable, whose rebuild then starts. -/
def execStoreWritePoint (coll : Nat) (bad : Bool) (dirLine : Option (Nat × Nat)) (s : State) : Out :=
  .next (match collOf s coll with
    | none => s
    | some x =>
      if x.rebase ≠ .idle ∨ x.rebuilding then s
      else
        match x.writers with
        | [] => s
        | id :: _ =>
          match dirLine with
          | some p =>
            if x.directory then modColl (enterBad s p.1 (.dir coll p.2) 2) coll fun y => { y with rebuilding := true }
            else servePoint s coll x id bad
          | none => servePoint s coll x id bad)

/-- DIRECTORY_REBUILD (R548): the line is written whole and leaves the bad-line table; `members` are the slots whose records
belong in it by the device's hash. A record whose ID line is uncorrectable is not entered. -/
def execDirectoryRebuild (coll hall line : Nat) (members : List Nat) (s : State) : Out :=
  .next (match collOf s coll with
    | none => s
    | some x =>
      if x.rebuilding then
        let lost := members.filter fun i => idBad s coll hall i
        let found := members.filter fun i => !idBad s coll hall i
        modColl (clearBad s hall (.dir coll line)) coll fun y =>
          { y with rebuilding := false,
                   undirected := (y.undirected.filter fun k => !(found.map (slotKey hall)).contains k) ++ lost.map (slotKey hall) }
      else s)

end Sys2Proof.Machine
end

