-- ==== Sys2Proof/Machine/Stair.lean ====
section
/-! DEFINITION. The Stair: queries and treads, grants, the sweep of a bay, Landings and rates (R34, R70 to R92, R465). -/

namespace Sys2Proof.Machine

/-! ### Rates (R34, R71, R88, R95) -/

/-- PACE_NOW of the Stair-region monitor of a hall's group (R28). -/
def stairPace (s : State) (h : Nat) : Nat := getR s .pceMon (2 * h)

/-- The sweep's HBM rate in percent of 2.25 TB/s (R277). -/
def sweepPercent (s : State) (h : Nat) : Nat := [100, 94, 50, 0].getD (thermalStep s h) 0

/-- The bays of a width are compare-limited now and the compare limit is the lower one (R34, R35). A monitor that reads 0
has no window yet and limits nothing. -/
def compareLimited (s : State) (h w : Nat) : Bool :=
  decide (768 ≤ w) && decide (stairPace s h ≠ 0) &&
    decide ((8 * w + 512) * 100 * 401 * stairPace s h < 64 * (w / 64 + 3) * 1000 * 2250 * sweepPercent s h)

/-- The width of an extent's collection. -/
def extentWidth (s : State) (x : Extent) : Nat := match collOf s x.coll with | some c => c.width | none => 0

/-- Numerator of a stretch of bays' sweep time in nanoseconds, over the denominator of `timeDen`. -/
def bayTimeNum (s : State) (h w n : Nat) : Nat :=
  let p := max 1 (stairPace s h)
  if compareLimited s h w then n * 64 * (w / 64 + 3) * 1000 * 2250 * sweepPercent s h
  else n * (8 * w + 512) * 100 * 401 * p

/-- The common denominator of sweep times. -/
def timeDen (s : State) (h : Nat) : Nat := 2250 * sweepPercent s h * 401 * max 1 (stairPace s h)

/-- Nearest whole number of nanoseconds; a stopped sweep has none. -/
def nearestNs (num den : Nat) : Option Nat := if den = 0 then none else some ((2 * num + den) / (2 * den))

/-- The revolution time of the current loop at the current rate, rounded to the nearest nanosecond as the worked values of
the manual are (R88, log entry 8). -/
def revEst (s : State) (h : Nat) : Option Nat :=
  nearestNs (((stair s h).extents.map fun x => bayTimeNum s h (extentWidth s x) x.bays).sum) (timeDen s h)

/-- Bays in the loop. -/
def loopBays (s : State) (h : Nat) : Nat := ((stair s h).extents.map Extent.bays).sum

/-! ### Queries -/

/-- A query by its result context. -/
def findQuery (s : State) (ctx : Nat) : Option Query := s.store.queries.find? fun q => q.ctx == ctx

/-- Change a query. -/
def modQuery (s : State) (ctx : Nat) (f : Query → Query) : State :=
  { s with store := { s.store with queries := s.store.queries.map fun q => if q.ctx == ctx then f q else q } }

/-- Remove a query. -/
def dropQuery (s : State) (ctx : Nat) : State :=
  gcPermits { s with store := { s.store with queries := s.store.queries.filter fun q => q.ctx ≠ ctx } }

/-- A query is wide: k from 9 to 64 (R74). -/
def Query.wide (q : Query) : Bool := decide (8 < q.k)

/-- Treads that a query takes in a hall (R74). -/
def Query.need (q : Query) : Nat := if q.wide then 4 else 1

/-- The index of the WNG_T_ registers of a query's account: its tenant, or 128 + w for the peer account of wing w (R473). -/
def Query.index (s : State) (q : Query) : Nat :=
  if q.account < 128 then q.account else 128 + (match collOf s q.coll with | some x => x.wing | none => 0)

/-- The WEIGHT of a query's account (R465). -/
def Query.weight (s : State) (q : Query) : Nat := max 1 (fieldR s .wngTCfg 8 8 (q.index s))

/-- Add a hall's result record to its query. -/
def addRec (s : State) (ctx : Nat) (r : HallRec) : State := modQuery s ctx fun q => { q with recs := q.recs ++ [r] }

/-- A result record without entries (R79, R89, R337); `addEmpty` fills in the RADIUS. -/
def emptyRec (s : State) (h : Nat) (thermal : Bool) : HallRec :=
  ⟨h, 0, false, thermal, false, stairPace s h, [], 0, 0, 0, 0, s.now, s.now⟩

/-- Add a record without entries to a query. -/
def addEmpty (s : State) (ctx h : Nat) (thermal : Bool) : State :=
  modQuery s ctx fun q => { q with recs := q.recs ++ [{ emptyRec s h thermal with radius := q.radius }] }

/-! ### Treads -/

/-- A tread of a hall. -/
def treadOf (t : Stair) (n : Nat) : Tread := tget (fun _ => freeTread) t.treads n

/-- Set a tread. -/
def setTread (t : Stair) (n : Nat) (x : Tread) : Stair := { t with treads := tset (fun _ => freeTread) t.treads n x }

/-- Treads in a state. -/
def countTreads (t : Stair) (st : TreadState) : Nat := (t.treads.filter fun e => decide (e.2.state = st)).length

/-- Treads of wide flights aboard (R76). -/
def wideAboard (t : Stair) : Nat := (t.treads.filter fun e => decide (e.2.state = .aboard) && e.2.quarter.isSome).length

/-- The tread may be granted to a query: FREE, or RESERVED for it (R76). -/
def treadFor (t : Stair) (ctx n : Nat) : Bool :=
  match (treadOf t n).state with
  | .free => true
  | .reserved => decide ((treadOf t n).ctx = ctx)
  | .aboard => false

/-- How many of a group's treads are FREE. -/
def groupFree (t : Stair) (g : Nat) : Nat := ((List.range 4).filter fun q => decide ((treadOf t (4 * g + q)).state = .free)).length

/-- The aligned group of four treads that a wide query may take, the lowest first (R76). -/
def alignedGroup (t : Stair) (ctx : Nat) : Option Nat :=
  (List.range 256).find? fun g => (List.range 4).all fun q => treadFor t ctx (4 * g + q)

/-- The group that holds the most free treads, the lowest on a tie (R76). -/
def reserveGroup (t : Stair) : Nat :=
  (List.range 256).foldl (fun b g => if groupFree t b < groupFree t g then g else b) 0

/-- The FREE treads of a group become RESERVED for a query (R76). -/
def reserveIn (t : Stair) (g ctx : Nat) : Stair :=
  (List.range 4).foldl
    (fun t i => if (treadOf t (4 * g + i)).state = .free then
        setTread t (4 * g + i) { freeTread with state := .reserved, ctx := ctx } else t) t

/-- A query holds a reservation in a hall. -/
def holdsGroup (t : Stair) (ctx : Nat) : Bool := t.treads.any fun e => decide (e.2.state = .reserved) && decide (e.2.ctx = ctx)

/-- Treads of a reserved group that have become FREE are granted only to the query that reserved it (R76). -/
def holdGroups (t : Stair) : Stair :=
  (t.treads.filter fun e => decide (e.2.state = .reserved)).foldl (fun t e => reserveIn t (e.1 / 4) e.2.ctx) t

/-- Permit-map versions that treads aboard read in a hall: its open map streams (R77). -/
def openStreams (s : State) (h : Nat) : List Nat :=
  distinct ((stair s h).treads.filterMap fun e =>
    if e.2.state = .aboard then (match findQuery s e.2.ctx with | some q => q.permitVer | none => none) else none)

/-- The version of its permit map that a query reads, or would read if it were granted now (R58, R78). -/
def Query.version (s : State) (q : Query) : Option Nat :=
  match q.permit, q.permitVer with
  | none, _ => none
  | some _, some v => some v
  | some m, none => currentPermit s q.coll m

/-- A map stream is at hand for a query in a hall (R77). -/
def streamReady (s : State) (h : Nat) (q : Query) : Bool :=
  match q.version s with
  | none => true
  | some v => (openStreams s h).contains v || decide ((openStreams s h).length < 16)

/-- Candidates in the pool take blocks of 16 entries (R85). -/
def poolBlocks (t : Stair) : Nat :=
  (t.treads.map fun e => (e.2.cands.length + 15) / 16).sum + (t.alighted.map fun a => (a.cands.length + 15) / 16).sum

/-! ### Landing order (R465) -/

/-- Virtual time of an account in a hall (R465). -/
def vtimeOf (t : Stair) (a : Nat) : Nat := tget (fun _ => 0) t.vtime a

/-- The flight entries of a hall with their queries. -/
def landingQueries (s : State) (h : Nat) : List (FlightEntry × Query) :=
  (stair s h).landing.filterMap fun e => (findQuery s e.ctx).map fun q => (e, q)

/-- The first of two entries in the order of R465: class, then virtual time, then tenant, then age. -/
def entryBefore (t : Stair) (a b : FlightEntry × Query) : Bool :=
  let ka := [a.2.prio, vtimeOf t a.2.account, a.2.account, a.1.seq]
  let kb := [b.2.prio, vtimeOf t b.2.account, b.2.account, b.1.seq]
  decide (ka < kb)

/-- The front of a hall's order among the entries that are not passed over (R465). -/
def frontEntry (s : State) (h : Nat) (skip : List Nat) : Option (FlightEntry × Query) :=
  ((landingQueries s h).filter fun e => !skip.contains e.1.ctx).foldl
    (fun b e =>
      match b with
      | none => some e
      | some x => if entryBefore (stair s h) e x then some e else some x) none

/-- An account without a waiting entry gains one: its virtual time catches up (R465). -/
def joinLanding (s : State) (h : Nat) (q : Query) : State :=
  let t := stair s h
  let others := (landingQueries s h).map fun e => e.2.account
  let v :=
    if others.contains q.account then vtimeOf t q.account
    else
      match others with
      | [] => vtimeOf t q.account
      | a :: as => max (vtimeOf t q.account) (as.foldl (fun m b => min m (vtimeOf t b)) (vtimeOf t a))
  modStair { s with store := { s.store with nextSeq := s.store.nextSeq + 1 } } h fun t =>
    { t with landing := t.landing ++ [⟨q.ctx, s.store.nextSeq⟩], vtime := tset (fun _ => 0) t.vtime q.account v }

/-- Take a query's entry out of a hall's Landing, with its reservation. -/
def leaveLanding (s : State) (h ctx : Nat) : State :=
  if (stair s h).landing.any fun e => e.ctx == ctx then
    modQuery (modStair s h fun t =>
      { t with landing := t.landing.filter fun e => e.ctx ≠ ctx
               treads := t.treads.filter fun e => !(decide (e.2.state = .reserved) && decide (e.2.ctx = ctx)) }) ctx
      fun q => { q with waiting := q.waiting - 1 }
  else s

/-! ### Grants (R76 to R78) -/

/-- The bay under the head, as extent number and bay. -/
def headBayOf (t : Stair) : Nat × Nat :=
  match t.extents[t.headExt]? with
  | none => (0, 0)
  | some x => (x.uid, t.headBay)

/-- A tread that boards at the bay under the head (R80). -/
def boardTread (s : State) (t : Stair) (q : Query) (w : Nat) (quarter : Option Nat) : Tread :=
  { state := .aboard, ctx := q.ctx, quarter := quarter, stopUid := (headBayOf t).1, stopBay := (headBayOf t).2, fresh := true,
    thresh := w, cands := [], spill := [], passQueued := false, examined := 0, skipped := 0, remSum := 0, boardTime := s.now }

/-- A query's first grant fixes its view epoch and its permit-map version (R78); the last one ends its wait. -/
def fixView (s : State) (h : Nat) (q : Query) : State :=
  let e := match collOf s q.coll with | some x => x.epoch | none => 0
  let s1 := modQuery s q.ctx fun x =>
    { x with view := some (x.view.getD e), permitVer := if x.view.isNone then x.version s else x.permitVer }
  let s2 := leaveLanding s1 h q.ctx
  match findQuery s2 q.ctx with
  | none => s2
  | some x => if x.waiting = 0 ∧ !x.delayed then addR s2 .wngTServed 1 (x.index s2) else s2

/-- Charge a grant to its account's virtual time (R465). -/
def chargeGrant (s : State) (h : Nat) (q : Query) : State :=
  let w := q.weight s
  modStair s h fun t => { t with vtime := tset (fun _ => 0) t.vtime q.account (vtimeOf t q.account + (65536 * q.need + w - 1) / w) }

/-- A query takes its treads and its map stream together, or neither (R77). -/
def takeTreads (s : State) (h : Nat) (q : Query) (board : Stair → Stair) : State × Bool :=
  if streamReady s h q then (fixView (chargeGrant (modStair s h board) h q) h q, true)
  else (setSticky s .strEvents .strEventEn 4 h, false)

/-- Try to grant an entry of a hall: the state after it, and whether it was granted. Only the entry at the front of the order
reserves (R76, R77). -/
def tryGrant (s : State) (h : Nat) (q : Query) (front : Bool) : State × Bool :=
  let t := stair s h
  match collOf s q.coll with
  | none => (s, false)
  | some x =>
    if x.rebase ≠ .idle then (s, false)
    else if q.wide then
      if fieldR s .strStage 0 11 h < wideAboard t + 4 then (s, false)
      else
        match alignedGroup t q.ctx with
        | some g =>
          takeTreads s h q fun t =>
            (List.range 4).foldl (fun t i => setTread t (4 * g + i) (boardTread s t q x.width (some i))) t
        | none => (if front && !holdsGroup t q.ctx then modStair s h fun t => reserveIn t (reserveGroup t) q.ctx else s, false)
    else
      match (List.range 1024).find? fun n => decide ((treadOf t n).state = .free) with
      | some n => takeTreads s h q fun t => setTread t n (boardTread s t q x.width none)
      | none => (s, false)

/-- Grant what may be granted at a bay boundary; an entry that cannot be granted is passed over (R76, R77). -/
def grantAll (s : State) (h : Nat) : List Nat → Nat → State
  | _, 0 => s
  | skip, n + 1 =>
    match frontEntry s h skip with
    | none => s
    | some e =>
      let r := tryGrant s h e.2 skip.isEmpty
      if r.2 then grantAll r.1 h skip n else grantAll r.1 h (e.1.ctx :: skip) n

/-! ### Alighting (R80, R81) -/

/-- The flight of a query in a hall alights: its candidates are handed to final selection and its treads freed (R80). -/
def alight (s : State) (h ctx : Nat) (thermal : Bool) : State :=
  let t := stair s h
  let own := t.treads.filter fun e => decide (e.2.state = .aboard) && decide (e.2.ctx = ctx)
  let mine := own.map Prod.snd
  match mine with
  | [] => s
  | x :: _ =>
    let a : Alighted :=
      { ctx := ctx, cands := (mine.map Tread.cands).flatten, treads := own.map fun e => (e.1, e.2.cands.length),
        radius := (match findQuery s ctx with | some q => q.radius | none => 0), spill := (mine.map Tread.spill).flatten,
        spilled := mine.any fun y => !y.spill.isEmpty, thermal := thermal, skipped := (mine.map Tread.skipped).sum,
        examined := (mine.map Tread.examined).sum, remSum := (mine.map Tread.remSum).sum, boardTime := x.boardTime,
        alightTime := s.now, pace := stairPace s h }
    modStair s h fun t =>
      { t with alighted := t.alighted ++ [a]
               treads := t.treads.filter fun e => !(decide (e.2.state = .aboard) && decide (e.2.ctx = ctx)) }

/-- Every query aboard a hall whose treads satisfy a test alights. -/
def alightWhere (s : State) (h : Nat) (p : Tread → Bool) (thermal : Bool) : State :=
  (distinct ((stair s h).treads.filterMap fun e => if e.2.state = .aboard ∧ p e.2 then some e.2.ctx else none)).foldl
    (fun s ctx => alight s h ctx thermal) s

/-- The hall stops at step 3: every tread aboard ends, and every waiting entry leaves the hall out of its flight (R89). -/
def thermalStop (s : State) (h : Nat) : State :=
  let s1 := alightWhere s h (fun _ => true) true
  let s2 := (stair s1 h).landing.foldl (fun s e => addEmpty (leaveLanding s h e.ctx) e.ctx h true) s1
  if (stair s h).running then setSticky s2 .strEvents .strEventEn 2 h else s2

/-! ### Compare and admission (R82 to R86, R92) -/

/-- Set bits of a number. -/
def popcountAux : Nat → Nat → Nat
  | 0, _ => 0
  | k + 1, x => x % 2 + popcountAux k (x / 2)

/-- The popcount of the XOR of two codes over W bits (R82). -/
def hamming (w a b : Nat) : Nat := popcountAux w (Nat.xor a b)

/-- The map permits a slot (R57): bits beyond the map's length do not permit. -/
def permitted (s : State) (h i : Nat) (q : Query) : Bool :=
  match q.permit with
  | none => true
  | some _ =>
    match q.permitVer with
    | none => false
    | some v =>
      match tget (fun _ => none) s.store.permits v with
      | none => false
      | some p => let m := tget (fun _ => (0, 0)) p.halls h; decide (i < m.2) && bit m.1 i

/-- The map bit of a slot lies in an uncorrectable line of a map version (R92). -/
def mapLineBad (s : State) (h i : Nat) (ver : Option Nat) : Bool :=
  (ctl s h).badLines.any fun l =>
    match l with
    | .permit v n => decide (ver = some v) && decide (n = i / 512)
    | _ => false

/-- A record of the bay under the head lies in an uncorrectable line: its code or stamp, or its map bits for the treads that
read that map (R92). -/
def recordSkipped (s : State) (h uid bay i w : Nat) (ver : Option Nat) : Bool :=
  let j := i % 64
  let cb := w / 8
  mapLineBad s h i ver ||
    (ctl s h).badLines.any fun l =>
      match l with
      | .swept u b n =>
        decide (u = uid) && decide (b = bay) &&
          ((decide (j * cb < (n + 1) * 64) && decide (n * 64 < (j + 1) * cb)) || decide (n = w / 8 + j / 8))
      | _ => false

/-- A tread takes one record (R82): examined records beyond the threshold or RADIUS go to the remaining sum, the others to
the pool, or to the spill ring when the pool has no free entry (R85). -/
def takeRecord (t : Stair) (n : Nat) (x : Tread) (d slot radius : Nat) : Stair :=
  if d ≤ min x.thresh radius then
    if x.cands.length % 16 = 0 ∧ 16384 ≤ poolBlocks t then
      { setTread t n { x with examined := x.examined + 1, spill := x.spill ++ [⟨d, slot⟩] } with spillProd := t.spillProd + 1 }
    else setTread t n { x with examined := x.examined + 1, cands := x.cands ++ [⟨d, slot⟩] }
  else setTread t n { x with examined := x.examined + 1, remSum := x.remSum + d }

/-- One spill entry as the ring holds it (R85). -/
def spillBytes (d tread slot ctx : Nat) : List Byte :=
  bytesOf 2 d ++ bytesOf 2 tread ++ bytesOf 4 slot ++ bytesOf 2 ctx ++ bytesOf 6 0

/-- Entries that the spill ring holds. -/
def spillCapacity (s : State) (h : Nat) : Nat := getR s .trnSpillSize h * 256

/-- Compare one record with one tread of the hall (R82). A record in a bad line is skipped where the tread would have reached
it: it is visible, and permitted unless the bad line holds its map bit (R92, log entry 111). -/
def compareRecord (s : State) (h uid bay i : Nat) (c : Coll) (n : Nat) : State :=
  let x := treadOf (stair s h) n
  match findQuery s x.ctx with
  | none => s
  | some q =>
    let r := c.slot h i
    let mine := match x.quarter with | none => true | some k => decide (i % 4 = k)
    if !mine then s
    else if recordSkipped s h uid bay i c.width q.permitVer then
      if r.visible (q.view.getD 0) && (mapLineBad s h i q.permitVer || permitted s h i q) then
        setSticky (addR (modStair s h fun t => setTread t n { x with skipped := x.skipped + 1 }) .strSkipCount 1 h)
          .strEvents .strEventEn 8 h
      else s
    else if !r.visible (q.view.getD 0) || !permitted s h i q then s
    else
      let d := hamming c.width r.code q.code
      let before := (stair s h).spillProd
      let s1 := modStair s h fun t => takeRecord t n x d i q.radius
      if (stair s1 h).spillProd = before then s1
      else
        let cap := max 1 (spillCapacity s h)
        addR (hallPut s1 h (getR s .trnSpillBase h + 16 * (before % cap)) (spillBytes d n i (x.ctx % 65536))) .trnSpillCount 1 h

/-- Compare one record with every tread aboard whose query is on the bay's collection. -/
def compareAll (s : State) (h uid bay i : Nat) (c : Coll) (coll : Nat) : State :=
  ((stair s h).treads.filter fun e => decide (e.2.state = .aboard)).foldl
    (fun s e =>
      match findQuery s e.2.ctx with
      | none => s
      | some q => if q.coll = coll then compareRecord s h uid bay i c e.1 else s) s

/-- Treads that reach the trigger level with at least k candidates queue a selection pass (R83). -/
def queuePasses (s : State) (h : Nat) : State :=
  let lim := fieldR s .trnPoolCtrl 0 9 h
  let f := fun e : Nat × Tread =>
    match findQuery s e.2.ctx with
    | none => e
    | some q =>
      if e.2.state = .aboard ∧ q.k ≤ e.2.cands.length ∧ lim ≤ e.2.cands.length then (e.1, { e.2 with passQueued := true }) else e
  modStair s h fun t => { t with treads := t.treads.map f }

/-- The local number of the first bay of an extent in its segment (R55). -/
def bayBase (s : State) (c h uid : Nat) : Nat :=
  (((collExtents s c h).takeWhile fun x => x.uid ≠ uid).map Extent.bays).sum

/-- Stream the bay under the head: every record of it against every tread aboard (R70, R82). -/
def streamBay (s : State) (h : Nat) : State :=
  let t := stair s h
  match t.extents[t.headExt]? with
  | none => s
  | some x =>
    match collOf s x.coll with
    | none => s
    | some c =>
      let base := 64 * (bayBase s x.coll h x.uid + t.headBay)
      let s1 := (List.range 64).foldl (fun s j => compareAll s h x.uid t.headBay (base + j) c x.coll) s
      let g := fun e : Nat × Tread => (e.1, { e.2 with fresh := false })
      let s2 := modStair s1 h fun t => { t with treads := t.treads.map g, limited := t.limited || compareLimited s h c.width }
      let s3 := queuePasses s2 h
      if getR s .trnSpillSize h ≠ 0 ∧ spillCapacity s h ≤ (stair s3 h).spillProd - (stair s3 h).spillCons then
        setSticky (modStair s3 h fun t => { t with ringHeld := true }) .strEvents .strEventEn 1 h
      else s3

/-! ### Landings (R11, R47, R72, R87, R96, R551) -/

/-- The stop mark of a tread whose boarding bay has left the loop: the next bay that remains in loop order, or the revolution
boundary, which extent number 0 stands for (R87). -/
def moveMark (old new : List Extent) (x : Tread) : Tread :=
  match new.find? fun e => e.uid == x.stopUid with
  | some e =>
    if x.stopBay < e.bays then x
    else
      match ((old.dropWhile fun y => y.uid ≠ x.stopUid).tail).find? fun y => new.any fun z => z.uid == y.uid with
      | some y => { x with stopUid := y.uid, stopBay := 0 }
      | none => { x with stopUid := 0, stopBay := 0 }
  | none =>
    match ((old.dropWhile fun y => y.uid ≠ x.stopUid).tail).find? fun y => new.any fun z => z.uid == y.uid with
    | some y => { x with stopUid := y.uid, stopBay := 0 }
    | none => { x with stopUid := 0, stopBay := 0 }

/-- Bays at the end of a segment's last extent in which every slot is free or reclaimable and not chosen (R551). -/
def emptyTail (s : State) (c : Nat) (x : Coll) (h : Nat) : Nat → Nat → Nat
  | 0, _ => 0
  | n + 1, b =>
    let lo := slotKey h (64 * (b - 1))
    let used := (x.slots.any fun e => decide (lo ≤ e.1) && decide (e.1 < lo + 64) && !e.2.free && !reclaimable (lowWater s c) e.2) ||
      x.chosen.any fun k => decide (lo ≤ k) && decide (k < lo + 64)
    if used then 0 else 1 + emptyTail s c x h n (b - 1)

/-- Remove the emptied bays of the collections that have been compacted in a hall (R551). -/
def removeEmptied (s : State) (h : Nat) : State :=
  s.store.colls.foldl
    (fun t e =>
      match e.2 with
      | none => t
      | some x =>
        match (collExtents t e.1 h).getLast? with
        | none => t
        | some l =>
          if bit x.compactHalls h ∧ l.uid < x.compactUid ∧ pendingAdd t e.1 h = 0 then
            let n := emptyTail t e.1 x h l.bays (segBays t e.1 h)
            if n = 0 then t
            else modJournal (removeBays t h e.1 n) x.wing fun j => { j with dirty := j.dirty || hasUndercroft t }
          else t) s

/-- The ring of a hall holds no entry (R96). -/
def ringEmpty (t : Stair) : Bool := decide (t.spillProd = t.spillCons)

/-- Staged settings of a hall's Stair and Turnstile take effect (R11, R96). -/
def landStair (s : State) (h : Nat) : State :=
  let s1 := landR (landR s .strStage h) .trnPoolCtrl h
  if ringEmpty (stair s h) ∧ ((stagedR s .trnSpillBase h).isSome ∨ (stagedR s .trnSpillSize h).isSome) then
    modStair (landR (landR s1 .trnSpillBase h) .trnSpillSize h) h fun t => { t with spillProd := 0, spillCons := 0 }
  else s1

/-- Set the LIMITED bit of a hall after a compare-limited revolution (R31). -/
def setLimited (s : State) (h : Nat) : State :=
  let fresh := !bit (getR s .pceSweepLimited) h
  let s1 := setR s .pceSweepLimited (getR s .pceSweepLimited ||| 2 ^ h)
  if fresh && bit (getR s .pceCtrl) 1 then postEvent s1 0 8 0 h 0 0 0 else s1

/-- The extent changes of a hall take effect, and the emptied bays leave; stop marks move (R56, R72, R87, R551). -/
def landExtents (s : State) (h : Nat) : State :=
  let old := (stair s h).extents
  let s1 := (stair s h).changes.foldl (fun t x => applyChange t h x) (modStair s h fun t => { t with changes := [] })
  let s2 := removeEmptied s1 h
  modStair s2 h fun t => { t with treads := t.treads.map fun e =>
      (e.1, if e.2.state = .aboard ∧ e.2.stopUid ≠ 0 then moveMark old t.extents e.2 else e.2) }

/-- The revolution boundary of a hall: its Landing (R47, R55). -/
def revolution (s : State) (h : Nat) : State :=
  let t := stair s h
  let s1 := alightWhere s h (fun x => decide (x.stopUid = 0)) false
  let s2 := setR (addR s1 .strRevCount 1 h) .strRevNs (min (s.now - t.revStart) 0xFFFFFFFF) h
  let s3 := if t.limited then setLimited s2 h else s2
  let s4 := modStair (landStair s3 h) h fun t => { t with headExt := 0, headBay := 0, revStart := s.now, limited := false }
  landExtents s4 h

/-- The head steps to the next bay, through the revolution boundary after the last (R55). -/
def advanceHead (s : State) (h : Nat) : State :=
  let t := stair s h
  match t.extents[t.headExt]? with
  | none => s
  | some x =>
    if t.headBay + 1 < x.bays then modStair s h fun t => { t with headBay := t.headBay + 1 }
    else if t.headExt + 1 < t.extents.length then modStair s h fun t => { t with headExt := t.headExt + 1, headBay := 0 }
    else revolution s h

/-- The head of a hall may move: enabled, not held, stopped or parked, and not in self-refresh (R70, R86, R89 to R91). -/
def mayMove (s : State) (h : Nat) : Bool :=
  let t := stair s h
  t.running && bit (getR s .strCtrl h) 0 && !t.ringHeld && decide (thermalStep s h < 3) && !halted s h &&
    !bit (getR s .halStatus h) 5 && !(t.parking && countTreads t .aboard = 0)

/-- One bay boundary and one bay: stop marks are met, grants made unless the hall parks, then the bay streams and the head
steps. An empty loop passes its boundary at once and ends every tread aboard (R70 to R73, R87). -/
def bayStep (s : State) (h : Nat) : State :=
  if loopBays s h = 0 then
    let s1 := alightWhere s h (fun _ => true) false
    landExtents (modStair (landStair s1 h) h fun t => { t with headExt := 0, headBay := 0 }) h
  else
    let b := headBayOf (stair s h)
    let s1 := alightWhere s h (fun x => !x.fresh && decide (x.stopUid = b.1) && decide (x.stopBay = b.2)) false
    let s2 := if (stair s h).parking then s1 else grantAll (modStair s1 h holdGroups) h [] (2 * (stair s1 h).landing.length)
    if (stair s2 h).parking ∧ countTreads (stair s2 h) .aboard = 0 then s2
    else advanceHead (streamBay s2 h) h

end Sys2Proof.Machine
end

