-- ==== Sys2Proof/Machine/Turnstile.lean ====
section
/-! DEFINITION. The Turnstile: selection passes, final selection, spill and hall result records (R85, R93, R97 to R104). -/

namespace Sys2Proof.Machine

/-- A candidate with the item ID of its slot. -/
structure Ranked where
  dist : Nat
  item : Nat
  slot : Nat
  deriving DecidableEq, Repr

/-- The order of R97 within one hall: distance, item ID, slot index. -/
def Ranked.before (a b : Ranked) : Bool := decide ([a.dist, a.item, a.slot] < [b.dist, b.item, b.slot])

/-- Insert into an ordered list. -/
def insertBy {α : Type} (lt : α → α → Bool) (a : α) : List α → List α
  | [] => [a]
  | b :: t => if lt a b then a :: b :: t else b :: insertBy lt a t

/-- Sort by an order; members that the order does not separate keep their places. -/
def sortBy {α : Type} (lt : α → α → Bool) : List α → List α
  | [] => []
  | a :: t => insertBy lt a (sortBy lt t)

/-- The item ID of a slot. -/
def itemOf (s : State) (coll h i : Nat) : Nat := match collOf s coll with | some x => (x.slot h i).item | none => 0

/-- Candidates with their item IDs. -/
def rankAll (s : State) (coll h : Nat) (l : List Cand) : List Ranked := l.map fun c => ⟨c.dist, itemOf s coll h c.slot, c.slot⟩

/-- The outcome of a selection: kept, dropped, and removed because an ID line was uncorrectable (R99, R102). -/
structure Selected where
  kept : List Ranked
  dropped : List Ranked
  removed : List Ranked
  deriving DecidableEq, Repr

/-- Candidates whose item IDs a selection of `k` among a sorted list reads: the tied ones of a straddling tie (R99), and in
a final selection every kept one (R101). -/
def needIds (k : Nat) (final : Bool) (l : List Ranked) : List Ranked :=
  let kept := l.take k
  let tie :=
    match kept.getLast?, (l.drop k).head? with
    | some a, some b => if a.dist = b.dist then l.filter fun c => decide (c.dist = a.dist) else []
    | _, _ => []
  if final then kept ++ tie.filter fun c => !kept.contains c else tie

/-- A selection (R99, R101, R102): while a needed ID line is uncorrectable its candidates are removed and the selection goes
on without them. -/
def selectBest (bad : Ranked → Bool) (k : Nat) (final : Bool) : Nat → List Ranked → List Ranked → Selected
  | 0, l, out => ⟨l.take k, l.drop k, out⟩
  | n + 1, l, out =>
    let hit := (needIds k final l).filter bad
    if hit.isEmpty then ⟨l.take k, l.drop k, out⟩ else selectBest bad k final n (l.filter fun c => !hit.contains c) (out ++ hit)

/-- Select among candidates of one hall (R97, R99). -/
def selectIn (s : State) (coll h k : Nat) (final : Bool) (l : List Cand) : Selected :=
  let r := sortBy Ranked.before (rankAll s coll h l)
  selectBest (fun c => idBad s coll h c.slot) k final r.length r []

/-- The sum of distances. -/
def distSum (l : List Ranked) : Nat := (l.map Ranked.dist).sum

/-- Read ID lines that turn out uncorrectable or corrected while a selection reads them (R102, R269, R270). -/
def readIdLines (s : State) (h : Nat) (errs : List (LineAt × LineErr)) : State :=
  errs.foldl (fun t e => (readLine t h e.1 2 e.2).1) s

/-- Candidates above a lowered RADIUS are dropped at the next selection (R84). -/
def withinRadius (r : Nat) (l : List Cand) : List Cand := l.filter fun c => decide (c.dist ≤ r)

/-- The distances of a list of candidates. -/
def candSum (l : List Cand) : Nat := (l.map Cand.dist).sum

/-- An intermediate pass over one tread: the k best stay, the threshold drops to the greatest kept distance (R83, R100). -/
def passTread (s : State) (h n : Nat) : State :=
  let x := treadOf (stair s h) n
  match findQuery s x.ctx with
  | none => s
  | some q =>
    let l := withinRadius q.radius x.cands
    let r := selectIn s q.coll h q.k false l
    let kept : List Cand := r.kept.map fun c => ⟨c.dist, c.slot⟩
    let top := if r.kept.length = q.k then min x.thresh ((r.kept.getLast?.map Ranked.dist).getD x.thresh) else x.thresh
    let y := { x with
      cands := kept, passQueued := false, thresh := top, skipped := x.skipped + r.removed.length
      remSum := x.remSum + (candSum x.cands - candSum l) + distSum r.dropped + distSum r.removed }
    let s1 := modStair s h fun t => setTread t n y
    if r.removed.isEmpty then s1 else setSticky (addR s1 .strSkipCount r.removed.length h) .strEvents .strEventEn 8 h

/-- SELECTION_PASS (R83): the queued pass of a tread runs. `errs` are the errors of ID lines that it reads. -/
def execSelectionPass (h n : Nat) (errs : List (LineAt × LineErr)) (s : State) : Out :=
  .next (let x := treadOf (stair s h) n
    if x.state = .aboard ∧ x.passQueued then passTread (readIdLines s h errs) h n else s)

/-! ### Hall result records (R93, R94) -/

/-- STATUS of a hall result record, by the precedence of R94. -/
def HallRec.status (r : HallRec) : Nat :=
  if r.ecc then stEcc else if r.thermal then stPartialThermal else if r.spilled then stCandidatesSpilled else stOk

/-- Entries of a record from the winners in order; a tie with the next entry is marked (R93, R101). -/
def hallEntries : List Ranked → List HallEntry
  | [] => []
  | [a] => [⟨a.dist, a.slot, a.item, false⟩]
  | a :: b :: t => ⟨a.dist, a.slot, a.item, decide (a.dist = b.dist)⟩ :: hallEntries (b :: t)

/-- The record of a flight that has alighted (R93, R101, R103). -/
def finalRecord (s : State) (h : Nat) (q : Query) (a : Alighted) : HallRec :=
  let all := a.cands ++ a.spill
  let l := withinRadius a.radius all
  let r := selectIn s q.coll h q.k true l
  { hall := h, radius := a.radius, ecc := decide (a.skipped + r.removed.length ≠ 0), thermal := a.thermal, spilled := a.spilled, pace := a.pace,
    entries := hallEntries r.kept, skipped := min (a.skipped + r.removed.length) 0xFFFF, examined := a.examined,
    selSum := distSum r.kept, remSum := a.remSum + (candSum all - candSum l) + distSum r.dropped + distSum r.removed,
    boardTime := a.boardTime, alightTime := a.alightTime }

/-- An entry's 16 bytes (R93). -/
def hallEntryBytes (h : Nat) (e : HallEntry) : List Byte :=
  bytesOf 2 e.dist ++ bytesOf 2 (h + 16 * b2n e.tied) ++ bytesOf 4 e.slot ++ bytesOf 8 e.item

/-- Pad with zeros to whole lines. -/
def padLines (bs : List Byte) : List Byte := bs ++ List.replicate ((64 - bs.length % 64) % 64) 0

/-- A hall result record as it is written (R93). -/
def hallRecBytes (s : State) (q : Query) (r : HallRec) : List Byte :=
  let w := match collOf s q.coll with | some x => x.width | none => 0
  let e := match collOf s q.coll with | some x => x.epoch | none => 0
  let flags := b2n r.spilled + 2 * b2n r.thermal + 4 * b2n (decide (r.skipped ≠ 0)) + 8 * b2n (decide (r.radius < w))
  padLines (bytesOf 8 q.tag ++ bytesOf 2 q.coll ++ bytesOf 1 r.hall ++ bytesOf 1 q.k ++ bytesOf 2 r.status ++ bytesOf 2 r.pace ++
    bytesOf 4 (q.view.getD e) ++ bytesOf 1 r.entries.length ++ bytesOf 1 flags ++ bytesOf 2 r.skipped ++ bytesOf 8 r.examined ++
    bytesOf 8 r.selSum ++ bytesOf 8 r.remSum ++ bytesOf 8 r.boardTime ++ bytesOf 8 r.alightTime ++
    (r.entries.map (hallEntryBytes r.hall)).flatten)

/-- The flight's candidates leave the pool, and its record joins the query (R81). -/
def settleAlighted (s : State) (h : Nat) (q : Query) (a : Alighted) : State :=
  let r := finalRecord s h q a
  let s1 := modStair s h fun t => { t with alighted := t.alighted.filter fun y => y.ctx ≠ a.ctx }
  let s2 := addRec s1 q.ctx r
  if r.skipped = a.skipped then s2
  else setSticky (addR s2 .strSkipCount (r.skipped - a.skipped) h) .strEvents .strEventEn 8 h

/-- A flight that has alighted in a hall. -/
def alightedOf (s : State) (h ctx : Nat) : Option Alighted := (stair s h).alighted.find? fun a => a.ctx == ctx

/-- Final selection of a flight without spilled candidates (R101). -/
def finalSelection (s : State) (h ctx : Nat) (errs : List (LineAt × LineErr)) : State :=
  let s1 := readIdLines s h errs
  match alightedOf s h ctx, findQuery s ctx with
  | some a, some q => if a.spilled then s else settleAlighted s1 h q a
  | _, _ => s

/-! ### Spill (R85, R86) -/

/-- Free units at the consumer end of the ring; the head goes on once it is not full (R86). -/
def freeSpill (s : State) (h units : Nat) : State :=
  let f := fun t : Stair =>
    let c := min t.spillProd (t.spillCons + 256 * units)
    { t with spillCons := c, ringHeld := t.ringHeld && decide (c = t.spillCons) }
  noteStall (modStair s h f) h

/-- An Usher's selection over the spilled entries of one tread aboard: the k best stay, the threshold tightens (R85, R100). -/
def spillPass (s : State) (h : Nat) (q : Query) (e : Nat × Tread) : State :=
  let x := e.2
  let r := selectIn s q.coll h q.k false x.spill
  let top := if r.kept.length = q.k then min x.thresh ((r.kept.getLast?.map Ranked.dist).getD x.thresh) else x.thresh
  modStair s h fun t => setTread t e.1
    { x with spill := r.kept.map fun c => ⟨c.dist, c.slot⟩, thresh := top, skipped := x.skipped + r.removed.length,
             remSum := x.remSum + distSum r.dropped + distSum r.removed }

/-- Ushers serve a query's spilled entries in a hall: passes while it is aboard, its final selection once it has alighted;
`units` 4 KiB units of the ring are freed (R85, R86). -/
def spillFinish (s : State) (h ctx units : Nat) (errs : List (LineAt × LineErr)) : State :=
  let s1 := freeSpill (readIdLines s h errs) h units
  match findQuery s ctx with
  | none => s1
  | some q =>
    match alightedOf s1 h ctx with
    | some a => settleAlighted s1 h q a
    | none =>
      ((stair s1 h).treads.filter fun e => decide (e.2.ctx = ctx) && decide (e.2.state = .aboard) && !e.2.spill.isEmpty).foldl
        (fun s e => spillPass s h q e) s1

end Sys2Proof.Machine
end

