-- ==== Sys2Proof/Machine/Admission.lean ====
section
/-! DEFINITION. Admission of searches, BOARDs and peer QUERYs under load (R464 to R471). -/

namespace Sys2Proof.Machine

/-- The device's shared time is synchronised (R452). -/
def synced (s : State) : Bool := bit (getR s .timStatus) 0

/-- The halls that a flight boards: present halls of its collection that are neither stopped nor halted and whose segment holds
bays (R79, R89, R466). -/
def boardingHalls (s : State) (coll : Nat) : List Nat :=
  match collOf s coll with
  | none => []
  | some x => (maskHalls x.halls).filter fun h => decide (thermalStep s h < 3) && !halted s h && decide (segBays s coll h ≠ 0)

/-- The treads of an account in a hall: aboard, and what its waiting entries need, reserved or not (R466 step 2). -/
def accountTreads (s : State) (h account : Nat) : Nat :=
  let aboard := (stair s h).treads.filter fun e =>
    decide (e.2.state = .aboard) && match findQuery s e.2.ctx with | some q => decide (q.account = account) | none => false
  let waiting := ((landingQueries s h).filter fun e => decide (e.2.account = account)).map fun e => e.2.need
  aboard.length + waiting.sum

/-- TREAD_QUOTA of a query's account. -/
def treadQuota (s : State) (q : Query) : Nat := fieldR s .wngTCfg 24 11 (q.index s)

/-! ### The estimate (R468) -/

/-- Time until the head reaches a stop mark at the current rate, as a numerator over `timeDen`. -/
def untilStop (s : State) (h : Nat) (x : Tread) : Nat :=
  let t := stair s h
  let at_ := fun uid bay =>
    (((t.extents.takeWhile fun e => e.uid ≠ uid).map fun e => bayTimeNum s h (extentWidth s e) e.bays).sum) +
      (match t.extents.find? fun e => e.uid == uid with | some e => bayTimeNum s h (extentWidth s e) bay | none => 0)
  let whole := (t.extents.map fun e => bayTimeNum s h (extentWidth s e) e.bays).sum
  let head := at_ (headBayOf t).1 (headBayOf t).2
  let stop := if x.stopUid = 0 then whole else at_ x.stopUid x.stopBay
  if head < stop then stop - head else stop + whole - head

/-- The projected free time of each tread of a hall, in `timeDen` units; a free tread is free now. -/
def freeTimes (s : State) (h : Nat) : List Nat :=
  (List.range 1024).map fun n =>
    let x := treadOf (stair s h) n
    if x.state = .aboard then untilStop s h x else 0

/-- The least member of a list and its place. -/
def leastAt : List Nat → Nat × Nat
  | [] => (0, 0)
  | [a] => (a, 0)
  | a :: t => let r := leastAt t; if r.1 < a then (r.1, r.2 + 1) else (a, 0)

/-- The greatest of each aligned four. -/
def groupTimes : List Nat → List Nat
  | a :: b :: c :: d :: t => max (max a b) (max c d) :: groupTimes t
  | _ => []

/-- Replace a member of a list. -/
def setNth : List Nat → Nat → Nat → List Nat
  | [], _, _ => []
  | _ :: t, 0, v => v :: t
  | a :: t, n + 1, v => a :: setNth t n v

/-- Assign one entry to the earliest projected free tread or group, which is busy for one more revolution from then: the new
projections and the entry's start (R468). -/
def assignEntry (wide : Bool) (rev : Nat) (ts : List Nat) : List Nat × Nat :=
  if wide then
    let r := leastAt (groupTimes ts)
    ((List.range 4).foldl (fun l i => setNth l (4 * r.2 + i) (r.1 + rev)) ts, r.1)
  else
    let r := leastAt ts
    (setNth ts r.2 (r.1 + rev), r.1)

/-- The waiting entries of a hall in the order in which they would be granted (R465). -/
def landingOrder (s : State) (h : Nat) : Nat → List Query
  | 0 => []
  | n + 1 =>
    match frontEntry s h [] with
    | none => []
    | some e =>
      let s1 := modStair (chargeGrant s h e.2) h fun t => { t with landing := t.landing.filter fun y => y.ctx ≠ e.1.ctx }
      e.2 :: landingOrder s1 h n

/-- The entries ahead of a query in a hall, and the query itself last. -/
def aheadOf (s : State) (h : Nat) (q : Query) : List Query :=
  let s1 :=
    if (stair s h).landing.any fun e => e.ctx == q.ctx then s
    else joinLanding { s with store := { s.store with queries := s.store.queries ++ [q] } } h q
  let l := landingOrder s1 h ((stair s1 h).landing.length)
  (l.takeWhile fun x => x.ctx ≠ q.ctx) ++ [q]

/-- w_h of R468 in nanoseconds; none when it is unbounded. -/
def waitEst (s : State) (h : Nat) (q : Query) : Option Nat :=
  let t := stair s h
  let rebase := match collOf s q.coll with | some x => decide (x.rebase ≠ .idle) | none => false
  if t.parking || !t.running || !bit (getR s .strCtrl h) 0 || rebase then none
  else
    let rev := (t.extents.map fun x => bayTimeNum s h (extentWidth s x) x.bays).sum
    let r := (aheadOf s h q).foldl (fun p x => assignEntry x.wide rev p.1) (freeTimes s h, 0)
    nearestNs r.2 (timeDen s h)

/-- The lowest PACE_NOW among the compute-region monitors of a wing's hall groups; a monitor that reads 0 is left out
(R468). -/
def computePace (s : State) (w : Nat) : Nat :=
  let l := ((List.range 16).filter fun g => ownsGroup s w g && decide (getR s .pceMon (2 * g + 1) ≠ 0)).map fun g => getR s .pceMon (2 * g + 1)
  match l with
  | [] => 1000
  | a :: t => t.foldl min a

/-- M(n, K) of R468 in nanoseconds, rounded down. -/
def mergeCost (s : State) (w n k : Nat) : Nat := (3000 + 4 * n * k) * 1000 / computePace s w

/-- The greatest of a list of times; none when one is unbounded. -/
def maxAll : List (Option Nat) → Option Nat
  | [] => some 0
  | none :: _ => none
  | some a :: t => (maxAll t).map (max a)

/-- E − now of R468 for the halls of a flight; none when it is unbounded. -/
def estimate (s : State) (q : Query) (hs : List Nat) : Option Nat :=
  let w := match collOf s q.coll with | some x => x.wing | none => 0
  let l := hs.map fun h =>
    match waitEst s h q, revEst s h with
    | some a, some b => some (a + b)
    | _, _ => none
  (maxAll l).map fun m => m + mergeCost s w hs.length q.k + getR s .wngAdmMarginNs

/-- The estimate passes the flight's limit (R468). -/
def pastLimit (s : State) (q : Query) (hs : List Nat) : Bool :=
  match q.limit with
  | none => false
  | some l => match estimate s q hs with | none => true | some e => decide (l < s.now + e)

/-! ### Ending queries -/

/-- A query ends without a result: it leaves every Landing, its treads are freed, and its requester is to be told (R467,
R469). -/
def endQuery (s : State) (ctx st : Nat) : State :=
  match findQuery s ctx with
  | none => s
  | some q =>
    let s1 := (List.range 16).foldl (fun t h => leaveLanding t h ctx) s
    let s2 := dropQuery s1 ctx
    { s2 with store := { s2.store with ended := s2.store.ended ++ [(q, st)] } }

/-- Count a refusal against the query's account (R473). -/
def countOutcome (s : State) (q : Query) (st : Nat) : State :=
  let i := q.index s
  if st = stRefusedQuota then addR s .wngTQuota 1 i
  else if st = stRefusedOverload then addR s .wngTOverload 1 i
  else if st = stRefusedDeadline then addR s .wngTDeadline 1 i
  else if st = stShedPriority then addR s .wngTShed 1 i
  else s

/-! ### Shedding (R467) -/

/-- The flight that an arrival may shed from a full Landing: not yet granted anywhere, of a numerically greater class; the
lowest class, and within it the latest admitted. -/
def shedCandidate (s : State) (h : Nat) (q : Query) : Option Query :=
  ((landingQueries s h).filter fun e => decide (q.prio < e.2.prio) && e.2.view.isNone).foldl
    (fun b e =>
      match b with
      | none => some e
      | some x => if x.2.prio < e.2.prio ∨ (x.2.prio = e.2.prio ∧ x.1.seq < e.1.seq) then some e else some x) none
    |>.map Prod.snd

/-- The Landings of a flight that are full (R76). -/
def fullLandings (s : State) (hs : List Nat) : List Nat := hs.filter fun h => decide (4096 ≤ (stair s h).landing.length)

/-- Make room in every full Landing of an arrival, in ascending order; none when one of them has nothing to shed. -/
def shedAll (s : State) (q : Query) : List Nat → Option State
  | [] => some s
  | h :: hs =>
    if (stair s h).landing.length < 4096 then shedAll s q hs
    else
      match shedCandidate s h q with
      | none => none
      | some v => shedAll (endQuery (countOutcome s v stShedPriority) v.ctx stShedPriority) q hs

/-! ### Admission (R466) -/

/-- The status of the first check of R466 that fails. -/
def admitFail (s : State) (q : Query) (hs : List Nat) : Option Nat :=
  firstFail
    [(decide (q.deadline ≠ 0) && !synced s, stRefusedDeadline),
     (hs.any fun h => decide (treadQuota s q < accountTreads s h q.account + q.need), stRefusedQuota),
     (decide (q.deadline ≠ 0) && pastLimit s q hs, stRefusedDeadline),
     ((shedAll s q hs).isNone, stRefusedOverload)]

/-- Place a flight: entries at its Landings, empty records for the halls that it does not board (R79, R89). -/
def placeFlight (s : State) (q : Query) (hs : List Nat) : State :=
  let all := match collOf s q.coll with | some x => maskHalls x.halls | none => []
  let q1 := { q with waiting := hs.length, halls := all.length, admitted := s.now }
  let s1 := { s with store := { s.store with queries := s.store.queries ++ [q1] } }
  let s2 := (all.filter fun h => !hs.contains h).foldl
    (fun t h => addEmpty t q.ctx h (decide (3 ≤ thermalStep t h) || halted t h)) s1
  hs.foldl (fun t h => joinLanding t h q1) s2

/-- Admit a query, or answer the status that refuses it (R466). -/
def admitQuery (s : State) (q : Query) : Except Nat State :=
  let hs := boardingHalls s q.coll
  match admitFail s q hs with
  | some st => .error st
  | none =>
    match shedAll s q hs with
    | none => .error stRefusedOverload
    | some s1 => .ok (placeFlight s1 q hs)

/-- Judge every waiting flight with a deadline again (R469). -/
def judgeAgain (s : State) : State :=
  s.store.queries.foldl
    (fun t q =>
      if q.limit.isSome ∧ q.view.isNone ∧ q.waiting ≠ 0 ∧
          pastLimit t q ((List.range 16).filter fun h => (stair t h).landing.any fun e => e.ctx == q.ctx) then
        endQuery (countOutcome t q stRefusedDeadline) q.ctx stRefusedDeadline
      else t) s

/-- The estimated shared time at which the last hall of a waiting flight will grant (R470); all ones when it is unbounded. -/
def lastGrant (s : State) (q : Query) : Nat :=
  match maxAll (((List.range 16).filter fun h => (stair s h).landing.any fun e => e.ctx == q.ctx).map fun h => waitEst s h q) with
  | some w => s.now + w
  | none => 2 ^ 64 - 1

end Sys2Proof.Machine
end

