-- ==== Sys2Proof/Machine/Maps.lean ====
section
/-! DEFINITION. Shard maps, seals and collection changes (R114 to R116, R437 to R447), and COLL_SET. -/

namespace Sys2Proof.Machine

/-- A map by MAP_ID. -/
def mapOf (s : State) (n : Nat) : MapEnt := tget (fun _ => noMap) s.maps n

/-- Set a map. -/
def setMap (s : State) (n : Nat) (m : MapEnt) : State := { s with maps := tset (fun _ => noMap) s.maps n m }

/-- This device's index (R23, R436). -/
def deviceIndex (s : State) : Nat := fieldR s .mrqDeviceIndex 0 12

/-- The current epoch of a map, 0 without one. -/
def MapEnt.epoch (m : MapEnt) : Nat := match m.cur with | some i => i.epoch | none => 0

/-! ### Ports, as maps and merges use them -/

/-- A port beside its registers. -/
def portOf (s : State) (p : Nat) : Port := tget (fun _ => idlePort) s.ports p

/-- Change a port. -/
def modPort (s : State) (p : Nat) (f : Port → Port) : State :=
  { s with ports := tset (fun _ => idlePort) s.ports p (f (portOf s p)) }

/-- The STATE field of MRQ_P_STATE (R435). -/
def portState (s : State) (p : Nat) : Nat := fieldR s .mrqPState 0 4 p

/-- The port is ACTIVE (R434). -/
def portActive (s : State) (p : Nat) : Bool := decide (portState s p = 5)

/-- LINK_LEVEL of a port (R423). -/
def linkLevel (s : State) (p : Nat) : Nat := fieldR s .mrqPState 8 8 p

/-- LINK_FLOOR of a port (R423). -/
def linkFloor (s : State) (p : Nat) : Nat := fieldR s .mrqPState 16 8 p

/-- The partner's device index (R435). -/
def partnerOf (s : State) (p : Nat) : Nat := fieldR s .mrqPPartner 0 12 p

/-- The ACTIVE port that leads to a device, the lowest. -/
def portTo (s : State) (dev : Nat) : Option Nat :=
  (List.range 64).find? fun p => portActive s p && decide (partnerOf s p = dev)

/-! ### Trees -/

/-- A device's member entry in a tree. -/
def Tree.member (t : Tree) (dev : Nat) : Option Member := t.members.find? fun m => m.device == dev

/-- The children of a device in a tree. -/
def Tree.children (t : Tree) (dev : Nat) : List Member := t.members.filter fun m => m.parent == dev && m.device != dev

/-- The shards of a device's subtree, as a bitmap (R116). -/
def Tree.subtree (t : Tree) (dev : Nat) : Nat → Nat
  | 0 => 0
  | n + 1 =>
    let own := match t.member dev with | some m => if m.shard = 0xFFFF then 0 else 2 ^ m.shard | none => 0
    (t.children dev).foldl (fun a m => a ||| Tree.subtree t m.device n) own

/-! ### Images (R440) -/

/-- Round up to a multiple of 64. -/
def pad64 (n : Nat) : Nat := (n + 63) / 64 * 64

/-- The member entries of a tree. -/
def readMembers : Nat → List Byte → List Member
  | 0, _ => []
  | n + 1, bs => ⟨numAt bs 0 2, numAt bs 2 2, numAt bs 4 1, numAt bs 5 1, numAt bs 6 2⟩ :: readMembers n (bs.drop 8)

/-- The trees of an image, and the bytes that are left. -/
def readTrees : Nat → List Byte → List Tree × List Byte
  | 0, bs => ([], bs)
  | n + 1, bs =>
    let m := numAt bs 4 2
    let r := readTrees n (bs.drop (64 + pad64 (8 * m)))
    (⟨numAt bs 0 2, numAt bs 2 1, readMembers m (bs.drop 64)⟩ :: r.1, r.2)

/-- The copies of each shard. -/
def readShards : Nat → List Byte → List (List Nat)
  | 0, _ => []
  | n + 1, bs => (wordsOf 2 4 bs) :: readShards n (bs.drop 8)

/-- Bytes that the trees of an image take. -/
def treesSize : Nat → List Byte → Nat
  | 0, _ => 0
  | n + 1, bs => let k := 64 + pad64 (8 * numAt bs 4 2); k + treesSize n (bs.drop k)

/-- The size that an image's header and tree headers imply (R440). -/
def imageSize (bs : List Byte) : Nat :=
  let sh := 64 + pad64 (8 * numAt bs 4 2)
  sh + treesSize (numAt bs 6 1) (bs.drop sh)

/-- Some byte of a list is not 0. -/
def anySet (bs : List Byte) : Bool := bs.any fun b => decide (b ≠ 0)

/-- A reserved byte of the trees is set. -/
def treesReserved : Nat → List Byte → Bool
  | 0, _ => false
  | n + 1, bs =>
    let m := numAt bs 4 2
    let k := 64 + pad64 (8 * m)
    anySet ((bs.take 64).drop 6) || decide (numAt bs 3 1 ≠ 0) || anySet ((bs.take k).drop (64 + 8 * m)) || treesReserved n (bs.drop k)

/-- A reserved byte of an image is set (R440). -/
def imageReserved (bs : List Byte) : Bool :=
  let n := numAt bs 4 2
  let sh := 64 + pad64 (8 * n)
  anySet ((bs.take 64).drop 8) || anySet ((bs.take sh).drop (64 + 8 * n)) || treesReserved (numAt bs 6 1) (bs.drop sh)

/-- The image that the bytes spell. -/
def readImage (bs : List Byte) : MapImage :=
  let n := numAt bs 4 2
  { epoch := numAt bs 0 4, level := numAt bs 7 1, shards := (readShards n (bs.drop 64)).map fun l => l.filter fun d => d ≠ 0xFFFF,
    trees := (readTrees (numAt bs 6 1) (bs.drop (64 + pad64 (8 * n)))).1
    digest := ofLe ((sha384 (nums bs)).take 16) }

/-- Distinct members only. -/
def noDup : List Nat → Bool
  | [] => true
  | a :: t => !t.contains a && noDup t

/-- A tree obeys R114 to R116 and R440. -/
def treeOk (i : MapImage) (t : Tree) : Bool :=
  let shards := (t.members.map Member.shard).filter fun x => x ≠ 0xFFFF
  noDup (t.members.map Member.device) &&
    (match t.member t.root with
     | none => false
     | some r => decide (r.parent = 0xFFFF) && decide (r.depth = 0) && decide (r.port = 0xFF)) &&
    (t.members.all fun m =>
      decide (m.device < 4096) && decide (m.depth ≤ 7) && decide ((t.children m.device).length ≤ 16) &&
        (decide (m.device = t.root) ||
          (decide (m.port < 64) && match t.member m.parent with | some p => decide (m.depth = p.depth + 1) | none => false)) &&
        (decide (m.shard = 0xFFFF) || (i.shards.getD m.shard []).contains m.device)) &&
    decide (shards.length = i.shards.length) && noDup shards && (shards.all fun x => decide (x < i.shards.length)) &&
    (decide (t.fallback = 0xFF) ||
      match i.trees[t.fallback]? with
      | some f => decide (f.root = t.root) && !(decide (f = t))
      | none => false)

/-- The shard table's four places: used ones first, at least one, on different devices (R440). -/
def shardRowOk (l : List Nat) : Bool :=
  let used := l.filter fun d => d ≠ 0xFFFF
  decide (l.take used.length = used) && !used.isEmpty && noDup used && used.all fun d => decide (d < 4096)

/-- A device holds a copy of a shard that it serves in at most one tree (R115). -/
def servedOnce (i : MapImage) : Bool :=
  noDup ((i.trees.map fun t => (t.members.filter fun m => m.shard ≠ 0xFFFF).map fun m => m.device * 65536 + m.shard).flatten)

/-- An image obeys R440 and the rules of R114 to R116. -/
def imageOk (bs : List Byte) : Bool :=
  let i := readImage bs
  decide (1 ≤ numAt bs 4 2) && decide (numAt bs 4 2 ≤ 4096) && decide (1 ≤ numAt bs 6 1) && decide (numAt bs 6 1 ≤ 16) &&
    ((readShards (numAt bs 4 2) (bs.drop 64)).all shardRowOk) && (i.trees.all (treeOk i)) && servedOnce i

/-- This device is named in some tree (R444). -/
def imageNames (i : MapImage) (dev : Nat) : Bool := i.trees.any fun t => (t.member dev).isSome

/-- The devices that are parent or child of this one in some tree. -/
def neighbours (i : MapImage) (dev : Nat) : List Nat :=
  (i.trees.map fun t =>
    (t.children dev).map Member.device ++ (match t.member dev with | some m => if m.parent = 0xFFFF then [] else [m.parent] | none => [])).flatten

/-- LEVEL cannot be run on this device or on a link to a neighbour (R444). -/
def levelRefused (s : State) (i : MapImage) : Bool :=
  decide (i.level < getR s .mrqLevelFloor) || decide (fieldR s .devLevels 0 8 < i.level) ||
    (List.range 64).any fun p =>
      portActive s p && (neighbours i (deviceIndex s)).contains (partnerOf s p) && decide (linkLevel s p < i.level)

/-! ### Seals (R437 to R439) -/

/-- The seal of a set of collection parameters at a map epoch (R437). -/
def sealOf (epoch wCode level dim grid scaleVer : Nat) : Nat :=
  let record := leBytes 4 epoch ++ leBytes 1 wCode ++ leBytes 1 level ++ leBytes 2 dim ++ leBytes 4 grid ++ leBytes 4 scaleVer ++
    List.replicate 48 0
  ofLe ((sha384 record).take 16)

/-- GRID_ID, SCALE_VER and LEVEL that this device holds for a map epoch of a collection (R439, R446). -/
def paramsAt (s : State) (c : Coll) (epoch : Nat) : Nat × Nat × Nat :=
  match c.mapId with
  | none => (c.grid, c.scaleVer, 0)
  | some n =>
    let m := mapOf s n
    let level := fun o : Option MapImage => match o with | some i => i.level | none => 0
    let lvl := fun e => if m.old.any (fun i => i.epoch == e) then level m.old else if m.next.any (fun i => i.epoch == e) then level m.next else level m.cur
    if m.old.any fun i => i.epoch == epoch then
      match c.old with
      | some o => (o.1, o.2.1, lvl epoch)
      | none => (c.grid, c.scaleVer, lvl epoch)
    else if m.next.any fun i => i.epoch == epoch then
      match c.change with
      | some k => (k.grid.getD c.grid, k.scaleVer.getD c.scaleVer, lvl epoch)
      | none => (c.grid, c.scaleVer, lvl epoch)
    else (c.grid, c.scaleVer, level m.cur)

/-- The seal of a collection at a map epoch, as this device forms it (R439). -/
def sealAt (s : State) (c : Coll) (epoch : Nat) : Nat :=
  let p := paramsAt s c epoch
  sealOf epoch c.wCode p.2.2 c.denseDim p.1 p.2.1

/-- The current seal of a collection (R437, R456). -/
def currentSeal (s : State) (c : Coll) : Nat :=
  sealAt s c (match c.mapId with | none => 0 | some n => (mapOf s n).epoch)

/-- The map accepts messages of an epoch with a deadline (R442). -/
def epochAccepted (s : State) (m : MapEnt) (epoch deadline : Nat) : Bool :=
  match m.state with
  | .none => false
  | .active => m.cur.any fun i => i.epoch == epoch
  | .prepared => m.cur.any fun i => i.epoch == epoch
  | .committed =>
    (m.cur.any fun i => i.epoch == epoch) || ((m.next.any fun i => i.epoch == epoch) && decide (m.t ≤ s.now + 2000))
  | .grace => (m.cur.any fun i => i.epoch == epoch) || ((m.old.any fun i => i.epoch == epoch) && decide (deadline ≤ m.g))

/-- The image of an epoch that a map holds. -/
def imageAt (m : MapEnt) (epoch : Nat) : Option MapImage :=
  [m.cur, m.next, m.old].findSome? fun o => o.filter fun i => i.epoch == epoch

/-! ### Commands that read ARG and write OUT -/

/-- The address checks of a command that reads 64 bytes at ARG_ADDR and writes 64 at OUT_ADDR. -/
def argChecks (s : State) (c : Cmd) : EntryChecks :=
  { named := [(16, 16)]
    align := [(misaligned (c.num 16 8), stBadAlign), (misaligned (c.num 24 8), stBadAlign)]
    trans := [(!hostReadable s (hostOf (c.num 16 8)) 64, stNoTranslation), (!hostWritable s (hostOf (c.num 24 8)) 64, stNoTranslation)] }

/-- The 64 bytes at ARG_ADDR. -/
def argBytes (s : State) (c : Cmd) : List Byte := hostRead s (hostOf (c.num 16 8)) 64

/-- Write the 64 bytes at OUT_ADDR. -/
def putOut (s : State) (c : Cmd) (bs : List Byte) : State :=
  hostPut s (hostOf (c.num 24 8)) (bs ++ List.replicate (64 - bs.length) 0)

/-- The first failure of an ARG command: entry, poison, reserved bytes, then its own checks (R550). -/
def argFail (s : State) (c : Cmd) (named : List (Nat × Nat)) (own : List (Bool × Nat)) : Option Nat :=
  (entryFail s c .pf (argChecks s c)).or
    (firstFail ([(hostPoisoned s (hostOf (c.num 16 8)) 64, stEcc), (unnamedSet (argBytes s c) named, stReservedSet)] ++ own))

/-- A collection binds the map. -/
def mapBound (s : State) (n : Nat) : Bool :=
  s.store.colls.any fun e => match e.2 with | some x => decide (x.mapId = some n) | none => false

/-- Change every collection bound to a map. -/
def modBound (s : State) (n : Nat) (f : Coll → Coll) : State :=
  { s with store := { s.store with colls := s.store.colls.map fun e =>
      (e.1, match e.2 with | some x => if x.mapId = some n then some (f x) else some x | none => none) } }

/-- The first check that MAP_PREPARE fails, if one does (R441, R444). -/
def mapPrepareFail (c : Cmd) (s : State) : Option Nat :=
  let a := argBytes s c
  let n := numAt a 0 1
  let del := bit (numAt a 1 1) 0
  let addr := hostOf (numAt a 8 8)
  let len := numAt a 16 4
  let m := mapOf s n
  let img := hostRead s addr len
  let i := readImage img
  let fail := argFail s c [(0, 2), (8, 16)]
    [(decide (2 ≤ numAt a 1 1), stReservedSet), (decide (31 < n), stBadField),
     (!del && misaligned (numAt a 8 8), stBadAlign), (!del && !hostReadable s addr len, stNoTranslation),
     (!del && hostPoisoned s addr len, stEcc), (!del && (decide (len < 64) || decide (len ≠ imageSize img)), stBadField),
     (!del && imageReserved img, stReservedSet),
     (!del && (decide (numAt a 20 4 ≤ m.epoch) || decide (numAt a 20 4 ≠ i.epoch) || !imageOk img || !imageNames i (deviceIndex s)), stBadField),
     (decide (m.state = .prepared) || decide (m.state = .committed) || decide (m.state = .grace), stUnitBusy),
     (del && mapBound s n, stUnitBusy), (!del && levelRefused s i, stVersion)]
  fail

/-- MAP_PREPARE's checks and effect (R441, R444). -/
def mapPrepareBody (c : Cmd) (s : State) : State :=
  let a := argBytes s c
  let n := numAt a 0 1
  let del := bit (numAt a 1 1) 0
  let addr := hostOf (numAt a 8 8)
  let len := numAt a 16 4
  let m := mapOf s n
  let img := hostRead s addr len
  let i := readImage img
  let out := if del then [] else bytesOf 4 m.epoch ++ bytesOf 4 i.epoch ++ bytesOf 16 i.digest
  orElse s c (mapPrepareFail c s)
    (finish (putOut (setMap s n (if del then noMap else { m with state := .prepared, next := some i })) c out) c.id stOk)

/-- MAP_PREPARE (R444): holds a new shard-map image and answers its digest. -/
def execMapPrepare (id : Nat) (s : State) : Out := .next (withCmd s id 0x61 mapPrepareBody)

/-- The first check that MAP_COMMIT fails, if one does (R441, R444). -/
def mapCommitFail (c : Cmd) (s : State) : Option Nat :=
  let a := argBytes s c
  let n := numAt a 0 1
  let m := mapOf s n
  let t := numAt a 24 8
  let g := numAt a 32 4
  let ready := decide (m.state = .prepared) && m.next.any fun i => i.epoch == numAt a 4 4 && i.digest == numAt a 8 16
  argFail s c [(0, 1), (4, 32)]
    [(decide (31 < n) || decide (t < s.now + 10000) || decide (s.now + 60000000000 < t) || g = 0 || decide (60000000 < g), stBadField),
     (!ready, stEpochMismatch), (m.next.any fun i => levelRefused s i, stVersion), (!synced s, stRefusedDeadline)]

/-- MAP_COMMIT's checks and effect (R441, R444): the command completes at T. -/
def mapCommitBody (c : Cmd) (s : State) : State :=
  let a := argBytes s c
  let n := numAt a 0 1
  let m := mapOf s n
  let t := numAt a 24 8
  let g := numAt a 32 4
  let refused := mapCommitFail c s = some stRefusedDeadline
  orElse (if refused then addR s .timRefused 1 else s) c (mapCommitFail c s)
    (setMap s n { m with state := .committed, t := t, g := t + g * 1000, cmd := some c.id, outAddr := hostOf (c.num 24 8) })

/-- MAP_COMMIT (R444): commits a prepared map to switch at T. -/
def execMapCommit (id : Nat) (s : State) : Out := .next (withCmd s id 0x62 mapCommitBody)

/-- The first check that MAP_ABORT fails, if one does (R441, R444). -/
def mapAbortFail (c : Cmd) (s : State) : Option Nat :=
  let a := argBytes s c
  let n := numAt a 0 1
  let m := mapOf s n
  let fail := argFail s c [(0, 1), (4, 4)]
    [(decide (31 < n), stBadField), (decide (m.state = .committed), stUnitBusy),
     (decide (m.state = .prepared) && !(m.next.any fun i => i.epoch == numAt a 4 4), stEpochMismatch),
     (decide (m.state ≠ .prepared), stNoSuchObject)]
  fail

/-- MAP_ABORT's checks and effect (R441, R444). -/
def mapAbortBody (c : Cmd) (s : State) : State :=
  let a := argBytes s c
  let n := numAt a 0 1
  let m := mapOf s n
  let s1 := modBound s n fun x => { x with change := none }
  let s2 := setMap s1 n { m with state := if m.cur.isSome then .active else .none, next := none }
  orElse s c (mapAbortFail c s) (finish (putOut s2 c (bytesOf 4 m.epoch)) c.id stOk)

/-- MAP_ABORT (R444): discards a prepared map image. -/
def execMapAbort (id : Nat) (s : State) : Out := .next (withCmd s id 0x63 mapAbortBody)

/-- Apply a prepared collection change; the old parameters are kept when a grace period follows (R446). -/
def applyCollChange (keep : Bool) (x : Coll) : Coll :=
  match x.change with
  | none => x
  | some k =>
    { x with grid := k.grid.getD x.grid, scaleVer := k.scaleVer.getD x.scaleVer
             scales := if k.scaleVer.isSome then k.scales else x.scales
             change := none, old := if keep then some (x.grid, x.scaleVer, x.scales) else x.old }

/-- MAP_ACTIVATION (R441): TIM_NOW reaches T; the new map, parameters and LEVEL become current, and MAP_COMMIT completes. -/
def execMapActivation (n : Nat) (s : State) : Out :=
  .next (let m := mapOf s n
    if m.state = .committed then
      let s0 := { s with now := max s.now m.t }
      let s1 := modBound s0 n (applyCollChange true)
      let s2 := setMap s1 n { m with state := .grace, cur := m.next, next := none, old := m.cur, cmd := none }
      match m.cmd with
      | none => s2
      | some id =>
        finish (hostPut s2 m.outAddr (bytesOf 4 (match m.next with | some i => i.epoch | none => 0) ++ bytesOf 4 0 ++ bytesOf 8 m.t ++
          List.replicate 48 0)) id stOk
    else s)

/-- GRACE_END (R441): TIM_NOW reaches G; the old map and parameters are released. -/
def execGraceEnd (n : Nat) (s : State) : Out :=
  .next (let m := mapOf s n
    if m.state = .grace then
      modBound (setMap { s with now := max s.now m.g } n { m with state := .active, old := none }) n fun x => { x with old := none }
    else s)

/-! ### Collection changes (R446) -/

/-- A collection that exists and is not closed, whatever its wing: the PF's view. -/
def openColl (s : State) (c : Nat) : Option Coll := (collOf s c).filter fun x => x.closing.isNone

/-- The first check that COLL_CHANGE_PREPARE fails, if one does (R446). -/
def collChangePrepareFail (c : Cmd) (s : State) : Option Nat :=
  let a := argBytes s c
  let coll := numAt a 0 2
  let flags := numAt a 2 1
  let sa := hostOf (numAt a 16 8)
  let x := (openColl s coll).getD (newColl c [] [])
  let table := bit flags 1 && decide (x.denseDim ≠ 0)
  let scales := wordsOf 2 x.denseDim (hostRead s sa (2 * x.denseDim))
  let epochOk :=
    match x.mapId with
    | none => decide (numAt a 4 4 = 0)
    | some n => decide ((mapOf s n).state = .prepared) && (mapOf s n).next.any fun i => i.epoch == numAt a 4 4
  let fail := argFail s c [(0, 3), (4, 20)]
    [(decide (4 ≤ flags), stReservedSet), ((openColl s coll).isNone, stNoSuchObject), (flags = 0, stBadField), (!epochOk, stBadField),
     (decide (table ≠ decide (numAt a 16 8 ≠ 0)), stBadField), (x.change.isSome, stUnitBusy),
     (table && misaligned (numAt a 16 8), stBadAlign), (table && !hostReadable s sa (2 * x.denseDim), stNoTranslation),
     (table && hostPoisoned s sa (2 * x.denseDim), stEcc), (table && scales.any fun v => !scaleOk v, stBadField)]
  fail

/-- COLL_CHANGE_PREPARE's checks and effect (R446). -/
def collChangePrepareBody (c : Cmd) (s : State) : State :=
  let a := argBytes s c
  let coll := numAt a 0 2
  let flags := numAt a 2 1
  let sa := hostOf (numAt a 16 8)
  let x := (openColl s coll).getD (newColl c [] [])
  let table := bit flags 1 && decide (x.denseDim ≠ 0)
  let scales := wordsOf 2 x.denseDim (hostRead s sa (2 * x.denseDim))
  let k : CollChange :=
    ⟨numAt a 4 4, if bit flags 0 then some (numAt a 8 4) else none, if bit flags 1 then some (numAt a 12 4) else none,
     if table then scales else x.scales⟩
  orElse s c (collChangePrepareFail c s) (finish (putOut (modColl s coll fun y => { y with change := some k }) c []) c.id stOk)

/-- COLL_CHANGE_PREPARE (R446): prepares a change of GRID_ID or SCALE_VER. -/
def execCollChangePrepare (id : Nat) (s : State) : Out := .next (withCmd s id 0x64 collChangePrepareBody)

/-- The first check that COLL_CHANGE_COMMIT fails, if one does (R446). -/
def collChangeCommitFail (c : Cmd) (s : State) : Option Nat :=
  let a := argBytes s c
  let coll := numAt a 0 2
  let fail := argFail s c [(0, 2)]
    [((openColl s coll).isNone, stNoSuchObject), ((openColl s coll).any fun x => x.mapId.isSome, stBadField),
     ((openColl s coll).any fun x => x.change.isNone, stNoSuchObject)]
  fail

/-- COLL_CHANGE_COMMIT's checks and effect (R446). -/
def collChangeCommitBody (c : Cmd) (s : State) : State :=
  let a := argBytes s c
  let coll := numAt a 0 2
  orElse s c (collChangeCommitFail c s) (finish (putOut (modColl s coll (applyCollChange false)) c []) c.id stOk)

/-- COLL_CHANGE_COMMIT (R446): applies a prepared change to an unsharded collection. -/
def execCollChangeCommit (id : Nat) (s : State) : Out := .next (withCmd s id 0x65 collChangeCommitBody)

/-! ### COLL_SET (R50, R115, R366) -/

/-- The HALLS that a COLL_SET would change while it may not, or whose segments still hold bays (R50). -/
def removesBays (s : State) (coll old new : Nat) : Bool :=
  (maskHalls (clearBits old new)).any fun h => decide (segBays s coll h + pendingAdd s coll h ≠ 0)

/-- The first check that COLL_SET fails, if one does. -/
def collSetFail (c : Cmd) (s : State) : Option Nat :=
  let coll := c.num 16 2
  let ch := c.num 18 1
  let mapId := c.num 19 1
  let halls := c.num 20 2
  let x := (collOf s coll).getD (newColl c [] [])
  let fail := entryFail s c .tenant
    { named := [(16, 6)]
      absent := [(clearBits halls (presentHalls s) ≠ 0, stUnitAbsent)]
      busy := [(usable s c coll && bit ch 0 && decide (halls ≠ x.halls) && collRuns s coll, stUnitBusy)]
      reserved := [(decide (4 ≤ ch), stReservedSet), (!bit ch 1 && decide (mapId ≠ 0), stReservedSet),
        (!bit ch 0 && decide (halls ≠ 0), stReservedSet)]
      fields := [(!usable s c coll, stNoSuchObject), (ch = 0, stBadField),
        (bit ch 0 && (halls = 0 || decide (clearBits halls (wingHalls s x.wing) ≠ 0) || removesBays s coll x.halls halls), stBadField),
        (bit ch 1 && decide (mapId ≠ 0xFF) && decide (31 < mapId), stBadField),
        (bit ch 1 && decide (mapId ≤ 31) && decide ((mapOf s mapId).state = .none), stNoSuchObject)] }
  fail

/-- COLL_SET's checks and effect. -/
def collSetBody (c : Cmd) (s : State) : State :=
  let coll := c.num 16 2
  let ch := c.num 18 1
  let mapId := c.num 19 1
  let halls := c.num 20 2
  let x := (collOf s coll).getD (newColl c [] [])
  orElse s c (collSetFail c s) (stageOrWait s x.wing c.id 64 fun s =>
    finish (modColl s coll fun y =>
      { y with halls := if bit ch 0 then halls else y.halls
               mapId := if bit ch 1 then (if mapId = 0xFF then none else some mapId) else y.mapId }) c.id stOk)

/-- COLL_SET (R50): changes a collection's HALLS or its shard-map binding. -/
def execCollSet (id : Nat) (s : State) : Out := .next (withCmd s id 0x02 collSetBody)

end Sys2Proof.Machine
end

