-- ==== Sys2Proof/Machine/Home.lean ====
section
/-! DEFINITION. The homes: the array, snoops, transactions, and the accesses of the device's units through them (R225 to
R258). -/

namespace Sys2Proof.Machine

/-- Change the Mezzanine. -/
def modMzn (s : State) (f : Mezz → Mezz) : State := { s with mzn := f s.mzn }

/-- Change what the home records of a line. -/
def modRec (s : State) (l : Nat) (f : LineRec → LineRec) : State :=
  modMzn s fun m => { m with recs := tmod (fun _ => noRec) m.recs l f }

/-- Set a line of an agent's cache. -/
def setCache (s : State) (agent l : Nat) (x : Option CLine) : State :=
  modMzn s fun m => { m with caches := tset (fun _ => none) m.caches (cacheKey agent l) x }

/-- Set a line of an agent's writeback buffer. -/
def setWb (s : State) (agent l : Nat) (x : Option WbLine) : State :=
  modMzn s fun m => { m with wbuf := tset (fun _ => none) m.wbuf (cacheKey agent l) x }

/-- Set the array's copy of a line. -/
def setArray (s : State) (l : Nat) (x : Option ArrLine) : State :=
  modMzn s fun m => { m with array := tset (fun _ => none) m.array l x }

/-- Send a message on the Corridor. -/
def sendMzn (s : State) (m : Msg) : State := modMzn s fun z => { z with msgs := z.msgs ++ [m] }

/-- Advance the order of use. -/
def tickMzn (s : State) : State := modMzn s fun m => { m with tick := m.tick + 1 }

/-- Set sticky bits of MZN_EVENTS (R259). -/
def mznEvent (s : State) (l m : Nat) : State := setSticky s .mznEvents .mznEventEn m (homeSlice s l)

/-- Transaction trackers in use in a slice (R235). -/
def trackersUsed (s : State) (sl : Nat) : Nat :=
  (s.mzn.recs.map fun e =>
    if homeSlice s e.1 = sl then (if e.2.txn.isSome then 1 else 0) + e.2.waiting.length + e.2.hostWaiting.length else 0).sum

/-! ### The array (R228, R254 to R256) -/

/-- The set of a line (R228, log entry 9). -/
def setIndex (l : Nat) : Nat := (Config.arraySet l).toNat % 16384

/-- The lines of the array that share a line's slice and set. -/
def setMates (s : State) (l : Nat) : List (Nat × ArrLine) :=
  s.mzn.array.filterMap fun e =>
    if homeSlice s e.1 = homeSlice s l ∧ setIndex e.1 = setIndex l then e.2.map fun a => (e.1, a) else none

/-- The ways in which a wing allocates (R228). -/
def permittedWays (s : State) (wing : Option Nat) : Nat :=
  match wing with | none => 0 | some w => getR s .mznWingWays w

/-- A line that may be replaced: not poisoned, and not dirty in a halted hall (R256, R278). -/
def replaceable (s : State) (e : Nat × ArrLine) : Bool := !e.2.poison && !(e.2.dirty && halted s (lineHall e.1))

/-- The least recently used of a list of lines. -/
def oldestLine : List (Nat × ArrLine) → Option (Nat × ArrLine)
  | [] => none
  | e :: es => match oldestLine es with | none => some e | some x => if x.2.used < e.2.used then some x else some e

/-- The way for a new line, and the line that it replaces: a way that is empty, the lowest, or the least recently used line
(R228). -/
def chooseWay (s : State) (wing : Option Nat) (l : Nat) : Option (Nat × Option (Nat × ArrLine)) :=
  let ways := (List.range 16).filter fun w => bit (permittedWays s wing) w
  let mates := setMates s l
  match ways.find? fun w => !(mates.any fun e => e.2.way == w) with
  | some w => some (w, none)
  | none => (oldestLine (mates.filter fun e => ways.contains e.2.way && replaceable s e)).map fun e => (e.2.way, some e)

/-- A full-line write to hall memory takes the line out of the bad-line table (R270). -/
def hallLinePut (s : State) (l : Nat) (data : List Byte) : State :=
  clearBad (hallPut s (lineHall l) (lineOff l * 64) data) (lineHall l) (.phys (lineOff l))

/-- Write a dirty array line to hall memory (R228). -/
def writeBack (s : State) (l : Nat) (a : ArrLine) : State :=
  if a.dirty then addR (hallLinePut s l a.data) .mznWritebacks 1 (homeSlice s l) else s

/-- Place a line in the array, if its wing may (R228). Lines of STREAM pages and of host memory are never placed. -/
def placeLine (s : State) (wing : Option Nat) (l : Nat) (data : List Byte) (dirty : Bool) : Option State :=
  if hostLine l || isStream l then none
  else
    match chooseWay s wing l with
    | none => none
    | some (w, old) =>
      let s1 := match old with | none => s | some (k, a) => setArray (writeBack s k a) k none
      some (tickMzn (setArray s1 l (some ⟨w, data, dirty, false, s1.mzn.tick⟩)))

/-- Write the whole memory copy of a line (R234, R241): the status is the failure that the writer meets. -/
def writeMem (s : State) (wing : Option Nat) (l : Nat) (data : List Byte) : State × Nat :=
  if hostLine l then
    if hostWritable s (l % 2 ^ 57 * 64) 64 then (hostPut s (l % 2 ^ 57 * 64) data, 0) else (s, stNoTranslation)
  else
    let s0 := clearBad s (lineHall l) (.phys (lineOff l))
    match arrayLine s l with
    | some a => (tickMzn (setArray s0 l (some { a with data := data, dirty := true, poison := false, used := s.mzn.tick })), 0)
    | none =>
      match placeLine s0 wing l data true with
      | some s1 => (s1, 0)
      | none => if halted s (lineHall l) then (s, stUnitFault) else (hallLinePut s l data, 0)

/-- The memory copy of a line becomes poisoned data (R256). -/
def poisonMem (s : State) (wing : Option Nat) (l : Nat) (data : List Byte) : State :=
  let s1 := (writeMem s wing l data).1
  if hostLine l then s1
  else
    match arrayLine s1 l with
    | some a => mznEvent (setArray s1 l (some { a with poison := true })) l 2
    | none =>
      if lineHeld s1 (lineHall l) (.phys (lineOff l)) then s1
      else modCtl s1 (lineHall l) fun c => { c with badLines := c.badLines ++ [.phys (lineOff l)] }

/-- Read a line from hall memory, and place it in the array (R228, R265). -/
def readHallLine (s : State) (q : HomeReq) (src : Nat) : State × List Byte × Nat :=
  let h := lineHall q.line
  if halted s h then (s, [], stUnitFault)
  else
    let (s1, bad) := readLine s h (.phys (lineOff q.line)) src q.err.hall
    let data := hallRead s1 h (lineOff q.line * 64) 64
    if bad then (s1, data, stEcc)
    else ((placeLine s1 q.wing q.line data false).getD s1, data, 0)

/-- Read the memory copy of a line for a request (R228, R254 to R256, R270, R278). -/
def readMem (s : State) (q : HomeReq) (src : Nat) : State × List Byte × Nat :=
  let sl := homeSlice s q.line
  if hostLine q.line then (s, memCopy s q.line)
  else
    match arrayLine s q.line with
    | none => readHallLine (if isStream q.line then s else addR s .mznMisses 1 sl) q src
    | some a =>
      let s1 := tickMzn (setArray (addR s .mznHits 1 sl) q.line (some { a with used := s.mzn.tick }))
      match q.err.array with
      | .clean => (s1, a.data, if a.poison then stEcc else 0)
      | .corrected => (addSat s1 .mznEccCorrected 1 sl, a.data, if a.poison then stEcc else 0)
      | .uncorrectable =>
        if a.dirty then (mznEvent (setArray s1 q.line (some { a with poison := true })) q.line 2, a.data, stEcc)
        else readHallLine (mznEvent (setArray s1 q.line none) q.line 1) q src

/-! ### Atomics at the home (R243, R247, R315) -/

/-- The new value of an atomic: the codes of R315. -/
def atomResult (o : AtomOp) (old : Nat) : Nat :=
  let w := 8 * o.size
  let a := o.arg % 2 ^ w
  match o.op with
  | 0 => (old + a) % 2 ^ w
  | 1 => old &&& a
  | 2 => old ||| a
  | 3 => old ^^^ a
  | 4 => if toSigned w a < toSigned w old then a else old
  | 5 => if toSigned w old < toSigned w a then a else old
  | 6 => min old a
  | 7 => max old a
  | 8 => a
  | 9 => if old = o.cmp % 2 ^ w then a else old
  | _ => old

/-- Replace bytes of a line from an offset on. -/
def overlay (line : List Byte) (off : Nat) (bs : List Byte) : List Byte :=
  line.take off ++ bs ++ line.drop (off + bs.length)

/-- Merge the bytes that a mask names into a line (R234). -/
def mergeMask (mask : Nat) (old new : List Byte) : List Byte :=
  (List.range 64).map fun i => if bit mask i then new.getD i 0 else old.getD i 0

/-- The line with an atomic applied. -/
def atomLine (q : HomeReq) (line : List Byte) : List Byte :=
  overlay line q.off (bytesOf q.atom.size (atomResult q.atom (numAt line q.off q.atom.size)))

/-! ### Transactions (R234 to R240) -/

/-- What an agent is recorded as. -/
def heldAs (r : LineRec) (a : Nat) : Option Hold := (r.holders.find? fun e => e.1 == a).map Prod.snd

/-- Set what an agent is recorded as. -/
def setHold (r : LineRec) (a : Nat) (x : Option Hold) : LineRec :=
  let rest := r.holders.filter fun e => e.1 != a
  { r with holders := match x with | none => rest | some h => rest ++ [(a, h)] }

/-- The agent that makes a request. -/
def HomeReq.agent (q : HomeReq) : Option Nat := match q.asker with | .agent a => some a | _ => none

/-- UPGR of an agent recorded I is served as RD_U (R234). -/
def effectiveKind (r : LineRec) (q : HomeReq) : ReqKind :=
  match q.kind, q.agent with
  | .upgr, some a => if (heldAs r a).isSome then .upgr else .rdU
  | k, _ => k

/-- The snoops that a home sends for a request (R234, R243, R251). -/
def snoopsOf (r : LineRec) (q : HomeReq) : List (Nat × SnpKind) :=
  let others := r.holders.filter fun e => q.agent ≠ some e.1
  let owner := fun k : SnpKind => (others.filter fun e => e.2 != .s).map fun e => (e.1, k)
  match effectiveKind r q with
  | .rdS => owner .pull
  | .rdU => others.map fun e => (e.1, if e.2 == .s then .inv else .invd)
  | .upgr => others.map fun e => (e.1, .inv)
  | .wb => []
  | .evc => []
  | .rdNc => owner .peek
  | .wrFull => others.map fun e => (e.1, .inv)
  | .wrMerge => others.map fun e => (e.1, if e.2 == .s then .inv else .invd)
  | .atomH => others.map fun e => (e.1, if e.2 == .s then .inv else .invd)
  | .snpData => owner .pull
  | .snpInv => others.map fun e => (e.1, if e.2 == .s then .inv else .invd)
  | .snpCur => owner .peek

/-- The request that a home sends to the host for a request of the device (R250, R252, R253). -/
def hostNeed (s : State) (r : LineRec) (q : HomeReq) : Option D2h :=
  let k := effectiveKind r q
  if hostLine q.line then
    match k with
    | .rdNc => if (ownerOf r).isSome then none else some .rdCurr
    | .rdS => if r.host = .i then some .rdShared else none
    | .rdU => if r.host = .e then none else some .rdOwn
    | .upgr => if r.host = .e then none else some .rdOwnNoData
    | .wb => if r.host = .e ∧ (q.agent.bind (heldAs r)).isSome then some .dirtyEvict else none
    | _ => none
  else if hostBias s q.line && q.asker ≠ .host then
    match k with
    | .rdNc => some .rdCurr
    | .wrFull => some .rdOwnNoData
    | .wrMerge => some .rdOwnNoData
    | .atomH => some .rdOwnNoData
    | _ => none
  else none

/-- The request comes from an agent of the device (MZN_BUSY_WAIT_NS, R259). -/
def Asker.onDevice : Asker → Bool
  | .agent _ => true
  | .unit => true
  | .buffer _ => true
  | .peer _ _ => false
  | .host => false

/-- Start a request on a line that is free: the line becomes busy, and the snoops and the request to the host go out. -/
def startReq (s : State) (q : HomeReq) : State :=
  let r := lineRec s q.line
  let sn := snoopsOf r q
  let s1 := modRec s q.line fun x => { x with txn := some ⟨q, sn.map Prod.fst, none, false, false, hostNeed s r q, false⟩ }
  let s2 := addR s1 .mznBusyWaitNs (if q.asker.onDevice then s.now - q.since else 0) (homeSlice s q.line)
  sn.foldl (fun t e => addR (sendMzn t (.snp e.1 q.line e.2)) .mznSnoops 1 (homeSlice s q.line)) s2

/-- The transaction of a line ends and the line is free (R235); from then on a reservation's hold runs (R249). -/
def freeLine (s : State) (l : Nat) : State := modRec s l fun r => { r with txn := none, freeSince := s.now }

/-- The data of a transaction: its line buffer, or the memory copy (R234, R237). -/
def txnData (s : State) (t : Txn) (src : Nat) : State × List Byte × Nat :=
  match t.buffer with
  | some d => (s, d, if t.poison then stEcc else 0)
  | none => readMem s t.req src

/-- The transaction of a caching request has granted and awaits its ACK (R235). -/
def granted (s : State) (l : Nat) : State :=
  modRec s l fun r => { r with txn := r.txn.map fun t => { t with granted := true } }

/-- Complete a transaction whose snoops and host request have been answered (R234, R243, R251). -/
def completeTxn (s : State) (l : Nat) (t : Txn) : State :=
  let r := lineRec s l
  let q := t.req
  match effectiveKind r q with
  | .rdS =>
    let (s1, d, st) := txnData s t 2
    if st = stUnitFault then granted (sendMzn s1 (.gdat q.asker l none d st)) l
    else
      let alone := r.holders.all (fun e => q.agent = some e.1) && !(hostLine l && r.host != .e)
      let s2 := modRec s1 l fun x => match q.agent with | some a => setHold x a (some (if alone then .x else .s)) | none => x
      granted (sendMzn s2 (.gdat q.asker l (some (if alone then .e else .s)) d st)) l
  | .rdU =>
    let (s1, d, st) := txnData s t 2
    if st = stUnitFault then granted (sendMzn s1 (.gdat q.asker l none d st)) l
    else
      let s2 := modRec s1 l fun x => { x with holders := match q.agent with | some a => [(a, .x)] | none => [] }
      granted (sendMzn s2 (.gdat q.asker l (some .m) d st)) l
  | .upgr =>
    let s1 := modRec s l fun x => { x with holders := match q.agent with | some a => [(a, .x)] | none => [] }
    granted (sendMzn s1 (.cmp q.asker l .upgr)) l
  | .wb =>
    match q.agent with
    | none => freeLine s l
    | some a =>
      let s1 :=
        match heldAs r a, wbLine s a l with
        | some .x, some w => if w.poison then poisonMem s q.wing l w.data else (writeMem s q.wing l w.data).1
        | some .o, some w => if w.poison then poisonMem s q.wing l w.data else (writeMem s q.wing l w.data).1
        | _, _ => s
      let s2 := modRec s1 l fun x => if heldAs x a = some .s then x else setHold x a none
      let s3 := if t.req.kind = .wb && hostLine l && (lineRec s2 l).holders.isEmpty then modRec s2 l fun x => { x with host := .i } else s2
      freeLine (sendMzn s3 (.cmp q.asker l .wb)) l
  | .evc =>
    match q.agent with
    | none => freeLine s l
    | some a =>
      let s1 := setCache (modRec s l fun x => setHold x a none) a l none
      freeLine (if hostLine l && (lineRec s1 l).holders.isEmpty then modRec s1 l fun x => { x with host := .i } else s1) l
  | .rdNc =>
    let (s1, d, st) := txnData s t 2
    freeLine (sendMzn s1 (.gdat q.asker l none d st)) l
  | .wrFull =>
    let (s1, st) := writeMem s q.wing l q.data
    freeLine (sendMzn (modRec s1 l fun x => { x with holders := [] }) (.wcmp q.asker l st)) l
  | .wrMerge =>
    if q.mask = 2 ^ 64 - 1 then
      let (s1, st) := writeMem s q.wing l q.data
      freeLine (sendMzn (modRec s1 l fun x => { x with holders := [] }) (.wcmp q.asker l st)) l
    else
      let (s1, d, st) := txnData s t 4
      let s2 := modRec s1 l fun x => { x with holders := [] }
      if st = 0 then
        let (s3, st1) := writeMem s2 q.wing l (mergeMask q.mask d q.data)
        freeLine (sendMzn s3 (.wcmp q.asker l st1)) l
      else
        let s3 := if t.buffer.isSome then poisonMem s2 q.wing l (mergeMask q.mask d q.data) else s2
        freeLine (sendMzn s3 (.wcmp q.asker l st)) l
  | .atomH =>
    let (s1, d, st) := txnData s t 2
    let s2 := modRec s1 l fun x => { x with holders := [] }
    if st = 0 then
      let (s3, st1) := writeMem s2 q.wing l (atomLine q d)
      freeLine (sendMzn s3 (.gdat q.asker l none d st1)) l
    else
      let s3 := if t.buffer.isSome then poisonMem s2 q.wing l d else s2
      freeLine (sendMzn s3 (.gdat q.asker l none d st)) l
  | .snpData =>
    let d := match t.buffer with | some d => d | none => (memCopy s l).1
    let s1 := if t.dirty then hostPut s (l % 2 ^ 57 * 64) d else s
    let s2 := modRec s1 l fun x => { x with host := if x.holders.isEmpty then .i else .s }
    freeLine (sendMzn (addR s2 .mznHostSnoops 1 (homeSlice s l)) (.gdat .host l none d (if t.poison then stEcc else 0))) l
  | .snpInv =>
    let d := match t.buffer with | some d => d | none => (memCopy s l).1
    let s1 := if t.dirty then (if hostLine l then hostPut s (l % 2 ^ 57 * 64) d else (writeMem s none l d).1) else s
    let s2 := modRec s1 l fun x => { x with host := .i, holders := [] }
    freeLine (sendMzn (if q.asker = .host then addR s2 .mznHostSnoops 1 (homeSlice s l) else s2) (.gdat q.asker l none d (if t.poison then stEcc else 0))) l
  | .snpCur =>
    let d := match t.buffer with | some d => d | none => (memCopy s l).1
    freeLine (sendMzn (addR s .mznHostSnoops 1 (homeSlice s l)) (.gdat .host l none d (if t.poison then stEcc else 0))) l

/-- A transaction whose snoops and request to the host are all answered. -/
def Txn.ready (t : Txn) : Bool := t.awaiting.isEmpty && t.host.isNone && !t.granted

/-- Let a home go on with a line: complete what is ready, then start what waits. A host snoop goes first (R251), then the
reserved request whose retry has arrived (R249), then the others in order of arrival (R235). -/
def pumpLine (s : State) (l : Nat) : Nat → State
  | 0 => s
  | n + 1 =>
    let r := lineRec s l
    match r.txn with
    | some t => if t.ready then pumpLine (completeTxn s l t) l n else s
    | none =>
      match r.hostWaiting with
      | q :: qs => pumpLine (startReq (modRec s l fun x => { x with hostWaiting := qs }) q) l n
      | [] =>
        match r.reserved with
        | c :: cs =>
          match r.held.find? fun e => e.1 == c with
          | none => s
          | some e =>
            pumpLine (startReq (modRec s l fun x => { x with reserved := cs, held := x.held.filter fun y => y.1 != c }) e.2) l n
        | [] =>
          match r.waiting with
          | q :: qs => pumpLine (startReq (modRec s l fun x => { x with waiting := qs }) q) l n
          | [] => s

/-- Steps enough to serve everything that waits on a line. -/
def pumpFuel (s : State) (l : Nat) : Nat :=
  let r := lineRec s l
  2 * (r.waiting.length + r.hostWaiting.length + r.held.length) + 4

/-- A home goes on with a line. -/
def pump (s : State) (l : Nat) : State := pumpLine s l (pumpFuel s l)

/-- A request of an on-device agent or of the host arrives at its home (R235); while every tracker is in use it is not
accepted and nothing happens. -/
def arriveReq (s : State) (q : HomeReq) : State :=
  if 256 ≤ trackersUsed s (homeSlice s q.line) then s
  else
    match q.kind with
    | .snpData => pump (modRec s q.line fun r => { r with hostWaiting := r.hostWaiting ++ [q] }) q.line
    | .snpInv => pump (modRec s q.line fun r => { r with hostWaiting := r.hostWaiting ++ [q] }) q.line
    | .snpCur => pump (modRec s q.line fun r => { r with hostWaiting := r.hostWaiting ++ [q] }) q.line
    | _ => pump (modRec s q.line fun r => { r with waiting := r.waiting ++ [q] }) q.line

/-! ### Messages received (R231, R237, R239) -/

/-- A holder answers a snoop from its cache or its writeback buffer (R234, R239). An uncorrectable cache word marks the data
poisoned (R256). -/
def answerSnoop (s : State) (a l : Nat) (k : SnpKind) (bad : Bool) : State :=
  match cacheLine s a l with
  | some c =>
    let dirty := c.st == .m || c.st == .o
    match k with
    | .pull =>
      sendMzn (setCache s a l (some { c with st := if dirty then .o else .s })) (.sdat a l c.data dirty (c.poison || bad))
    | .peek => sendMzn s (.sdat a l c.data dirty (c.poison || bad))
    | .inv => sendMzn (setCache s a l none) (.srsp a l)
    | .invd => sendMzn (setCache s a l none) (.sdat a l c.data dirty (c.poison || bad))
  | none =>
    match wbLine s a l with
    | some w =>
      match k with
      | .pull => sendMzn (setWb s a l (some { w with st := some .o })) (.sdat a l w.data true (w.poison || bad))
      | .peek => sendMzn s (.sdat a l w.data true (w.poison || bad))
      | .inv => sendMzn (setWb s a l (some { w with st := none })) (.srsp a l)
      | .invd => sendMzn (setWb s a l (some { w with st := none })) (.sdat a l w.data true (w.poison || bad))
    | none => sendMzn s (.srsp a l)

/-- The home receives the answer to a snoop (R234, R237): an owner that was pulled is recorded O if its data was dirty and S
otherwise. -/
def takeSnoop (s : State) (a l : Nat) (d : Option (List Byte)) (dirty poison : Bool) : State :=
  let r := lineRec s l
  match r.txn with
  | none => s
  | some t =>
    if t.awaiting.contains a then
      let pulled := t.req.kind = .rdS || t.req.kind = .snpData
      let s0 := if pulled && dirty then addR s .mznOwnedPulls 1 (homeSlice s l) else s
      let s1 := modRec s0 l fun x => if pulled && d.isSome then setHold x a (some (if dirty then .o else .s)) else x
      let s2 := modRec s1 l fun x =>
        { x with
          txn := some { t with
            awaiting := t.awaiting.filter fun y => y != a
            buffer := if d.isSome then d else t.buffer
            dirty := t.dirty || dirty
            poison := t.poison || (d.isSome && poison) } }
      pump s2 l
    else s

/-- The lines of an agent's set: of an Usher's L1 of 128 sets (R290), and of the Porter's whole cache (log entry 11). -/
def agentSet (s : State) (a l : Nat) : List (Nat × CLine) :=
  s.mzn.caches.filterMap fun e =>
    if e.1 / 2 ^ 58 = a ∧ (a = 256 ∨ e.1 % 128 = l % 128) then e.2.map fun c => (e.1 % 2 ^ 58, c) else none

/-- The ways of an agent's set (R290, log entry 11). -/
def agentWays (a : Nat) : Nat := if a = 256 then 512 else 8

/-- The least recently used of an agent's lines. -/
def oldestCached : List (Nat × CLine) → Option (Nat × CLine)
  | [] => none
  | e :: es => match oldestCached es with | none => some e | some x => if x.2.used < e.2.used then some x else some e

/-- The line that an agent evicts before it takes a new one, if its set is full. -/
def victimOf (s : State) (a l : Nat) : Option Nat :=
  if (agentSet s a l).length < agentWays a || (cacheLine s a l).isSome then none else (oldestCached (agentSet s a l)).map Prod.fst

/-- A request without data. -/
def plainReq (k : ReqKind) (who : Asker) (l : Nat) (wing : Option Nat) (err : MemErr) (now : Nat) : HomeReq :=
  ⟨k, who, l, 0, [], ⟨0, 8, 0, 0⟩, 0, wing, err, now⟩

/-- The wing of a caching agent: of an Usher, its group's owner; the Porter allocates nothing (R228, log entry 11). -/
def agentWing (s : State) (a : Nat) : Option Nat := if a < 256 then groupWing s (a / 16) else none

/-- An agent evicts a line: with WB from M or O, through its writeback buffer, and with EVC from E or S (R238, R239). -/
def evictLine (s : State) (a l : Nat) : State :=
  match cacheLine s a l with
  | none => s
  | some c =>
    let q := fun k => plainReq k (.agent a) l (agentWing s a) MemErr.none s.now
    match c.st with
    | .m => arriveReq (setWb (setCache s a l none) a l (some ⟨some .m, c.data, c.poison⟩)) (q .wb)
    | .o => arriveReq (setWb (setCache s a l none) a l (some ⟨some .o, c.data, c.poison⟩)) (q .wb)
    | .e => arriveReq s (q .evc)
    | .s => arriveReq s (q .evc)

/-- An agent takes a granted line into its cache, after it has evicted another if its set is full (R235, R290). -/
def installLine (s : State) (a l : Nat) (st : LineSt) (d : List Byte) (poison : Bool) : State :=
  let s1 := match victimOf s a l with | some v => evictLine s a v | none => s
  tickMzn (setCache s1 a l (some ⟨st, d, poison, s1.mzn.tick⟩))

/-- The home receives an ACK and releases the line (R235). -/
def takeAck (s : State) (a l : Nat) : State :=
  match (lineRec s l).txn with
  | some t => if t.granted && t.req.agent = some a then pump (freeLine s l) l else s
  | none => s

/-! ### Peers (R247 to R249, R429) -/

/-- Free a credit. -/
def setCredit (s : State) (k : Nat) (c : Option Credit) : State :=
  modMzn s fun m => { m with credits := tset (fun _ => none) m.credits k c }

/-- A peer's request by its tag. -/
def servedOf (s : State) (p rtag : Nat) : Option Served := (portOf s p).served.find? fun x => x.rtag == rtag

/-- The response record of R429, with its data line when there is one. -/
def responseBytes (op result status nacks flags credit rtag : Nat) (d : Option (List Byte)) : List Byte :=
  bytesOf 1 op ++ bytesOf 1 result ++ bytesOf 2 status ++ bytesOf 1 nacks ++ bytesOf 1 flags ++ bytesOf 2 credit ++
    bytesOf 16 0 ++ bytesOf 8 rtag ++ bytesOf 32 0 ++ (match d with | some b => (b ++ bytesOf 64 0).take 64 | none => [])

/-- Queue a payload on a virtual channel of a port. -/
def queueTx (s : State) (p vc : Nat) (b : List Byte) : State :=
  modPort s p fun x => { x with txQueue := tmod (fun _ => []) x.txQueue vc fun l => l ++ [b] }

/-- A peer's request is done: the response goes to VC 6 with its data, and the credit is free (R247, R429). -/
def peerDone (s : State) (p rtag : Nat) (line : List Byte) (st : Nat) : State :=
  match servedOf s p rtag with
  | none => s
  | some v =>
    let d := ((line.drop (v.addr % 64)).take v.size)
    let n := match v.credit.bind fun k => tget (fun _ => none) s.mzn.credits k with | some c => c.nacks | none => 0
    let s1 := queueTx s p 6 (responseBytes v.op (if st = 0 then 0 else 2) st n 0 (match v.credit with | some k => k % 1024 | none => 0xFFFF) rtag
      (if st = 0 && v.op != 2 then some d else none))
    let s2 := modPort s1 p fun x => { x with served := x.served.filter fun y => y.rtag != rtag }
    match v.credit with | some k => setCredit s2 k none | none => s2

/-- Bytes accepted into the write-combining buffer are written and their writers' writes are complete (R274): a peer gets its
response, and an Usher's failed store becomes a deferred error (R295). -/
def writerDone (s : State) (l st : Nat) : Writer → State
  | .peer p r => peerDone s p r [] st
  | .usher u => if st = 0 then s else modMzn s fun m => { m with deferred := m.deferred ++ [(u, l * 64, st)] }
  | .command _ => s
  | .desc _ => s
  | .host => s

/-- Close the open write-combining entry of a line and send its WR_MERGE (R274). -/
def closeEntry (s : State) (h l : Nat) : State :=
  match (ctl s h).wcb.find? fun e => e.line == l && !e.closed with
  | none => s
  | some e =>
    let s1 := modCtl s h fun c => { c with wcb := c.wcb.map fun x => if x == e then { x with closed := true } else x }
    sendMzn (addR s1 .halWcbMerges 1 h)
      (.req { plainReq .wrMerge (.buffer h) l (groupWing s h) MemErr.none s.now with mask := e.mask, data := e.data })

/-- Bytes join the open entry of their line, or open one where an entry is free; none when the buffer is full (R274). -/
def wcbTake (s : State) (l mask : Nat) (data : List Byte) (who : Writer) : Option State :=
  let h := lineHall l
  match (ctl s h).wcb.find? fun e => e.line == l && !e.closed with
  | some e =>
    let e1 := { e with mask := e.mask ||| mask, data := mergeMask mask e.data data, writers := e.writers ++ [who] }
    let s1 := modCtl s h fun c => { c with wcb := c.wcb.map fun x => if x == e then e1 else x }
    some (if e1.mask = 2 ^ 64 - 1 then closeEntry s1 h l else s1)
  | none =>
    if (ctl s h).wcb.length < 64 then
      let s1 := modCtl s h fun c => { c with wcb := c.wcb ++ [⟨l, mask, mergeMask mask [] data, [who], s.now, getR s .halWcbCfg h, false⟩] }
      some (if mask = 2 ^ 64 - 1 then closeEntry s1 h l else s1)
    else none

/-- Accept the partial writes that wait, in their order, as far as entries are free (R274). -/
def admitWaiters (s : State) (h : Nat) : State :=
  (ctl s h).wcbWaiting.foldl
    (fun t w => (wcbTake t w.line w.mask w.data w.writer).getD (modCtl t h fun c => { c with wcbWaiting := c.wcbWaiting ++ [w] }))
    (modCtl s h fun c => { c with wcbWaiting := [] })

/-- The WCMP of a closed write-combining entry frees it and completes its writers (R274, R275). -/
def bufferDone (s : State) (h l st : Nat) : State :=
  match (ctl s h).wcb.find? fun e => e.line == l && e.closed with
  | none => s
  | some e =>
    let s1 := modCtl s h fun c => { c with wcb := c.wcb.erase e }
    admitWaiters (e.writers.foldl (fun t w => writerDone t l st w) s1) h

/-- Data or a completion reaches a requester that does not cache (R231, R235). -/
def deliverPlain (s : State) (dest : Asker) (l : Nat) (d : List Byte) (st : Nat) : State :=
  match dest with
  | .peer p r => peerDone s p r d st
  | .buffer h => bufferDone s h l st
  | .agent _ => modMzn s fun m => { m with answer := d, answerStatus := st }
  | .unit => modMzn s fun m => { m with answer := d, answerStatus := st }
  | .host => modMzn s fun m => { m with answer := d, answerStatus := st }

/-- Receive one message (R231). -/
def receive (s : State) (m : Msg) (bad : Bool) : State :=
  match m with
  | .snp a l k => answerSnoop s a l k bad
  | .srsp a l => takeSnoop s a l none false false
  | .sdat a l d dirty p => takeSnoop s a l (some d) dirty p
  | .gdat dest l st d status =>
    match dest, st with
    | .agent a, some x => sendMzn (modMzn (installLine s a l x d (status ≠ 0)) fun z => { z with answer := d, answerStatus := status }) (.ack a l)
    | .agent a, none =>
      let s1 := deliverPlain s dest l d status
      match (lineRec s l).txn with
      | some t => if t.granted && t.req.agent = some a then sendMzn s1 (.ack a l) else s1
      | none => s1
    | _, _ => deliverPlain s dest l d status
  | .cmp dest l k =>
    match dest with
    | .agent a =>
      if k = .wb then setWb s a l none
      else
        match cacheLine s a l with
        | some c => sendMzn (tickMzn (setCache s a l (some { c with st := .m, used := s.mzn.tick }))) (.ack a l)
        | none => sendMzn s (.ack a l)
    | _ => s
  | .wcmp dest l st => deliverPlain s dest l [] st
  | .ack a l => takeAck s a l
  | .req q => arriveReq s q

/-- The line of a message. -/
def Msg.line : Msg → Nat
  | .snp _ l _ => l
  | .srsp _ l => l
  | .sdat _ l _ _ _ => l
  | .gdat _ l _ _ _ => l
  | .cmp _ l _ => l
  | .wcmp _ l _ => l
  | .ack _ l => l
  | .req q => q.line

/-- Take the first message that satisfies a test off the Corridor and receive it. -/
def receiveFirst (s : State) (p : Msg → Bool) (bad : Bool) : State :=
  match s.mzn.msgs.find? p with
  | none => s
  | some m => receive (modMzn s fun z => { z with msgs := z.msgs.erase m }) m bad

/-- The host answers the request of a home (R250): it returns its data where its copy differs, and the device's host-side
state follows. -/
def hostAnswer (s : State) (l : Nat) (d : Option (List Byte)) : State :=
  match (lineRec s l).txn with
  | none => s
  | some t =>
    match t.host with
    | none => s
    | some k =>
      let s0 :=
        match d with
        | none => s
        | some b => if hostLine l then hostPut s (l % 2 ^ 57 * 64) b else (writeMem s none l b).1
      let st := match k with | .rdCurr => none | .rdShared => some HostSt.s | .rdOwn => some .e | .rdOwnNoData => some .e | .dirtyEvict => none
      let s1 := modRec s0 l fun x => { x with txn := some { t with host := none }, host := if hostLine l then st.getD x.host else x.host }
      pump s1 l

/-- Let every message of a line arrive, and the host answer at once, until nothing is left to do (log entry 12). -/
def runLine (s : State) (l : Nat) : Nat → State
  | 0 => s
  | n + 1 =>
    if s.mzn.msgs.any fun m => m.line == l then runLine (receiveFirst s (fun m => m.line == l) false) l n
    else
      match (lineRec s l).txn with
      | some t => if t.host.isSome then runLine (hostAnswer s l none) l n else s
      | none => s

/-- Messages enough for everything that waits on a line. -/
def runFuel (s : State) (l : Nat) : Nat :=
  let r := lineRec s l
  (r.waiting.length + r.hostWaiting.length + r.held.length + 4) * (4 * r.holders.length + 12) + 2 * s.mzn.msgs.length

/-- Let a line come to rest. -/
def settleLine (s : State) (l : Nat) : State := runLine s l (runFuel s l)

/-- Serve one request whole: what is under way on the line ends first, then the request runs to its end (log entry 12). -/
def serveLine (s : State) (q : HomeReq) : State :=
  let s1 := settleLine s q.line
  let s2 := pump (startReq (modMzn s1 fun m => { m with answer := [], answerStatus := 0 }) { q with since := s.now }) q.line
  settleLine s2 q.line

/-! ### Accesses of the device's units -/

/-- Read one line without caching (RD_NC), for a wing. -/
def readNc (s : State) (wing : Option Nat) (l : Nat) : State × List Byte × Nat :=
  let s1 := serveLine s (plainReq .rdNc .unit l wing MemErr.none s.now)
  (s1, s1.mzn.answer, s1.mzn.answerStatus)

/-- Write one whole line (WR_FULL), for a wing. -/
def writeFull (s : State) (wing : Option Nat) (l : Nat) (d : List Byte) : State × Nat :=
  let s1 := serveLine s { plainReq .wrFull .unit l wing MemErr.none s.now with data := d }
  (s1, s1.mzn.answerStatus)

/-- A partial write reaches the write-combining buffer of the hall that holds the line; it waits where no entry is free, and
the oldest open one then closes (R274). -/
def wcbWrite (s : State) (l mask : Nat) (data : List Byte) (who : Writer) : State :=
  let h := lineHall l
  match wcbTake s l mask data who with
  | some t => t
  | none =>
    let s1 := modCtl s h fun c => { c with wcbWaiting := c.wcbWaiting ++ [⟨l, mask, data, who⟩] }
    match (ctl s h).wcb.find? fun e => !e.closed with
    | some e => closeEntry s1 h e.line
    | none => s1

/-- Write part of a line and wait for it: through the write-combining buffer of its hall, whose entry the writer closes
(R242, R274); to host memory, directly. -/
def writePart (s : State) (wing : Option Nat) (l mask : Nat) (data : List Byte) : State × Nat :=
  if hostLine l then
    let s1 := serveLine s { plainReq .wrMerge .unit l wing MemErr.none s.now with mask := mask, data := data }
    (s1, s1.mzn.answerStatus)
  else
    let h := lineHall l
    match (ctl s h).wcb.find? fun e => e.line == l && !e.closed with
    | some e =>
      let s1 := modCtl s h fun c => { c with wcb := c.wcb.erase e }
      let s2 := serveLine (addR s1 .halWcbMerges 1 h)
        { plainReq .wrMerge .unit l wing MemErr.none s.now with mask := e.mask ||| mask, data := mergeMask mask e.data data }
      let st := s2.mzn.answerStatus
      (admitWaiters (e.writers.foldl (fun t w => writerDone t l st w) s2) h, st)
    | none =>
      let s1 := serveLine (addR s .halWcbMerges 1 h) { plainReq .wrMerge .unit l wing MemErr.none s.now with mask := mask, data := data }
      (s1, s1.mzn.answerStatus)

/-- The mask of bytes `[lo + n - 1 : lo]` of a line. -/
def spanMask (lo n : Nat) : Nat := (2 ^ n - 1) * 2 ^ lo

/-- Write bytes to device or host memory for a wing, line by line in ascending order: whole lines with WR_FULL, other lines
through the write-combining buffer (R241, R242). The status is the first failure. -/
def memPut (s : State) (wing : Option Nat) (a : Nat) (bs : List Byte) : State × Nat :=
  (linesOf a bs.length).foldl (fun (t : State × Nat) l =>
    let lo := if l * 64 < a then a - l * 64 else 0
    let hi := min 64 (a + bs.length - l * 64)
    let part := (bs.drop (l * 64 + lo - a)).take (hi - lo)
    let (u, st) :=
      if lo = 0 ∧ hi = 64 then writeFull t.1 wing l part
      else writePart t.1 wing l (spanMask lo (hi - lo)) (bytesOf lo 0 ++ part)
    (u, if t.2 = 0 then st else t.2)) (s, 0)

/-- Count what reads of a range do at the homes: hits, misses, snoops and fills (R228, R234). The bytes are those of memRead. -/
def touchRead (s : State) (wing : Option Nat) (a n : Nat) : State :=
  (linesOf a n).foldl (fun t l => (readNc t wing l).1) s

end Sys2Proof.Machine
end

