-- ==== Sys2Proof/Machine/Newel.lean ====
section
/-! DEFINITION. The Newel merge: message formats, merging, sends and the state of shards (R104, R117 to R138). -/

namespace Sys2Proof.Machine

/-! ### Formats (R120 to R122) -/

/-- The 64 header bytes of a message (R120). -/
def headBytes (h : NewelHead) (sentAt : Nat) : List Byte :=
  bytesOf 1 h.type ++ bytesOf 1 h.level ++ bytesOf 2 h.flags ++ bytesOf 4 h.sealLo ++ bytesOf 4 h.mapEpoch ++ bytesOf 8 h.queryId ++
    bytesOf 8 h.deadline ++ bytesOf 8 sentAt ++ bytesOf 2 h.sender ++ bytesOf 2 h.coll ++ bytesOf 1 h.mapId ++ bytesOf 1 h.tree ++
    bytesOf 1 h.depth ++ bytesOf 1 h.lines ++ bytesOf 2 h.status ++ bytesOf 2 h.shards ++ bytesOf 16 0

/-- The header that the first 64 bytes of a message spell (R120). -/
def readHead (b : List Byte) : NewelHead :=
  ⟨numAt b 0 1, numAt b 1 1, numAt b 2 2, numAt b 4 4, numAt b 8 4, numAt b 12 8, numAt b 20 8, numAt b 36 2, numAt b 38 2,
   numAt b 40 1, numAt b 41 1, numAt b 42 1, numAt b 43 1, numAt b 44 2, numAt b 46 2⟩

/-- Lines of a shard bitmap (R120). -/
def bitmapLines (n : Nat) : Nat := (n + 511) / 512

/-- One entry of a RESULT (R122). -/
def mergeEntryBytes (e : MergeEntry) : List Byte :=
  bytesOf 2 e.dist ++ bytesOf 2 (e.shard + 4096 * e.hall) ++ bytesOf 4 e.slot ++ bytesOf 8 e.item

/-- The 64-byte summary of a RESULT (R122). -/
def summaryBytes (k : Nat) (m : Merged) : List Byte :=
  bytesOf 1 m.entries.length ++ bytesOf 1 k ++ bytesOf 2 m.pace ++ bytesOf 4 m.skipped ++ bytesOf 8 m.examined ++ bytesOf 8 m.selSum ++
    bytesOf 8 m.remSum ++ bytesOf 2 m.hallsEcc ++ bytesOf 2 m.hallsThermal ++ bytesOf 2 m.hallsSpill ++ bytesOf 2 m.shardsEcc ++
    bytesOf 2 m.shardsThermal ++ bytesOf 2 m.shardsSpill ++ bytesOf 20 0

/-- Entries of a RESULT (R122). -/
def readEntries : Nat → List Byte → List MergeEntry
  | 0, _ => []
  | n + 1, b =>
    ⟨numAt b 0 2, numAt b 2 2 % 4096, numAt b 2 2 / 4096, numAt b 4 4, numAt b 8 8⟩ :: readEntries n (b.drop 16)

/-- The summary and entries of a RESULT whose bitmaps have `l` lines (R122). -/
def readMerged (b : List Byte) (l : Nat) : Merged :=
  { entries := readEntries (numAt b 64 1) (b.drop (128 + 128 * l)), pace := numAt b 66 2, skipped := numAt b 68 4,
    examined := numAt b 72 8, selSum := numAt b 80 8, remSum := numAt b 88 8, hallsEcc := numAt b 96 2, hallsThermal := numAt b 98 2,
    hallsSpill := numAt b 100 2, shardsEcc := numAt b 102 2, shardsThermal := numAt b 104 2, shardsSpill := numAt b 106 2 }

/-- The body of a QUERY (R121). -/
def queryBody (s : State) (q : NewelQuery) (select : Option Nat) : List Byte :=
  let w := match collOf s q.coll with | some x => x.width | none => 0
  bytesOf 8 q.tag ++ bytesOf 1 q.k ++ bytesOf 1 q.rerankK ++ bytesOf 2 q.permit ++ bytesOf 2 q.radius ++ bytesOf 2 q.hopUs ++ bytesOf 48 0 ++
    bytesOf (pad64 (w / 8)) q.code ++ (match select with | some v => bytesOf (64 * bitmapLines q.shardCount) v | none => [])

/-- A message keeps the first check of R123: TYPE, reserved fields, BITMAP_LINES, K and N. -/
def wellFormedMsg (b : List Byte) : Bool :=
  let h := readHead b
  let l := h.lines
  decide (1 ≤ h.type) && decide (h.type ≤ 5) && decide (h.flags < 8) && decide (h.sender < 4096) && decide (h.tree < 16) &&
    !anySet ((b.take 64).drop 48) && decide (1 ≤ h.shards) && decide (h.shards ≤ 4096) && decide (l = bitmapLines h.shards) &&
    (match h.type with
     | 1 => !anySet ((b.take 128).drop 80) && decide (1 ≤ numAt b 72 1) && decide (numAt b 72 1 ≤ 64) && decide (numAt b 73 1 ≤ numAt b 72 1) &&
         decide (1 ≤ numAt b 78 2) && decide (numAt b 78 2 ≤ 10000)
     | 2 => !anySet ((b.take 128).drop 108) && decide (1 ≤ numAt b 65 1) && decide (numAt b 65 1 ≤ 64) && decide (numAt b 64 1 ≤ numAt b 65 1)
     | 3 => decide (1 ≤ numAt b 64 1) && decide (numAt b 64 1 ≤ 2) && !anySet ((b.take 72).drop 65) && !anySet ((b.take 128).drop 80)
     | _ => true)

/-! ### Merged results (R104, R124) -/

/-- The order of R97 and R124 across halls and shards. -/
def MergeEntry.before (a b : MergeEntry) : Bool :=
  decide ([a.dist, a.item, a.shard, a.hall, a.slot] < [b.dist, b.item, b.shard, b.hall, b.slot])

/-- Nothing merged yet. -/
def noMerge : Merged := ⟨[], 0xFFFF, 0, 0, 0, 0, 0, 0, 0, 0, 0, 0⟩

/-- The sum of distances of entries. -/
def entrySum (l : List MergeEntry) : Nat := (l.map MergeEntry.dist).sum

/-- Merge two results for `k` places (R104, R124). -/
def mergeTwo (k : Nat) (a b : Merged) : Merged :=
  let es := (sortBy MergeEntry.before (a.entries ++ b.entries)).take k
  { entries := es, pace := min a.pace b.pace, skipped := min (a.skipped + b.skipped) 0xFFFFFFFF, examined := a.examined + b.examined,
    selSum := entrySum es, remSum := a.selSum + a.remSum + b.selSum + b.remSum - entrySum es,
    hallsEcc := a.hallsEcc ||| b.hallsEcc, hallsThermal := a.hallsThermal ||| b.hallsThermal, hallsSpill := a.hallsSpill ||| b.hallsSpill,
    shardsEcc := a.shardsEcc + b.shardsEcc, shardsThermal := a.shardsThermal + b.shardsThermal, shardsSpill := a.shardsSpill + b.shardsSpill }

/-- A hall's record as a merge input. -/
def recMerged (shard : Nat) (r : HallRec) : Merged :=
  { entries := r.entries.map fun e => ⟨e.dist, shard, r.hall, e.slot, e.item⟩, pace := r.pace, skipped := r.skipped, examined := r.examined,
    selSum := r.selSum, remSum := r.remSum, hallsEcc := if r.status = stEcc then 2 ^ r.hall else 0,
    hallsThermal := if r.status = stPartialThermal then 2 ^ r.hall else 0, hallsSpill := if r.status = stCandidatesSpilled then 2 ^ r.hall else 0,
    shardsEcc := 0, shardsThermal := 0, shardsSpill := 0 }

/-- The status of a device's halls together (R94). -/
def recsStatus (l : List HallRec) : Nat :=
  if l.any fun r => r.status = stEcc then stEcc
  else if l.any fun r => r.status = stPartialThermal then stPartialThermal
  else if l.any fun r => r.status = stCandidatesSpilled then stCandidatesSpilled
  else stOk

/-- A device's own result: its hall records merged (R104). -/
def localMerged (shard k : Nat) (l : List HallRec) : Merged :=
  let m := l.foldl (fun a r => mergeTwo k a (recMerged shard r)) noMerge
  let st := recsStatus l
  { m with shardsEcc := b2n (decide (st = stEcc)), shardsThermal := b2n (decide (st = stPartialThermal)),
           shardsSpill := b2n (decide (st = stCandidatesSpilled)) }

/-! ### Queries at this device -/

/-- The record of a Newel query at this device by QUERY_ID and tree. -/
def findNewel (s : State) (id tree : Nat) : Option NewelQuery := s.store.newel.find? fun q => q.queryId == id && q.tree == tree

/-- The root record of a QUERY_ID. -/
def findRoot (s : State) (id : Nat) : Option NewelQuery := s.store.newel.find? fun q => q.queryId == id && q.isRoot

/-- Change a Newel query. -/
def modNewel (s : State) (id tree : Nat) (f : NewelQuery → NewelQuery) : State :=
  { s with store := { s.store with newel := s.store.newel.map fun q => if q.queryId == id && q.tree == tree then f q else q } }

/-- Remove a Newel query. -/
def dropNewel (s : State) (id tree : Nat) : State :=
  { s with store := { s.store with newel := s.store.newel.filter fun q => !(q.queryId == id && q.tree == tree) } }

/-- What is known of a shard. -/
def NewelQuery.shard (q : NewelQuery) (n : Nat) : ShardState := tget (fun _ => .unsettled) q.shards n

/-- The shards of a bitmap. -/
def bitmapShards (n b : Nat) : List Nat := (List.range n).filter fun i => bit b i

/-- The bitmap of the shards in a state. -/
def NewelQuery.bitmap (q : NewelQuery) (p : ShardState → Bool) : Nat :=
  (bitmapShards q.shardCount q.subtree).foldl (fun a i => if p (q.shard i) then a + 2 ^ i else a) 0

/-- The shard is covered. -/
def ShardState.isCovered : ShardState → Bool
  | .covered => true
  | _ => false

/-- The shard is covered, refused, lost, or pending after a late notice (R126). -/
def ShardState.settled : ShardState → Bool
  | .unsettled => false
  | _ => true

/-- Mark the shards of a bitmap that are not covered yet. -/
def NewelQuery.mark (q : NewelQuery) (b : Nat) (st : ShardState) : NewelQuery :=
  let f := fun (t : Tbl ShardState) i => if (tget (fun _ => ShardState.unsettled) t i).isCovered then t else tput t i st
  { q with shards := (bitmapShards q.shardCount b).foldl f q.shards }

/-- The map image of a query's epoch. -/
def newelImage (s : State) (q : NewelQuery) : Option MapImage :=
  match collOf s q.coll with
  | none => none
  | some x => x.mapId.bind fun n => imageAt (mapOf s n) q.mapEpoch

/-- The tree that a query travels. -/
def newelTree (s : State) (q : NewelQuery) : Option Tree := (newelImage s q).bind fun i => i.trees[q.tree]?

/-- The header of a message of a query (R120). -/
def newelHead (s : State) (q : NewelQuery) (type flags status : Nat) : NewelHead :=
  let x := collOf s q.coll
  { type := type, level := q.level, flags := flags, sealLo := match x with | some c => sealAt s c q.mapEpoch % 2 ^ 32 | none => 0,
    mapEpoch := q.mapEpoch, queryId := q.queryId, deadline := q.deadline, sender := deviceIndex s, coll := q.coll,
    mapId := match x with | some c => c.mapId.getD 0 | none => 0, tree := q.tree, depth := q.depth, lines := bitmapLines q.shardCount,
    status := status, shards := q.shardCount }

/-- The virtual channel of a message TYPE (R119). -/
def newelVc (type : Nat) : Nat := if type = 1 then 2 else if type = 2 then 3 else 4

/-- Put a payload into a port's send queue (R413). -/
def sendOn (s : State) (p vc : Nat) (b : List Byte) : State :=
  modPort s p fun x => { x with txQueue := tmod (fun _ => []) x.txQueue vc fun l => l ++ [b] }

/-- Send a message; SENT_AT is written when its sector leaves (R120). -/
def sendMsg (s : State) (p : Nat) (h : NewelHead) (body : List Byte) : State := sendOn s p (newelVc h.type) (headBytes h 0 ++ body)

/-- The port can carry a message of a map's LEVEL (R447). -/
def carries (s : State) (p level : Nat) : Bool := portActive s p && decide (level ≤ linkLevel s p)

/-- Send a message towards the parent if the port still leads there (R133, R447). -/
def sendUp (s : State) (q : NewelQuery) (h : NewelHead) (body : List Byte) : State :=
  if carries s q.parentPort q.level then sendMsg s q.parentPort h body else s

/-- A shard bitmap as bytes. -/
def bitmapBytes (q : NewelQuery) (b : Nat) : List Byte := bytesOf (64 * bitmapLines q.shardCount) b

/-- A REFUSAL towards the parent (R118, R122). -/
def refuseUp (s : State) (q : NewelQuery) (status shards : Nat) : State :=
  sendUp s q (newelHead s q 4 0 status) (bitmapBytes q shards)

/-- A NOTICE towards the parent: CAUSE 1 LATE, 2 LOST (R122, R131, R133). -/
def noticeUp (s : State) (q : NewelQuery) (cause eta shards : Nat) : State :=
  sendUp s q (newelHead s q 3 0 0) (bytesOf 1 cause ++ bytesOf 7 0 ++ bytesOf 8 eta ++ bytesOf 48 0 ++ bitmapBytes q shards)

/-- A DISCARD towards the sender of a message (R122, R123). -/
def discardMsg (s : State) (p : Nat) (h : NewelHead) (status : Nat) : State :=
  if portActive s p then
    sendMsg s p { h with type := 5, flags := 0, sender := deviceIndex s, status := status } []
  else s

/-- The body of a RESULT (R122). -/
def resultBody (q : NewelQuery) (m : Merged) (cover pend : Nat) : List Byte :=
  summaryBytes q.k m ++ bitmapBytes q cover ++ bitmapBytes q pend ++ (m.entries.map mergeEntryBytes).flatten

/-- Merge a contribution that covers the shards of a bitmap into a query (R124). -/
def takeContribution (q : NewelQuery) (m : Merged) (cover : Nat) : NewelQuery :=
  { q.mark cover .covered with merged := mergeTwo q.k q.merged m }

/-- The flight of a query on this device is done with: its view epoch is released (R60). -/
def releaseFlight (s : State) (q : NewelQuery) : State :=
  match q.ctx with
  | none => s
  | some c => dropQuery s c

/-! ### The root (R128, R134, R137) -/

/-- The uncovered shards of a query. -/
def NewelQuery.missing (q : NewelQuery) : Nat := q.bitmap fun x => !x.isCovered

/-- An uncovered shard holds the root up no longer: refused, lost, or late beyond the deadline (R128). -/
def ShardState.givenUp (deadline : Nat) : ShardState → Bool
  | .refused _ => true
  | .lost => true
  | .late eta => decide (deadline < eta)
  | _ => false

/-- The root may decide its result: every shard is covered or given up (R128). -/
def NewelQuery.rootDone (q : NewelQuery) : Bool :=
  (bitmapShards q.shardCount q.subtree).all fun i => (q.shard i).isCovered || (q.shard i).givenUp q.deadline

/-- A child of this device in a tree, with the port that leads to it and its subtree's shards. -/
def childPorts (s : State) (t : Tree) (dev : Nat) : List (Option Nat × Nat) :=
  (t.children dev).map fun m => (portTo s m.device, t.subtree m.device 8)

/-- Forward a QUERY to the children whose subtrees serve wanted shards: each is sent it, or is lost at once, or refused for
its link's level (R117, R121, R133, R447). Answers the state, the shards lost, and the shards refused. -/
def forwardQuery (s : State) (q : NewelQuery) (t : Tree) (want : Nat) (select : Option Nat) : State × Nat × Nat :=
  (childPorts s t (deviceIndex s)).foldl
    (fun r c =>
      let mine := c.2 &&& want
      if mine = 0 then r
      else
        match c.1 with
        | none => (r.1, r.2.1 ||| mine, r.2.2)
        | some p =>
          if linkLevel r.1 p < q.level then (r.1, r.2.1, r.2.2 ||| mine)
          else
            let fl := b2n select.isSome + 4 * b2n (decide (q.rerankK ≠ 0))
            (sendMsg r.1 p (newelHead r.1 q 1 fl 0) (queryBody r.1 q select), r.2.1, r.2.2)) (s, 0, 0)

/-- The flight of a Newel query on this device. -/
def newelFlight (s : State) (q : NewelQuery) (account prio : Nat) (limit : Option Nat) : Query :=
  let w := match collOf s q.coll with | some x => x.width | none => 0
  { ctx := s.store.nextCtx, source := .newel q.queryId q.tree, coll := q.coll, account := account, tag := q.tag, k := q.k, prio := prio,
    radius := min q.radius w, code := q.code, permit := if q.permit = 0xFFFF then none else some q.permit, permitVer := none, view := none,
    deadline := q.deadline, limit := limit, waiting := 0, halls := 0, admitted := s.now, resultAddr := 0, recs := [], delayed := false,
    released := false }

/-- Take the next context number. -/
def bumpCtx (s : State) : State := { s with store := { s.store with nextCtx := s.store.nextCtx + 1 } }

/-- The device's peer class (R459). -/
def peerPrio (s : State) (coll : Nat) : Nat :=
  match collOf s coll with | some x => fieldR s .wngTCfg 4 2 (128 + x.wing) | none => 0

/-- Send limit L_d (R126). -/
def sendLimitOf (q : NewelQuery) : Nat := q.deadline - q.depth * q.hopUs * 1000

/-- Reroute the lost and refused shards of a root's query down the fallback tree, once each (R134). -/
def reroute (s : State) (q : NewelQuery) : State :=
  match newelTree s q with
  | none => s
  | some t =>
    let sel := q.bitmap fun x => match x with | .refused _ => true | .lost => true | _ => false
    let pick := clearBits sel q.rerouted
    if t.fallback = 0xFF ∨ pick = 0 ∨ q.deadline < s.now then s
    else
      match (newelImage s q).bind fun i => i.trees[t.fallback]? with
      | none => s
      | some f =>
        let q1 := { q with shards := (bitmapShards q.shardCount pick).foldl (fun l i => terase l i) q.shards, rerouted := q.rerouted ||| pick }
        let fq := { q1 with tree := t.fallback, isRoot := false, parentPort := 255, depth := 0, ctx := none, shards := [], merged := noMerge }
        let r := forwardQuery (addR s .nwlReroutes 1) fq f pick (some pick)
        let q2 := (q1.mark r.2.1 .lost).mark r.2.2 (.refused stVersion)
        let own := match f.member (deviceIndex s) with | some m => if m.shard ≠ 0xFFFF ∧ bit pick m.shard then some m.shard else none | none => none
        let s1 := modNewel r.1 q.queryId q.tree fun _ => q2
        match own with
        | none => s1
        | some sh =>
          let oq := { fq with ownShard := some sh, subtree := 2 ^ sh, ctx := some s1.store.nextCtx }
          match admitQuery (bumpCtx s1) (newelFlight s1 oq q.tenant (peerPrio s q.coll) (some q.deadline)) with
          | .error st => modNewel s1 q.queryId q.tree fun x => x.mark (2 ^ sh) (.refused st)
          | .ok s2 => { s2 with store := { s2.store with newel := s2.store.newel ++ [oq] } }

/-- The root judges where its query stands: it reroutes what it may, and decides when nothing more is awaited (R128, R134). -/
def rootCheck (s : State) (id tree : Nat) : State :=
  match findNewel s id tree with
  | none => s
  | some q =>
    if q.decided then s
    else
      let s1 := reroute s q
      match findNewel s1 id tree with
      | none => s1
      | some q1 => if q1.rootDone then modNewel s1 id tree fun x => { x with decided := true } else s1

/-! ### Members (R126, R130 to R133) -/

/-- The member's own shard is merged already, or it serves none. -/
def NewelQuery.ownCovered (q : NewelQuery) : Bool := match q.ownShard with | some sh => (q.shard sh).isCovered | none => true

/-- A member sends its RESULT, or discards it and counts it when its parent is lost (R126, R133). A query that carries no
rerank releases its flight then (R60), unless that flight still sweeps and its result is to follow (R129, R130). -/
def memberSend (s : State) (q : NewelQuery) : State :=
  let cover := q.bitmap ShardState.isCovered
  let pend := q.bitmap fun x => match x with | .late _ => true | _ => false
  let s1 := modNewel s q.queryId q.tree fun x => { x with sent := true }
  let s2 := if q.rerankK = 0 ∧ q.ownCovered then releaseFlight s1 q else s1
  if q.parentPort = 255 then
    match findRoot s2 q.queryId with
    | none => s2
    | some r =>
      if r.decided then modNewel s2 r.queryId r.tree fun x => { x with lateSeen := true }
      else rootCheck (modNewel s2 r.queryId r.tree fun x => takeContribution x q.merged cover) r.queryId r.tree
  else if carries s2 q.parentPort q.level then
    addR (sendMsg s2 q.parentPort (newelHead s q 2 (4 * b2n (decide (q.rerankK ≠ 0))) 0) (resultBody q q.merged cover pend))
      .nwlResultsSent 1
  else addR s2 .nwlOrphaned 1

/-- Every shard of the subtree is covered, refused, lost or pending; its own late shard still holds a member (R126, R131). -/
def NewelQuery.memberDone (q : NewelQuery) : Bool :=
  (bitmapShards q.shardCount q.subtree).all fun i =>
    (q.shard i).settled && !(decide (q.ownShard = some i) && match q.shard i with | .late _ => true | _ => false)

/-- A member sends once every shard of its subtree is settled (R126). -/
def memberCheck (s : State) (id tree : Nat) : State :=
  match findNewel s id tree with
  | none => s
  | some q => if !q.sent && q.memberDone then memberSend s q else s

/-- Judge a query as what this device is to it. -/
def judge (s : State) (q : NewelQuery) : State :=
  if q.isRoot then rootCheck s q.queryId q.tree else memberCheck s q.queryId q.tree

/-- Shards of a query are refused (R118, R134). -/
def markRefused (s : State) (q : NewelQuery) (shards status : Nat) : State :=
  let s1 := modNewel s q.queryId q.tree fun x => x.mark shards (.refused status)
  let s2 := if q.isRoot ∨ q.parentPort = 255 then s1 else refuseUp s1 q status shards
  if q.parentPort = 255 then
    match findRoot s2 q.queryId with
    | none => s2
    | some r => rootCheck (modNewel s2 r.queryId r.tree fun x => x.mark shards (.refused status)) r.queryId r.tree
  else judge s2 q

/-- Shards of a query are lost (R133). -/
def markLost (s : State) (q : NewelQuery) (shards : Nat) : State :=
  let s1 := modNewel s q.queryId q.tree fun x => x.mark shards .lost
  judge (if q.isRoot then s1 else noticeUp s1 q 2 0 shards) q

/-- The fallback tree of a root's query. -/
def fallbackTree (s : State) (q : NewelQuery) : Option Tree :=
  match newelTree s q, newelImage s q with
  | some t, some i => i.trees[t.fallback]?
  | _, _ => none

/-- The unsettled shards of a query that a child of this device serves, in its tree and, once rerouted, in its fallback tree
(R133, R134). -/
def childShards (s : State) (q : NewelQuery) (dev : Nat) : Nat :=
  let me := deviceIndex s
  let open_ := q.bitmap fun x => !x.settled
  let part := fun (t : Option Tree) (m : Nat) =>
    match t with
    | some tr => if (tr.children me).any fun c => c.device == dev then tr.subtree dev 8 &&& open_ &&& m else 0
    | none => 0
  part (newelTree s q) (clearBits (2 ^ q.shardCount - 1) q.rerouted) ||| (if q.isRoot then part (fallbackTree s q) q.rerouted else 0)

/-- A partner is lost: the subtrees of every query outstanding towards it are lost (R133). -/
def newelPartnerLost (s : State) (dev : Nat) : State :=
  s.store.newel.foldl
    (fun t q0 =>
      match findNewel t q0.queryId q0.tree with
      | none => t
      | some q =>
        let sh := childShards t q dev
        if sh = 0 then t else markLost t q sh) s

/-! ### Late notices (R131) -/

/-- The projected end of a query's own flight: the latest alighting of its halls and the local merge (R131). -/
def flightEnd (s : State) (q : NewelQuery) : Option Nat :=
  match q.ctx with
  | none => none
  | some c =>
    let hs := (List.range 16).filter fun h => (stair s h).treads.any fun e => decide (e.2.state = .aboard) && decide (e.2.ctx = c)
    let each := hs.map fun h =>
      match (stair s h).treads.find? fun e => decide (e.2.state = .aboard) && decide (e.2.ctx = c) with
      | none => some 0
      | some e => nearestNs (untilStop s h e.2) (timeDen s h)
    let w := match collOf s q.coll with | some x => x.wing | none => 0
    if hs.isEmpty then none else (maxAll each).map fun m => s.now + m + mergeCost s w hs.length q.k

/-- After a thermal step or a compare-limit change, members whose own flight will end after their send limit tell their
parents (R131): the first time, and again when the estimate moves by more than 50 µs, at most four times. -/
def lateCheck (s : State) : State :=
  s.store.newel.foldl
    (fun t q =>
      if q.isRoot || q.sent || q.parentPort = 255 then t
      else
        match flightEnd t q, q.ownShard with
        | some e, some sh =>
          if sendLimitOf q < e ∧ q.noticesSent < 4 ∧ (q.noticesSent = 0 ∨ q.lastEta + 50000 < e) then
            let s1 := noticeUp t q 1 (e + getR t .mrqPDelayNs q.parentPort) (2 ^ sh)
            modNewel (addR s1 .nwlNoticesSent 1) q.queryId q.tree fun x =>
              { x.mark (2 ^ sh) (.late e) with noticesSent := x.noticesSent + 1, lastEta := e }
          else t
        | _, _ => t) s

/-! ### Flights that end without a result (R469, R471) -/

/-- Drop the flights whose query is over and that have now ended in every hall (R60, R129). -/
def reapFlights (s : State) : State :=
  s.store.queries.foldl
    (fun t x =>
      match x.source with
      | .board _ => t
      | .newel id tree => if (findNewel t id tree).isNone ∧ x.halls ≠ 0 ∧ x.recs.length = x.halls then dropQuery t x.ctx else t) s

/-- Tell the requesters of Newel flights that ended: the root's command completes, a member refuses its own shard. -/
def settleNewel (s : State) : State :=
  let mine := s.store.ended.filter fun e => match e.1.source with | .newel _ _ => true | .board _ => false
  let rest := s.store.ended.filter fun e => match e.1.source with | .newel _ _ => false | .board _ => true
  reapFlights <| mine.foldl
    (fun t e =>
      match e.1.source with
      | .board _ => t
      | .newel id tree =>
        match findNewel t id tree with
        | none => t
        | some q =>
          if q.isRoot then finish (dropNewel t id tree) q.cmd e.2
          else
            match q.ownShard with
            | none => t
            | some sh => markRefused t q (2 ^ sh) e.2) { s with store := { s.store with ended := rest } }

end Sys2Proof.Machine
end

