-- ==== Sys2Proof/Machine/EngineOps.lean ====
section
/-! DEFINITION. Descriptors: their queues, acceptance, checks and completion (R324 to R334, R350, R351). -/

namespace Sys2Proof.Machine

/-- The key of a unit: CLASS and INSTANCE (R324). -/
def unitKey (cls inst : Nat) : Nat := cls * 256 + inst

/-- The queues of a unit. -/
def unitOf (s : State) (cls inst : Nat) : UnitQ := tget (fun _ => idleUnit) s.units (unitKey cls inst)

/-- Change the queues of a unit. -/
def modUnit (s : State) (cls inst : Nat) (f : UnitQ → UnitQ) : State :=
  { s with units := tmod (fun _ => idleUnit) s.units (unitKey cls inst) f }

/-- The hall group of a unit (R324). -/
def unitGroup (cls inst : Nat) : Nat := if cls = 1 then inst / 2 else inst

/-- A unit is present (R1, R18, R324). -/
def unitPresent (s : State) (cls inst : Nat) : Bool :=
  match cls with
  | 0 => present s .hall inst
  | 1 => present s .engine inst
  | 2 => present s .lantern inst
  | 3 => present s .group inst
  | 4 => present s .group inst
  | _ => false

/-- The instances of a class (R324). -/
def unitInstances (cls : Nat) : Nat := match cls with | 0 => 16 | 1 => 32 | 2 => 16 | 3 => 16 | 4 => 16 | _ => 0

/-- A number in a descriptor: bytes `[lo + n - 1 : lo]`. -/
def Desc.num (d : Desc) (lo n : Nat) : Nat := numAt d.bytes lo n

/-- OPCODE (R330). -/
def Desc.op (d : Desc) : Nat := d.num 0 1

/-- FLAGS.NOTIFY (R330). -/
def Desc.notify (d : Desc) : Bool := bit (d.num 1 1) 0

/-- A unit reports a fault until a unit reset passes (R510). -/
def unitFaulted (s : State) (cls inst : Nat) : Bool :=
  match cls with
  | 0 => faulted s .hall inst
  | 1 => faulted s .engine inst
  | 2 => faulted s .lantern inst
  | 3 => faulted s .group inst
  | 4 => faulted s .group inst
  | _ => false

/-- Lines of a descriptor: QUANT and DEQUANT take two (R330, R344). -/
def descLines (cls : Nat) (bytes : List Byte) : Nat :=
  if cls = 1 && (numAt bytes 0 1 = 0x28 || numAt bytes 0 1 = 0x29) then 2 else 1

/-- Lines that a queue of a unit holds. -/
def queueLines (u : UnitQ) (cls q : Nat) : Nat := ((u.queued.filter fun d => d.queue == q).map fun d => descLines cls d.bytes).sum

/-- The queue has room for a descriptor (R327). -/
def hasRoom (s : State) (cls inst q : Nat) (bytes : List Byte) : Bool :=
  decide (queueLines (unitOf s cls inst) cls q + descLines cls bytes ≤ 32)

/-- The queue that a unit takes its next descriptor from (R328). -/
def nextQueue (u : UnitQ) : Option Nat :=
  let busy := fun q => u.queued.any fun d => d.queue == q
  let others := [(u.last + 1) % 3, (u.last + 2) % 3, (u.last + 3) % 3].filter busy
  if busy 3 && !(decide (4 ≤ u.run3) && !others.isEmpty) then some 3 else others.head?

/-- The descriptor that a unit accepts next (R328); one with BARRIER waits for every earlier one to complete (R329). -/
def nextDescOf (u : UnitQ) : Option Desc :=
  match nextQueue u with
  | none => none
  | some q =>
    match u.queued.find? fun d => d.queue == q with
    | none => none
    | some d => if bit (d.num 1 1) 1 && !u.accepted.isEmpty then none else some d

/-- Put a descriptor into a queue of a unit. -/
def pushDesc (s : State) (cls inst : Nat) (d : Desc) : State :=
  { modUnit s cls inst fun u => { u with queued := u.queued ++ [d] } with nextDesc := s.nextDesc + 1 }

/-- A unit accepts a descriptor (R328). -/
def acceptDesc (s : State) (cls inst : Nat) (d : Desc) : State :=
  modUnit s cls inst fun u =>
    let rest := u.queued.erase d
    { u with
      queued := rest
      accepted := u.accepted ++ [d]
      last := if d.queue = 3 then u.last else d.queue
      run3 := if d.queue = 3 && rest.any (fun x => x.queue != 3) then u.run3 + 1 else 0 }

/-- Set the result of an accepted descriptor: its outputs are complete (R333). -/
def descResult (s : State) (cls inst id status count : Nat) : State :=
  modUnit s cls inst fun u =>
    { u with accepted := u.accepted.map fun d => if d.id == id then { d with result := some (status, count) } else d }

/-- A unit refuses a descriptor, and counts it (R331). -/
def refuseDesc (s : State) (cls inst id status : Nat) : State :=
  descResult (if cls = 1 then addR s .colRefused 1 inst else s) cls inst id status 0

/-- A descriptor's work ends (R333). -/
def endDesc (s : State) (cls inst id status count : Nat) : State :=
  descResult (if cls = 1 then addR s .colInstr 1 inst else s) cls inst id status count

/-- A device address lies in memory granted to the descriptor's wing (R331 step 7, R457). -/
def descMay (s : State) (d : Desc) (a n : Nat) : Bool := grantedTo s d.wing a n

/-- A range needs a translation for reading and has none (R331 step 8). -/
def noRead (s : State) (a n : Nat) : Bool := !mayRead s a n

/-- A range needs a translation for writing and has none (R331 step 8). -/
def noWrite (s : State) (a n : Nat) : Bool := !mayWrite s a n

/-- The status of the first check that a descriptor fails, in the order of R331 with the notify word's of R334. -/
def descFail (s : State) (cls inst : Nat) (d : Desc) (k : EntryChecks) : Option Nat :=
  let na := d.num 8 8
  firstFail ([(!unitPresent s cls inst, stUnitAbsent), (unitFaulted s cls inst, stUnitFault)] ++ k.absent ++ k.busy ++
    [(unnamedSet d.bytes ([(0, 2), (8, 8)] ++ k.named) || decide (4 ≤ d.num 1 1) || (!d.notify && decide (na ≠ 0)), stReservedSet)] ++
    k.reserved ++ [(d.notify && !isHostAddr na && isStream (na / 64), stBadField)] ++ k.fields ++
    [(d.notify && decide (na % 8 ≠ 0), stBadAlign)] ++ k.align ++
    [(d.notify && !descMay s d na 8, stWindow)] ++ k.window ++ [(d.notify && noWrite s na 8, stNoTranslation)] ++ k.trans)

/-- A unit takes the descriptor that its order gives next, if it is this one with this opcode, and acts on it. -/
def withDesc (s : State) (cls inst id op : Nat) (act : Desc → State → State) : State :=
  match nextDescOf (unitOf s cls inst) with
  | none => s
  | some d => if d.id = id && d.op = op then act d (acceptDesc s cls inst d) else s

/-- The opcodes of a class (R335 to R349). -/
def classOps (cls : Nat) : List Nat :=
  match cls with
  | 0 => [0x01, 0x02, 0x10, 0x11, 0x12]
  | 1 => [0x20, 0x21, 0x22, 0x23, 0x24, 0x25, 0x26, 0x28, 0x29]
  | 2 => [0x30, 0x31]
  | 3 => [0x40, 0x41, 0x42, 0x43, 0x44]
  | 4 => [0x50, 0x51]
  | _ => []

/-- Line writes of a descriptor's outputs, in order, with the first failure. -/
def runWrites (s : State) (wing : Nat) (ws : List (Nat × List Byte)) : State × Nat :=
  ws.foldl (fun (t : State × Nat) w =>
    let (u, st) := memPut t.1 (some wing) w.1 w.2
    (u, if t.2 = 0 then st else t.2)) (s, 0)

/-! ### Tokens (R333, R318) -/

/-- An Usher's program context. -/
def usher (s : State) (u : Nat) : Usher := tget (fun _ => resetUsher) s.ushers u

/-- Change an Usher's program context. -/
def modUsher (s : State) (u : Nat) (f : Usher → Usher) : State := { s with ushers := tmod (fun _ => resetUsher) s.ushers u f }

/-- The token of a descriptor completes with its status, if the program context still holds it (R322, R333). -/
def completeToken (s : State) (u token desc status : Nat) : State :=
  modUsher s u fun x =>
    { x with tokens := x.tokens.map fun t => if t.value == token && t.desc == desc then { t with status := some status } else t }

/-- The notify word (R334). -/
def notifyWord (status op count : Nat) : List Byte := bytesOf 2 status ++ bytesOf 1 op ++ bytesOf 1 0 ++ bytesOf 4 count

/-- Complete a descriptor: its notify word, then its token, or the host command that it carries (R333, R334). -/
def completeDesc (s : State) (cls inst : Nat) (d : Desc) (status count : Nat) : State :=
  let s1 := if d.notify then (memPut s (some d.wing) (d.num 8 8) (notifyWord status d.op count)).1 else s
  let s2 := modUnit s1 cls inst fun u => { u with accepted := u.accepted.filter fun x => x.id != d.id }
  match d.issuer with
  | .usher u t => completeToken s2 u t d.id status
  | .command id => finish s2 id status count
  | .micro => s2

/-- DESCRIPTOR_COMPLETE (R333): an accepted descriptor whose outputs are complete. A descriptor at the head whose OPCODE is
undefined for its class is accepted and refused (R326, R331). -/
def execDescriptorComplete (cls inst id : Nat) (s : State) : Out :=
  match (unitOf s cls inst).accepted.find? fun d => d.id == id with
  | some d =>
    match d.result with
    | some (st, n) => .next (completeDesc s cls inst d st n)
    | none => .next s
  | none =>
    match nextDescOf (unitOf s cls inst) with
    | none => .next s
    | some d =>
      if d.id = id && !(classOps cls).contains d.op then
        let s1 := acceptDesc s cls inst d
        let st := if unitFaulted s1 cls inst then stUnitFault else stBadOpcode
        .next (completeDesc (refuseDesc s1 cls inst id st) cls inst d st 0)
      else .next s

/-! ### Boarded queries and their descriptors (R336, R337) -/

/-- The unit of an accepted descriptor. -/
def ownerUnit (s : State) (id : Nat) : Option (Nat × Nat × Desc) :=
  s.units.findSome? fun e => (e.2.accepted.find? fun d => d.id == id).map fun d => (e.1 / 256, e.1 % 256, d)

/-- The records of a boarded flight have all been formed: they are written, and the descriptor's work ends with the first of
0x0401, 0x0302 and 0x0303 that applies (R94, R337). -/
def boardDone (s : State) (q : Query) (id : Nat) : State :=
  match ownerUnit s id with
  | none => dropQuery s q.ctx
  | some (cls, inst, d) =>
    let (s1, st) := runWrites s d.wing (q.recs.map fun r => (q.resultAddr + 1088 * r.hall, hallRecBytes s q r))
    endDesc (dropQuery s1 q.ctx) cls inst id (if st ≠ 0 then st else recsStatus q.recs) q.recs.length

/-- End every boarded flight whose records are complete, and tell the issuers of those that ended without (R336, R469). -/
def settleBoard (s : State) : State :=
  let mine := s.store.ended.filter fun e => match e.1.source with | .board _ => true | .newel _ _ => false
  let rest := s.store.ended.filter fun e => match e.1.source with | .board _ => false | .newel _ _ => true
  let s1 := mine.foldl
    (fun t e =>
      match e.1.source with
      | .board id => match ownerUnit t id with | some (c, i, _) => endDesc t c i id e.2 0 | none => t
      | .newel _ _ => t) { s with store := { s.store with ended := rest } }
  s1.store.queries.foldl
    (fun t q =>
      match q.source with
      | .board id => if q.recs.length = q.halls then boardDone t q id else t
      | .newel _ _ => t) s1

/-- Tell the requesters of every flight that ended. -/
def settleFlights (s : State) : State := settleBoard (settleNewel s)

/-- What a change of the sweep's speed brings about in one step: flights judged again and withdrawn, their requesters told,
and late members' notices (R131, R469). -/
def afterRate (s : State) : State := lateCheck (settleFlights (judgeAgain s))

end Sys2Proof.Machine
end

