-- ==== Sys2Proof/Machine/EngineMath.lean ====
section
/-! DEFINITION. The arithmetic of the engines: operands, addition order, reductions (R139 to R152). -/

namespace Sys2Proof.Machine

/-- An engine. -/
def engine (s : State) (e : Nat) : Engine := tget (fun _ => resetEngine) s.engines e

/-- Change an engine. -/
def modEngine (s : State) (e : Nat) (f : Engine → Engine) : State := { s with engines := tmod (fun _ => resetEngine) s.engines e f }

/-- A tile of an engine (R142). -/
def tileOf (s : State) (e g : Nat) : Tile := tget (fun _ => zeroTile) (engine s e).tiles g

/-- Set a tile. -/
def setTile (s : State) (e g : Nat) (t : Tile) : State :=
  modEngine s e fun x => { x with tiles := tset (fun _ => zeroTile) x.tiles g t }

/-- Element (r, c) of a tile. -/
def Tile.at (t : Tile) (r c : Nat) : Nat := (tget (fun _ => 0) t.data (32 * r + c)).toNat

/-- Set element (r, c) of a tile. -/
def Tile.put (t : Tile) (r c v : Nat) : Tile := { t with data := tset (fun _ => 0) t.data (32 * r + c) (BitVec.ofNat 32 v) }

/-- A scale entry: FP16 bits (R147). -/
def srfAt (s : State) (e i : Nat) : Nat := (tget (fun _ => 0) (engine s e).srf i).toNat

/-- Elements per row step of a pair of formats, none where the pair is refused (R139). -/
def pairK (a b : Nat) : Option Nat :=
  if a = 0 && b = 0 then some 128
  else if (a = 1 || a = 2) && (b = 1 || b = 2) then some 128
  else if (a = 3 || a = 4) && (b = 3 || b = 4) then some 64
  else none

/-- Bits of an element of a format (R340). -/
def fmtBits (f : Nat) : Nat := match f with | 0 => 8 | 1 => 8 | 2 => 8 | 3 => 16 | 4 => 4 | _ => 32

/-- Bytes of a row of elements. -/
def rowBytes (f n : Nat) : Nat := (fmtBits f * n + 7) / 8

/-- Element i of a row (R140): Bell-4 codes lie two to a byte, the lower-numbered in bits [3:0]. -/
def rowElem (f : Nat) (row : List Byte) (i : Nat) : Nat :=
  if f = 4 then bits (numAt row (i / 2) 1) (4 * (i % 2)) 4 else numAt row (i * (fmtBits f / 8)) (fmtBits f / 8)

/-- The value of an element that is not Bell-4 (R140, R151). -/
def elemValue (f raw : Nat) : FP :=
  match f with
  | 0 => FP.ofInt (toSigned 8 raw)
  | 1 => e4m3.dec raw
  | 2 => e5m2.dec raw
  | 3 => bf16.dec raw
  | _ => fp32.dec raw

/-- The value of a Bell-4 code under a channel scale: the product rounded once to BF16 (R140). -/
def bellOperand (code scale : Nat) : FP := (FP.mul (bellValue code) (fp16.dec scale)).near bf16

/-- The value of an operand element; `scale` is the scale entry of its channel. -/
def operandValue (f raw scale : Nat) : FP := if f = 4 then bellOperand raw scale else elemValue f raw

/-- One level of the pairwise tree (R149). -/
def pairUp {α : Type} (add : α → α → α) : List α → List α
  | a :: b :: t => add a b :: pairUp add t
  | [a] => [a]
  | [] => []

/-- The pairwise tree (R149); `n` levels suffice for 2^n elements. -/
def treeSum {α : Type} (add : α → α → α) (zero : α) : Nat → List α → α
  | 0, l => l.headD zero
  | n + 1, l => match l with | [] => zero | [a] => a | l => treeSum add zero n (pairUp add l)

/-- One binary32 addition (R149). -/
def add32 (x y : FP) : FP := (FP.add x y).near fp32

/-- One binary32 multiplication. -/
def mul32 (x y : FP) : FP := (FP.mul x y).near fp32

/-- The tree of binary32 additions. -/
def tree32 (l : List FP) : FP := treeSum add32 (.fin false 0 0) 17 l

/-- The bits of a binary32 value. -/
def bits32 (x : FP) : Nat := (x.near fp32).enc fp32

/-- An INT32 sum and whether it wrapped (R141). -/
abbrev ISum := Int × Bool

/-- Bring an exact integer into INT32. -/
def wrap32 (x : Int) : ISum := (toSigned 32 (ofSigned 32 x), decide (x < -2147483648) || decide (2147483647 < x))

/-- One INT32 addition. -/
def addI32 (x y : ISum) : ISum := let z := wrap32 (x.1 + y.1); (z.1, x.2 || y.2 || z.2)

/-- The tree of INT32 additions. -/
def treeI32 (l : List ISum) : ISum := treeSum addI32 (0, false) 17 l

/-! ### Row states (R151) -/

/-- A row state: n, mean, M2 (R151). -/
structure MeanState where
  n : Nat
  mean : FP
  m2 : FP
  deriving DecidableEq, Repr

/-- The merge steps of R151. -/
def mergeState (a b : MeanState) : MeanState :=
  if a.n = 0 then b
  else
    let nf := (FP.ofInt a.n).near fp32
    let bf := (FP.ofInt b.n).near fp32
    let n2 := a.n + b.n
    let n2f := (FP.ofInt n2).near fp32
    let delta := (FP.sub b.mean a.mean).near fp32
    { n := n2
      mean := add32 a.mean (mul32 delta (FP.div fp32 bf n2f))
      m2 := add32 (add32 a.m2 b.m2) (mul32 (mul32 delta delta) (FP.div fp32 (mul32 nf bf) n2f)) }

/-- The state of one chunk (R151). -/
def chunkState (x : List FP) : MeanState :=
  let mb := FP.div fp32 (tree32 x) (FP.ofInt x.length)
  let d := x.map fun y => (FP.sub y mb).near fp32
  ⟨x.length, mb, tree32 (d.map fun y => mul32 y y)⟩

/-- Split a list into chunks of 32 (R151); `n` chunks suffice. -/
def chunks32 {α : Type} : Nat → List α → List (List α)
  | 0, _ => []
  | n + 1, l => if l.isEmpty then [] else l.take 32 :: chunks32 n (l.drop 32)

/-- The row state that a tile's row holds (R150). -/
def rowState (t : Tile) (r : Nat) : MeanState := ⟨t.at r 0, fp32.dec (t.at r 1), fp32.dec (t.at r 2)⟩

/-- Write a row: its first columns, zeros in the others (R150). -/
def putRow (t : Tile) (r : Nat) (vs : List Nat) : Tile :=
  (List.range 32).foldl (fun t c => t.put r c (vs.getD c 0)) t

/-- Zero the rows from one on (R145, R150). -/
def zeroRows (t : Tile) (r : Nat) : Tile := { t with data := t.data.filter fun e => e.1 < 32 * r }

/-- Write a row state. -/
def putState (t : Tile) (r : Nat) (m : MeanState) : Tile := putRow t r [m.n, bits32 m.mean, bits32 m.m2]

/-- A tile holds a NaN in an FP32 or STATE element (R159). -/
def tileNan (t : Tile) : Bool :=
  (decide (t.tag = 0) && t.data.any fun e => (fp32.dec e.2.toNat).isNan) ||
    (decide (t.tag = 2) && t.data.any fun e => decide (e.1 % 32 = 1 ∨ e.1 % 32 = 2) && (fp32.dec e.2.toNat).isNan)

/-! ### Errors and boundaries -/

/-- Set sticky bits of COL_EVENTS (R159). -/
def colEvent (s : State) (e m : Nat) : State := if m = 0 then s else setSticky s .colEvents .colEventEn m e

/-- The errors that an engine's code words show (R152). -/
def noteEcc (s : State) (e : Nat) (x : EngineEcc) : State :=
  let s1 := if x.corrected = 0 then s else addSat s .colEccCorrected x.corrected e
  let s2 := x.tiles.foldl (fun t g => setTile t e (g % 512) { tileOf t e (g % 512) with poison := true }) s1
  let s3 := if x.srf.isEmpty then s2 else modEngine s2 e fun y => { y with srfBad := y.srfBad ++ x.srf }
  colEvent s3 e (if x.tiles.isEmpty && x.srf.isEmpty then 0 else 4)

/-- The registers of a quantiser stream that are Staged (R179). -/
def streamRegs : List Reg := [.qntCfg, .qntWide01, .qntWide23, .qntWide45, .qntWide67]

/-- An instruction boundary of an engine: Staged stream settings take effect, and requested clears are made (R11, R179). -/
def engineBoundary (s : State) (e : Nat) : State :=
  let s1 := (List.range 16).foldl (fun t n => streamRegs.foldl (fun t r => landR t r e n) t) s
  let clr := getR s1 .qntStatsClr e
  let s2 := ((List.range 16).filter fun n => bit clr n).foldl
    (fun t n => [Reg.qntSat, .qntEsc, .qntNonfinite, .qntCount, .qntSse].foldl (fun t r => setR t r 0 e n) t) s1
  if clr = 0 then s2 else setR s2 .qntStatsClr 0 e

/-- QNT_STATS_CLR (R179): the engine's next instruction boundary. -/
def execQntStatsClr (e : Nat) (s : State) : Out := .next (engineBoundary s e)

/-- The engine has entries and a stream that the device reserves (R155, R184). -/
def reservedEngine (s : State) (e : Nat) : Bool :=
  (s.cloister.nss.any fun n => bit n.engines e) ||
    s.store.colls.any fun c => match c.2 with | some x => decide (x.denseDim ≠ 0) && bit x.engines e | none => false

/-- An engine takes a descriptor: the boundary before it, the errors that it meets, and its work (R328, R329). -/
def engineDesc (s : State) (e id op : Nat) (ecc : EngineEcc) (act : Desc → State → State) : State :=
  withDesc s 1 e id op fun d t => act d (noteEcc (engineBoundary t e) e ecc)

/-- COL_CTRL.ENABLE is 0 (R159). -/
def engineOff (s : State) (e : Nat) : Bool := !bit (getR s .colCtrl e) 0

/-- Ranges of memory that a descriptor reads: the first failure (R331, R550). -/
def rangesFail (s : State) (rs : List (Nat × Nat)) : Option Nat := rs.findSome? fun r => readFail s r.1 r.2

/-- The rows of a range: address and bytes of each. -/
def rowsAt (a pitch n bytes : Nat) : List (Nat × Nat) := (List.range n).map fun r => (a + r * pitch, bytes)

/-- A range breaks the grant of a descriptor's wing. -/
def rangesOut (s : State) (d : Desc) (rs : List (Nat × Nat)) : Bool := rs.any fun r => !descMay s d r.1 r.2

/-- A range to be read has no translation. -/
def rangesNoRead (s : State) (rs : List (Nat × Nat)) : Bool := rs.any fun r => noRead s r.1 r.2

/-- A range to be written has no translation. -/
def rangesNoWrite (s : State) (rs : List (Nat × Nat)) : Bool := rs.any fun r => noWrite s r.1 r.2

/-- Count the reads of ranges at their homes. -/
def touchRanges (s : State) (d : Desc) (rs : List (Nat × Nat)) : State :=
  rs.foldl (fun t r => touchRead t (some d.wing) r.1 r.2) s

/-- Finish an instruction that wrote tiles: events for what they hold now (R141, R159). -/
def endTiles (s : State) (e id : Nat) (gs : List Nat) (wrapped : Bool) : State :=
  let nan := gs.any fun g => tileNan (tileOf s e g)
  endDesc (colEvent s e (b2n wrapped + 2 * b2n nan)) 1 e id stOk 0

end Sys2Proof.Machine
end

