-- ==== Sys2Proof/Machine/Colonnade.lean ====
section
/-! DEFINITION. The engines' instructions MMA, TILE_ZERO, TILE_LOAD, TILE_STORE, TILE_MOVE, REDUCE and SRF_LOAD (R139 to R153,
R340 to R343). -/

namespace Sys2Proof.Machine

/-- One element of the product: the tree over K of the products of row r of A and column j of B (R141, R149). -/
def dot32 (as bs : List FP) : FP := tree32 (List.zipWith mul32 as bs)

/-- The integer product of a row and a column (R141). -/
def dotI32 (as bs : List Int) : ISum := treeI32 (List.zipWith (fun a b => (a * b, false)) as bs)

/-- The operands of an MMA, as its descriptor gives them (R340). -/
structure MmaOp where
  a : Nat
  b : Nat
  aPitch : Nat
  bPitch : Nat
  fa : Nat
  fb : Nat
  rows : Nat
  klen : Nat
  ncol : Nat
  init : Bool
  g : Nat
  srf : Nat
  deriving DecidableEq, Repr

/-- Read the body of an MMA (R340). -/
def readMma (d : Desc) : MmaOp :=
  ⟨d.num 16 8, d.num 24 8, d.num 32 4, d.num 36 4, bits (d.num 40 1) 0 4, bits (d.num 40 1) 4 4, d.num 41 1, d.num 42 2, d.num 44 1,
    bit (d.num 45 1) 0, bits (d.num 46 2) 0 9, bits (d.num 48 2) 0 13⟩

/-- The tiles that an MMA writes (R145). -/
def MmaOp.tiles (m : MmaOp) : List Nat := (List.range (m.ncol / 32)).map fun i => m.g + i

/-- One of the operands is Bell-4. -/
def MmaOp.bell (m : MmaOp) : Bool := m.fa = 4 || m.fb = 4

/-- The memory that an MMA reads. -/
def MmaOp.reads (m : MmaOp) : List (Nat × Nat) :=
  rowsAt m.a m.aPitch m.rows (rowBytes m.fa m.klen) ++ rowsAt m.b m.bPitch m.klen (rowBytes m.fb m.ncol)

/-- The scale entry of channel k for an operand, if it is used. -/
def MmaOp.scale (m : MmaOp) (s : State) (e k : Nat) : Nat := if m.bell then srfAt s e (m.srf + k) else 0

/-- The accumulated element (r, j) of a floating-point MMA (R149). -/
def mmaFloat (s : State) (e : Nat) (m : MmaOp) (arow : List Byte) (brows : List (List Byte)) (j : Nat) (acc : FP) : FP :=
  let as := (List.range m.klen).map fun k => operandValue m.fa (rowElem m.fa arow k) (m.scale s e k)
  let bs := (List.range m.klen).map fun k => operandValue m.fb (rowElem m.fb (brows.getD k []) j) (m.scale s e k)
  add32 acc (dot32 as bs)

/-- The accumulated element of an integer MMA (R141). -/
def mmaInt (m : MmaOp) (arow : List Byte) (brows : List (List Byte)) (j : Nat) (acc : Int) : ISum :=
  let as := (List.range m.klen).map fun k => toSigned 8 (rowElem 0 arow k)
  let bs := (List.range m.klen).map fun k => toSigned 8 (rowElem 0 (brows.getD k []) j)
  addI32 (acc, false) (dotI32 as bs)

/-- The tile i of an MMA's destination after it, and whether an integer sum wrapped. -/
def mmaTile (s : State) (e : Nat) (m : MmaOp) (i : Nat) : Tile × Bool :=
  let old := tileOf s e (m.g + i)
  let start : Tile := if m.init then zeroTile else old
  let brows := (List.range m.klen).map fun k => memRead s (m.b + k * m.bPitch) (rowBytes m.fb m.ncol)
  (List.range m.rows).foldl (fun (acc : Tile × Bool) r =>
    let arow := memRead s (m.a + r * m.aPitch) (rowBytes m.fa m.klen)
    (List.range 32).foldl (fun (acc : Tile × Bool) c =>
      if m.fa = 0 then
        let v := mmaInt m arow brows (32 * i + c) (toSigned 32 (acc.1.at r c))
        (acc.1.put r c (ofSigned 32 v.1), acc.2 || v.2)
      else
        let v := mmaFloat s e m arow brows (32 * i + c) (fp32.dec (acc.1.at r c))
        (acc.1.put r c (bits32 v), acc.2)) acc) ({ start with tag := if m.fa = 0 then 1 else 0 }, false)

/-- The effect of an accepted MMA. -/
def runMma (s : State) (e : Nat) (d : Desc) (m : MmaOp) : State :=
  let bad := (!m.init && m.tiles.any fun g => (tileOf s e g).poison) ||
    (m.bell && (engine s e).srfBad.any fun i => decide (m.srf ≤ i) && decide (i < m.srf + m.klen))
  match (if bad then some stEcc else rangesFail s m.reads) with
  | some st => endDesc s 1 e d.id st 0
  | none =>
    let s1 := touchRanges s d m.reads
    let out := (List.range (m.ncol / 32)).map fun i => (m.g + i, mmaTile s1 e m i)
    let s2 := out.foldl (fun t o => setTile t e o.1 { o.2.1 with poison := false }) s1
    endTiles (addR s2 .colRowSteps m.rows e) e d.id m.tiles (out.any fun o => o.2.2)

/-- The checks of an MMA (R139, R145, R146, R331, R340). -/
def mmaFail (s1 : State) (e : Nat) (d : Desc) : Option Nat :=
  let m := readMma d
  let k := (pairK m.fa m.fb).getD 0
  descFail s1 1 e d
    { named := [(16, 34)]
      busy := [(engineOff s1 e, stUnitBusy)]
      reserved := [(decide (1 < d.num 45 1) || decide (512 ≤ d.num 46 2) || decide (8192 ≤ d.num 48 2), stReservedSet)]
      fields := [(k = 0 || m.rows = 0 || decide (32 < m.rows) || m.klen = 0 || decide (k < m.klen) || !([32, 64, 96, 128].contains m.ncol) ||
          decide (512 < m.g + m.ncol / 32), stBadField),
        (m.bell && decide (8192 < m.srf + m.klen), stBadField),
        (!m.init && m.tiles.any fun g => (tileOf s1 e g).tag ≠ (if m.fa = 0 then 1 else 0), stBadField)]
      align := [(misaligned m.a || misaligned m.b || misaligned m.aPitch || misaligned m.bPitch, stBadAlign)]
      window := [(rangesOut s1 d m.reads, stWindow)]
      trans := [(rangesNoRead s1 m.reads, stNoTranslation)] }

/-- MMA (R139 to R146, R149, R340). -/
def execMma (e id : Nat) (ecc : EngineEcc) (s : State) : Out :=
  .next <| engineDesc s e id 0x20 ecc fun d s1 =>
    let m := readMma d
    match mmaFail s1 e d with
    | some st => refuseDesc s1 1 e d.id st
    | none => runMma s1 e d m

/-- The checks of a TILE_ZERO. -/
def tileZeroFail (s1 : State) (e : Nat) (d : Desc) : Option Nat :=
  let g := bits (d.num 16 2) 0 9
  let n := d.num 18 2
  let tag := d.num 20 1
  descFail s1 1 e d
    { named := [(16, 5)]
      busy := [(engineOff s1 e, stUnitBusy)]
      reserved := [(decide (512 ≤ d.num 16 2), stReservedSet)]
      fields := [(n = 0 || decide (512 < n) || decide (2 < tag) || decide (512 < g + n), stBadField)] }

/-- TILE_ZERO (R341): n tiles of zeros with a tag. -/
def execTileZero (e id : Nat) (ecc : EngineEcc) (s : State) : Out :=
  .next <| engineDesc s e id 0x21 ecc fun d s1 =>
    let g := bits (d.num 16 2) 0 9
    let n := d.num 18 2
    let tag := d.num 20 1
    match tileZeroFail s1 e d with
    | some st => refuseDesc s1 1 e d.id st
    | none =>
      let s2 := (List.range n).foldl (fun t i => setTile t e (g + i) { zeroTile with tag := tag }) s1
      endDesc s2 1 e d.id stOk 0

/-- The elements of 4 KiB of memory as a tile (R142). -/
def tileFrom (tag : Nat) (bs : List Byte) : Tile :=
  (List.range 1024).foldl (fun t i => t.put (i / 32) (i % 32) (numAt bs (4 * i) 4)) { zeroTile with tag := tag }

/-- The 4 KiB of a tile (R142). -/
def tileBytes (t : Tile) : List Byte := ((List.range 1024).map fun i => bytesOf 4 (t.at (i / 32) (i % 32))).flatten

/-- The checks of a TILE_LOAD. -/
def tileLoadFail (s1 : State) (e : Nat) (d : Desc) : Option Nat :=
  let a := d.num 16 8
  let g := bits (d.num 24 2) 0 9
  let n := d.num 26 2
  let tag := d.num 28 1
  descFail s1 1 e d
    { named := [(16, 13)]
      busy := [(engineOff s1 e, stUnitBusy)]
      reserved := [(decide (512 ≤ d.num 24 2), stReservedSet)]
      fields := [(n = 0 || decide (512 < n) || decide (2 < tag) || decide (512 < g + n), stBadField)]
      align := [(misaligned a, stBadAlign)]
      window := [(!descMay s1 d a (4096 * n), stWindow)]
      trans := [(noRead s1 a (4096 * n), stNoTranslation)] }

/-- TILE_LOAD (R341): n tiles from memory with a tag. -/
def execTileLoad (e id : Nat) (ecc : EngineEcc) (s : State) : Out :=
  .next <| engineDesc s e id 0x22 ecc fun d s1 =>
    let a := d.num 16 8
    let g := bits (d.num 24 2) 0 9
    let n := d.num 26 2
    let tag := d.num 28 1
    match tileLoadFail s1 e d with
    | some st => refuseDesc s1 1 e d.id st
    | none =>
      match readFail s1 a (4096 * n) with
      | some st => endDesc s1 1 e d.id st 0
      | none =>
        let s2 := touchRead s1 (some d.wing) a (4096 * n)
        let s3 := (List.range n).foldl (fun t i => setTile t e (g + i) (tileFrom tag (memRead s2 (a + 4096 * i) 4096))) s2
        endTiles s3 e d.id ((List.range n).map fun i => g + i) false

/-- The checks of a TILE_STORE. -/
def tileStoreFail (s1 : State) (e : Nat) (d : Desc) : Option Nat :=
  let a := d.num 16 8
  let g := bits (d.num 24 2) 0 9
  let n := d.num 26 2
  descFail s1 1 e d
    { named := [(16, 12)]
      busy := [(engineOff s1 e, stUnitBusy)]
      reserved := [(decide (512 ≤ d.num 24 2), stReservedSet)]
      fields := [(n = 0 || decide (512 < n) || decide (512 < g + n), stBadField)]
      align := [(misaligned a, stBadAlign)]
      window := [(!descMay s1 d a (4096 * n), stWindow)]
      trans := [(noWrite s1 a (4096 * n), stNoTranslation)] }

/-- TILE_STORE (R341, R153): n tiles to memory, unchanged and without tags. -/
def execTileStore (e id : Nat) (ecc : EngineEcc) (s : State) : Out :=
  .next <| engineDesc s e id 0x23 ecc fun d s1 =>
    let a := d.num 16 8
    let g := bits (d.num 24 2) 0 9
    let n := d.num 26 2
    match tileStoreFail s1 e d with
    | some st => refuseDesc s1 1 e d.id st
    | none =>
      if (List.range n).any fun i => (tileOf s1 e (g + i)).poison then endDesc s1 1 e d.id stEcc 0
      else
        let (s2, st) := runWrites s1 d.wing ((List.range n).map fun i => (a + 4096 * i, tileBytes (tileOf s1 e (g + i))))
        endDesc s2 1 e d.id st 0

/-- The checks of a TILE_MOVE. -/
def tileMoveFail (s1 : State) (e : Nat) (d : Desc) : Option Nat :=
  let src := bits (d.num 16 2) 0 9
  let dst := bits (d.num 18 2) 0 9
  let n := d.num 20 2
  descFail s1 1 e d
    { named := [(16, 6)]
      busy := [(engineOff s1 e, stUnitBusy)]
      reserved := [(decide (512 ≤ d.num 16 2) || decide (512 ≤ d.num 18 2), stReservedSet)]
      fields := [(n = 0 || decide (512 < n) || decide (512 < src + n) || decide (512 < dst + n), stBadField)] }

/-- TILE_MOVE (R341): every source tile is read before any destination tile is written. -/
def execTileMove (e id : Nat) (ecc : EngineEcc) (s : State) : Out :=
  .next <| engineDesc s e id 0x24 ecc fun d s1 =>
    let src := bits (d.num 16 2) 0 9
    let dst := bits (d.num 18 2) 0 9
    let n := d.num 20 2
    match tileMoveFail s1 e d with
    | some st => refuseDesc s1 1 e d.id st
    | none =>
      if (List.range n).any fun i => (tileOf s1 e (src + i)).poison then endDesc s1 1 e d.id stEcc 0
      else
        let s2 := (List.range n).foldl (fun t i => setTile t e (dst + i) (tileOf s1 e (src + i))) s1
        endTiles s2 e d.id ((List.range n).map fun i => dst + i) false

/-! ### REDUCE (R150, R151, R342) -/

/-- The operands of a REDUCE. -/
structure ReduceOp where
  src : Nat
  pitch : Nat
  len : Nat
  srcG : Nat
  dst : Nat
  op : Nat
  gallery : Bool
  init : Bool
  fmt : Nat
  rows : Nat
  deriving DecidableEq, Repr

/-- Read the body of a REDUCE (R342). -/
def readReduce (d : Desc) : ReduceOp :=
  let m := d.num 36 1
  ⟨d.num 16 8, d.num 24 4, d.num 28 4, bits (d.num 32 2) 0 9, bits (d.num 34 2) 0 9, bits m 0 2, bit m 2, bit m 3, d.num 37 1, d.num 38 1⟩

/-- The source tiles of a Gallery source (R150). -/
def ReduceOp.srcTiles (r : ReduceOp) : List Nat := (List.range ((r.len + 31) / 32)).map fun i => r.srcG + i

/-- The source is INT8 or INT32. -/
def ReduceOp.integer (r : ReduceOp) (s : State) (e : Nat) : Bool :=
  if r.gallery then (tileOf s e r.srcG).tag = 1 else r.fmt = 0

/-- The tag that a REDUCE writes (R150). -/
def ReduceOp.tag (r : ReduceOp) (s : State) (e : Nat) : Nat := if r.op = 2 then 2 else if r.integer s e then 1 else 0

/-- The raw elements of a source row. -/
def ReduceOp.row (r : ReduceOp) (s : State) (e t : Nat) : List Nat :=
  if r.gallery then (List.range r.len).map fun i => (tileOf s e (r.srcG + i / 32)).at t (i % 32)
  else
    let row := memRead s (r.src + t * r.pitch) (rowBytes r.fmt r.len)
    (List.range r.len).map fun i => rowElem r.fmt row i

/-- A source element as an integer. -/
def ReduceOp.int (r : ReduceOp) (raw : Nat) : Int := if r.gallery then toSigned 32 raw else toSigned 8 raw

/-- A source element as binary32 (R151). -/
def ReduceOp.real (r : ReduceOp) (s : State) (e raw : Nat) : FP :=
  if r.integer s e then (FP.ofInt (r.int raw)).near fp32 else if r.gallery then fp32.dec raw else elemValue r.fmt raw

/-- One row reduced onto the destination (R150, R151), with whether an integer sum wrapped. -/
def reduceRow (s : State) (e : Nat) (r : ReduceOp) (t : Tile) (k : Nat) : Tile × Bool :=
  let raw := r.row s e k
  let n := (r.len + 31) / 32
  if r.op = 2 then
    let st := (chunks32 n (raw.map (r.real s e))).foldl (fun a c => mergeState a (chunkState c)) (rowState t k)
    (putState t k st, false)
  else if r.integer s e then
    let sq := fun x : Int => if r.op = 1 then wrap32 (x * x) else (x, false)
    let v := (chunks32 n (raw.map r.int)).foldl (fun a c => addI32 a (treeI32 (c.map sq))) (toSigned 32 (t.at k 0), false)
    (putRow t k [ofSigned 32 v.1], v.2)
  else
    let sq := fun x : FP => if r.op = 1 then mul32 x x else x
    let v := (chunks32 n (raw.map (r.real s e))).foldl (fun a c => add32 a (tree32 (c.map sq))) (fp32.dec (t.at k 0))
    (putRow t k [bits32 v], false)

/-- The memory that a REDUCE reads. -/
def ReduceOp.reads (r : ReduceOp) : List (Nat × Nat) := if r.gallery then [] else rowsAt r.src r.pitch r.rows (rowBytes r.fmt r.len)

/-- The effect of an accepted REDUCE. -/
def runReduce (s : State) (e : Nat) (d : Desc) (r : ReduceOp) : State :=
  let old := tileOf s e r.dst
  let bad := (r.gallery && r.srcTiles.any fun g => (tileOf s e g).poison) || (!r.init && old.poison)
  match (if bad then some stEcc else rangesFail s r.reads) with
  | some st => endDesc s 1 e d.id st 0
  | none =>
    let s1 := touchRanges s d r.reads
    let start : Tile := { (if r.init then zeroTile else old) with tag := r.tag s e }
    let out := (List.range r.rows).foldl (fun (acc : Tile × Bool) k =>
      let x := reduceRow s1 e r acc.1 k
      (x.1, acc.2 || x.2)) (start, false)
    endTiles (setTile s1 e r.dst { out.1 with poison := false }) e d.id [r.dst] out.2

/-- The checks of a REDUCE (R150, R331, R342). -/
def reduceFail (s1 : State) (e : Nat) (d : Desc) : Option Nat :=
  let r := readReduce d
  let tags := r.srcTiles.map fun g => (tileOf s1 e g).tag
  descFail s1 1 e d
    { named := [(16, 23)]
      busy := [(engineOff s1 e, stUnitBusy)]
      reserved := [(decide (16 ≤ d.num 36 1) || decide (512 ≤ d.num 32 2) || decide (512 ≤ d.num 34 2) ||
        (r.gallery && (decide (r.src ≠ 0) || decide (r.fmt ≠ 0))), stReservedSet)]
      fields := [(r.len = 0 || decide (65536 < r.len) || r.op = 3 || r.rows = 0 || decide (32 < r.rows), stBadField),
        (!r.gallery && !([0, 1, 2, 3, 5].contains r.fmt), stBadField),
        (r.gallery && (decide (512 < r.srcG + (r.len + 31) / 32) || tags.any (fun t => t = 2) || tags.any fun t => t ≠ tags.headD 0), stBadField),
        (!r.init && decide ((tileOf s1 e r.dst).tag ≠ r.tag s1 e), stBadField),
        (r.op = 2 && !r.init && (List.range r.rows).any fun k => decide (2 ^ 32 ≤ (rowState (tileOf s1 e r.dst) k).n + r.len), stBadField)]
      align := [(!r.gallery && (misaligned r.src || misaligned r.pitch), stBadAlign)]
      window := [(rangesOut s1 d r.reads, stWindow)]
      trans := [(rangesNoRead s1 r.reads, stNoTranslation)] }

/-- REDUCE (R150, R151, R342). -/
def execReduce (e id : Nat) (ecc : EngineEcc) (s : State) : Out :=
  .next <| engineDesc s e id 0x25 ecc fun d s1 =>
    let r := readReduce d
    match reduceFail s1 e d with
    | some st => refuseDesc s1 1 e d.id st
    | none => runReduce s1 e d r

/-- The checks of an SRF_LOAD (R155, R331, R343). -/
def srfLoadFail (s1 : State) (e : Nat) (d : Desc) : Option Nat :=
  let a := d.num 16 8
  let base := bits (d.num 24 2) 0 13
  let n := bits (d.num 26 2) 0 14
  descFail s1 1 e d
    { named := [(16, 16)]
      busy := [(engineOff s1 e, stUnitBusy),
        (decide (d.queue ≠ 3) && reservedEngine s1 e && decide (n ≠ 0) && decide (4096 < base + n), stUnitBusy)]
      reserved := [(decide (8192 ≤ d.num 24 2) || decide (16384 ≤ d.num 26 2), stReservedSet)]
      fields := [(n = 0 || decide (8192 < base + n), stBadField)]
      align := [(misaligned a, stBadAlign)]
      window := [(!descMay s1 d a (2 * n), stWindow)]
      trans := [(noRead s1 a (2 * n), stNoTranslation)] }

/-- SRF_LOAD (R147, R343). -/
def execSrfLoad (e id : Nat) (ecc : EngineEcc) (s : State) : Out :=
  .next <| engineDesc s e id 0x26 ecc fun d s1 =>
    let a := d.num 16 8
    let base := bits (d.num 24 2) 0 13
    let n := bits (d.num 26 2) 0 14
    match srfLoadFail s1 e d with
    | some st => refuseDesc s1 1 e d.id st
    | none =>
      match readFail s1 a (2 * n) with
      | some st => endDesc s1 1 e d.id st 0
      | none =>
        let s2 := touchRead s1 (some d.wing) a (2 * n)
        let bs := memRead s2 a (2 * n)
        let s3 := modEngine s2 e fun x =>
          { x with
            srf := (List.range n).foldl (fun t i => tset (fun _ => 0) t (base + i) (BitVec.ofNat 16 (numAt bs (2 * i) 2))) x.srf
            srfBad := x.srfBad.filter fun i => decide (i < base) || decide (base + n ≤ i) }
        endDesc (setR s3 .colSrfVer (d.num 28 4) e) 1 e d.id stOk 0

end Sys2Proof.Machine
end

