-- ==== Sys2Proof/Machine/Mezz.lean ====
section
/-! DEFINITION. The commands of the Mezzanine's protocol (R231 to R257). -/

namespace Sys2Proof.Machine

/-- An agent that exists: a present Usher, or the Porter (R230). -/
def agentPresent (s : State) (a : Nat) : Bool := a == 256 || present s .usher a

/-- An agent has a request of its own under way on a line. -/
def agentBusy (s : State) (a l : Nat) : Bool :=
  let r := lineRec s l
  (match r.txn with | some t => t.req.agent == some a | none => false) || r.waiting.any (fun q => q.agent == some a) ||
    (wbLine s a l).isSome

/-- An agent may cache a line (R229). -/
def cacheable (s : State) (l : Nat) : Bool := !isStream l && !hostBias s l

/-- A caching agent's request reaches the home. -/
def agentReq (s : State) (k : ReqKind) (a l : Nat) (err : MemErr) : State :=
  arriveReq s (plainReq k (.agent a) l (agentWing s a) err s.now)

/-- RD_S (R234): an agent that does not hold the line reads to share. -/
def execRdS (agent line : Nat) (err : MemErr) (s : State) : Out :=
  if agentPresent s agent && cacheable s line && !agentBusy s agent line && (cacheLine s agent line).isNone then
    .next (agentReq s .rdS agent line err)
  else .next s

/-- RD_U (R234): an agent that does not hold the line reads for ownership. -/
def execRdU (agent line : Nat) (err : MemErr) (s : State) : Out :=
  if agentPresent s agent && cacheable s line && !agentBusy s agent line && (cacheLine s agent line).isNone then
    .next (agentReq s .rdU agent line err)
  else .next s

/-- UPGR (R234): an agent in S or O asks for ownership. -/
def execUpgr (agent line : Nat) (err : MemErr) (s : State) : Out :=
  match cacheLine s agent line with
  | some c => if (c.st == .s || c.st == .o) && !agentBusy s agent line then .next (agentReq s .upgr agent line err) else .next s
  | none => .next s

/-- WB (R234, R239): an agent in M or O evicts the line with its data. -/
def execWb (agent line : Nat) (s : State) : Out :=
  match cacheLine s agent line with
  | some c => if (c.st == .m || c.st == .o) && !agentBusy s agent line then .next (evictLine s agent line) else .next s
  | none => .next s

/-- EVC (R234): an agent in E or S announces a clean eviction. -/
def execEvc (agent line : Nat) (s : State) : Out :=
  match cacheLine s agent line with
  | some c => if (c.st == .e || c.st == .s) && !agentBusy s agent line then .next (evictLine s agent line) else .next s
  | none => .next s

/-- RD_NC (R234) of a cacheless agent that serves a command of a wing. -/
def execRdNc (line wing : Nat) (err : MemErr) (s : State) : Out :=
  .next (arriveReq s (plainReq .rdNc .unit line (some wing) err s.now))

/-- WR_FULL (R241) of a cacheless agent that serves a command of a wing. -/
def execWrFull (line wing : Nat) (data : List Byte) (s : State) : Out :=
  .next (arriveReq s { plainReq .wrFull .unit line (some wing) MemErr.none s.now with data := (data ++ bytesOf 64 0).take 64 })

/-- WR_MERGE (R234): the request of a closed write-combining entry reaches the home. -/
def execWrMerge (line : Nat) (err : MemErr) (s : State) : Out :=
  match s.mzn.msgs.find? fun m => match m with | .req q => q.line == line && q.kind == .wrMerge | _ => false with
  | some (.req q) => .next (arriveReq (modMzn s fun z => { z with msgs := z.msgs.erase (.req q) }) { q with err := err, since := s.now })
  | _ => .next s

/-- ATOM_H (R243): an Usher's atomic on a STREAM or host-bias line, which its home executes. -/
def execAtomH (u line off op size : Nat) (arg cmp : W64) (err : MemErr) (s : State) : Out :=
  if present s .usher u && !cacheable s line then
    .next (arriveReq s
      { plainReq .atomH (.agent u) line (agentWing s u) err s.now with atom := ⟨op, size, arg.toNat, cmp.toNat⟩, off := off % 64 })
  else .next s

/-- A snoop of one kind reaches a holder, which answers it; `bad` says that the cache word is uncorrectable (R256). -/
def snoopArrives (s : State) (k : SnpKind) (agent line : Nat) (bad : Bool) : State :=
  receiveFirst s (fun m => m == .snp agent line k) bad

/-- SNP_PULL (R234, R237, R239): the holder sends its data and keeps a copy. -/
def execSnpPull (agent line : Nat) (bad : Bool) (s : State) : Out := .next (snoopArrives s .pull agent line bad)

/-- SNP_PEEK (R234, R239): the holder sends its data, its state unchanged. -/
def execSnpPeek (agent line : Nat) (bad : Bool) (s : State) : Out := .next (snoopArrives s .peek agent line bad)

/-- SNP_INV (R234, R239): the holder invalidates its copy and answers SRSP. -/
def execSnpInv (agent line : Nat) (s : State) : Out := .next (snoopArrives s .inv agent line false)

/-- SNP_INVD (R234, R239): the holder sends its data and invalidates its copy. -/
def execSnpInvd (agent line : Nat) (bad : Bool) (s : State) : Out := .next (snoopArrives s .invd agent line bad)

/-- FLUSH_SET (R257): after an uncorrectable filter word of a slice the agent evicts every line of one L1 set. -/
def execFlushSet (agent set slice : Nat) (s : State) : Out :=
  if agentPresent s agent && present s .slice slice then
    let s1 := setSticky s .mznEvents .mznEventEn 4 slice
    .next ((agentSet s1 agent set).foldl (fun t e => evictLine t agent e.1) s1)
  else .next s

/-- SRSP (R231): the home receives a snoop completion without data. -/
def execSrsp (agent line : Nat) (s : State) : Out := .next (receiveFirst s (fun m => m == .srsp agent line) false)

/-- SDAT (R237): the home receives snoop data into the line buffer and goes on. -/
def execSdat (agent line : Nat) (s : State) : Out :=
  .next (receiveFirst s (fun m => match m with | .sdat a l _ _ _ => a == agent && l == line | _ => false) false)

/-- GDAT (R235): a requester receives data, with its granted state, and sends ACK. -/
def execGdat (line : Nat) (s : State) : Out :=
  .next (receiveFirst s (fun m => match m with | .gdat _ l _ _ _ => l == line | _ => false) false)

/-- CMP (R235): a requester receives a completion without data. -/
def execCmp (agent line : Nat) (s : State) : Out :=
  .next (receiveFirst s (fun m => match m with | .cmp dest l _ => dest == .agent agent && l == line | _ => false) false)

/-- WCMP (R274): a write completion arrives. -/
def execWcmp (line : Nat) (s : State) : Out :=
  .next (receiveFirst s (fun m => match m with | .wcmp _ l _ => l == line | _ => false) false)

/-- ACK (R235): the home releases the line. -/
def execAck (agent line : Nat) (s : State) : Out := .next (receiveFirst s (fun m => m == .ack agent line) false)

/-! ### Peers (R247 to R249) -/

/-- A peer's request finds its line busy or reserved for another: NACK n, with a reservation at the 8th (R248). -/
def nackPeer (s : State) (p : Nat) (v : Served) (k : Nat) (l : Nat) : State :=
  let n := (match tget (fun _ => none) s.mzn.credits k with | some c => c.nacks | none => 0) + 1
  let s1 := setCredit (addR s .mznNacks 1 v.slice) k (some ⟨p, v.rtag, l, n⟩)
  let s2 :=
    if n = 8 then
      modRec (addR s1 .mznReservations 1 v.slice) l fun r =>
        { r with reserved := r.reserved ++ [k], freeSince := if r.reserved.isEmpty then s.now else r.freeSince }
    else s1
  let s3 := modPort s2 p fun x => { x with served := x.served.filter fun y => y.rtag != v.rtag }
  queueTx s3 p 6 (responseBytes v.op 1 0 n (if n = 8 then 1 else 0) (k % 1024) v.rtag none)

/-- A peer's request meets its line: it is served, held in its reservation, or refused with NACK (R248, R249). -/
def peerLine (s : State) (p : Nat) (v : Served) (k : Nat) (q : HomeReq) : State :=
  let r := lineRec s q.line
  let mine := r.reserved.contains k
  if mine then
    pump (modRec s q.line fun x => { x with held := x.held ++ [(k, q)] }) q.line
  else if r.txn.isSome || !r.reserved.isEmpty || !r.waiting.isEmpty || !r.hostWaiting.isEmpty then nackPeer s p v k q.line
  else pump (startReq s q) q.line

/-- The read of a query window: one line of a record's rerank vector (R428). -/
def windowRead (s : State) (p : Nat) (v : Served) (c h : Nat) (err : LineErr) : State :=
  match collOf s c with
  | none => peerDone s p v.rtag [] stWindow
  | some x =>
    let slot := v.addr / max 1 x.vecBytes
    let off := v.addr % max 1 x.vecBytes
    if halted s h then peerDone s p v.rtag [] stUnitFault
    else
      let (s1, bad) := readLine s h (.vec c slot (off / 64)) 2 err
      if bad then peerDone s1 p v.rtag [] stEcc
      else
        let vec := (match collOf s1 c with | some y => (y.slot h slot).vec | none => []) ++ bytesOf x.vecBytes 0
        peerDone s1 p v.rtag ((vec.drop (off / 64 * 64)).take 64) 0

/-- The home takes a peer's request of one kind (R247). -/
def peerServe (s : State) (op p rtag : Nat) (err : MemErr) : State :=
  match servedOf s p rtag with
  | none => s
  | some v =>
    if v.op ≠ op then s
    else
      match v.vec, v.credit with
      | some (c, h), _ => windowRead s p v c h err.hall
      | none, none => s
      | none, some k =>
        let q := plainReq .rdNc (.peer p rtag) (v.addr / 64) none err s.now
        match op with
        | 1 => peerLine s p v k q
        | 2 =>
          if v.size = 64 then peerLine s p v k { q with kind := .wrFull, data := v.data }
          else
            let r := lineRec s q.line
            let part := bytesOf (v.addr % 64) 0 ++ v.data.take v.size
            if r.txn.isSome || !r.reserved.isEmpty || !r.waiting.isEmpty then
              peerLine s p v k { q with kind := .wrMerge, mask := spanMask (v.addr % 64) v.size, data := part }
            else wcbWrite s q.line (spanMask (v.addr % 64) v.size) part (.peer p rtag)
        | _ =>
          peerLine s p v k { q with
            kind := .atomH, off := v.addr % 64
            atom := ⟨match v.aop with | 0 => 0 | 1 => 9 | _ => 8, 8, numAt v.data 0 8, numAt v.data 8 8⟩ }

/-- RRD (R247): served as RD_NC, or refused with NACK. -/
def execRrd (p rtag : Nat) (err : MemErr) (s : State) : Out := .next (peerServe s 1 p rtag err)

/-- RWR (R247): a full line as WR_FULL, a partial one through the write-combining buffer, or refused with NACK. -/
def execRwr (p rtag : Nat) (err : MemErr) (s : State) : Out := .next (peerServe s 2 p rtag err)

/-- RATOM (R243, R247): executed at the home, or refused with NACK. -/
def execRatom (p rtag : Nat) (err : MemErr) (s : State) : Out := .next (peerServe s 3 p rtag err)

/-- RESERVATION_LAPSE (R249): the line is free and the retry has not arrived within MZN_RES_HOLD_NS. -/
def execReservationLapse (line : Nat) (s : State) : Out :=
  let r := lineRec s line
  match r.reserved with
  | [] => .next s
  | k :: ks =>
    if r.txn.isSome || (r.held.any fun e => e.1 == k) then .next s
    else
      let sl := homeSlice s line
      let s0 := { s with now := max s.now (r.freeSince + getR s .mznResHoldNs) }
      let s1 := setSticky (addR s0 .mznResLapsed 1 sl) .mznEvents .mznEventEn 8 sl
      let s2 := match tget (fun _ => none) s1.mzn.credits k with | some c => setCredit s1 k (some { c with nacks := 0 }) | none => s1
      .next (pump (modRec s2 line fun x => { x with reserved := ks, freeSince := s0.now }) line)

/-- A peer is reset or declared lost: its credits, counts and reservations are freed at once (R249). -/
def freePeer (s : State) (p : Nat) : State :=
  let mine := s.mzn.credits.filterMap fun e => match e.2 with | some c => if c.port = p then some e.1 else none | none => none
  let s1 := modMzn s fun m =>
    { m with
      credits := tclear (fun k => mine.contains k) m.credits
      recs := m.recs.foldl (fun t e =>
        tset (fun _ => noRec) t e.1
          { e.2 with reserved := e.2.reserved.filter fun k => !mine.contains k, held := e.2.held.filter fun x => !mine.contains x.1 }) [] }
  let s2 := modPort s1 p fun x => { x with served := [] }
  s.mzn.recs.foldl (fun t e => pump t e.1) s2

/-! ### The host (R250 to R253) -/

/-- A host snoop of a line of host memory that the device caches (R251). -/
def hostSnoop (s : State) (k : ReqKind) (line : Nat) : State :=
  if hostLine line then arriveReq s (plainReq k .host line none MemErr.none s.now) else s

/-- SNPDATA (R251): served with SNP_PULL. -/
def execSnpdata (line : Nat) (s : State) : Out := .next (hostSnoop s .snpData line)

/-- SNPINV (R251): served with SNP_INVD. -/
def execSnpinv (line : Nat) (s : State) : Out := .next (hostSnoop s .snpInv line)

/-- SNPCUR (R251): served with SNP_PEEK. -/
def execSnpcur (line : Nat) (s : State) : Out := .next (hostSnoop s .snpCur line)

/-- HOST_D2H_RESPONSE (R250): the host answers the request of a line's home, with its data where it holds newer. -/
def execHostD2hResponse (line : Nat) (data : Option (List Byte)) (s : State) : Out :=
  .next (hostAnswer s line (data.map fun d => (d ++ bytesOf 64 0).take 64))

/-- A device address that host accesses reach (R357): in a present hall, outside its staging share. -/
def bar2Reaches (s : State) (a : Nat) : Bool :=
  decide (a < 2 ^ 40) && present s .hall (addrHall a) && decide (addrOff a < grantEnd s)

/-- A host access's answer. -/
def hostReply (s : State) (d : List Byte) (st : Nat) : State := modMzn s fun m => { m with answer := d, answerStatus := st }

/-- CXL_MEM_READ (R253, R357): on a device-bias page served as RD_NC; on a host-bias page from the memory copy; outside the
halls, zeros. -/
def execCxlMemRead (addr : Nat) (err : MemErr) (s : State) : Out :=
  if !bar2Reaches s addr then .next (hostReply s (bytesOf 64 0) 0)
  else
    let q := plainReq .rdNc .host (addr / 64) none err s.now
    if hostBias s (addr / 64) then
      let (s1, d, st) := readMem s q 2
      .next (hostReply s1 d st)
    else .next (arriveReq s q)

/-- CXL_MEM_WRITE (R253, R357): on a device-bias page a full line is a WR_FULL and any other goes through the write-combining
buffer; on a host-bias page the memory copy is written. -/
def execCxlMemWrite (addr mask : Nat) (data : List Byte) (s : State) : Out :=
  let l := addr / 64
  let d := (data ++ bytesOf 64 0).take 64
  if !bar2Reaches s addr then .next (addR s .vstBar2Discards 1)
  else if hostBias s l then
    let (s1, old, st) := if mask = 2 ^ 64 - 1 then (s, d, 0) else readMem s (plainReq .wrMerge .host l none MemErr.none s.now) 4
    .next (if st = 0 then (writeMem s1 none l (mergeMask mask old d)).1 else s1)
  else if mask = 2 ^ 64 - 1 then .next (arriveReq s { plainReq .wrFull .host l none MemErr.none s.now with data := d })
  else .next (wcbWrite s l mask d .host)

/-- The lines of a page that the Mezzanine holds or that an agent caches. -/
def pageLines (s : State) (page : Nat) : List Nat :=
  ((s.mzn.recs.map Prod.fst).filter fun l => l / 64 == page)

/-- Take every cached copy of a line into the memory copy and on to hall memory (R252). -/
def flushLine (s : State) (l : Nat) : State :=
  let s1 := serveLine s (plainReq .snpInv .unit l none MemErr.none s.now)
  match arrayLine s1 l with
  | some a => if a.poison then s1 else setArray (writeBack s1 l a) l none
  | none => s1

/-- Change a page to host bias (R252). -/
def pageToHost (s : State) (page : Nat) : State :=
  if s.mzn.bias.contains page then s
  else
    let ls := pageLines s page ++ ((s.mzn.array.map Prod.fst).filter fun l => l / 64 == page && (lineRec s l) == noRec)
    let s1 := ls.foldl flushLine s
    addR (modMzn s1 fun m => { m with bias := m.bias ++ [page] }) .mznBiasFlips 1 (homeSlice s (page * 64))

/-- Change a page to device bias (R252): the host has written back and invalidated its copies. -/
def pageToDevice (s : State) (page : Nat) : State :=
  if s.mzn.bias.contains page then
    addR (modMzn s fun m => { m with bias := m.bias.filter fun p => p != page }) .mznBiasFlips 1 (homeSlice s (page * 64))
  else s

/-- The pages that a BIAS_SET names. -/
def biasPages (c : Cmd) : List Nat := (List.range (c.num 32 4)).map fun i => c.num 24 8 / 4096 + i

/-- The first check that BIAS_SET fails, if one does (R252). -/
def biasSetFail (c : Cmd) (s : State) : Option Nat :=
  let off := c.num 24 8
  let pages := c.num 32 4
  let host := c.num 36 1
  entryFail s c .pf
    { named := [(24, 8), (32, 4), (36, 1)]
      fields := [(pages = 0, stBadField), (decide (1 < host), stBadField), (decide (2 ^ 40 < off + pages * 4096), stBadField),
        (decide (host = 1) && (biasPages c).any fun p => isStream (p * 64), stBadField)]
      align := [(off % 4096 ≠ 0, stBadAlign)] }

/-- BIAS_SET (R252): every page of the range takes the new bias, and the command completes. A STREAM page is refused host
bias, and so is a page outside BAR2. -/
def execBiasSet (id : Nat) (s : State) : Out :=
  .next <| withCmd s id 0x68 fun c s1 =>
    orElse s1 c (biasSetFail c s1)
      (finish ((biasPages c).foldl (fun t p => if c.num 36 1 = 1 then pageToHost t p else pageToDevice t p) s1) c.id stOk)

end Sys2Proof.Machine
end

