-- ==== Sys2Proof/Machine/MariqOps.lean ====
section
/-! DEFINITION. Mariq ports: sectors, credits, sessions, loss and quarantine (R405 to R434). -/

namespace Sys2Proof.Machine

/-! ### Cyclic redundancy checks (R408) -/

/-- One bit of a reflected CRC. -/
def crcBit (poly c : Nat) : Nat := if c % 2 = 1 then (c / 2) ^^^ poly else c / 2

/-- One byte of a reflected CRC. -/
def crcByte (poly c : Nat) (b : Byte) : Nat :=
  let x := fun c => crcBit poly (crcBit poly c)
  x (x (x (x (c ^^^ b.toNat))))

/-- A reflected CRC with initial value and final XOR all ones. -/
def crcOf (width poly : Nat) (bs : List Byte) : Nat := bs.foldl (crcByte poly) (2 ^ width - 1) ^^^ (2 ^ width - 1)

/-- CRC-32C. -/
def crc32c (bs : List Byte) : Nat := crcOf 32 0x82F63B78 bs

/-- CRC-64 with the ECMA-182 polynomial. -/
def crc64 (bs : List Byte) : Nat := crcOf 64 0xC96C5795D7870F42 bs

/-! ### Ports -/

/-- The wing of a port (R405). -/
def portWing (s : State) (p : Nat) : Option Nat := groupWing s (p / 4)

/-- Set STATE of MRQ_P_STATE; leaving a state clears RETRAIN and RELEASE (R435). -/
def setPortState (s : State) (p n : Nat) : State :=
  setField (setField s .mrqPState 0 4 n p) .mrqPCtrl 2 2 0 p

/-- Set sticky bits of MRQ_P_EVENTS (R435); the Porter receives the event (R477, R484). -/
def portEvent (s : State) (p m : Nat) : State :=
  porterEvt (setSticky s .mrqPEvents .mrqPEventEn m p) 0x31 [p, m, getR s .mrqPPartner p, getR s .mrqPRefusal p]

/-- RX_LOCKED of a port. -/
def rxLocked (s : State) (p : Nat) : Bool := bit (getR s .mrqPState p) 4

/-- Credits at reset by virtual channel (R411). -/
def resetCredits (v : Nat) : Nat := [0, 8, 64, 128, 32, 64, 64, 16].getD v 0

/-- Credits that the partner advertises on a virtual channel. -/
def Port.advertisedOn (x : Port) (v : Nat) : Nat := tget resetCredits x.advertised v

/-- A credit of a virtual channel is left to spend (R412). -/
def Port.hasCredit (x : Port) (v : Nat) : Bool :=
  decide ((tget (fun _ => 0) x.spent v + 2 ^ 16 - tget (fun _ => 0) x.returned v % 2 ^ 16) % 2 ^ 16 < x.advertisedOn v)

/-- What waits to be sent on a virtual channel. -/
def Port.waitingOn (x : Port) (v : Nat) : List (List Byte) := tget (fun _ => []) x.txQueue v

/-- Pad to a multiple of 16 bytes (R408). -/
def pad16 (bs : List Byte) : List Byte := bs ++ List.replicate ((16 - bs.length % 16) % 16) 0

/-- The 32 header bytes of a sector (R408). -/
def headerBytes (s : State) (p kind vc flags seq len : Nat) : List Byte :=
  let x := portOf s p
  let live := decide (portState s p = 4 ∨ portState s p = 5)
  let enc := decide (portState s p = 5) && bit (getR s .mrqPState p) 6
  let h := bytesOf 1 (vc + 8 * kind) ++ bytesOf 1 (b2n enc + flags + 4 * b2n live) ++ bytesOf 2 seq ++ bytesOf 2 (if live then x.rxNext else 0) ++
    bytesOf 2 len ++ bytesOf 4 x.session ++ bytesOf 8 x.txCount ++ bytesOf 2 (deviceIndex s) ++ bytesOf 1 (fieldR s .mrqPState 24 8 p) ++ bytesOf 5 0
  h ++ bytesOf 4 (crc32c h)

/-- Put one sector on the lanes (R408, R425): a TXCOUNT is never used twice. -/
def emitSector (s : State) (p kind vc flags seq : Nat) (payload : List Byte) : State :=
  let b := pad16 payload
  let o : OutSector := ⟨headerBytes s p kind vc flags seq b.length, b⟩
  modPort (addR s .mrqPTxSectors 1 p) p fun x => { x with out := some o, txCount := x.txCount + 1 }

/-- A control record of 16 bytes (R418). -/
def controlRecord (bs : List Byte) : List Byte := (bs ++ bytesOf 16 0).take 16

/-- A control record is due (R413, R418). -/
def dueRecord (s : State) (p : Nat) (bs : List Byte) : State := modPort s p fun x => { x with control := x.control ++ [controlRecord bs] }

/-- The CREDIT record of a virtual channel (R418). -/
def dueCredit (s : State) (p v : Nat) : State :=
  let n := tget (fun _ => 0) (portOf s p).freed v
  modPort (dueRecord s p (bytesOf 1 3 ++ bytesOf 1 v ++ bytesOf 2 0 ++ bytesOf 2 n)) p fun x => { x with told := tset (fun _ => 0) x.told v n }

/-- The payload at the front of a virtual channel's receive buffer. -/
def rxFront (s : State) (p v : Nat) : Option (List Byte) := (tget (fun _ => []) (portOf s p).rxBuf v).head?

/-- Take the front sector out of a receive buffer and return its credit; a CREDIT record is due when 16 wait (R412, R418). -/
def takeRx (s : State) (p v : Nat) : State :=
  let s1 := modPort s p fun x =>
    { x with rxBuf := tmod (fun _ => []) x.rxBuf v List.tail, freed := tmod (fun _ => 0) x.freed v fun n => (n + 1) % 2 ^ 16 }
  let x := portOf s1 p
  if 16 ≤ (tget (fun _ => 0) x.freed v + 2 ^ 16 - tget (fun _ => 0) x.told v) % 2 ^ 16 then dueCredit s1 p v else s1

/-- Replace the front sector of a receive buffer by what is left of it; it leaves when nothing is. -/
def setRxFront (s : State) (p v : Nat) (rest : List Byte) : State :=
  if rest.isEmpty then takeRx s p v
  else modPort s p fun x => { x with rxBuf := tmod (fun _ => []) x.rxBuf v fun l => rest :: l.tail }

/-! ### Sessions -/

/-- A port as it stands outside a session: what counts beyond one is kept. -/
def endSession (x : Port) : Port :=
  { idlePort with malformed := x.malformed, violations := x.violations, authFails := x.authFails, window := x.window, requests := x.requests,
                  served := x.served, hello := x.hello, raTime := x.raTime, raCount := x.raCount, nextProbe := x.nextProbe }

/-- Clear what MRQ_P_STATE and MRQ_P_PARTNER show of a session: SLOW, ENC_ON, KEY_EPOCH and VALID. -/
def clearSession (s : State) (p : Nat) : State :=
  setField (setField (setField (modPort s p endSession) .mrqPState 5 2 0 p) .mrqPState 24 8 0 p) .mrqPPartner 31 1 0 p

/-- Enter HUNT (R409, R410). -/
def enterHunt (s : State) (p : Nat) : State := addR (setField s .mrqPState 4 1 0 p) .mrqPHunts 1 p

/-- Start 802.3dj training (R434). -/
def toTrain (s : State) (p : Nat) : State :=
  modPort (setField (setPortState (clearSession s p) p 1) .mrqPState 4 1 0 p) p fun x => { x with trainSince := s.now }

/-- The HELLO payload, with the status of a refusal (R422, R423). -/
def helloBytes (s : State) (p status : Nat) : List Byte :=
  bytesOf 2 (deviceIndex s) ++ bytesOf 1 (fieldR s .devLevels 8 8) ++ bytesOf 1 (fieldR s .devLevels 0 8) ++ bytesOf 1 (getR s .mrqLevelFloor) ++
    bytesOf 1 (1 + 2 * fieldR s .mrqPCtrl 1 1 p) ++ bytesOf 2 p ++ bytesOf 2 status

/-- Send a HELLO; the next is due after 10 µs (R422). -/
def sendHello (s : State) (p status : Nat) : State :=
  modPort (emitSector s p 3 0 0 0 (helloBytes s p status)) p fun x => { x with helloDue := s.now + 10000 }

/-- Enter HELLO: a new random non-zero SESSION, TXCOUNT and SEQ 0, and a HELLO (R422). -/
def enterHello (s : State) (p : Nat) : State :=
  let n := (freeNow s).toNat % (2 ^ 32 - 1) + 1
  sendHello (modPort (setPortState (clearSession (drawFree s) p) p 3) p fun x => { x with session := n }) p 0

/-! ### Remote requests on the requesting side (R430) -/

/-- Write line 3 of a request block: STATUS, NACKS and DONE. -/
def completeBlock (s : State) (p block st nacks : Nat) : State :=
  (writeFull s (portWing s p) ((block + 192) / 64) (bytesOf 2 st ++ bytesOf 1 nacks ++ bytesOf 1 1 ++ bytesOf 60 0)).1

/-- Fail every remote request outstanding to the partner (R420, R431, R432). -/
def failRequests (s : State) (p st : Nat) : State :=
  (portOf s p).requests.foldl (fun t r => completeBlock t p r.block st 0) (modPort s p fun x => { x with requests := [] })

/-! ### Loss, reset and quarantine (R420, R431, R432) -/

/-- UP_PORT of a follower leaves ACTIVE: with ALT_EN the device follows ALT_PORT from its next valid response, and otherwise
holds over (R454). -/
def upstreamLost (s : State) (p : Nat) : State :=
  if fieldR s .timCtrl 0 1 = 0 && bit (getR s .timCtrl) 14 && decide (fieldR s .timCtrl 8 6 = p) && !s.tim.alt then
    if bit (getR s .timCtrl) 22 then setSticky { s with tim := { s.tim with alt := true } } .timEvents .timEventEn 8
    else setField s .timStatus 4 1 1
  else if fieldR s .timCtrl 0 1 = 0 && s.tim.alt && decide (fieldR s .timCtrl 16 6 = p) then setField s .timStatus 4 1 1
  else s

/-- What ends with the partner, whatever the reason: its outstanding requests fail, its home credits, counts and reservations
are free, and the merge marks it lost (R420). -/
def dropPartner (s : State) (p st : Nat) : State :=
  upstreamLost (newelPartnerLost (freePeer (failRequests s p st) p) (partnerOf s p)) p

/-- The partner is lost (R420): the port retrains. -/
def partnerLost (s : State) (p : Nat) : State :=
  let s0 := setPortState s p 1
  toTrain (portEvent (dropPartner s0 p stPeerLost) p 1) p

/-- The partner has been reset while the link stays up (R432). -/
def peerReset (s : State) (p : Nat) : State :=
  let s0 := setPortState s p 3
  enterHello (portEvent (dropPartner s0 p stPeerReset) p 2) p

/-- The partner is quarantined (R431): one CONTROL sector says so, and the port falls silent. -/
def quarantine (s : State) (p : Nat) : State :=
  let s0 := emitSector s p 1 0 0 0 (controlRecord (bytesOf 1 6 ++ bytesOf 1 0 ++ bytesOf 2 stQuarantined))
  let s1 := portEvent (dropPartner (setPortState s0 p 7) p stQuarantined) p 4
  setField (modPort s1 p fun x => { endSession x with session := x.session, txCount := x.txCount, out := x.out }) .mrqPState 5 1 0 p

/-- A count of the quarantine window has reached its limit; a limit of 0 disables its count (R431). -/
def checkQuarantine (s : State) (p count limit : Nat) : State :=
  if limit ≠ 0 ∧ limit ≤ count ∧ portState s p ≠ 7 then quarantine s p else s

/-- Count a malformed sector or record (R409, R429, R431). -/
def countMalformed (s : State) (p : Nat) : State :=
  let s1 := modPort (addR s .mrqPMalformed 1 p) p fun x => { x with malformed := x.malformed + 1 }
  checkQuarantine s1 p (portOf s1 p).malformed (fieldR s .mrqPQuar 0 12 p)

/-- Count a window violation (R429, R431). -/
def countViolation (s : State) (p : Nat) : State :=
  let s1 := modPort (addR s .mrqPViolations 1 p) p fun x => { x with violations := x.violations + 1 }
  checkQuarantine s1 p (portOf s1 p).violations (fieldR s .mrqPQuar 12 12 p)

/-- Count an authentication failure (R409, R424, R431). -/
def countAuth (s : State) (p : Nat) : State :=
  let s1 := portEvent (modPort (addR s .mrqPAuthFail 1 p) p fun x => { x with authFails := x.authFails + 1 }) p 32
  checkQuarantine s1 p (portOf s1 p).authFails (fieldR s .mrqPQuar 24 8 p)

/-! ### Sending (R412, R413, R416) -/

/-- The virtual channels from the one after the last served, in round-robin order (R413). -/
def vcOrder (turn : Nat) : List Nat := (List.range 7).map fun i => (turn + i) % 7 + 1

/-- Data on a virtual channel may leave in this state: in AUTH only the SPDM session's (R424, R434). -/
def vcOpen (st v : Nat) : Bool := decide (st = 5) || (decide (st = 4) && decide (v = 7))

/-- Note which virtual channels have data that waits for a credit, and add a wait that has ended to MRQ_P_CREDIT_WAIT_NS
(R412). -/
def noteWaits (s : State) (p : Nat) : State :=
  (List.range 8).foldl (fun t v =>
    let x := portOf t p
    let blocked := decide (1 ≤ v) && !(x.waitingOn v).isEmpty && !x.hasCredit v
    match tget (fun _ => none) x.waitSince v with
    | none => if blocked then modPort t p fun y => { y with waitSince := tset (fun _ => none) y.waitSince v (some t.now) } else t
    | some b =>
      if blocked then t
      else modPort (addR (addR t .mrqPCreditWaitNs (t.now - b) p) .nwlCreditWaitNs (if v = 3 then t.now - b else 0)) p fun y => { y with waitSince := tset (fun _ => none) y.waitSince v none }) s

/-- As many whole records as fit into `n` bytes, and the rest (R411). -/
def packRecords : Nat → List (List Byte) → List Byte × List (List Byte)
  | _, [] => ([], [])
  | n, r :: rs =>
    if r.length ≤ n then
      let q := packRecords (n - r.length) rs
      (r ++ q.1, q.2)
    else ([], r :: rs)

/-- Bytes from an offset replaced. -/
def patch (b : List Byte) (off n v : Nat) : List Byte := overlay b off (bytesOf n v)

/-- What a payload carries of the moment at which it leaves: T1 or T3 of a probe, SENT_AT of a Newel message (R120, R449). -/
def stampPayload (s : State) (vc : Nat) (b : List Byte) : List Byte :=
  if vc = 1 then (if numAt b 0 1 = 1 then patch b 8 8 s.now else patch b 24 8 s.now)
  else if 2 ≤ vc ∧ vc ≤ 4 then patch b 28 8 s.now
  else b

/-- Send a new DATA sector of a virtual channel (R412 to R414). -/
def sendData (s : State) (p v : Nat) : State :=
  let x := portOf s p
  let q := x.waitingOn v
  let (b0, rest) := if v = 5 ∨ v = 6 then packRecords 4080 q else (q.headD [], q.tail)
  let b := pad16 (stampPayload s v b0)
  let s1 := emitSector s p 2 v 0 x.txNext b
  modPort s1 p fun y =>
    { y with
      txQueue := tset (fun _ => []) y.txQueue v rest
      spent := tmod (fun _ => 0) y.spent v fun n => (n + 1) % 2 ^ 16
      unacked := y.unacked ++ [⟨x.txNext, v, b, 1, s.now⟩]
      txNext := (x.txNext + 1) % 2 ^ 16
      turn := v
      probe := if v = 1 ∧ numAt b 0 1 = 1 then some (numAt b 2 2, s.now) else y.probe }

/-- Send a sector again with RETX set and a new TXCOUNT (R416). -/
def resend (s : State) (p : Nat) (t : TxSector) : State :=
  modPort (addR (emitSector s p 2 t.vc 2 t.seq t.bytes) .mrqPRetx 1 p) p fun y =>
    { y with
      retx := y.retx.erase t.seq
      unacked := y.unacked.map fun u => if u.seq == t.seq then { u with sends := u.sends + 1, lastSent := s.now } else u }

/-- Send the control records that are due, at most as many as one sector holds; a HEARTBEAT carries the time at which it
leaves, and a KEY_SWITCH moves the sender to its new key after it (R418, R419, R426). -/
def sendControl (s : State) (p : Nat) : State :=
  let recs := (portOf s p).control.take 255
  let made := recs.map fun r => if numAt r 0 1 = 4 then patch r 8 8 s.now else r
  let s1 := modPort (emitSector s p 1 0 0 0 made.flatten) p fun y => { y with control := y.control.drop 255 }
  match recs.find? fun r => numAt r 0 1 == 5 with
  | some r => setField s1 .mrqPState 24 8 (numAt r 1 1) p
  | none => s1

/-! ### Receiving (R409 to R418) -/

/-- Bytes `[lo + n - 1 : lo]` of a sector's header. -/
def hd (x : Sector) (lo n : Nat) : Nat := numAt x.header lo n

/-- KIND of a sector. -/
def secKind (x : Sector) : Nat := hd x 0 1 / 8

/-- The payload bytes of a sector, deciphered when ENC is set. -/
def secBody (x : Sector) : List Byte :=
  ((if bit (hd x 1 1) 0 then x.plain else x.payload) ++ bytesOf (hd x 6 2) 0).take (hd x 6 2)

/-- HCRC holds (R408). -/
def secHeaderOk (x : Sector) : Bool := decide (crc32c ((x.header ++ bytesOf 28 0).take 28) = hd x 28 4)

/-- The trailer holds (R408). -/
def secTrailerOk (x : Sector) : Bool :=
  decide (crc64 ((x.header ++ bytesOf 32 0).take 32 ++ (x.payload ++ bytesOf 4096 0).take 4096) = numAt x.trailer 0 8)

/-- An ACK names a SEQ that has not been sent (R417). -/
def ackBeyond (x : Port) (e : Nat) : Bool := decide (512 < (x.txNext + 2 ^ 16 - e % 2 ^ 16) % 2 ^ 16)

/-- The distance of a SEQ from the next expected one (R415). -/
def seqAhead (x : Port) (q : Nat) : Nat := (q + 2 ^ 16 - x.rxNext) % 2 ^ 16

/-- The header fields break a rule of R408, R409 or R415. -/
def headerMalformed (s : State) (p : Nat) (x : Sector) : Bool :=
  let y := portOf s p
  let st := portState s p
  let live := decide (st = 4 ∨ st = 5)
  let kind := secKind x
  let vc := hd x 0 1 % 8
  let a := seqAhead y (hd x 2 2)
  decide (3 < kind) || decide (8 ≤ hd x 1 1) || decide (hd x 23 5 ≠ 0) || decide (4096 ≤ hd x 20 2) || decide (hd x 6 2 % 16 ≠ 0) ||
    decide ((if st = 5 then 4080 else 4096) < hd x 6 2) || (decide (kind ≠ 2) && decide (hd x 2 2 ≠ 0)) ||
    (decide (kind = 2) && decide (vc = 0)) || (decide (kind < 2) && decide (vc ≠ 0)) ||
    (decide (st = 4) && decide (kind ≠ 3) && decide (hd x 8 4 ≠ y.partnerSession)) ||
    (live && decide (kind ≠ 3) && decide (hd x 8 4 = y.partnerSession) &&
      ((bit (hd x 1 1) 2 && ackBeyond y (hd x 4 2)) || (decide (kind = 2) && decide (512 ≤ a) && decide (a < 2 ^ 16 - 512))))

/-- Take a cumulative acknowledgement (R417). -/
def takeAckSeq (s : State) (p e : Nat) : State :=
  let gone := fun (t : TxSector) => decide ((e + 2 ^ 16 - t.seq) % 2 ^ 16 - 1 < 512) && decide (e % 2 ^ 16 ≠ t.seq)
  modPort s p fun x =>
    let left := x.unacked.filter fun t => !gone t
    { x with unacked := left, retx := x.retx.filter fun q => left.any fun t => t.seq == q }

/-- A control record breaks the rules of R417 or R418. -/
def recordMalformed (s : State) (p : Nat) (r : List Byte) : Bool :=
  let x := portOf s p
  match numAt r 0 1 with
  | 1 => anySet ((r.drop 1).take 1) || anySet (r.drop 4) || ackBeyond x (numAt r 2 2)
  | 2 => anySet ((r.drop 1).take 1) || anySet (r.drop 6) || numAt r 4 2 = 0 || decide (512 < numAt r 4 2)
  | 3 => anySet ((r.drop 2).take 2) || anySet (r.drop 6) || numAt r 1 1 = 0 || decide (7 < numAt r 1 1)
  | 4 => anySet ((r.drop 1).take 7)
  | 5 => anySet (r.drop 2) || decide (numAt r 1 1 ≠ (x.rxEpoch + 1) % 256)
  | 6 => anySet ((r.drop 1).take 1) || anySet (r.drop 4) || decide (numAt r 2 2 ≠ stQuarantined)
  | _ => true

/-- Apply one control record (R412, R416 to R419, R426, R431). A CREDIT record that counts no new credit changes nothing, and leaves
SLOW as it is (R421). -/
def applyRecord (s : State) (p : Nat) (r : List Byte) : State :=
  match numAt r 0 1 with
  | 1 => takeAckSeq s p (numAt r 2 2)
  | 2 =>
    let named := (List.range (numAt r 4 2)).map fun i => (numAt r 2 2 + i) % 2 ^ 16
    modPort s p fun x =>
      { x with retx := x.retx ++ (named.filter fun q => !x.retx.contains q && x.unacked.any fun t => t.seq == q) }
  | 3 =>
    if tget (fun _ => 0) (portOf s p).returned (numAt r 1 1) = numAt r 4 2 then s
    else
      noteWaits (setField (modPort s p fun x => { x with returned := tset (fun _ => 0) x.returned (numAt r 1 1) (numAt r 4 2) })
        .mrqPState 5 1 0 p) p
  | 4 => modPort s p fun x => { x with lastBeat := s.now }
  | 5 => modPort s p fun x => { x with rxEpoch := numAt r 1 1, newKey := false, oldKey := true, oldUntil := s.now + 1000000 }
  | _ => failRequests s p stQuarantined

/-- Cut a payload into control records. -/
def cutRecords : Nat → List Byte → List (List Byte)
  | 0, _ => []
  | n + 1, b => b.take 16 :: cutRecords n (b.drop 16)

/-- Take a CONTROL sector: one bad record spoils it all (R418). -/
def takeControl (s : State) (p : Nat) (x : Sector) : State :=
  let recs := cutRecords (hd x 6 2 / 16) (secBody x)
  if recs.any fun r => recordMalformed s p r then countMalformed s p else recs.foldl (fun t r => applyRecord t p r) s

/-- Deliver to its virtual channel (R414). -/
def deliverData (s : State) (p v : Nat) (b : List Byte) : State :=
  modPort s p fun x => { x with rxBuf := tmod (fun _ => []) x.rxBuf v fun l => l ++ [b], rxNext := (x.rxNext + 1) % 2 ^ 16 }

/-- Deliver the sectors that were held behind a gap now filled (R414). -/
def drainReorder (s : State) (p : Nat) : Nat → State
  | 0 => s
  | n + 1 =>
    let x := portOf s p
    match x.reorder.find? fun e => e.1 == x.rxNext with
    | none => s
    | some e => drainReorder (deliverData (modPort s p fun y => { y with reorder := y.reorder.erase e }) p e.2.1 e.2.2) p n

/-- The SEQs missing before the last sector held. -/
def missingSeqs (x : Port) : List Nat :=
  let far := (x.reorder.map fun e => seqAhead x e.1).foldl max 0
  ((List.range far).map fun i => (x.rxNext + i) % 2 ^ 16).filter fun q => !(x.reorder.any fun e => e.1 == q)

/-- Runs of consecutive SEQs: the first and the count. -/
def seqRuns : List Nat → List (Nat × Nat)
  | [] => []
  | q :: qs =>
    match seqRuns qs with
    | [] => [(q, 1)]
    | (f, n) :: t => if f = (q + 1) % 2 ^ 16 then (q, n + 1) :: t else (q, 1) :: (f, n) :: t

/-- Name missing SEQs in NAK records (R416, R418). -/
def sendNaks (s : State) (p : Nat) (l : List Nat) : State :=
  let runs := seqRuns l
  let s1 := runs.foldl (fun t r => dueRecord t p (bytesOf 1 2 ++ bytesOf 1 0 ++ bytesOf 2 r.1 ++ bytesOf 2 r.2)) s
  if runs.isEmpty then s
  else modPort (addR s1 .mrqPNaksSent runs.length p) p fun x =>
    { x with nakSent := x.nakSent ++ (l.filter fun q => !x.nakSent.contains q), nakAt := s.now }

/-- Take a DATA sector (R409, R414 to R416). A probe keeps the time of its arrival behind its payload (R449). -/
def takeData (s : State) (p : Nat) (x : Sector) : State :=
  let y := portOf s p
  let q := hd x 2 2
  let a := seqAhead y q
  let v := hd x 0 1 % 8
  let b := if v = 1 then (secBody x ++ bytesOf 48 0).take 48 ++ bytesOf 8 s.now else secBody x
  if 512 ≤ a ∨ (y.reorder.any fun e => e.1 == q) then addR s .mrqPDuplicates 1 p
  else if a = 0 then
    let s1 := drainReorder (deliverData s p v b) p 512
    modPort s1 p fun z => { z with nakSent := z.nakSent.filter (missingSeqs z).contains }
  else
    let s1 := modPort s p fun z => { z with reorder := z.reorder ++ [(q, v, b)] }
    sendNaks s1 p ((missingSeqs (portOf s1 p)).filter fun m => !y.nakSent.contains m)

/-- The fields of a HELLO (R422), without a refusal's status. -/
def helloFields (b : List Byte) : List Nat := [numAt b 0 2 % 4096, numAt b 2 1, numAt b 3 1, numAt b 4 1, numAt b 5 1, numAt b 6 2]

/-- Enter REFUSED with a status (R423, R434). -/
def refuseLink (s : State) (p st : Nat) (f : List Nat) : State :=
  portEvent (modPort (setPortState (setR s .mrqPRefusal st p) p 6) p fun x => { x with hello := f }) p 8

/-- The status with which the partner's HELLO is refused, in the order of R423. -/
def helloRefusal (s : State) (p : Nat) (b : List Byte) : Option Nat :=
  let level := min (fieldR s .devLevels 0 8) (numAt b 3 1)
  let floor := max (max (getR s .mrqLevelFloor) (numAt b 4 1)) (max (fieldR s .devLevels 8 8) (numAt b 2 1))
  let mine := fieldR s .mrqPCtrl 1 1 p
  firstFail [(decide (level < floor), stVersion), (decide (mine = 1) && !bit (numAt b 5 1) 0, stAuthFailed),
    (decide (numAt b 0 2 % 4096 = deviceIndex s), stBadField)]

/-- Take the partner's HELLO in state HELLO (R423, R434). -/
def takeHello (s : State) (p : Nat) (x : Sector) : State :=
  let b := secBody x ++ bytesOf 16 0
  let st := numAt b 8 2
  let f := helloFields b
  if st ≠ 0 then refuseLink s p st f
  else
    match helloRefusal s p b with
    | some r => refuseLink (sendHello s p r) p r f
    | none =>
      let level := min (fieldR s .devLevels 0 8) (numAt b 3 1)
      let floor := max (max (getR s .mrqLevelFloor) (numAt b 4 1)) (max (fieldR s .devLevels 8 8) (numAt b 2 1))
      let enc := decide (fieldR s .mrqPCtrl 1 1 p = 1) || bit (numAt b 5 1) 1
      let s1 := setField (setField (setPortState s p 4) .mrqPState 8 16 (level + 256 * floor) p) .mrqPState 6 1 (b2n enc) p
      modPort (setR s1 .mrqPPartner (numAt b 0 2 % 4096 + 2 ^ 31) p) p fun y => { y with partnerSession := hd x 8 4, hello := f }

/-- The tag of a sector verifies, under an epoch that the receiver accepts (R409, R426). -/
def tagAccepted (y : Port) (x : Sector) : Bool :=
  let e := hd x 22 1
  x.tagOk && (decide (e = y.rxEpoch) || (y.oldKey && decide ((e + 1) % 256 = y.rxEpoch)) || (y.newKey && decide (e = (y.rxEpoch + 1) % 256)))

/-- Take a sector in state AUTH or ACTIVE that has passed its checks. -/
def takeLive (s : State) (p : Nat) (x : Sector) : State :=
  let s1 := if bit (hd x 1 1) 2 then takeAckSeq s p (hd x 4 2) else s
  match secKind x with
  | 1 => takeControl s1 p x
  | 2 => takeData s1 p x
  | _ => s1

/-- Take a sector whose CRC-64 holds, in the state of its port (R409, R432, R434). -/
def takeSector (s : State) (p : Nat) (x : Sector) : State :=
  let s1 := modPort (addR s .mrqPRxSectors 1 p) p fun y => { y with rxCount := y.rxCount + 1 }
  let y := portOf s p
  match portState s p with
  | 3 => if secKind x = 3 then takeHello s1 p x else s1
  | 4 => if secKind x = 3 then s1 else takeLive s1 p x
  | 5 =>
    if secKind x = 3 ∨ hd x 8 4 ≠ y.partnerSession then peerReset s1 p
    else if tagAccepted y x then takeLive s1 p x
    else countAuth s1 p
  | 6 => if secKind x = 3 ∧ helloFields (secBody x ++ bytesOf 16 0) ≠ y.hello then enterHello s1 p else s1
  | _ => s1

/-- The receiver becomes LOCKED; from LOCK the port enters HELLO (R410, R434). -/
def lockRx (s : State) (p : Nat) : State :=
  let s1 := setField s .mrqPState 4 1 1 p
  if portState s p = 2 then enterHello s1 p else s1

/-- What follows a header whose CRC holds (R409, R410). -/
def afterHeader (s : State) (p : Nat) (x : Sector) (locked : Bool) : State :=
  if headerMalformed s p x then countMalformed s p
  else if !secTrailerOk x then
    if locked then addR s .mrqPPcrcFail 1 p else if x.nextMark then lockRx (addR s .mrqPPcrcFail 1 p) p else s
  else takeSector (if locked then s else lockRx s p) p x

/-- A sector arrives: the checks of R409 in LOCKED and of R410 in HUNT, where the first failure ends. `kind` is the KIND that
the event names: another one in a sound header is not this event. -/
def receiveSector (s : State) (p kind : Nat) (x : Sector) : State :=
  if portState s p < 2 then s
  else
    let s0 := addR (addR s .mrqPFecCorrected x.fecCorrected p) .mrqPFecUncorrected x.fecLost p
    if rxLocked s p && decide (4 < x.markBits) then enterHunt s0 p
    else if !rxLocked s p && decide (x.markBits ≠ 0) then s0
    else if !secHeaderOk x then
      let s1 := addR s0 .mrqPHcrcFail 1 p
      if rxLocked s p then enterHunt s1 p else s1
    else if secKind x ≤ 3 ∧ secKind x ≠ kind then s
    else afterHeader s0 p x (rxLocked s p)

end Sys2Proof.Machine
end

