-- ==== Sys2Proof/Machine/Mariq.lean ====
section
/-! DEFINITION. The events of the Mariq ports (R405 to R434). -/

namespace Sys2Proof.Machine

/-- The port is present (R405). -/
def portHere (s : State) (p : Nat) : Bool := present s .port p

/-- Bring shared time to at least a moment at which an event falls due. -/
def notBefore (s : State) (t : Nat) : State := { s with now := max s.now t }

/-! ### Sectors (R408 to R418) -/

/-- SECTOR_SEND (R413): at the sector boundary staged settings land, and a CONTROL sector that is due leaves, or a
retransmission, or a new DATA sector round-robin, or an IDLE sector. -/
def execSectorSend (p : Nat) (s : State) : Out :=
  let st := portState s p
  if st < 2 then .next s
  else
    let s1 := noteWaits (landR s .mrqPRaRate p) p
    let x := portOf s1 p
    let live := decide (st = 4 ∨ st = 5)
    let again := x.retx.findSome? fun q => x.unacked.find? fun t => t.seq == q
    let fresh := (vcOrder x.turn).find? fun v => vcOpen st v && !(x.waitingOn v).isEmpty && x.hasCredit v
    .next <|
      if live && !x.control.isEmpty then sendControl s1 p
      else
        match live, again, fresh with
        | true, some t, _ => if 8 ≤ t.sends then partnerLost s1 p else resend s1 p t
        | true, none, some v => if x.unacked.length < 512 then noteWaits (sendData s1 p v) p else emitSector s1 p 0 0 0 0 []
        | _, _, _ => emitSector s1 p 0 0 0 0 []

/-- IDLE_SECTOR (R409, R410). -/
def execIdleSector (p : Nat) (x : Sector) (s : State) : Out := .next (receiveSector s p 0 x)

/-- CONTROL_SECTOR (R409, R418). -/
def execControlSector (p : Nat) (x : Sector) (s : State) : Out := .next (receiveSector s p 1 x)

/-- DATA_SECTOR (R409, R414 to R416). -/
def execDataSector (p : Nat) (x : Sector) (s : State) : Out := .next (receiveSector s p 2 x)

/-- HELLO_SECTOR (R409, R423, R432, R434). -/
def execHelloSector (p : Nat) (x : Sector) (s : State) : Out := .next (receiveSector s p 3 x)

/-- HELLO_SEND (R422): every 10 µs until the partner's HELLO arrives. -/
def execHelloSend (p : Nat) (s : State) : Out :=
  .next (if portState s p = 3 then sendHello (notBefore s (portOf s p).helloDue) p 0 else s)

/-- RETRANSMIT_TIMEOUT (R416): the oldest unacknowledged sector is to be sent again; after 8 sends the partner is lost. -/
def execRetransmitTimeout (p : Nat) (s : State) : Out :=
  match (portOf s p).unacked with
  | [] => .next s
  | t :: _ =>
    let s1 := notBefore s (t.lastSent + getR s .mrqPRetxNs p)
    .next (if 8 ≤ t.sends then partnerLost s1 p
      else modPort s1 p fun x => { x with retx := if x.retx.contains t.seq then x.retx else t.seq :: x.retx })

/-- NAK_TIMEOUT (R416): the gaps that stay unfilled are named again. -/
def execNakTimeout (p : Nat) (s : State) : Out :=
  let x := portOf s p
  .next (if (missingSeqs x).isEmpty then s else sendNaks (notBefore s (x.nakAt + getR s .mrqPRetxNs p)) p (missingSeqs x))

/-- CONTROL_RECORD_DUE (R418): an ACK record at least every 2 µs, a CREDIT record of a virtual channel at least every 1 µs. -/
def execControlRecordDue (p vc : Nat) (s : State) : Out :=
  let st := portState s p
  .next <|
    if st ≠ 4 ∧ st ≠ 5 then s
    else if vc = 0 then dueRecord s p (bytesOf 1 1 ++ bytesOf 1 0 ++ bytesOf 2 (portOf s p).rxNext)
    else if vc < 8 then dueCredit s p vc
    else s

/-- HEARTBEAT_SEND (R419): at least every 10 µs in ACTIVE; the record carries the time at which its sector leaves. -/
def execHeartbeatSend (p : Nat) (s : State) : Out :=
  .next (if portActive s p then
      let s1 := notBefore s (portOf s p).beatDue
      modPort (dueRecord s1 p (bytesOf 1 4)) p fun x => { x with beatDue := s1.now + 10000 }
    else s)

/-- HEARTBEAT_TIMEOUT (R419): no authenticated HEARTBEAT for 31 µs. -/
def execHeartbeatTimeout (p : Nat) (s : State) : Out :=
  .next (if portActive s p then partnerLost (notBefore s ((portOf s p).lastBeat + 31000)) p else s)

/-- LOSS_OF_SIGNAL (R419, R434): for 2 µs; only RELEASE takes a port out of QUARANTINED (R431). -/
def execLossOfSignal (p : Nat) (s : State) : Out :=
  let st := portState s p
  .next <|
    if st = 5 then partnerLost s p
    else if st = 0 ∨ st = 7 then s
    else toTrain s p

/-- SLOW_TIMEOUT (R421): data has waited for a credit for more than 100 µs while heartbeats arrive. -/
def execSlowTimeout (p : Nat) (s : State) : Out :=
  let s0 := noteWaits s p
  let x := portOf s0 p
  let waits := (List.range 8).filterMap fun v => tget (fun _ => none) x.waitSince v
  match waits with
  | [] => .next s0
  | w :: ws =>
    .next (if portActive s p then
        portEvent (setField (notBefore s0 (ws.foldl min w + 100001)) .mrqPState 5 1 1 p) p 16
      else s0)

/-! ### Link states (R422 to R426, R431 to R434) -/

/-- TRAINING_COMPLETE (R434): training and FEC lock are complete, and the receiver hunts. -/
def execTrainingComplete (p : Nat) (s : State) : Out :=
  .next (if portState s p = 1 then enterHunt (setPortState s p 2) p else s)

/-- TRAINING_TIMEOUT (R434): after 500 ms training starts again. -/
def execTrainingTimeout (p : Nat) (s : State) : Out :=
  .next (if portState s p = 1 then toTrain (notBefore s ((portOf s p).trainSince + 500000000)) p else s)

/-- AUTH_COMPLETE (R424, R434): the session's keys are ready, the partner's credits are known, and heartbeats start. -/
def execAuthComplete (p : Nat) (credits : List Nat) (s : State) : Out :=
  let x := portOf s p
  .next (if portState s p = 4 ∧ x.authWait.isNone ∧ s.porter.state = .running then
      let adv := (List.range 7).foldl (fun t i => tset resetCredits t (i + 1) (credits.getD i (resetCredits (i + 1)))) []
      let s1 := modPort (setPortState s p 5) p fun y =>
        { y with
          advertised := adv
          keySince := s.now
          keyTx := y.txCount
          keyRx := y.rxCount
          rxEpoch := 0
          lastBeat := s.now
          beatDue := s.now
          probeDue := s.now }
      portEvent s1 p 64
    else s)

/-- An SPDM exchange has failed (R424): it is counted, and the port waits 10 ms. The error code that the Porter logs is the
exchange's own, a free value (R484, log entry 1). -/
def spdmFails (s : State) (p : Nat) : State :=
  let s1 := modPort (setR s .mrqPRefusal stAuthFailed p) p fun x => { x with authWait := some s.now }
  porterEvt (drawFree (countAuth s1 p)) 0x32 [p, (freeNow s).toNat % 256]

/-- SPDM_FAILURE (R424). -/
def execSpdmFailure (p : Nat) (s : State) : Out :=
  .next (if portState s p = 4 ∧ (portOf s p).authWait.isNone then spdmFails s p else s)

/-- AUTH_RETRY (R424): after 10 ms the port returns to HELLO. -/
def execAuthRetry (p : Nat) (s : State) : Out :=
  match portState s p, (portOf s p).authWait with
  | 4, some t => .next (enterHello (notBefore s (t + 10000000)) p)
  | _, _ => .next s

/-- KEY_UPDATE_DUE (R426): after 2^32 sectors or 24 hours the Porters run SPDM KEY_UPDATE; once it is done a KEY_SWITCH
record is due, and the partner's next key is accepted. -/
def execKeyUpdateDue (p : Nat) (done : Bool) (s : State) : Out :=
  let x := portOf s p
  .next <|
    if !portActive s p || s.porter.state != .running then s
    else if done then
      if x.keyUpdate then
        let s1 := modPort s p fun y =>
          { y with keyUpdate := false, newKey := true, keySince := s.now, keyTx := y.txCount, keyRx := y.rxCount }
        dueRecord s1 p (bytesOf 1 5 ++ bytesOf 1 (fieldR s .mrqPState 24 8 p + 1))
      else s
    else if x.keyUpdate then s
    else
      let many := decide (2 ^ 32 ≤ x.txCount - x.keyTx) || decide (2 ^ 32 ≤ x.rxCount - x.keyRx)
      let s1 := if many then s else notBefore s (x.keySince + 86400000000000)
      modPort s1 p fun y => { y with keyUpdate := true, updateSince := s1.now }

/-- KEY_SWITCH_WINDOW_END (R426): 1 ms after KEY_SWITCH the previous epoch stops being accepted. -/
def execKeySwitchWindowEnd (p : Nat) (s : State) : Out :=
  let x := portOf s p
  .next (if x.oldKey then modPort (notBefore s x.oldUntil) p fun y => { y with oldKey := false } else s)

/-- KEY_UPDATE_TIMEOUT (R426): a key update not done within 1 s counts as an SPDM failure, and the port returns to HELLO. -/
def execKeyUpdateTimeout (p : Nat) (s : State) : Out :=
  let x := portOf s p
  .next (if portActive s p && x.keyUpdate then
      let s1 := countAuth (setR (notBefore s (x.updateSince + 1000000000)) .mrqPRefusal stAuthFailed p) p
      if portState s1 p = 7 then s1 else enterHello (dropPartner (setPortState s1 p 3) p stPeerLost) p
    else s)

/-- QUARANTINE_WINDOW (R431): each 1-second window of shared time starts its counts anew. -/
def execQuarantineWindow (p : Nat) (s : State) : Out :=
  let s1 := notBefore s (((portOf s p).window / 1000000000 + 1) * 1000000000)
  .next (modPort s1 p fun x => { x with malformed := 0, violations := 0, authFails := 0, window := s1.now })

/-- ENABLE becomes 1 (R434): training starts if MRQ_DEVICE_INDEX is set. -/
def portEnable (s : State) (p : Nat) : State :=
  let s1 := setField s .mrqPCtrl 0 1 1 p
  if portState s p = 0 && bit (getR s .mrqDeviceIndex) 31 then toTrain s1 p else s1

/-- ENABLE becomes 0 (R433, R434): outstanding operations fail with 0x0503 and the port drives electrical idle. -/
def portDisable (s : State) (p : Nat) : State :=
  let s1 := setField s .mrqPCtrl 0 1 0 p
  let s2 := if portState s p = 0 then s1 else dropPartner (setPortState s1 p 0) p stPeerLost
  landR (setField (setPortState (clearSession s2 p) p 0) .mrqPState 4 1 0 p) .mrqPRaRate p

/-- RETRAIN is written (R434, R435): from REFUSED to HELLO, from any other enabled state but QUARANTINED to TRAIN; the work
of an ACTIVE port ends as at a loss. -/
def portRetrain (s : State) (p : Nat) : State :=
  match portState s p with
  | 0 => s
  | 5 => partnerLost s p
  | 6 => enterHello s p
  | 7 => setField s .mrqPCtrl 2 1 1 p
  | _ => toTrain s p

/-- RELEASE is written (R431, R434). -/
def portRelease (s : State) (p : Nat) : State := if portState s p = 7 then toTrain s p else s

/-- PORT_ENABLE (R434). -/
def execPortEnable (p : Nat) (s : State) : Out := .next (if portHere s p then portEnable s p else s)

/-- PORT_DISABLE (R433). -/
def execPortDisable (p : Nat) (s : State) : Out := .next (if portHere s p then portDisable s p else s)

/-- RETRAIN (R434). -/
def execRetrain (p : Nat) (s : State) : Out := .next (portRetrain s p)

/-- RELEASE (R431). -/
def execRelease (p : Nat) (s : State) : Out := .next (portRelease s p)

/-! ### Windows and remote access (R427 to R430, R519) -/

/-- A window entry's range lies wholly in memory granted to its wing (R427). -/
def windowGranted (s : State) (base size wing : Nat) : Bool :=
  decide (base % 4096 = 0) && decide (size % 4096 = 0) && (decide (size = 0) || grantedTo s wing base size) && !isHostAddr base

/-- The commit word of MRQ_WIN_i is written (R427, R519): the held words and it are checked whole and take effect whole; a
refused commit discards the held words. An entry without VALID is not checked. -/
def windowCommit (s : State) (who : Requester) (i v : Nat) : State :=
  let base := (stagedR s .mrqWinBase i).getD (getR s .mrqWinBase i)
  let size := (stagedR s .mrqWinSize i).getD (getR s .mrqWinSize i)
  let w := v % 2 ^ 32 &&& 0xFF870FFF
  let s1 := { s with staged := terase (terase s.staged (regKey 0 .mrqWinBase i 0)) (regKey 0 .mrqWinSize i 0) }
  if clearBits v 0xFF870FFF ≠ 0 then discardWrite s1 who (regOff .mrqWinCommit i 0) v stReservedSet
  else if bit w 23 && !(decide (bits w 24 8 < wingCount s) && windowGranted s base size (bits w 24 8)) then
    discardWrite s1 who (regOff .mrqWinCommit i 0) v stBadField
  else setR (setR (setR s1 .mrqWinBase base i) .mrqWinSize size i) .mrqWinCommit w i

/-- WINDOW_COMMIT (R519). -/
def execWindowCommit (who : Requester) (i : Nat) (commit : W64) (s : State) : Out :=
  .next (if i < 256 then windowCommit s who i commit.toNat else s)

/-- A window as a request meets it: its size, the operations it allows, and where its bytes lie. -/
structure WindowAt where
  size : Nat
  read : Bool
  write : Bool
  atomic : Bool
  base : Nat
  vec : Option (Nat × Nat)

/-- The view epoch of a query of the partner, as its root, is held here (R156, R428). -/
def holdsView (s : State) (p coll : Nat) : Bool :=
  s.store.newel.any fun q =>
    decide (q.coll = coll) && !q.isRoot && decide (s.now ≤ q.deadline) &&
      (match newelTree s q with | some t => decide (t.root = partnerOf s p) | none => false) &&
      (match q.ctx with | some c => s.store.queries.any fun x => decide (x.ctx = c) && x.view.isSome && !x.released | none => false)

/-- The window of an ID, if it exists, is served on this port and is for this partner (R427, R428). -/
def windowOf (s : State) (p id : Nat) : Option WindowAt :=
  if id < 256 then
    let w := getR s .mrqWinCommit id
    if bit w 23 && decide (portWing s p = some (bits w 24 8)) && decide (bits w 0 12 = partnerOf s p) then
      some ⟨getR s .mrqWinSize id, bit w 16, bit w 17, bit w 18, getR s .mrqWinBase id, none⟩
    else none
  else if 0x80000000 ≤ id ∧ id < 0x80010000 then
    let c := id % 4096
    let h := bits id 12 4
    match collOf s c with
    | none => none
    | some x =>
      if bit x.halls h && decide (portWing s p = some x.wing) && holdsView s p c then
        some ⟨64 * segBays s c h * x.vecBytes, true, false, false, 0, some (c, h)⟩
      else none
  else none

/-- A credit of a slice that is free, the lowest (R247). -/
def freeCredit (s : State) (sl : Nat) : Option Nat :=
  ((List.range 1024).map fun k => sl * 1024 + k).find? fun k => (tget (fun _ => none) s.mzn.credits k).isNone

/-- The fields of a request record hold (R429): the slice of a retry's credit is any that this partner holds for the tag. -/
def requestValid (s : State) (p : Nat) (r : List Byte) : Bool :=
  let op := numAt r 0 1
  let size := numAt r 1 1
  let rtag := numAt r 24 8
  let c := numAt r 4 2
  decide (1 ≤ op) && decide (op ≤ 3) && decide (1 ≤ size) && decide (size ≤ 64) && (decide (op ≠ 3) || decide (size = 8)) &&
    decide (numAt r 2 1 ≤ (if op = 3 then 2 else 0)) && numAt r 3 1 == 0 && !anySet ((r.take 8).drop 6) && !anySet ((r.take 16).drop 12) &&
    !anySet ((r.take 64).drop 32) && decide (numAt r 16 8 % 64 + size ≤ 64) &&
    (decide (c = 0xFFFF) ||
      s.mzn.credits.any fun e => decide (e.1 % 1024 = c) && match e.2 with | some k => decide (k.port = p) && decide (k.rtag = rtag) | none => false)

/-- Answer a request with REFUSED (R429). -/
def refuseRequest (s : State) (p : Nat) (r : List Byte) (st : Nat) : State :=
  queueTx s p 6 (responseBytes (numAt r 0 1) 2 st 0 0 0xFFFF (numAt r 24 8) none)

/-- Pass a checked request to its home, or answer NACK when the slice has no free credit (R247, R429). -/
def passRequest (s : State) (p : Nat) (r data : List Byte) (w : WindowAt) : State :=
  let off := numAt r 16 8
  let a := w.base + off
  let v : Served := ⟨numAt r 24 8, numAt r 0 1, 0, none, w.vec, a, numAt r 1 1, numAt r 2 1, data⟩
  match w.vec with
  | some _ => modPort s p fun x => { x with served := x.served ++ [v] }
  | none =>
    let sl := homeSlice s (a / 64)
    let had := s.mzn.credits.find? fun e =>
      decide (e.1 = sl * 1024 + numAt r 4 2) && match e.2 with | some k => decide (k.port = p) && decide (k.rtag = v.rtag) | none => false
    match (if numAt r 4 2 = 0xFFFF then freeCredit s sl else had.map Prod.fst) with
    | none => queueTx s p 6 (responseBytes v.op 1 0 0 0 0xFFFF v.rtag none)
    | some k =>
      let n := match tget (fun _ => none) s.mzn.credits k with | some c => c.nacks | none => 0
      modPort (setCredit s k (some ⟨p, v.rtag, a / 64, n⟩)) p fun x => { x with served := x.served ++ [{ v with slice := sl, credit := some k }] }

/-- Check one request record in the order of R429. -/
def checkRequest (s : State) (p : Nat) (r data : List Byte) : State :=
  if !requestValid s p r then countMalformed (refuseRequest s p r stBadField) p
  else
    let op := numAt r 0 1
    let bad := countViolation (refuseRequest s p r stWindow) p
    match windowOf s p (numAt r 8 4) with
    | none => bad
    | some w =>
      if !(match op with | 1 => w.read | 2 => w.write | _ => w.atomic) || decide (w.size < numAt r 16 8 + numAt r 1 1) then bad
      else passRequest s p r data w

/-- REMOTE_REQUEST (R429): the receive engine takes the next record of VC 5, at most MRQ_P_RA_RATE per µs. -/
def execRemoteRequest (p : Nat) (s : State) : Out :=
  let x := portOf s p
  let used := if x.raTime = s.now / 1000 then x.raCount else 0
  match rxFront s p 5 with
  | none => .next s
  | some b =>
    if !portActive s p || decide (getR s .mrqPRaRate p ≤ used) then .next s
    else
      let n := if numAt b 0 1 = 2 ∨ numAt b 0 1 = 3 then 128 else 64
      let s1 := modPort (setRxFront s p 5 (b.drop n)) p fun y => { y with raTime := s.now / 1000, raCount := used + 1 }
      .next (checkRequest s1 p ((b ++ bytesOf 64 0).take 64) (((b.drop 64) ++ bytesOf 64 0).take 64))

/-- Send a request's record, with its home credit of the last NACK (R429, R430). -/
def sendRequest (s : State) (p : Nat) (r : RaReq) : State :=
  queueTx s p 5 (r.record ++ if r.op = 1 then [] else r.data)

/-- Change an outstanding request. -/
def modRequest (s : State) (p tag : Nat) (f : RaReq → RaReq) : State :=
  modPort s p fun x => { x with requests := x.requests.map fun r => if r.tag == tag then f r else r }

/-- The partner's engine answered NACK (R248): the request is sent again after its backoff, or at once when RESERVED. -/
def takeNack (s : State) (p : Nat) (q : RaReq) (r : List Byte) : State :=
  let n := numAt r 4 1
  let rec1 := patch q.record 4 2 (numAt r 6 2)
  let wait := if n = 0 then 250 else min (250 * 2 ^ (n - 1)) 4000
  if bit (numAt r 5 1) 0 then sendRequest (modRequest s p q.tag fun y => { y with record := rec1, due := none }) p { q with record := rec1 }
  else modRequest s p q.tag fun y => { y with record := rec1, due := some (s.now + wait) }

/-- A response completes its request block: the read data in line 2, then line 3 (R430). -/
def takeResponse (s : State) (p : Nat) (q : RaReq) (r data : List Byte) : State :=
  let s1 := modPort s p fun x => { x with requests := x.requests.erase q }
  let done := decide (numAt r 1 1 = 0)
  let s2 := if done && decide (q.op ≠ 2) then (writeFull s1 (portWing s p) ((q.block + 128) / 64) data).1 else s1
  completeBlock s2 p q.block (if done then 0 else numAt r 2 2) (numAt r 4 1)

/-- Take the next record of VC 6, if it is what the event says. A record that answers nothing outstanding, or whose fields
break R429, is discarded and counted malformed. -/
def remoteAnswer (s : State) (p : Nat) (nackOnly : Bool) : State :=
  match rxFront s p 6 with
  | none => s
  | some b =>
    let nack := decide (numAt b 1 1 = 1)
    if nackOnly && !nack then s
    else
      let withData := decide (numAt b 1 1 = 0) && decide (numAt b 0 1 ≠ 2)
      let n := if withData then 128 else 64
      let s1 := setRxFront s p 6 (b.drop n)
      match (portOf s p).requests.find? fun r => decide (r.tag = numAt b 24 8) && decide (r.op = numAt b 0 1) && r.due.isNone with
      | none => countMalformed s1 p
      | some q =>
        if 2 < numAt b 1 1 ∨ 2 ≤ numAt b 5 1 then countMalformed s1 p
        else if nack then takeNack s1 p q b
        else takeResponse s1 p q b (((b.drop 64) ++ bytesOf 64 0).take 64)

/-- REMOTE_RESPONSE (R429, R430). -/
def execRemoteResponse (p : Nat) (s : State) : Out := .next (remoteAnswer s p false)

/-- NACK (R248). -/
def execNack (p : Nat) (s : State) : Out := .next (remoteAnswer s p true)

/-- NACK_RETRY (R248): the backoff ends and the request is sent again with its credit. -/
def execNackRetry (p tag : Nat) (s : State) : Out :=
  match (portOf s p).requests.find? fun r => decide (r.tag = tag) && r.due.isSome with
  | none => .next s
  | some q =>
    let s1 := notBefore s (q.due.getD 0)
    .next (sendRequest (modRequest s1 p tag fun y => { y with due := none }) p q)

/-- The submitter may use the port: a context of the wing that owns it, or the PF (R430). -/
def mayUsePort (s : State) (p : Nat) : Requester → Bool
  | .fn f => decide (f = 0)
  | .usher u => decide (groupWing s (u / 16) = portWing s p)

/-- A write of MRQ_P_RA_SUBMIT (R430). -/
def submitRequest (s : State) (who : Requester) (p a : Nat) : State :=
  let ok := decide (a % 256 = 0) && !isHostAddr a && !isStream (a / 64) && mayUsePort s p who &&
    match portWing s p with | some w => grantedTo s w a 256 | none => false
  if !ok then addR s .mrqPRaRefused 1 p
  else if 64 ≤ (portOf s p).requests.length then completeBlock s p a stRefusedOverload 0
  else if portState s p = 7 then completeBlock s p a stQuarantined 0
  else if !portActive s p then completeBlock s p a stPeerLost 0
  else
    let (s1, r0, e0) := readNc s (portWing s p) (a / 64)
    let op := numAt r0 0 1
    let (s2, d, e1) := if op = 1 then (s1, [], 0) else readNc s1 (portWing s p) (a / 64 + 1)
    let bad := if e0 ≠ 0 then e0 else e1
    if bad ≠ 0 then completeBlock s2 p a bad 0
    else
      let q : RaReq := ⟨numAt r0 24 8, a, op, patch r0 4 2 0xFFFF, d, none⟩
      sendRequest (modPort s2 p fun x => { x with requests := x.requests ++ [q] }) p q

/-- RA_SUBMIT (R430). -/
def execRaSubmit (who : Requester) (p : Nat) (addr : W64) (s : State) : Out :=
  .next (if portHere s p then submitRequest s who p addr.toNat else s)

end Sys2Proof.Machine
end

