-- ==== Sys2Proof/Machine/TimeSync.lean ====
section
/-! DEFINITION. Shared time (R448 to R454). -/

namespace Sys2Proof.Machine

/-- Shared time jumps by a difference; Porter time goes on (R448, R450, R483). -/
def jumpTime (s : State) (d : Nat) : State :=
  { s with now := s.now + d, porter := { s.porter with localBase := s.porter.localBase - d } }

/-- The device is the timekeeper. -/
def timekeeper (s : State) : Bool := bit (getR s .timCtrl) 0

/-- Set SYNCED; a change is an event and ends or starts the unsynchronised time (R452). -/
def setSynced (s : State) (on : Bool) : State :=
  if synced s = on then s
  else
    let s1 := setField s .timStatus 0 1 (b2n on)
    let s2 := if on then addR s1 .timUnsyncNs (s.now - s.tim.since) else { s1 with tim := { s1.tim with since := s.now, good := 0 } }
    setSticky s2 .timEvents .timEventEn (if on then 2 else 1)

/-- The port that a follower follows (R448, R454). -/
def upstream (s : State) : Option Nat :=
  let c := getR s .timCtrl
  if bit c 0 then none
  else if s.tim.alt then (if bit c 22 then some (bits c 16 6) else none)
  else if bit c 14 then some (bits c 8 6)
  else none

/-- A follower without an ACTIVE upstream holds over (R452, R454, R456). -/
def showHoldover (s : State) : State :=
  let on := !timekeeper s && match upstream s with | some p => !portActive s p | none => true
  setField s .timStatus 4 1 (b2n on)

/-- TIM_CTRL takes a new value (R448, R454, R456): the timekeeper is always synchronised, at 0 hops. -/
def timCtrlWritten (s : State) (v : Nat) : State :=
  let s1 := setR { s with tim := { s.tim with alt := false } } .timCtrl v
  if bit v 0 then
    let s2 := setField (setField s1 .timStatus 1 3 0) .timStatus 5 1 0
    showHoldover (setSynced { s2 with tim := { s2.tim with slew := 0 } } true)
  else showHoldover (if timekeeper s then { s1 with tim := { s1.tim with lastValid := s.now } } else s1)

/-- FLAGS of a probe: SYNCED and HOPS (R449). -/
def probeFlags (s : State) : Nat := fieldR s .timStatus 0 4

/-- The 48 payload bytes of a probe (R449). -/
def probeBytes (type id t1 t2 flags : Nat) : List Byte :=
  bytesOf 1 type ++ bytesOf 1 0 ++ bytesOf 2 id ++ bytesOf 4 0 ++ bytesOf 8 t1 ++ bytesOf 8 t2 ++ bytesOf 8 0 ++ bytesOf 1 flags ++ bytesOf 15 0

/-- TIME_PROBE_SEND (R449): every 100 µs; T1 is written when the request leaves. -/
def execTimeProbeSend (p : Nat) (s : State) : Out :=
  .next (if portActive s p then
      let s1 := notBefore s (portOf s p).probeDue
      modPort (queueTx s1 p 1 (probeBytes 1 (portOf s p).nextProbe 0 0 (probeFlags s))) p fun x =>
        { x with probeDue := s1.now + 100000, nextProbe := (x.nextProbe + 1) % 2 ^ 16 }
    else s)

/-- TIME_PROBE_REQUEST (R449): T2 is the time of its arrival; T3 is written when the response leaves. -/
def execTimeProbeRequest (p : Nat) (s : State) : Out :=
  match rxFront s p 1 with
  | none => .next s
  | some b =>
    .next (if numAt b 0 1 = 1 ∧ portActive s p then
        queueTx (takeRx s p 1) p 1 (probeBytes 2 (numAt b 2 2) (numAt b 8 8) (numAt b 48 8) (probeFlags s))
      else s)

/-- A signed number that saturates at 32 bits. -/
def saturate32 (o : Int) : Nat := ofSigned 32 (max (-2147483648) (min 2147483647 o))

/-- A follower disciplines its counter from a valid measurement (R450, R452). -/
def discipline (s : State) (o : Int) (hops : Nat) : State :=
  let s1 := setField (setField s .timStatus 1 3 (min 7 (hops + 1))) .timStatus 4 1 0
  let s2 := if 2000 < o.natAbs then setSynced s1 false else s1
  let s3 :=
    if 10000 < o then
      setSticky (setField { jumpTime s2 o.toNat with tim := { s2.tim with slew := 0 } } .timStatus 5 1 0) .timEvents .timEventEn 4
    else setField { s2 with tim := { s2.tim with slew := o } } .timStatus 5 1 (b2n (decide (o ≠ 0)))
  let s4 := { s3 with tim := { s3.tim with lastValid := s3.now, good := if o.natAbs ≤ 500 then s3.tim.good + 1 else 0 } }
  if !synced s4 && decide (8 ≤ s4.tim.good) then setSynced s4 true else s4

/-- TIME_PROBE_RESPONSE (R449 to R452): the delay and the offset of the link, and a follower's discipline. A response that
answers no awaited probe is discarded. -/
def execTimeProbeResponse (p : Nat) (s : State) : Out :=
  match rxFront s p 1 with
  | none => .next s
  | some b =>
    if numAt b 0 1 ≠ 2 then .next s
    else
      let s1 := takeRx s p 1
      match (portOf s p).probe with
      | none => .next s1
      | some (id, t1) =>
        if numAt b 2 2 ≠ id then .next s1
        else
          let t2 : Int := numAt b 16 8
          let t3 : Int := numAt b 24 8
          let t4 : Int := numAt b 48 8
          let d := ((t4 - t1) - (t3 - t2)) / 2
          let o := ((t2 - t1) + (t3 - t4)) / 2
          let s2 := setR (modPort s1 p fun x => { x with probe := none }) .mrqPDelayNs (min d.toNat (2 ^ 32 - 1)) p
          .next (if upstream s2 = some p then
              let s3 := setR s2 .timOffsetNs (saturate32 o)
              if bit (numAt b 32 1) 0 then discipline s3 o (bits (numAt b 32 1) 1 3)
              else if 2000 < o.natAbs then setSynced s3 false else s3
            else s2)

/-- SYNC_TIMEOUT (R452): no valid measurement from a synchronised responder for 40 ms. -/
def execSyncTimeout (s : State) : Out :=
  .next (if !timekeeper s && synced s then setSynced (notBefore s (s.tim.lastValid + 40000000)) false else s)

/-- A write of TIM_SET (R448, R456): on the timekeeper alone, and never backwards. -/
def timSetWritten (s : State) (who : Requester) (v : Nat) : State :=
  if timekeeper s && decide (s.now ≤ v) then jumpTime s (v - s.now) else discardWrite s who (regOff .timSet 0 0) v stBadField

/-- TIM_SET (R448). -/
def execTimSet (who : Requester) (value : W64) (s : State) : Out := .next (timSetWritten s who value.toNat)

end Sys2Proof.Machine
end

