-- ==== Sys2Proof/Machine/Lantern.lean ====
section
/-! DEFINITION. The Lantern event unit: neurons, events, windows, table loads and injection (R200 to R223, R346, R347). -/

namespace Sys2Proof.Machine

/-- A Lantern core. -/
def lcore (s : State) (c : Nat) : LCore := tget (fun _ => resetCore) s.cores c

/-- Change a Lantern core. -/
def modCore (s : State) (c : Nat) (f : LCore → LCore) : State := { s with cores := tmod (fun _ => resetCore) s.cores c f }

/-- The core is running: ENABLE is 1 (R201). -/
def coreOn (s : State) (c : Nat) : Bool := present s .lantern c && bit (getR s .lntCoreCfg c) 0

/-- The core is in timed mode (R224). -/
def timed (s : State) (c : Nat) : Bool := !bit (getR s .lntCoreCfg c) 1

/-- The core is a policy core (R214). -/
def isPolicy (s : State) (c : Nat) : Bool := bit (getR s .lntCoreCfg c) 2

/-- In P2 the Lantern is frozen (R222). -/
def lanternFrozen (s : State) : Bool := decide (2 ≤ s.store.power.current)

/-- Set sticky bits of LNT_EVENTS. -/
def lntEvent (s : State) (c m : Nat) : State := setSticky s .lntEvents .lntEventEn m c

/-- The class of a source address (R207). -/
def srcClass (src : Nat) : Nat := src / 2 ^ 22

/-- The address within the class. -/
def srcAddr (src : Nat) : Nat := src % 2 ^ 22

/-- The drop counter of a class (R212). -/
def dropReg (cls : Nat) : Reg :=
  match cls with | 0 => .lntDropNeuron | 1 => .lntDropHit | 2 => .lntDropPut | _ => .lntDropHost

/-- An event arrives at a core: it enters the input buffer, or is dropped and counted when the buffer is full, the core is not
enabled or the Lantern is frozen (R212, R222, R224). -/
def arriveEvent (s : State) (c : Nat) (e : LEvent) : State :=
  if !coreOn s c || lanternFrozen s || decide (4096 ≤ (lcore s c).buffer.length) then
    lntEvent (addR s (dropReg (srcClass e.src)) 1 c) c 1
  else modCore s c fun x => { x with buffer := x.buffer ++ [e] }

/-- An event is dropped on arrival. -/
def wouldDrop (s : State) (c : Nat) : Bool := !coreOn s c || lanternFrozen s || decide (4096 ≤ (lcore s c).buffer.length)

/-- Send an event to a core; events of one sender arrive in the order sent (R212). -/
def sendEvent (s : State) (sender c : Nat) (e : LEvent) : State :=
  if present s .lantern c then modCore s c fun x => { x with net := x.net ++ [(sender, e)] } else s

/-- LANTERN_EVENT_ARRIVAL (R212): the first event of a sender that is on its way to the core arrives. -/
def execLanternEventArrival (c sender : Nat) (s : State) : Out :=
  match (lcore s c).net.find? fun e => e.1 == sender with
  | none => .next s
  | some e => .next (arriveEvent (modCore s c fun x => { x with net := x.net.erase e }) c e.2)

/-! ### Neurons (R202 to R204) -/

/-- Replace a field of a number. -/
def putBits (x lo w v : Nat) : Nat := x - bits x lo w * 2 ^ lo + v % 2 ^ w * 2 ^ lo

/-- A neuron's state as a number. -/
def neuronOf (x : LCore) (i : Nat) : Nat := (tget (fun _ => 0) x.neurons i).toNat

/-- Set a neuron's state. -/
def setNeuron (x : LCore) (i v : Nat) : LCore := { x with neurons := tset (fun _ => 0) x.neurons i (BitVec.ofNat 128 v) }

/-- POT (R202). -/
def potOf (n : Nat) : Int := toSigned 16 n

/-- Set POT and LAST. -/
def withPot (n : Nat) (pot : Int) (last : Nat) : Nat := putBits (putBits n 0 16 (ofSigned 16 pot)) 64 64 last

/-- One leak step (R203): the division rounds toward zero. -/
def leakStep (sh : Nat) (v : Int) : Int :=
  let d := v.tdiv (2 ^ sh : Nat)
  v - (if d = 0 then v.sign else d)

/-- Leak steps one after another. -/
def leakN (sh : Nat) : Nat → Int → Int
  | 0, v => v
  | n + 1, v => if v = 0 then 0 else leakN sh n (leakStep sh v)

/-- A neuron brought up to a time: leaked in timed mode, with its LAST (R203). Every potential reaches 0 within 65,536
steps. -/
def leakTo (s : State) (c n t : Nat) : Nat :=
  let last := bits n 64 64
  if timed s c then
    let tick := max 1 (getR s .lntTickNs c)
    withPot n (leakN (bits n 32 4) (min (if t < last then 0 else t / tick - last / tick) 65536) (potOf n)) (max last t)
  else withPot n (potOf n) t

/-- Saturate to an i16 (R204). -/
def sat16 (x : Int) : Int := max (-32768) (min 32767 x)

/-- A core counts an uncorrectable word (R223). -/
def lntEcc (s : State) (c : Nat) : State := lntEvent (addR s .lntEccUncorr 1 c) c 16

/-- Issue an action of a neuron into the queue towards the Cloister (R217). -/
def issueAction (s : State) (c code i : Nat) : State :=
  if code = 0 then s
  else
    let s1 := addR s .lntActions 1 c
    if (lcore s c).queue.length < 1024 then modCore s1 c fun x => { x with queue := x.queue ++ [(code, i)] }
    else lntEvent (addR s1 .lntActionDrops 1 c) c 4

/-- A group's action word (R215). -/
def actionWord (s : State) (c g : Nat) : Nat := (tget (fun _ => 0) (lcore s c).actions g).toNat

/-- What a spike of a neuron does beside its RESET (R204). -/
def spike (s : State) (c i t : Nat) (bad : LntBad) : State :=
  let n := neuronOf (lcore s c) i
  let g := bits n 40 8
  let s1 := modCore (addR s .lntSpikes 1 c) c fun x =>
    { x with active := tmod (fun _ => 0) x.active g fun k => min (k + 1) 0xFFFFFFFF
             spiked := if x.spiked.contains i then x.spiked else x.spiked ++ [i] }
  let s2 := (maskHalls (bits n 48 16)).foldl (fun t1 k => sendEvent t1 c k ⟨c * 65536 + i, t + 1⟩) s1
  if bad.actions.contains g then lntEcc s2 c else issueAction s2 c (bits (actionWord s2 c g) 0 4) i

/-- One synapse adds its weight to a neuron, which may spike (R204). -/
def synapse (bad : LntBad) (c t : Nat) (s : State) (e : Nat × Int) : State :=
  let n := leakTo s c (neuronOf (lcore s c) e.1) t
  let pot := sat16 (potOf n + e.2)
  let th := bits n 16 15
  let fires := decide (th ≠ 0) && decide ((th : Int) ≤ pot)
  let after := if fires then (if bit n 31 then sat16 (pot - th) else 0) else pot
  let s1 := modCore (addR s .lntSynops 1 c) c fun x => setNeuron x e.1 (withPot n after (bits n 64 64))
  if fires then spike s1 c e.1 t bad else s1

/-- The synapses of a kernel slot on an anchor, in slot order (R210). -/
def kernelSynapses (s : State) (c slot anchor : Nat) (bad : LntBad) : List (Nat × Int) :=
  let k := (tget (fun _ => 0) (lcore s c).kernels slot).toNat
  (List.range 16).filterMap fun i =>
    let e := bits k (32 * i) 32
    let at_ : Int := anchor + toSigned 16 e
    if bit e 31 && !bad.kernels.contains (16 * slot + i) && decide (0 ≤ at_) && decide (at_ < 65536) then
      some (at_.toNat, toSigned 8 (bits e 16 8)) else none

/-- The synapses of a list, in list order (R209). -/
def listSynapses (s : State) (c off len : Nat) (bad : LntBad) : List (Nat × Int) :=
  (List.range len).filterMap fun i =>
    let e := (tget (fun _ => 0) (lcore s c).lists (off + i)).toNat
    if bad.lists.contains (off + i) then none else some (bits e 0 16, toSigned 8 (bits e 20 8))

/-- The entry in use that holds a source, the lowest (R208). -/
def sourceIndex (x : LCore) (src : Nat) : Option Nat :=
  (x.sources.find? fun e => bit e.2.toNat 24 && bits e.2.toNat 0 24 == src).map Prod.fst

/-- The synapses of an event (R204, R208, R215). -/
def synapsesOf (s : State) (c : Nat) (e : LEvent) (bad : LntBad) : List (Nat × Int) :=
  let pol := getR s .lntPolicy c
  match srcClass e.src with
  | 1 => if bit pol 16 then kernelSynapses s c (bits pol 0 8) (bits (srcAddr e.src) 2 16) bad else []
  | 2 => if bit pol 17 then kernelSynapses s c (bits pol 8 8) (bits (srcAddr e.src) 2 16) bad else []
  | _ =>
    match sourceIndex (lcore s c) e.src with
    | none => []
    | some k =>
      let x := (tget (fun _ => 0) (lcore s c).sources k).toNat
      if bad.source then []
      else (if bit x 72 then kernelSynapses s c (bits x 64 8) (bits x 80 16) bad else []) ++ listSynapses s c (bits x 32 20) (bits x 52 12) bad

/-- The words of an event's synapses that are uncorrectable (R223). -/
def badWords (s : State) (c : Nat) (e : LEvent) (bad : LntBad) : Nat :=
  let pol := getR s .lntPolicy c
  let slot := fun n => (bad.kernels.filter fun k => decide (k / 16 = n)).length
  match srcClass e.src with
  | 1 => if bit pol 16 then slot (bits pol 0 8) else 0
  | 2 => if bit pol 17 then slot (bits pol 8 8) else 0
  | _ =>
    match sourceIndex (lcore s c) e.src with
    | none => 0
    | some k =>
      let x := (tget (fun _ => 0) (lcore s c).sources k).toNat
      if bad.source then 1
      else (if bit x 72 then slot (bits x 64 8) else 0) +
        (bad.lists.filter fun i => decide (bits x 32 20 ≤ i) && decide (i < bits x 32 20 + bits x 52 12)).length

/-- Handle one event (R203, R204, R223). -/
def handleEvent (s : State) (c : Nat) (e : LEvent) (bad : LntBad) : State :=
  let syn := synapsesOf s c e bad
  let s1 := (List.range (badWords s c e bad)).foldl (fun t _ => lntEcc t c) (addR s .lntInEvents 1 c)
  let hurt := bad.neurons.filter fun i => syn.any fun y => decide (y.1 = i)
  let s2 := hurt.foldl (fun t i => lntEcc (modCore t c fun x => setNeuron x i (e.time % 2 ^ 64 * 2 ^ 64)) c) s1
  modCore (syn.foldl (synapse bad c e.time) s2) c fun x => { x with last := e.time }

/-! ### The order of events, and windows (R205, R206, R213, R216) -/

/-- The frontier (R205). -/
def frontier (s : State) (c : Nat) : Nat := s.now - getR s .lntHorizonNs c

/-- The time that a core's windows follow (R213). -/
def coreTime (s : State) (c : Nat) : Nat := if timed s c then frontier s c else s.now

/-- The end of the open window. -/
def windowEnd (s : State) (c : Nat) : Nat := ((lcore s c).window + 1) * getR s .lntWindowNs c

/-- The least event of the buffer by (timestamp, source class, source address, arrival) (R205). -/
def leastEvent : List LEvent → Option LEvent
  | [] => none
  | e :: es =>
    match leastEvent es with
    | none => some e
    | some x => if [x.time, x.src] < [e.time, e.src] then some x else some e

/-- The event that a core handles next, if one is due (R205, R206), and whether it is late. Events of a later window wait
until the window has closed. -/
def dueEvent (s : State) (c : Nat) : Option (LEvent × Bool) :=
  let x := lcore s c
  if timed s c then
    match x.buffer.find? fun e => decide (e.time < x.last) with
    | some e => some (e, true)
    | none =>
      match leastEvent x.buffer with
      | none => none
      | some e => if e.time ≤ frontier s c ∧ e.time < windowEnd s c then some (e, false) else none
  else if s.now < windowEnd s c then x.buffer.head?.map fun e => (e, false)
  else none

/-- Staged settings take effect at a Landing of the core (R47, R201). -/
def coreLanding (s : State) (c : Nat) : State := landR (landR s .lntHorizonNs c) .lntPolicy c

/-- LANTERN_EVENT (R204, R205, R206): the core handles the buffered event that is due. -/
def execLanternEvent (c : Nat) (bad : LntBad) (s : State) : Out :=
  let s0 := coreLanding s c
  if !coreOn s c || lanternFrozen s then .next s
  else
    match dueEvent s0 c with
    | none => .next s0
    | some (e, late) =>
      let s1 := modCore s0 c fun x => { x with buffer := x.buffer.erase e }
      .next (handleEvent (if late then lntEvent (addR s1 .lntLate 1 c) c 2 else s1) c e bad)

/-- The silent scan of one neuron (R216). -/
def scanNeuron (c end_ : Nat) (bad : LntBad) (s : State) (i : Nat) : State :=
  let n := neuronOf (lcore s c) i
  let g := bits n 40 8
  let w := actionWord s c g
  if bits w 4 4 = 0 ∨ (lcore s c).spiked.contains i then s
  else if bad.actions.contains g then lntEcc s c
  else if bad.neurons.contains i then lntEcc (modCore s c fun x => setNeuron x i (end_ % 2 ^ 64 * 2 ^ 64)) c
  else
    let m := if timed s c then leakTo s c n end_ else n
    let s1 := modCore s c fun x => setNeuron x i m
    if potOf m < toSigned 16 (bits w 8 16) then issueAction s1 c (bits w 4 4) i else s1

/-- The silent scan (R216): it visits every neuron whose group has a SILENT_ACTION, in ascending order. -/
def silentScan (s : State) (c end_ : Nat) (bad : LntBad) : State :=
  if (lcore s c).actions.any fun e => decide (bits e.2.toNat 4 4 ≠ 0) then (List.range 65536).foldl (scanNeuron c end_ bad) s else s

/-- Close the open window (R213). -/
def closeWindow (s : State) (c : Nat) (bad : LntBad) : State :=
  let e := windowEnd s c
  let s1 := silentScan s c e bad
  let act := (lcore s1 c).active
  let s2 := (List.range 256).foldl (fun t g => setR t .lntCount (tget (fun _ => 0) act g) c g) s1
  let s3 := modCore s2 c fun x => { x with active := [], window := x.window + 1, spiked := [] }
  lntEvent (addR (setR s3 .lntWindowEnd e c) .lntWindowSeq 1 c) c 8

/-- Events of the open window are still buffered and will be handled before it closes. -/
def windowBusy (s : State) (c : Nat) : Bool := timed s c && (lcore s c).buffer.any fun e => decide (e.time < windowEnd s c)

/-- WINDOW_CLOSE (R213): the frontier, or shared time, reaches the window's end. -/
def execWindowClose (c : Nat) (bad : LntBad) (s : State) : Out :=
  if !coreOn s c || lanternFrozen s || windowBusy s c then .next s
  else
    let due := windowEnd s c + if timed s c then getR s .lntHorizonNs c else 0
    .next (closeWindow (coreLanding { s with now := max s.now due } c) c bad)

/-- A core starts to run: the window that holds its time is open (R213). -/
def startCore (s : State) (c : Nat) : State :=
  modCore s c fun x => { x with window := coreTime s c / max 1 (getR s .lntWindowNs c), spiked := [] }

/-- Close the windows that ended while the Lantern was frozen, one after another (R222). -/
def thawCore (s : State) (c : Nat) : State :=
  if coreOn s c then
    (List.range (coreTime s c / max 1 (getR s .lntWindowNs c) - (lcore s c).window)).foldl (fun t _ => closeWindow t c LntBad.none) s
  else s

/-! ### Table loads (R218, R346) -/

/-- Bytes of one entry and entries of a table (R346). -/
def tableShape (kind : Nat) : Nat × Nat :=
  match kind with | 0 => (16, 65536) | 1 => (16, 65536) | 2 => (16, 65536) | 3 => (4, 1048576) | 4 => (64, 256) | _ => (4, 256)

/-- The entries of a load's source. -/
def loadEntries (n : Nat) : Nat → List Byte → List (List Byte)
  | 0, _ => []
  | k + 1, b => b.take n :: loadEntries n k (b.drop n)

/-- The 32-bit words of a kernel slot. -/
def kernelWords (e : List Byte) : List Nat := (List.range 16).map fun i => numAt e (4 * i) 4

/-- An entry carries a delay (R211). -/
def entryDelayed (kind : Nat) (e : List Byte) : Bool :=
  match kind with
  | 3 => decide (bits (numAt e 0 4) 28 4 ≠ 0)
  | 4 => (kernelWords e).any fun w => decide (bits w 24 4 ≠ 0)
  | _ => false

/-- A reserved bit of an entry is set (R202, R208 to R210, R215). -/
def entryReservedSet (kind : Nat) (e : List Byte) : Bool :=
  match kind with
  | 0 => decide (bits (numAt e 0 8) 36 4 ≠ 0)
  | 1 => decide (bits (numAt e 0 8) 25 7 ≠ 0) || decide (bits (numAt e 8 8) 9 7 ≠ 0) || decide (bits (numAt e 8 8) 32 32 ≠ 0)
  | 2 => decide (bits (numAt e 0 8) 25 7 ≠ 0) || decide (bits (numAt e 8 8) 9 7 ≠ 0) || decide (bits (numAt e 8 8) 32 32 ≠ 0)
  | 3 => false
  | 4 => (kernelWords e).any fun w => decide (bits w 28 3 ≠ 0)
  | _ => decide (bits (numAt e 0 4) 24 8 ≠ 0)

/-- A field of an entry breaks a rule of R218. -/
def entryBad (s : State) (c kind : Nat) (e : List Byte) : Bool :=
  let w := numAt e 0 8
  match kind with
  | 0 => (maskHalls (bits w 48 16)).any fun k => !present s .lantern k || decide (groupWing s k ≠ groupWing s c)
  | 1 => decide (1048576 < bits w 32 20 + bits w 52 12)
  | 2 => decide (1048576 < bits w 32 20 + bits w 52 12)
  | 3 => decide (bits (numAt e 0 4) 16 4 ≠ c)
  | 4 => false
  | _ =>
    let a := numAt e 0 4
    decide (4 < bits a 0 4) || decide (4 < bits a 4 4) || (!isPolicy s c && decide (bits a 0 8 ≠ 0))

/-- The lowest free source entry (R346). -/
def freeSource (x : LCore) : Option Nat := (List.range 65536).find? fun i => !bit (tget (fun _ => 0) x.sources i).toNat 24

/-- Only the last entry for each SOURCE of a load stands (R346). -/
def lastEntries : List (List Byte) → List (List Byte)
  | [] => []
  | e :: es => if es.any fun y => numAt y 0 3 == numAt e 0 3 then lastEntries es else e :: lastEntries es

/-- Place source entries by SOURCE; none when too few entries are free (R346). -/
def placeSources (x : LCore) : List (List Byte) → Option LCore
  | [] => some x
  | e :: es =>
    let v := BitVec.ofNat 128 (numAt e 0 16)
    let put := fun i (w : BitVec 128) => { x with sources := tset (fun _ => 0) x.sources i w }
    match sourceIndex x (numAt e 0 3), bit (numAt e 0 4) 24 with
    | some i, true => placeSources (put i v) es
    | some i, false => placeSources (put i 0) es
    | none, true => match freeSource x with | some i => placeSources (put i v) es | none => none
    | none, false => placeSources x es

/-- Write one entry of a contiguous load. -/
def putEntry (kind : Nat) (x : LCore) (i : Nat) (e : List Byte) : LCore :=
  match kind with
  | 0 => { x with neurons := tset (fun _ => 0) x.neurons i (BitVec.ofNat 128 (numAt e 0 16)) }
  | 1 => { x with sources := tset (fun _ => 0) x.sources i (BitVec.ofNat 128 (numAt e 0 16)) }
  | 3 => { x with lists := tset (fun _ => 0) x.lists i (BitVec.ofNat 32 (numAt e 0 4)) }
  | 4 => { x with kernels := tset (fun _ => 0) x.kernels i (BitVec.ofNat 512 (numAt e 0 64)) }
  | _ => { x with actions := tset (fun _ => 0) x.actions i (BitVec.ofNat 32 (numAt e 0 4)) }

/-- The core with a load in effect, whole (R218). -/
def applyLoad (x : LCore) (kind first : Nat) (es : List (List Byte)) : LCore :=
  if kind = 2 then (placeSources x (lastEntries es)).getD x
  else ((List.range es.length).zip es).foldl (fun y p => putEntry kind y (first + p.1) p.2) x

/-- Every descriptor that the core has accepted has done its work: it runs them one at a time (R329). -/
def lanternIdle (s : State) (c : Nat) : Bool := (unitOf s 2 c).accepted.all fun d => d.result.isSome

/-- The checks of an LNT_LOAD: its delays ahead of all but absence, its entry, then its source (R211, R218, R346, R550). -/
def loadFail (s : State) (c : Nat) (d : Desc) : Option Nat :=
  let kind := d.num 16 1
  let first := d.num 20 4
  let n := d.num 24 4
  let src := d.num 28 8
  let sh := tableShape kind
  let len := n * sh.1
  let readable := descMay s d src len && !noRead s src len && (readFail s src len).isNone && decide (kind ≤ 5) && decide (n ≤ sh.2)
  let es := if readable then loadEntries sh.1 n (memRead s src len) else []
  if !present s .lantern c then some stUnitAbsent
  else if unitFaulted s 2 c then some stUnitFault
  else if es.any (entryDelayed kind) then some stDelayUnsupported
  else
    ((descFail s 2 c d
      { named := [(16, 1), (20, 16)]
        fields := [(decide (5 < kind), stBadField), (n = 0, stBadField),
          (if kind = 2 then decide (first ≠ 0) || decide (65536 < n) else decide (sh.2 < first + n), stBadField)]
        align := [(misaligned src, stBadAlign)]
        window := [(!descMay s d src len, stWindow)]
        trans := [(noRead s src len, stNoTranslation)] }).or (readFail s src len)).or
      (firstFail [(es.any (entryReservedSet kind), stReservedSet), (es.any (entryBad s c kind), stBadField),
        (kind = 2 && (placeSources (lcore s c) (lastEntries es)).isNone, stRefusedSpace)])

/-- LNT_LOAD_DESC (R218, R346): an accepted load waits for a Landing of a running core, and takes effect at once on another. -/
def execLntLoadDesc (c id : Nat) (s : State) : Out :=
  if !lanternIdle s c then .next s
  else
    .next <| withDesc s 2 c id 0x30 fun d s1 =>
      match loadFail s1 c d with
      | some st => refuseDesc s1 2 c id st
      | none =>
        let kind := d.num 16 1
        let sh := tableShape kind
        let es := loadEntries sh.1 (d.num 24 4) (memRead s1 (d.num 28 8) (d.num 24 4 * sh.1))
        let s2 := touchRead s1 (some d.wing) (d.num 28 8) (d.num 24 4 * sh.1)
        if coreOn s2 c then modCore s2 c fun x => { x with loads := x.loads ++ [⟨id, kind, d.num 20 4, es⟩] }
        else endDesc (modCore s2 c fun x => applyLoad x kind (d.num 20 4) es) 2 c id stOk 0

/-- LNT_LOAD_APPLY (R218): the load takes effect whole at a Landing. -/
def execLntLoadApply (c : Nat) (s : State) : Out :=
  match (lcore s c).loads with
  | [] => .next s
  | l :: ls =>
    .next (endDesc (modCore (coreLanding s c) c fun x => applyLoad { x with loads := ls } l.kind l.first l.entries) 2 c l.desc stOk 0)

/-- The events of an injection (R347): a timestamp of 0 stands for the time of acceptance. -/
def injectEvents (now : Nat) (es : List (List Byte)) : List LEvent :=
  es.map fun e => ⟨3 * 2 ^ 22 + bits (numAt e 0 4) 0 22, if numAt e 8 8 = 0 then now else numAt e 8 8⟩

/-- The entries at the source of an injection. -/
def injectEntries (s : State) (d : Desc) : List (List Byte) := loadEntries 16 (d.num 16 2) (memRead s (d.num 24 8) (16 * d.num 16 2))

/-- The first check that an LNT_INJECT fails, if one does (R347, R550). -/
def injectFail (s : State) (c : Nat) (d : Desc) : Option Nat :=
  let n := d.num 16 2
  let src := d.num 24 8
  ((descFail s 2 c d
    { named := [(16, 2), (24, 8)]
      fields := [(n = 0 || decide (512 < n), stBadField)]
      align := [(misaligned src, stBadAlign)]
      window := [(!descMay s d src (16 * n), stWindow)]
      trans := [(noRead s src (16 * n), stNoTranslation)] }).or (readFail s src (16 * n))).or
    (firstFail [((injectEntries s d).any fun e => decide (2 ^ 22 ≤ numAt e 0 8), stReservedSet)])

/-- LNT_INJECT_DESC (R219, R347): HOST events enter the input buffer in order; COUNT is the number dropped. -/
def execLntInjectDesc (c id : Nat) (s : State) : Out :=
  if !lanternIdle s c then .next s
  else
    .next <| withDesc s 2 c id 0x31 fun d s1 =>
      match injectFail s1 c d with
      | some st => refuseDesc s1 2 c id st
      | none =>
        let r := (injectEvents s1.now (injectEntries s1 d)).foldl (fun (a : State × Nat) e => (arriveEvent a.1 c e, a.2 + b2n (wouldDrop a.1 c)))
          (touchRead s1 (some d.wing) (d.num 24 8) (16 * d.num 16 2), 0)
        endDesc r.1 2 c id stOk r.2

end Sys2Proof.Machine
end

