-- ==== Sys2Proof/Machine/Quant.lean ====
section
/-! DEFINITION. The quantiser: QUANT and DEQUANT (R161 to R179, R344, R345). -/

namespace Sys2Proof.Machine

/-- The output settings of a stream (R179). -/
structure QCfg where
  /-- 0 Bell-4, 1 BF16, 2 E4M3, 3 E5M2. -/
  format : Nat
  away : Bool
  escape : Bool
  /-- 0 ABSMAX, 1 SUPPLIED, 2 NONE. -/
  tsmode : Nat
  srf : Bool
  clip : Nat
  wide : List Nat
  deriving DecidableEq, Repr

/-- The settings of an engine's stream (R179). -/
def streamCfg (s : State) (e n : Nat) : QCfg :=
  let c := getR s .qntCfg e n
  let lanes := [getR s .qntWide01 e n, getR s .qntWide23 e n, getR s .qntWide45 e n, getR s .qntWide67 e n].flatMap
    fun x => [bits x 0 16, bits x 16 16]
  ⟨bits c 0 2, bit c 2, bit c 3, bits c 4 2, bit c 6, bits c 7 4, lanes.take (bits c 11 4)⟩

/-- The wide list is strictly ascending and below D (R170). -/
def wideOk (d : Nat) : List Nat → Bool
  | [] => true
  | [a] => decide (a < d)
  | a :: b :: t => decide (a < b) && wideOk d (b :: t)

/-- Statistics of a quantisation (R178): the squared-error sum and the four counts. -/
structure QStats where
  sse : FP
  count : Nat
  sat : Nat
  esc : Nat
  nonfinite : Nat
  deriving DecidableEq, Repr

/-- No elements yet. -/
def noStats : QStats := ⟨.fin false 0 0, 0, 0, 0, 0⟩

/-- What a quantised row consists of: codes or encodings by channel, the token scale, side entries and wide values. -/
structure QRow where
  codes : List Nat
  ts : Nat
  side : List (Nat × Nat)
  wide : List Nat
  deriving DecidableEq, Repr

/-- Insert into a list in descending order of magnitude. -/
def insertDesc (x : FP) : List FP → List FP
  | [] => [x]
  | y :: ys => if y.lt x then x :: y :: ys else y :: insertDesc x ys

/-- The token scale of a row under ABSMAX (R165). -/
def absmaxScale (clip : Nat) (as : List FP) : FP :=
  let l := as.foldl (fun acc a => insertDesc a.abs acc) []
  let top := match l[clip]? with | some a => a | none => l.getLast?.getD (.fin false 0 0)
  match top.round bf16 .up with
  | .inf _ => bf16Max
  | t => t

/-- One rounding to binary64 of a sum. -/
def add64 (x y : FP) : FP := (FP.add x y).near fp64

/-- The squared error of an element in units of y, in binary64 (R178). -/
def sqErr (y g : FP) : FP := let e := (FP.sub y g).near fp64; (FP.mul e e).near fp64

/-- Count one finite element (R178). -/
def QStats.add (q : QStats) (y g : FP) : QStats := { q with sse := add64 q.sse (sqErr y g), count := q.count + 1 }

/-- One element of a Bell-4 row that is not wide (R167, R168, R171). -/
def bellElem (cfg : QCfg) (ts : FP) (c : Nat) (a : FP) (acc : QRow × QStats) : QRow × QStats :=
  let (row, st) := acc
  if a.isNan then ({ row with codes := row.codes ++ [0] }, { st with nonfinite := st.nonfinite + 1 })
  else
    let y := if ts.isZero then (if a.finite then .fin false 0 0 else a) else FP.div fp32 a ts
    let st1 := if a.finite then st else { st with nonfinite := st.nonfinite + 1 }
    if beyond512 y 512 false then
      if cfg.escape && decide ((row.side.filter fun e => e.1 / 256 == c / 256).length < 16) then
        let v := y.near bf16
        let st2 := { st1 with esc := st1.esc + 1 }
        ({ row with codes := row.codes ++ [8], side := row.side ++ [(c, v.enc bf16)] }, if a.finite then st2.add y v else st2)
      else
        let st2 := { st1 with sat := st1.sat + 1 }
        ({ row with codes := row.codes ++ [if y.sign then 15 else 7] }, if a.finite then st2.add y (.fin y.sign 1 0) else st2)
    else
      let k := bellCode cfg.away y
      ({ row with codes := row.codes ++ [k] }, st1.add y (bellValue k))

/-- The output format of codes 1 to 3 (R172, R179). -/
def outFmt (n : Nat) : Fmt := match n with | 1 => bf16 | 2 => e4m3 | _ => e5m2

/-- The largest finite value of an output format. -/
def maxOf (f : Fmt) (neg : Bool) : FP := .fin neg f.maxFin.1 f.maxFin.2

/-- One element of a BF16 or 8-bit row (R172). -/
def wordElem (cfg : QCfg) (ts a : FP) (acc : QRow × QStats) : QRow × QStats :=
  let (row, st) := acc
  let f := outFmt cfg.format
  let put := fun v : FP => { row with codes := row.codes ++ [v.enc f] }
  if a.isNan then (put .nan, { st with nonfinite := st.nonfinite + 1 })
  else
    let y := FP.div fp32 a ts
    match a with
    | .inf n =>
      let st1 := { st with nonfinite := st.nonfinite + 1 }
      if cfg.format = 2 then (put (maxOf f n), { st1 with sat := st1.sat + 1 }) else (put (.inf n), st1)
    | _ =>
      let r := y.round f (if cfg.away then .nearestAway else .nearestEven)
      match r with
      | .inf n =>
        let v := if cfg.format = 1 then .inf n else maxOf f n
        (put v, { st with sat := st.sat + 1 }.add y v)
      | v => (put v, st.add y v)

/-- Quantise one row: the elements, their channel scales, and the supplied token scale (R163 to R172). -/
def quantRow (cfg : QCfg) (xs : List FP) (cs : List FP) (supplied : Nat) (st : QStats) : QRow × QStats :=
  let isWide := fun c => cfg.wide.contains c
  let as := List.zipWith (fun x k => FP.div fp32 x k) xs cs
  let idx := List.range xs.length
  let listed := ((idx.zip as).filter fun p => !isWide p.1 && p.2.finite).map Prod.snd
  let ts : FP := match cfg.tsmode with | 0 => absmaxScale cfg.clip listed | 1 => bf16.dec supplied | _ => .fin false 1 0
  let wv := cfg.wide.map fun c => (xs.getD c (.fin false 0 0)).near bf16
  let st0 := { st with nonfinite := st.nonfinite + (wv.filter fun v => !v.finite).length }
  let start : QRow := ⟨[], ts.enc bf16, [], wv.map fun v => v.enc bf16⟩
  (idx.zip as).foldl (fun acc p =>
    if cfg.format = 0 then
      if isWide p.1 then ({ acc.1 with codes := acc.1.codes ++ [0] }, acc.2) else bellElem cfg ts p.1 p.2 acc
    else wordElem cfg ts p.2 acc) (start, st0)

/-- The bytes of a row's codes (R140, R172), to a whole line. -/
def QRow.codeBytes (r : QRow) (format : Nat) : List Byte :=
  padLines ((match format with | 0 => packCodes r.codes | 1 => r.codes.flatMap (leBytes 2) | _ => r.codes).map (BitVec.ofNat 8))

/-- The side lines of a row of D channels (R169). -/
def QRow.sideBytes (r : QRow) (d : Nat) : List Byte :=
  ((List.range ((d + 255) / 256)).map fun m =>
    let es := r.side.filter fun e => e.1 / 256 == m
    (es.map fun e => bytesOf 2 e.1 ++ bytesOf 2 e.2).flatten ++
      ((List.range (16 - es.length)).map fun _ => bytesOf 2 0xFFFF ++ bytesOf 2 0).flatten).flatten

/-- The wide plane of a row (R170). -/
def QRow.wideBytes (r : QRow) : List Byte := ((List.range 8).map fun i => bytesOf 2 (r.wide.getD i 0)).flatten

/-- Bytes of a row of codes (R344). -/
def codeRow (format d : Nat) : Nat := match format with | 0 => d / 2 | 1 => 2 * d | _ => d

/-- The body of a QUANT or DEQUANT (R344). -/
structure QOp where
  data : Nat
  pitch : Nat
  srcG : Nat
  kind : Nat
  stream : Nat
  rows : Nat
  d : Nat
  srf : Nat
  codes : Nat
  codesPitch : Nat
  sidePitch : Nat
  tscale : Nat
  side : Nat
  wide : Nat
  deriving DecidableEq, Repr

/-- Read the body of a QUANT or DEQUANT. -/
def readQ (d : Desc) : QOp :=
  ⟨d.num 16 8, d.num 24 4, bits (d.num 28 2) 0 9, d.num 30 1, bits (d.num 31 1) 0 4, d.num 32 1, d.num 33 2, bits (d.num 35 2) 0 13,
    d.num 64 8, d.num 72 4, d.num 76 4, d.num 80 8, d.num 88 8, d.num 96 8⟩

/-- The channel scales of an instruction: 1 without CSMODE SRF (R163, R164). -/
def channelScales (s : State) (e : Nat) (cfg : QCfg) (base d : Nat) : List FP :=
  (List.range d).map fun c => if cfg.srf then fp16.dec (srfAt s e (base + c)) else .fin false 1 0

/-- A scale entry that the instruction uses is not positive and finite (R164). -/
def scalesBad (s : State) (e : Nat) (cfg : QCfg) (base d : Nat) : Bool :=
  cfg.srf && (List.range d).any fun c => !scaleOk (srfAt s e (base + c))

/-- A supplied token scale is zero, negative, subnormal, infinite or NaN (R165). -/
def supplyBad (ts : Nat) : Bool := bit ts 15 || bits ts 7 8 = 0 || bits ts 7 8 = 255

/-- An entry of the scale file that the instruction uses is uncorrectable. -/
def srfFaulty (s : State) (e : Nat) (cfg : QCfg) (base d : Nat) : Bool :=
  cfg.srf && (engine s e).srfBad.any fun i => decide (base ≤ i) && decide (i < base + d)

/-- An address that must be given and is not, or is given and not needed (R344). -/
def needed (need : Bool) (a : Nat) : Bool := if need then a = 0 else a ≠ 0

/-- Rows of side lines. -/
def sideRow (d : Nat) : Nat := 64 * ((d + 255) / 256)

/-- The memory that a QUANT reads. -/
def QOp.quantReads (q : QOp) (cfg : QCfg) : List (Nat × Nat) :=
  (if q.kind = 0 then [] else rowsAt q.data q.pitch q.rows (if q.kind = 1 then 4 * q.d else 2 * q.d)) ++
    if cfg.tsmode = 1 then [(q.tscale, 2 * q.rows)] else []

/-- The memory that a QUANT writes. -/
def QOp.quantWrites (q : QOp) (cfg : QCfg) : List (Nat × Nat) :=
  rowsAt q.codes q.codesPitch q.rows (codeRow cfg.format q.d) ++
    (if cfg.format = 0 && cfg.tsmode ≠ 1 then [(q.tscale, 2 * q.rows)] else []) ++
    (if cfg.escape then rowsAt q.side q.sidePitch q.rows (sideRow q.d) else []) ++
    if cfg.wide.isEmpty then [] else [(q.wide, 16 * q.rows)]

/-- The elements of a source row (R173). -/
def QOp.row (q : QOp) (s : State) (e t : Nat) : List FP :=
  match q.kind with
  | 0 => (List.range q.d).map fun c => fp32.dec ((tileOf s e (q.srcG + c / 32)).at t (c % 32))
  | 1 => let b := memRead s (q.data + t * q.pitch) (4 * q.d); (List.range q.d).map fun c => fp32.dec (numAt b (4 * c) 4)
  | _ => let b := memRead s (q.data + t * q.pitch) (2 * q.d); (List.range q.d).map fun c => bf16.dec (numAt b (2 * c) 2)

/-- Add to the statistics of a stream as one update (R178). -/
def addStats (s : State) (e n : Nat) (st : QStats) : State :=
  let sse := add64 (fp64.dec (getR s .qntSse e n)) st.sse
  let s1 := setR (addR s .qntCount st.count e n) .qntSse (sse.enc fp64) e n
  addSat (addSat (addSat s1 .qntSat st.sat e n) .qntEsc st.esc e n) .qntNonfinite st.nonfinite e n

/-- Set sticky bits of QNT_EVENTS. -/
def qntEvent (s : State) (e m : Nat) : State := if m = 0 then s else setSticky s .qntEvents .qntEventEn m e

/-- The effect of an accepted QUANT: codes, side lines, wide planes and token scales of every row (R173, R345). -/
def runQuant (s : State) (e : Nat) (d : Desc) (q : QOp) (cfg : QCfg) : State :=
  let s0 := touchRanges s d (q.quantReads cfg)
  let cs := channelScales s0 e cfg q.srf q.d
  let ts := memRead s0 q.tscale (2 * q.rows)
  let out := (List.range q.rows).foldl (fun (acc : List QRow × QStats) t =>
    let x := quantRow cfg (q.row s0 e t) cs (numAt ts (2 * t) 2) acc.2
    (acc.1 ++ [x.1], x.2)) ([], noStats)
  let idx := (List.range q.rows).zip out.1
  let ws := idx.map (fun p => (q.codes + p.1 * q.codesPitch, p.2.codeBytes cfg.format)) ++
    (if cfg.escape then idx.map fun p => (q.side + p.1 * q.sidePitch, p.2.sideBytes q.d) else []) ++
    (if cfg.wide.isEmpty then [] else [(q.wide, padLines ((out.1.map QRow.wideBytes).flatten))]) ++
    if cfg.format = 0 && cfg.tsmode ≠ 1 then [(q.tscale, padLines ((out.1.map fun r => bytesOf 2 r.ts).flatten))] else []
  let (s1, st) := runWrites s0 d.wing ws
  let s2 := qntEvent (addStats s1 e q.stream out.2) e (b2n (out.2.sat ≠ 0) + 4 * b2n (out.2.nonfinite ≠ 0))
  endDesc s2 1 e d.id (if st ≠ 0 then st else if out.2.sat ≠ 0 then stQuantSaturated else stOk) out.2.sat

/-- The checks of R174 that QUANT and DEQUANT share, as those of 0x0103. -/
def qFields (s : State) (e : Nat) (q : QOp) (cfg : QCfg) : List (Bool × Nat) :=
  [(q.rows = 0 || decide (32 < q.rows) || decide (q.d < 64) || decide (16384 < q.d) || q.d % 64 ≠ 0, stBadField),
    (cfg.srf && decide (8192 < q.srf + q.d), stBadField), (!wideOk q.d cfg.wide, stBadField),
    (needed true q.codes || needed cfg.escape q.side || needed (!cfg.wide.isEmpty) q.wide, stBadField),
    (scalesBad s e cfg q.srf q.d, stBadField)]

/-- The checks of a QUANT (R164 to R174, R331, R344). -/
def quantFail (s1 : State) (e : Nat) (d : Desc) : Option Nat :=
  let q := readQ d
  let cfg := streamCfg s1 e q.stream
  let tiles := (List.range (q.d / 32)).map fun i => q.srcG + i
  let tsNeed := cfg.format = 0 || cfg.tsmode = 1
  descFail s1 1 e d
    { named := [(16, 21), (64, 40)]
      busy := [(engineOff s1 e, stUnitBusy), (decide (d.queue ≠ 3) && q.stream = 15 && reservedEngine s1 e, stUnitBusy)]
      reserved := [(decide (512 ≤ d.num 28 2) || decide (16 ≤ d.num 31 1) || decide (8192 ≤ d.num 35 2), stReservedSet)]
      fields := qFields s1 e q cfg ++
        [(decide (2 < q.kind) || needed (decide (q.kind ≠ 0)) q.data || needed tsNeed q.tscale, stBadField),
          (q.kind = 0 && (decide (512 < q.srcG + q.d / 32) || tiles.any fun g => (tileOf s1 e g).tag ≠ 0), stBadField),
          (decide (cfg.format ≠ 0) && (cfg.tsmode = 0 || cfg.escape || !cfg.wide.isEmpty), stBadField),
          (decide (q.codesPitch < codeRow cfg.format q.d) || (cfg.escape && decide (q.sidePitch < sideRow q.d)) ||
            (decide (q.kind ≠ 0) && decide (q.pitch < (if q.kind = 1 then 4 else 2) * q.d)), stBadField),
          (cfg.tsmode = 1 && (List.range q.rows).any fun t => supplyBad (memNum s1 (q.tscale + 2 * t) 2), stBadField)]
      align := [([q.data, q.pitch, q.codes, q.codesPitch, q.sidePitch, q.tscale, q.side, q.wide].any misaligned, stBadAlign)]
      window := [(rangesOut s1 d (q.quantReads cfg ++ q.quantWrites cfg), stWindow)]
      trans := [(rangesNoRead s1 (q.quantReads cfg) || rangesNoWrite s1 (q.quantWrites cfg), stNoTranslation),
        ((q.kind = 0 && tiles.any fun g => (tileOf s1 e g).poison) || srfFaulty s1 e cfg q.srf q.d, stEcc)] }

/-- QUANT (R163 to R174, R344). -/
def execQuant (e id : Nat) (ecc : EngineEcc) (s : State) : Out :=
  .next <| engineDesc s e id 0x28 ecc fun d s1 =>
    let q := readQ d
    let cfg := streamCfg s1 e q.stream
    match quantFail s1 e d with
    | some st => refuseDesc s1 1 e d.id st
    | none =>
      match rangesFail s1 (q.quantReads cfg) with
      | some st => endDesc s1 1 e d.id st 0
      | none => runQuant s1 e d q cfg

/-! ### DEQUANT (R175) -/

/-- The side value of a channel in a row's side lines: the lowest-numbered entry that names it (R169, R175). -/
def sideValue (side : List Byte) (c : Nat) : Option Nat :=
  ((List.range 16).map fun i => (numAt side (64 * (c / 256) + 4 * i) 2, numAt side (64 * (c / 256) + 4 * i + 2) 2)).findSome?
    fun p => if p.1 = c then some p.2 else none

/-- The value of one element, and whether it is an orphan escape (R175). -/
def dequantElem (cfg : QCfg) (codes side wide : List Byte) (cs : List FP) (ts : FP) (c : Nat) : FP × Bool :=
  match cfg.wide.idxOf? c with
  | some i => (bf16.dec (numAt wide (2 * i) 2), false)
  | none =>
    let k := rowElem 4 codes c
    let g := if k = 8 && cfg.escape then (sideValue side c).map bf16.dec else some (bellValue k)
    match g with
    | some v => ((mul32 (mul32 v (cs.getD c (.fin false 1 0))) ts), false)
    | none => (.fin false 0 0, true)

/-- The values of a row and its orphan escapes. -/
def dequantRow (cfg : QCfg) (codes side wide : List Byte) (cs : List FP) (ts d : Nat) : List FP × Nat :=
  let l := (List.range d).map (dequantElem cfg codes side wide cs (bf16.dec ts))
  (l.map Prod.fst, (l.filter Prod.snd).length)

/-- The bytes of a row of values in FP32, or rounded to BF16. -/
def valueBytes (half : Bool) (l : List FP) : List Byte :=
  (l.map fun v => if half then bytesOf 2 ((v.near bf16).enc bf16) else bytesOf 4 (bits32 v)).flatten

/-- The memory that a DEQUANT reads. -/
def QOp.dequantReads (q : QOp) (cfg : QCfg) : List (Nat × Nat) :=
  rowsAt q.codes q.codesPitch q.rows (q.d / 2) ++ [(q.tscale, 2 * q.rows)] ++
    (if cfg.escape then rowsAt q.side q.sidePitch q.rows (sideRow q.d) else []) ++
    if cfg.wide.isEmpty then [] else [(q.wide, 16 * q.rows)]

/-- Bytes of an output row. -/
def QOp.outRow (q : QOp) : Nat := (if q.kind = 1 then 2 else 4) * q.d

/-- The effect of an accepted DEQUANT. -/
def runDequant (s : State) (e : Nat) (d : Desc) (q : QOp) (cfg : QCfg) : State :=
  let s0 := touchRanges s d (q.dequantReads cfg)
  let cs := channelScales s0 e cfg q.srf q.d
  let out := (List.range q.rows).map fun t =>
    dequantRow cfg (memRead s0 (q.codes + t * q.codesPitch) (q.d / 2))
      (if cfg.escape then memRead s0 (q.side + t * q.sidePitch) (sideRow q.d) else [])
      (if cfg.wide.isEmpty then [] else memRead s0 (q.wide + 16 * t) 16) cs (memNum s0 (q.tscale + 2 * t) 2) q.d
  let orphans := (out.map Prod.snd).sum
  let (s1, st) := runWrites s0 d.wing (((List.range q.rows).zip out).map fun p => (q.data + p.1 * q.pitch, valueBytes (q.kind = 1) p.2.1))
  endDesc (qntEvent s1 e (2 * b2n (orphans ≠ 0))) 1 e d.id st orphans

/-- The checks of a DEQUANT (R174, R175, R331, R344). -/
def dequantFail (s1 : State) (e : Nat) (d : Desc) : Option Nat :=
  let q := readQ d
  let cfg := streamCfg s1 e q.stream
  let outs := rowsAt q.data q.pitch q.rows q.outRow
  descFail s1 1 e d
    { named := [(16, 12), (30, 7), (64, 40)]
      busy := [(engineOff s1 e, stUnitBusy), (decide (d.queue ≠ 3) && q.stream = 15 && reservedEngine s1 e, stUnitBusy)]
      reserved := [(decide (16 ≤ d.num 31 1) || decide (8192 ≤ d.num 35 2), stReservedSet)]
      fields := qFields s1 e q cfg ++
        [(decide (1 < q.kind) || needed true q.data || needed true q.tscale, stBadField),
          (decide (q.pitch < q.outRow) || decide (q.codesPitch < q.d / 2) || (cfg.escape && decide (q.sidePitch < sideRow q.d)), stBadField)]
      align := [([q.data, q.pitch, q.codes, q.codesPitch, q.sidePitch, q.tscale, q.side, q.wide].any misaligned, stBadAlign)]
      window := [(rangesOut s1 d (q.dequantReads cfg ++ outs), stWindow)]
      trans := [(rangesNoRead s1 (q.dequantReads cfg) || rangesNoWrite s1 outs, stNoTranslation),
        (srfFaulty s1 e cfg q.srf q.d, stEcc)] }

/-- DEQUANT (R175, R344). -/
def execDequant (e id : Nat) (ecc : EngineEcc) (s : State) : Out :=
  .next <| engineDesc s e id 0x29 ecc fun d s1 =>
    let q := readQ d
    let cfg := streamCfg s1 e q.stream
    match dequantFail s1 e d with
    | some st => refuseDesc s1 1 e d.id st
    | none =>
      match rangesFail s1 (q.dequantReads cfg) with
      | some st => endDesc s1 1 e d.id st 0
      | none => runDequant s1 e d q cfg

end Sys2Proof.Machine
end

