-- ==== Sys2Proof/Machine/Cloister.lean ====
section
/-! DEFINITION. The shared-prefix store: blocks, tiers, probes, puts and gets (R180 to R198, R214, R348). -/

namespace Sys2Proof.Machine

/-! ### Blocks -/

/-- A block by namespace and key. -/
def findBlock (s : State) (owner ns key : Nat) : Option Block :=
  s.cloister.blocks.find? fun b => b.owner == owner && b.nsId == ns && b.key == key

/-- Change the Cloister. -/
def modCloister (s : State) (f : Cloister → Cloister) : State := { s with cloister := f s.cloister }

/-- Change a block. -/
def modBlock (s : State) (b : Block) (f : Block → Block) : State :=
  modCloister s fun c =>
    { c with blocks := c.blocks.map fun x => if x.owner == b.owner && x.nsId == b.nsId && x.key == b.key then f x else x }

/-- Change a namespace. -/
def modNs (s : State) (owner id : Nat) (f : Ns → Ns) : State :=
  modCloister s fun c => { c with nss := c.nss.map fun n => if n.owner == owner && n.nsId == id then f n else n }

/-- The blocks of a namespace. -/
def nsBlocks (s : State) (n : Ns) : List Block := s.cloister.blocks.filter fun b => b.owner == n.owner && b.nsId == n.nsId

/-- The block has a hall copy (R193). -/
def Block.hallCopy (b : Block) : Bool := b.st = .hall || b.st = .copying

/-- A pin bit of the block is set (R197). -/
def Block.pinned (b : Block) : Bool := b.pinHost || b.pinLantern

/-- Hall bytes that a namespace holds (R180, R196). -/
def hallBytes (s : State) (n : Ns) : Nat := ((nsBlocks s n).filter fun b => b.st.inHall).length * n.blockBytes

/-- Undercroft bytes that a namespace's flash copies hold (R180, R196). -/
def flashBytes (s : State) (n : Ns) : Nat := ((nsBlocks s n).filter fun b => b.flash || b.st = .copying).length * n.blockBytes

/-- Hall bytes held by pinned blocks (R180). -/
def pinnedBytes (s : State) (n : Ns) : Nat := ((nsBlocks s n).filter fun b => b.hallCopy && b.pinned).length * n.blockBytes

/-- Account for a change of a wing's flash copies in UCR_W_USED and the bytes programmed (R399, R404). -/
def flashUsed (s : State) (w : Nat) (grow : Bool) (n : Nat) : State :=
  let s1 := setR s .ucrWUsed (if grow then getR s .ucrWUsed w + n else getR s .ucrWUsed w - n) w
  if grow then programmed s1 n else s1

/-- Delete a block (R193): it is absent from now on, and its space is freed. -/
def deleteBlock (s : State) (b : Block) : State :=
  let s1 := modNs (modCloister s fun c => { c with blocks := c.blocks.filter fun x => !(x.owner == b.owner && x.nsId == b.nsId && x.key == b.key) })
    b.owner b.nsId fun n => { n with deletions := n.deletions + 1 }
  match findNs s b.owner b.nsId with
  | some n => if b.flash then flashUsed s1 n.wing false (n.blockBytes + blockRecord) else s1
  | none => s1

/-- The Undercroft takes flash copies (R193, R398). -/
def flashOpen (s : State) : Bool := hasUndercroft s && decide (health s < 2)

/-- Room for one more flash copy of a namespace, in its quota and its wing's (R193, R397). -/
def flashRoom (s : State) (n : Ns) : Bool :=
  flashOpen s && decide (flashBytes s n + n.blockBytes ≤ n.flashQuota) &&
    decide (getR s .ucrWUsed n.wing + n.blockBytes + blockRecord ≤ getR s .wngWQuota n.wing)

/-- Order 2 of R196: the least recent touch first, on equal times the greater chain depth. -/
def olderBlock (a b : Block) : Bool := decide (a.touch < b.touch) || (decide (a.touch = b.touch) && decide (b.depth < a.depth))

/-- The first of a list of blocks in order 2. -/
def oldestBlock : List Block → Option Block
  | [] => none
  | b :: bs => match oldestBlock bs with | none => some b | some x => if olderBlock x b then some x else some b

/-- The block with the oldest Lantern mark. -/
def oldestMark : List Block → Option Block
  | [] => none
  | b :: bs => match oldestMark bs with | none => some b | some x => if x.mark.getD 0 < b.mark.getD 0 then some x else some b

/-- The block that R196 demotes next. -/
def demotable (s : State) (n : Ns) : Option Block :=
  let l := (nsBlocks s n).filter fun b => b.st = .hall && !b.pinned
  (oldestMark (l.filter fun b => b.mark.isSome)).or (oldestBlock (l.filter fun b => b.mark.isNone))

/-- Flash eviction until a flash copy has room, or nothing is left to delete (R196). -/
def makeFlashRoom (s : State) (n : Ns) : Nat → State
  | 0 => s
  | k + 1 =>
    if flashRoom s n || !flashOpen s then s
    else
      match oldestBlock ((nsBlocks s n).filter fun b => b.st = .flash) with
      | none => s
      | some b => makeFlashRoom (deleteBlock s b) n k

/-- The hall copy of a block is released (R193). -/
def releaseHall (s : State) (b : Block) : State :=
  modNs (modBlock s b fun x => { x with st := .flash, flash := true }) b.owner b.nsId fun n => { n with demotions := n.demotions + 1 }

/-- A demotion's flash copy is complete: it counts against the quota from its start, and the hall copy goes (R193). -/
def copyDone (s : State) (b : Block) : State :=
  match findNs s b.owner b.nsId with
  | none => s
  | some n => releaseHall (if b.flash then s else flashUsed s n.wing true (n.blockBytes + blockRecord)) b

/-- Demote one block by the table of R193. -/
def demote (s : State) (n : Ns) (b : Block) : State :=
  if b.flash then releaseHall s b
  else
    let s1 := makeFlashRoom s n (nsBlocks s n).length
    if flashRoom s1 n then modBlock s1 b fun x => { x with st := .copying } else deleteBlock s1 b

/-- Demote one block and wait for its flash copy (R193, log entry 14). -/
def demoteWait (s : State) (n : Ns) (b : Block) : State :=
  let s1 := demote s n b
  match findBlock s1 b.owner b.nsId b.key with
  | some x => if x.st = .copying then copyDone s1 x else s1
  | none => s1

/-- A namespace's halls and quota can take `k` more blocks in hall memory (R190). -/
def hallRoom (s : State) (n : Ns) (k records : Nat) : Bool :=
  decide (hallBytes s n + k * n.blockBytes ≤ n.hallQuota) &&
    (maskHalls n.halls).all fun h =>
      decide (hallUsed s h + k * n.hallShare h + (if (maskHalls n.halls).head? = some h then records * blockRecord else 0) ≤ hallCapacity s)

/-- Demote blocks of a namespace until `k` more fit; none when nothing more can be chosen (R190, R196). -/
def makeRoom (n : Ns) (k records : Nat) : State → Nat → Option State
  | s, 0 => if hallRoom s n k records then some s else none
  | s, f + 1 =>
    if hallRoom s n k records then some s
    else
      match demotable s n with
      | none => none
      | some b => makeRoom n k records (demoteWait s n b) f

/-- Demote blocks of a namespace that holds more than its HALL_QUOTA (R181, R196): the copies end in steps of their own. -/
def shrinkToQuota (n : Ns) : State → Nat → State
  | s, 0 => s
  | s, f + 1 =>
    let left := ((nsBlocks s n).filter fun b => b.st = .hall || b.st = .promoting).length * n.blockBytes
    if left ≤ n.hallQuota then s
    else
      match demotable s n with
      | none => s
      | some b => shrinkToQuota n (demote s n b) f

/-- Start to promote a block that only flash holds, if hall room can be made; else the promotion is abandoned (R193, R196). -/
def promote (s : State) (b : Block) : State :=
  match findNs s b.owner b.nsId with
  | none => s
  | some n =>
    if b.st = .flash then
      match makeRoom n 1 0 s (nsBlocks s n).length with
      | none => s
      | some s1 => modBlock s1 b fun x => { x with st := .promoting }
    else s

/-- FLASH_COPY_COMPLETE (R193): a demotion's flash copy completes and the hall copy is released. -/
def execFlashCopyComplete (owner nsId key : Nat) (s : State) : Out :=
  match findBlock s owner nsId key with
  | none => .next s
  | some b => .next (if b.st = .copying then copyDone s b else s)

/-- PROMOTION_COMPLETE (R193): the copy to hall completes; the flash copy is kept. -/
def execPromotionComplete (owner nsId key : Nat) (s : State) : Out :=
  match findBlock s owner nsId key with
  | none => .next s
  | some b => .next (if b.st = .promoting then modBlock s b fun x => { x with st := .hall } else s)

/-! ### The Lantern and the Cloister (R195, R197, R198, R214) -/

/-- Core c is a policy core of a wing (R214). -/
def policyCore (s : State) (w c : Nat) : Bool := present s .lantern c && ownsGroup s w c && isPolicy s c

/-- The policy core whose range holds a block's handle, if its wing owns it (R214). -/
def coreOf (s : State) (b : Block) : Option Nat :=
  match findNs s b.owner b.nsId with
  | none => none
  | some n => if policyCore s n.wing (b.handle / 2 ^ 18) then some (b.handle / 2 ^ 18) else none

/-- Tell the Lantern of a HIT (class 1) or a PUT (class 2) (R195, R207). -/
def tellLantern (s : State) (cls : Nat) (b : Block) : State :=
  match coreOf s b with
  | none => s
  | some c => sendEvent s 16 c ⟨cls * 2 ^ 22 + b.handle, s.now⟩

/-- A block is touched: the time is noted and its DEMOTE mark goes (R188, R191, R197). -/
def touchBlock (s : State) (b : Block) : State := modBlock s b fun x => { x with touch := s.now, mark := none }

/-- The ranges of handles that present blocks' puts took (R214). -/
def takenHandles (s : State) : List (Nat × Nat) := s.cloister.blocks.map fun b => (b.lo, b.hi)

/-- The lowest start in a core's range of `m` handles, a multiple of 4, that no put has taken (R214). -/
def freeRun (s : State) (m c : Nat) : Option Nat :=
  let lo := c * 2 ^ 18
  let ends := lo :: ((takenHandles s).map Prod.snd).filter fun h => decide (lo ≤ h)
  let ok := ends.filter fun a =>
    decide (a + m ≤ lo + 2 ^ 18) && (takenHandles s).all fun r => decide (a + m ≤ r.1) || decide (r.2 ≤ a)
  match ok with
  | [] => none
  | a :: as => some (as.foldl min a)

/-- The handles of a put: in the policy cores of its wing while they have room, else outside them (R214, log entry 15). -/
def putHandles (s : State) (n : Ns) (m : Nat) : Option Nat :=
  let mine := (List.range 16).filter fun c => policyCore s n.wing c
  let rest := (List.range 16).filter fun c => !policyCore s n.wing c
  ((mine ++ rest.filter fun c => !isPolicy s c) ++ rest.filter fun c => isPolicy s c).findSome? fun c => freeRun s m c

/-- An action is ignored: counted in the namespace of the handle's block (R197). -/
def ignoreAction (s : State) (b : Block) : State := modNs s b.owner b.nsId fun n => { n with ignored := n.ignored + 1 }

/-- A Lantern action reaches one present block (R197, R215). -/
def actOn (s : State) (code : Nat) (b : Block) : State :=
  match code with
  | 1 => promote s b
  | 2 =>
    match findNs s b.owner b.nsId with
    | none => s
    | some n =>
      let s1 := modBlock s b fun x => { x with pinLantern := true }
      if pinnedBytes s n < pinnedBytes s1 n ∧ 3 * n.hallQuota < 4 * pinnedBytes s1 n then ignoreAction s b else s1
  | 3 => modBlock s b fun x => { x with pinLantern := false }
  | 4 => modCloister (modBlock s b fun x => { x with mark := some s.cloister.marks }) fun c => { c with marks := c.marks + 1 }
  | _ => s

/-- The block of a handle, if one is present. -/
def blockAt (s : State) (h : Nat) : Option Block := s.cloister.blocks.find? fun b => b.handle == h

/-- The block whose put took a handle without using it: the handle belongs to its namespace (R214, R215). -/
def handleOwner (s : State) (h : Nat) : Option Block := s.cloister.blocks.find? fun b => decide (b.lo ≤ h) && decide (h < b.hi)

/-- LANTERN_ACTION (R197, R215, R217): the oldest queued action reaches the present blocks among the neuron's four handles. -/
def execLanternAction (c : Nat) (s : State) : Out :=
  match (lcore s c).queue with
  | [] => .next s
  | (code, i) :: rest =>
    let s1 := modCore s c fun x => { x with queue := rest }
    .next ((List.range 4).foldl (fun t k =>
      let h := 2 ^ 18 * c + 4 * i + k
      match blockAt t h with
      | some b => actOn t code b
      | none => match handleOwner t h with | some b => ignoreAction t b | none => t) s1)

/-! ### Access (R182, R348) -/

/-- The grant of a tenant in a namespace, if one is VALID (R180). -/
def grantOf (n : Ns) (t : Nat) : Option Nat := n.grants.find? fun g => g % 256 == t && bit g 8

/-- The namespace that a tenant of a wing may name (R182). -/
def nsFor (s : State) (t w owner id : Nat) : Option Ns :=
  match findNs s owner id with
  | none => none
  | some n => if n.wing = w ∧ (n.owner = t ∨ (grantOf n t).isSome) then some n else none

/-- The tenant may put, pin and drop (R182). -/
def mayWriteNs (n : Ns) (t : Nat) : Bool := n.owner = t || (grantOf n t).any fun g => bit g 9

/-- A command of the Cloister, from the host or in a descriptor: the issuing tenant, its wing, and the body, whose bytes lie at
the same places in both (R366). -/
structure ClsCmd where
  tenant : Nat
  wing : Nat
  bytes : List Byte
  deriving DecidableEq, Repr

/-- A number in the body. -/
def ClsCmd.num (c : ClsCmd) (lo n : Nat) : Nat := numAt c.bytes lo n

/-- The namespace that a command names. -/
def ClsCmd.ns (s : State) (c : ClsCmd) : Option Ns := nsFor s c.tenant c.wing (c.num 16 1) (c.num 20 4)

/-- Sixteen-byte keys at an address. -/
def keysAt (s : State) (a n : Nat) : List Nat := wordsOf 16 n (memRead s a (16 * n))

/-- A range lies outside the memory of the command's wing. -/
def ClsCmd.out (s : State) (c : ClsCmd) (a n : Nat) : Bool := !grantedTo s c.wing a n

/-- What a Cloister command answers: the state, the status, and the fields A and B of its completion (R373). -/
structure ClsDone where
  state : State
  status : Nat
  a : Nat
  b : Nat

/-! ### Probe (R188) -/

/-- The longest run of a key chain. -/
def runOf (s : State) (n : Ns) (tokens : Option (List Nat)) : Nat → List Nat → List Block
  | _, [] => []
  | parent, k :: ks =>
    match findBlock s n.owner n.nsId k with
    | none => []
    | some b =>
      let same := match tokens with | none => true | some t => decide (b.tokens = t.take 256)
      if b.parent = parent && same then b :: runOf s n (tokens.map fun t => t.drop 256) k ks else []

/-- The checks of a probe (R348). -/
def probeChecks (s : State) (c : ClsCmd) : EntryChecks :=
  let n := c.num 18 2
  let verify := bit (c.num 17 1) 0
  let ka := c.num 24 8
  let ta := c.num 32 8
  let ra := c.num 40 8
  { named := [(16, 32)]
    reserved := [(bit (c.num 16 1) 7 || decide (4 ≤ c.num 17 1) || (!verify && decide (ta ≠ 0)), stReservedSet)]
    fields := [(n = 0 || decide (1024 < n), stBadField), ((c.ns s).isNone, stNoSuchObject)]
    align := [(misaligned ka || misaligned ta || misaligned ra, stBadAlign)]
    window := [(c.out s ka (16 * (n + 1)) || (verify && c.out s ta (1024 * n)) || c.out s ra 64, stWindow)]
    trans := [(noRead s ka (16 * (n + 1)) || (verify && noRead s ta (1024 * n)) || noWrite s ra 64, stNoTranslation)] }

/-- The buffers of a probe: the first failure of their reads (R550). -/
def probeBuffers (s : State) (c : ClsCmd) : Option Nat :=
  (readFail s (c.num 24 8) (16 * (c.num 18 2 + 1))).or
    (if bit (c.num 17 1) 0 then readFail s (c.num 32 8) (1024 * c.num 18 2) else none)

/-- What a counted block of a probe does: the touch, the hit, the event, and without a Lantern the promotion (R188, R195,
R198). -/
def probeHit (s : State) (b : Block) : State :=
  let s1 := modNs (touchBlock s b) b.owner b.nsId fun n => { n with hits := n.hits + 1 }
  let s2 := tellLantern s1 1 b
  if (coreOf s b).isNone then match findBlock s2 b.owner b.nsId b.key with | some x => promote s2 x | none => s2 else s2

/-- Run a checked probe (R188). -/
def runProbe (s : State) (c : ClsCmd) : ClsDone :=
  match c.ns s with
  | none => ⟨s, stNoSuchObject, 0, 0⟩
  | some n =>
    let k := c.num 18 2
    let keys := keysAt s (c.num 24 8) (k + 1)
    let tokens := if bit (c.num 17 1) 0 then some (wordsOf 4 (256 * k) (memRead s (c.num 32 8) (1024 * k))) else none
    let l := runOf s n tokens (keys.headD 0) keys.tail
    let inHall := (l.filter Block.hallCopy).length
    let s0 := touchRead s (some c.wing) (c.num 24 8) (16 * (k + 1))
    let s1 := if bit (c.num 17 1) 1 then s0 else l.foldl probeHit s0
    let (s2, st) := memPut s1 (some c.wing) (c.num 40 8) (bytesOf 2 l.length ++ bytesOf 2 inHall ++ bytesOf 60 0)
    ⟨s2, st, l.length, inHall⟩

/-! ### Segments (R184, R185) -/

/-- The quantiser's profile of a namespace (R184). -/
def Ns.profile (n : Ns) : QCfg := ⟨0, bit n.quant 0, n.escape, 0, true, bits n.quant 2 4, n.wide.take n.wideCount⟩

/-- The channel scales of layer l, K (0) or V (1), as FP16 bits (R183). -/
def Ns.layerScales (n : Ns) (l kv : Nat) : List Nat := (n.scales.drop ((2 * l + kv) * n.dim)).take n.dim

/-- The engines of a namespace that are present and enabled. -/
def nsEngines (s : State) (n : Ns) : List Nat := (List.range 32).filter fun e => bit n.engines e && present s .engine e && !engineOff s e

/-- The engine that works on a layer: the layers are spread over the namespace's engines in turn (R190, log entry 16). -/
def layerEngine (s : State) (n : Ns) (l : Nat) : Option Nat := (nsEngines s n)[l % max 1 (nsEngines s n).length]?

/-- The Cloister loads a tensor's scales into SRF entries from 4,096 on and sets stream 15 to the namespace's profile (R184). -/
def loadEngine (s : State) (n : Ns) (l kv : Nat) : State :=
  match layerEngine s n l with
  | none => s
  | some e =>
    let sc := n.layerScales l kv
    let s1 := modEngine s e fun x =>
      { x with
        srf := ((List.range sc.length).zip sc).foldl (fun t p => tset (fun _ => 0) t (4096 + p.1) (BitVec.ofNat 16 p.2)) x.srf
        srfBad := x.srfBad.filter fun i => decide (i < 4096) || decide (4096 + sc.length ≤ i) }
    let cfg := 4 * b2n (bit n.quant 0) + 8 * b2n n.escape + 64 + 128 * bits n.quant 2 4 + 2048 * n.wideCount
    let pair := fun i => n.wide.getD i 0 + 65536 * n.wide.getD (i + 1) 0
    let s2 := setR (setR (setR s1 .colSrfVer n.scaleVer e) .qntCfg cfg e 15) .qntWide01 (pair 0) e 15
    addR (setR (setR (setR s2 .qntWide23 (pair 2) e 15) .qntWide45 (pair 4) e 15) .qntWide67 (pair 6) e 15) .colInstr 1 e

/-- The rows of a tensor, quantised 32 at a time: the rows and the statistics of each QUANT (R178, R190). -/
def quantGroups (cfg : QCfg) (cs : List FP) : Nat → List (List FP) → List (List QRow × QStats)
  | 0, _ => []
  | k + 1, rows =>
    (((rows.take 32).foldl (fun (acc : List QRow × QStats) r => let x := quantRow cfg r cs 0 acc.2; (acc.1 ++ [x.1], x.2)) ([], noStats)) ::
      quantGroups cfg cs k (rows.drop 32))

/-- The elements of a tensor of 256 rows in a put's source (R348). -/
def tensorRows (fp32src : Bool) (d : Nat) : Nat → List Byte → List (List FP)
  | 0, _ => []
  | k + 1, b =>
    let w := if fp32src then 4 else 2
    ((List.range d).map fun c => if fp32src then fp32.dec (numAt b (4 * c) 4) else bf16.dec (numAt b (2 * c) 2)) ::
      tensorRows fp32src d k (b.drop (w * d))

/-- One quantised tensor. -/
structure QTensor where
  rows : List QRow
  stats : List QStats

/-- Quantise one tensor of a layer (R184, R190). -/
def quantTensor (n : Ns) (l kv : Nat) (fp32src : Bool) (src : List Byte) : QTensor :=
  let g := quantGroups n.profile ((n.layerScales l kv).map fp16.dec) 8 (tensorRows fp32src n.dim 256 src)
  ⟨(g.map Prod.fst).flatten, g.map Prod.snd⟩

/-- A layer segment (R185). -/
def segment (n : Ns) (k v : QTensor) : List Byte :=
  let codes := fun t : QTensor => (t.rows.map fun r => (packCodes r.codes).map (BitVec.ofNat 8)).flatten
  let scales := fun t : QTensor => (t.rows.map fun r => bytesOf 2 r.ts).flatten
  let side := fun t : QTensor => if n.escape then (t.rows.map fun r => r.sideBytes n.dim).flatten else []
  let wide := fun t : QTensor => if n.wideCount = 0 then [] else (t.rows.map QRow.wideBytes).flatten
  codes k ++ codes v ++ scales k ++ scales v ++ side k ++ side v ++ wide k ++ wide v

/-- Where a part of a segment begins: codes, scales, side lines and wide planes of K (0) or V (1) (R185). -/
def Ns.partAt (n : Ns) (part kv : Nat) : Nat :=
  let sd := if n.escape then 16384 * ((n.dim + 255) / 256) else 0
  match part with
  | 0 => kv * 128 * n.dim
  | 1 => 256 * n.dim + 512 * kv
  | 2 => 256 * n.dim + 1024 + sd * kv
  | _ => 256 * n.dim + 1024 + 2 * sd + 4096 * kv

/-- One row of a stored tensor as BF16 (R175, R191). -/
def wideRow (n : Ns) (l kv : Nat) (seg : List Byte) (t : Nat) : List Byte :=
  let part := fun p lo len => (seg.drop (n.partAt p kv + lo)).take len
  let sr := sideRow n.dim
  let r := dequantRow n.profile (part 0 (t * (n.dim / 2)) (n.dim / 2)) (if n.escape then part 2 (t * sr) sr else [])
    (if n.wideCount = 0 then [] else part 3 (16 * t) 16) ((n.layerScales l kv).map fp16.dec) (numAt (part 1 (2 * t) 2) 0 2) n.dim
  valueBytes true r.1

/-- A stored layer as BF16: the K rows, then the V rows (R191). -/
def wideLayer (n : Ns) (l : Nat) (seg : List Byte) : List Byte :=
  ((List.range 256).map fun t => wideRow n l 0 seg t).flatten ++ ((List.range 256).map fun t => wideRow n l 1 seg t).flatten

/-! ### Put (R189, R190) -/

/-- Bytes of a put's source. -/
def putSource (n : Ns) (k : Nat) (fp32src : Bool) : Nat := k * n.layers * (2 * 256 * n.dim * if fp32src then 4 else 2)

/-- The checks of a put (R348). -/
def putChecks (s : State) (c : ClsCmd) : EntryChecks :=
  let k := c.num 18 1
  let ka := c.num 24 8
  let ta := c.num 32 8
  let sa := c.num 40 8
  let ra := c.num 48 8
  let n := c.ns s
  let len := match n with | some x => putSource x k (bit (c.num 17 1) 0) | none => 0
  { named := [(16, 3), (20, 36)]
    busy := [(n.any fun x => (nsEngines s x).isEmpty, stUnitBusy)]
    reserved := [(bit (c.num 16 1) 7 || decide (2 ≤ c.num 17 1), stReservedSet)]
    fields := [(k = 0 || decide (16 < k), stBadField), (n.isNone, stNoSuchObject)]
    align := [(misaligned ka || misaligned ta || misaligned sa || misaligned ra, stBadAlign)]
    window := [(c.out s ka (16 * (k + 1)) || c.out s ta (1024 * k) || c.out s sa len || c.out s ra 64 ||
      n.any (fun x => !mayWriteNs x c.tenant), stWindow)]
    trans := [(noRead s ka (16 * (k + 1)) || noRead s ta (1024 * k) || noRead s sa len || noWrite s ra 64, stNoTranslation)] }

/-- The blocks that a put gives: key, parent and token IDs, in chain order. -/
def putGiven (keys tokens : List Nat) : List (Nat × Nat × List Nat) :=
  match keys with
  | [] => []
  | p :: ks => (ks.zip ((p :: ks).zip ((List.range ks.length).map fun i => (tokens.drop (256 * i)).take 256))).map fun x => (x.1, x.2.1, x.2.2)

/-- A key of the put names a present block that differs from what the put gives, or another block of the put (R189). -/
def putConflict (s : State) (n : Ns) (l : List (Nat × Nat × List Nat)) : Bool :=
  !noDup (l.map fun x => x.1) || l.any fun x =>
    match findBlock s n.owner n.nsId x.1 with
    | none => false
    | some b => decide (b.parent ≠ x.2.1) || decide (b.tokens ≠ x.2.2)

/-- The buffers of a put: their reads, then the parent and the keys (R189, R550). -/
def putBuffers (s : State) (c : ClsCmd) (n : Ns) : Option Nat :=
  let k := c.num 18 1
  let len := putSource n k (bit (c.num 17 1) 0)
  let keys := keysAt s (c.num 24 8) (k + 1)
  let parent := keys.headD 0
  let tokens := wordsOf 4 (256 * k) (memRead s (c.num 32 8) (1024 * k))
  (readFail s (c.num 24 8) (16 * (k + 1))).or
    ((firstFail [(decide (parent ≠ 0) && (findBlock s n.owner n.nsId parent).isNone, stNoSuchObject)]).or
      ((readFail s (c.num 32 8) (1024 * k)).or
        ((readFail s (c.num 40 8) len).or
          (firstFail [(putConflict s n (putGiven keys tokens), stKeyConflict)]))))

/-- The statistics of one layer's QUANTs join the engine's stream 15 and the namespace's SSE (R178, R190). -/
def layerStats (s : State) (n : Ns) (l : Nat) (t : QTensor) : State :=
  t.stats.foldl (fun u q =>
    let u1 := match layerEngine u n l with | some e => addR (addStats u e 15 q) .colInstr 1 e | none => u
    modNs u1 n.owner n.nsId fun m => { m with sse := (add64 (fp64.dec m.sse) q.sse).enc fp64 }) s

/-- Quantise one block: its segments, the state with the statistics, and whether an element saturated. -/
def putBlock (n : Ns) (fp32src : Bool) (s : State) (src : List Byte) : State × List (List Byte) × Bool :=
  let w := 256 * n.dim * if fp32src then 4 else 2
  (List.range n.layers).foldl (fun (acc : State × List (List Byte) × Bool) l =>
    let kt := quantTensor n l 0 fp32src ((src.drop (2 * l * w)).take w)
    let vt := quantTensor n l 1 fp32src ((src.drop ((2 * l + 1) * w)).take w)
    let s1 := layerStats (loadEngine acc.1 n l 0) n l kt
    let s2 := layerStats (loadEngine s1 n l 1) n l vt
    (s2, acc.2.1 ++ [segment n kt vt], acc.2.2 || (kt.stats ++ vt.stats).any fun q => decide (q.sat ≠ 0))) (s, [], false)

/-- The depth of a block whose parent is given: one more than its parent's, 0 at the head of a chain (R185). -/
def depthOf (s : State) (n : Ns) (parent : Nat) : Nat :=
  match findBlock s n.owner n.nsId parent with | some p => p.depth + 1 | none => 0

/-- A namespace is DURABLE (R180). -/
def Ns.durable (n : Ns) : Bool := bit n.flags 0

/-- A DURABLE namespace's block is journalled: its flash copy is written if it has room (R193, R194). -/
def journalBlock (s : State) (n : Ns) (b : Block) : State :=
  if !n.durable || b.flash then s
  else
    let s1 := makeFlashRoom s n (nsBlocks s n).length
    if flashRoom s1 n then
      modJournal (flashUsed (modBlock s1 b fun x => { x with flash := true }) n.wing true (n.blockBytes + blockRecord)) n.wing
        fun j => { j with dirty := true }
    else s1

/-- Store the new blocks of a put: they become present at one instant (R190). -/
def storeBlocks (s : State) (c : ClsCmd) (n : Ns) (start m : Nat) (new : List (Nat × (Nat × Nat × List Nat))) : State × Bool :=
  let fp := bit (c.num 17 1) 0
  let len := putSource n 1 fp
  let out := (((List.range new.length).zip new)).foldl (fun (acc : State × List Block × Bool) p =>
    let (i, j, x) := p
    let r := putBlock n fp acc.1 (memRead s (c.num 40 8 + j * len) len)
    let depth := match acc.2.1.find? fun b => b.key == x.2.1 with | some b => b.depth + 1 | none => depthOf s n x.2.1
    let b : Block :=
      { owner := n.owner, nsId := n.nsId, key := x.1, parent := x.2.1, depth := depth, tokens := x.2.2, segs := r.2.1, st := .hall, flash := false,
        committed := false, pinHost := false, pinLantern := false, touch := s.now, mark := none, handle := start + i, lo := start, hi := start + m }
    (r.1, acc.2.1 ++ [b], acc.2.2 || r.2.2)) (s, [], false)
  let s1 := modCloister out.1 fun k => { k with blocks := k.blocks ++ out.2.1 }
  (out.2.1.foldl (fun t b => tellLantern (journalBlock t n b) 2 b) s1, out.2.2)

/-- Some hall that the namespace's segments lie in is halted (R278). -/
def nsHalted (s : State) (n : Ns) : Bool := (maskHalls n.halls).any fun h => halted s h

/-- The bitmap of ALREADY (R348). -/
def bitmapOf (l : List Nat) : Nat := l.foldl (fun a i => a + 2 ^ i) 0

/-- Run a checked put (R189, R190): space first, then the blocks, then the report. -/
def runPut (s : State) (c : ClsCmd) (n : Ns) : ClsDone :=
  let k := c.num 18 1
  let keys := keysAt s (c.num 24 8) (k + 1)
  let tokens := wordsOf 4 (256 * k) (memRead s (c.num 32 8) (1024 * k))
  let given := (List.range k).zip (putGiven keys tokens)
  let new := given.filter fun x => (findBlock s n.owner n.nsId x.2.1).isNone
  let already := bitmapOf ((given.filter fun x => (findBlock s n.owner n.nsId x.2.1).isSome).map Prod.fst)
  let m := (new.length + 3) / 4 * 4
  let report := bytesOf 2 already ++ bytesOf 62 0
  let finishPut := fun (t : State) (sat : Bool) =>
    let (t1, st) := memPut t (some c.wing) (c.num 48 8) report
    (⟨t1, if st ≠ 0 then st else if sat then stQuantSaturated else stOk, new.length, already⟩ : ClsDone)
  if new.isEmpty then finishPut s false
  else if nsHalted s n then ⟨s, stUnitFault, 0, 0⟩
  else
    match makeRoom n new.length new.length s (nsBlocks s n).length with
    | none => ⟨s, stRefusedSpace, 0, 0⟩
    | some s1 =>
      if 2 ^ 22 < s1.cloister.blocks.length + new.length then ⟨s, stRefusedSpace, 0, 0⟩
      else
        match putHandles s1 n m with
        | none => ⟨s, stRefusedSpace, 0, 0⟩
        | some a => let r := storeBlocks s1 c n a m new; finishPut r.1 r.2

/-! ### Get (R191, R192) -/

/-- Bytes of one layer in the form that a get asks for (R348). -/
def Ns.layerOut (n : Ns) (form : Nat) : Nat := if form = 0 then n.segBytes else 1024 * n.dim

/-- Bytes of the scales that a get writes, to a whole line (R348). -/
def Ns.scalesOut (n : Ns) (layers : Nat) : Nat := pad64 (4 * n.dim * layers)

/-- The ranges of a get's destination. -/
def getRanges (n : Ns) (c : ClsCmd) : List (Nat × Nat) :=
  let k := c.num 24 2
  let dst := c.num 40 8
  let pitch := c.num 48 4
  rowsAt dst pitch k (c.num 28 2 * n.layerOut (c.num 18 1)) ++
    if bit (c.num 17 1) 0 then [(dst + k * pitch, n.scalesOut (c.num 28 2))] else []

/-- The checks of a get (R191, R348). -/
def getChecks (s : State) (c : ClsCmd) : EntryChecks :=
  let k := c.num 24 2
  let ka := c.num 32 8
  let ra := c.num 56 8
  let n := c.ns s
  let rs := match n with | some x => getRanges x c | none => []
  { named := [(16, 3), (20, 10), (32, 20), (56, 8)]
    reserved := [(bit (c.num 16 1) 7 || decide (2 ≤ c.num 17 1), stReservedSet)]
    fields := [(k = 0 || decide (256 < k), stBadField), (decide (1 < c.num 18 1), stBadField), (n.isNone, stNoSuchObject),
      (n.any fun x => decide (x.layers < c.num 26 2 + c.num 28 2) || decide (c.num 48 4 < c.num 28 2 * x.layerOut (c.num 18 1)), stBadField)]
    align := [(misaligned ka || misaligned (c.num 40 8) || misaligned (c.num 48 4) || misaligned ra, stBadAlign)]
    window := [(c.out s ka (16 * k) || c.out s ra 128 || rs.any (fun r => c.out s r.1 r.2), stWindow)]
    trans := [(noRead s ka (16 * k) || noWrite s ra 128 || rs.any (fun r => noWrite s r.1 r.2), stNoTranslation)] }

/-- What a get has done so far: keys delivered, keys from flash, bytes written, missing keys, and the failures met. -/
structure GetAcc where
  state : State
  delivered : Nat
  fromFlash : Nat
  bytes : Nat
  missing : Nat
  ecc : Bool
  fault : Bool

/-- A key is not delivered. -/
def GetAcc.miss (a : GetAcc) (i : Nat) : GetAcc := { a with missing := a.missing + 2 ^ i }

/-- Deliver one key (R191): from the hall copy if there is one, otherwise from flash. -/
def getKey (c : ClsCmd) (n : Ns) (bad : List Nat) (a : GetAcc) (p : Nat × Nat) : GetAcc :=
  let (i, key) := p
  match findBlock a.state n.owner n.nsId key with
  | none => a.miss i
  | some b =>
    if bad.contains i then { a.miss i with state := deleteBlock a.state b, ecc := true }
    else if b.hallCopy && nsHalted a.state n then { a.miss i with fault := true }
    else
      let layers := (List.range (c.num 28 2)).map fun l => c.num 26 2 + l
      let out := (layers.map fun l => let sg := b.segs.getD l []; if c.num 18 1 = 0 then sg else wideLayer n l sg).flatten
      let s0 := if c.num 18 1 = 0 then a.state else layers.foldl (fun t l => loadEngine (loadEngine t n l 0) n l 1) a.state
      let (s1, st) := memPut s0 (some c.wing) (c.num 40 8 + i * c.num 48 4) out
      if st ≠ 0 then { a.miss i with state := s1, fault := true }
      else
        { a with state := touchBlock s1 b, delivered := a.delivered + 1, fromFlash := a.fromFlash + b2n (!b.hallCopy), bytes := a.bytes + out.length }

/-- Run a checked get: every key in order, the scales, and last the report (R191, R192). `bad` are the keys whose stored
segments turn out uncorrectable. -/
def runGet (s : State) (c : ClsCmd) (n : Ns) (bad : List Nat) : ClsDone :=
  let k := c.num 24 2
  let keys := keysAt s (c.num 32 8) k
  let r := ((List.range k).zip keys).foldl (getKey c n bad) ⟨touchRead s (some c.wing) (c.num 32 8) (16 * k), 0, 0, 0, 0, false, false⟩
  let sc := ((List.range (c.num 28 2)).map fun l => n.layerScales (c.num 26 2 + l) 0 ++ n.layerScales (c.num 26 2 + l) 1).flatten
  let scb := padLines ((sc.map fun x => bytesOf 2 x).flatten)
  let scales := bit (c.num 17 1) 0
  let s1 := if scales then (memPut r.state (some c.wing) (c.num 40 8 + k * c.num 48 4) scb).1 else r.state
  let bytes := r.bytes + if scales then scb.length else 0
  let report := bytesOf 2 r.delivered ++ bytesOf 2 r.fromFlash ++ bytesOf 4 0 ++ bytesOf 8 bytes ++ bytesOf 48 0 ++ bytesOf 32 r.missing ++ bytesOf 32 0
  let (s2, st) := memPut s1 (some c.wing) (c.num 56 8) report
  ⟨s2, if st ≠ 0 then st else if r.ecc then stEcc else if r.fault then stUnitFault else if r.missing ≠ 0 then stBlocksMissing else stOk,
    r.delivered, bytes⟩

/-! ### Pin and drop (R193, R197) -/

/-- The checks that PIN and DROP share; PIN has its flag byte. -/
def listChecks (s : State) (c : ClsCmd) (pin : Bool) : EntryChecks :=
  let k := c.num 18 2
  let ka := c.num 24 8
  { named := if pin then [(16, 16)] else [(16, 1), (18, 14)]
    reserved := [(bit (c.num 16 1) 7 || (pin && decide (2 ≤ c.num 17 1)), stReservedSet)]
    fields := [(k = 0 || decide (256 < k), stBadField), ((c.ns s).isNone, stNoSuchObject)]
    align := [(misaligned ka, stBadAlign)]
    window := [(c.out s ka (16 * k) || (c.ns s).any (fun x => !mayWriteNs x c.tenant), stWindow)]
    trans := [(noRead s ka (16 * k), stNoTranslation)] }

/-- The present blocks that a list of keys names, each once. -/
def listedBlocks (s : State) (n : Ns) (keys : List Nat) : List Block :=
  (distinct keys).filterMap fun k => findBlock s n.owner n.nsId k

/-- Run a checked pin (R197): HOST pin bits of the present keys; refused whole beyond 75% of HALL_QUOTA. -/
def runPin (s : State) (c : ClsCmd) (n : Ns) : ClsDone :=
  let set := bit (c.num 17 1) 0
  let l := (listedBlocks s n (keysAt s (c.num 24 8) (c.num 18 2))).filter fun b => b.pinHost != set
  let s1 := l.foldl (fun t b => modBlock t b fun x => { x with pinHost := set }) (touchRead s (some c.wing) (c.num 24 8) (16 * c.num 18 2))
  if pinnedBytes s n < pinnedBytes s1 n ∧ 3 * n.hallQuota < 4 * pinnedBytes s1 n then ⟨s, stRefusedSpace, 0, 0⟩ else ⟨s1, stOk, l.length, 0⟩

/-- Run a checked drop (R193). -/
def runDrop (s : State) (c : ClsCmd) (n : Ns) : ClsDone :=
  let l := listedBlocks s n (keysAt s (c.num 24 8) (c.num 18 2))
  ⟨l.foldl deleteBlock (touchRead s (some c.wing) (c.num 24 8) (16 * c.num 18 2)), stOk, l.length, 0⟩

/-! ### The rows -/

/-- The Cloister command of a host entry. -/
def hostCls (s : State) (c : Cmd) : ClsCmd := ⟨c.tenant, cmdWing s c, c.entry⟩

/-- The Cloister command of a descriptor. -/
def descCls (d : Desc) : ClsCmd := ⟨d.tenant, d.wing, d.bytes⟩

/-- Give a namespace to what follows the checks. -/
def withNs (s : State) (c : ClsCmd) (run : Ns → ClsDone) : ClsDone :=
  match c.ns s with | none => ⟨s, stNoSuchObject, 0, 0⟩ | some n => run n

/-- The buffer checks of a put for a command. -/
def putFail (s : State) (c : ClsCmd) : Option Nat := match c.ns s with | none => none | some n => putBuffers s c n

/-- The read of a key list (R550). -/
def listFail (s : State) (c : ClsCmd) : Option Nat := readFail s (c.num 24 8) (16 * c.num 18 2)

/-- A Cloister command of the host: its checks, then its work and its completion. -/
def hostRow (s : State) (id op : Nat) (checks : State → ClsCmd → EntryChecks) (buf : State → ClsCmd → Option Nat) (run : State → ClsCmd → ClsDone) : State :=
  withCmd s id op fun c s1 =>
    let k := hostCls s1 c
    orElse s1 c ((entryFail s1 c .tenant (checks s1 k)).or (buf s1 k))
      (let r := run s1 k; finish r.state c.id r.status r.a r.b)

/-- A Cloister descriptor: its checks, then its work; its COUNT is field A. -/
def descRow (s : State) (g id op : Nat) (checks : State → ClsCmd → EntryChecks) (buf : State → ClsCmd → Option Nat) (run : State → ClsCmd → ClsDone) : State :=
  withDesc s 3 g id op fun d s1 =>
    let k := descCls d
    match (descFail s1 3 g d (checks s1 k)).or (buf s1 k) with
    | some st => refuseDesc s1 3 g id st
    | none => let r := run s1 k; endDesc r.state 3 g id r.status r.a

/-- PREFIX_PROBE (R188). -/
def execPrefixProbe (id : Nat) (s : State) : Out := .next (hostRow s id 0x20 probeChecks probeBuffers runProbe)

/-- PREFIX_GET (R191, R192). -/
def execPrefixGet (id : Nat) (bad : List Nat) (s : State) : Out :=
  .next (hostRow s id 0x21 getChecks (fun t c => readFail t (c.num 32 8) (16 * c.num 24 2)) fun t c => withNs t c fun n => runGet t c n bad)

/-- PREFIX_PUT (R189, R190). -/
def execPrefixPut (id : Nat) (s : State) : Out :=
  .next (hostRow s id 0x22 putChecks putFail fun t c => withNs t c fun n => runPut t c n)

/-- PREFIX_PIN (R197). -/
def execPrefixPin (id : Nat) (s : State) : Out :=
  .next (hostRow s id 0x23 (fun t c => listChecks t c true) listFail fun t c => withNs t c fun n => runPin t c n)

/-- PREFIX_DROP (R193). -/
def execPrefixDrop (id : Nat) (s : State) : Out :=
  .next (hostRow s id 0x24 (fun t c => listChecks t c false) listFail fun t c => withNs t c fun n => runDrop t c n)

/-- CLS_PROBE (R188, R348): a probe's COUNT is not defined, and is 0 (R334). -/
def execClsProbe (g id : Nat) (s : State) : Out :=
  .next (descRow s g id 0x40 probeChecks probeBuffers fun t c => { runProbe t c with a := 0 })

/-- CLS_GET (R191, R348). -/
def execClsGet (g id : Nat) (bad : List Nat) (s : State) : Out :=
  .next (descRow s g id 0x41 getChecks (fun t c => readFail t (c.num 32 8) (16 * c.num 24 2)) fun t c => withNs t c fun n => runGet t c n bad)

/-- CLS_PUT (R189, R348). -/
def execClsPut (g id : Nat) (s : State) : Out :=
  .next (descRow s g id 0x42 putChecks putFail fun t c => withNs t c fun n => runPut t c n)

/-- CLS_PIN (R197, R348). -/
def execClsPin (g id : Nat) (s : State) : Out :=
  .next (descRow s g id 0x43 (fun t c => listChecks t c true) listFail fun t c => withNs t c fun n => runPin t c n)

/-- CLS_DROP (R193, R348). -/
def execClsDrop (g id : Nat) (s : State) : Out :=
  .next (descRow s g id 0x44 (fun t c => listChecks t c false) listFail fun t c => withNs t c fun n => runDrop t c n)

end Sys2Proof.Machine
end

