-- ==== Sys2Proof/Machine/Wings.lean ====
section
/-! DEFINITION. Forming and changing wings and tenants: WING_SET and TENANT_SET (R457 to R463). -/

namespace Sys2Proof.Machine

/-- The hall groups that a wing owns, as a mask: WNG_W_w.GROUPS (R473). -/
def wingGroups (s : State) (w : Nat) : Nat := ((List.range 16).filter fun g => ownsGroup s w g).foldl (fun a g => a + 2 ^ g) 0

/-- The hall groups that wings other than `w` own. -/
def othersGroups (s : State) (w : Nat) : Nat :=
  ((List.range 16).filter fun g => (groupWing s g).any fun x => x != w).foldl (fun a g => a + 2 ^ g) 0

/-- Some collection or namespace of a wing names the hall, or some collection or namespace names an engine of the group
(R460). -/
def groupNamed (s : State) (w g : Nat) : Bool :=
  (s.store.colls.any fun e =>
    match e.2 with
    | some x => (decide (x.wing = w) && bit x.halls g) || decide (bits x.engines (2 * g) 2 ≠ 0)
    | none => false) ||
  s.cloister.nss.any fun n => (decide (n.wing = w) && bit n.halls g) || decide (bits n.engines (2 * g) 2 ≠ 0)

/-- A valid window entry names memory in the hall (R427, R460). -/
def windowNames (s : State) (h : Nat) : Bool :=
  (List.range 256).any fun i =>
    bit (getR s .mrqWinCommit i) 23 && decide (addrHall (getR s .mrqWinBase i) = h) && decide (getR s .mrqWinSize i ≠ 0)

/-- TIM_CTRL names a port of the group for the timekeeper's path or its spare (R460). -/
def timNames (s : State) (g : Nat) : Bool :=
  let v := getR s .timCtrl
  (bit v 14 && decide (bits v 8 6 / 4 = g)) || (bit v 22 && decide (bits v 16 6 / 4 = g))

/-- A hall group of a wing is busy (R460). -/
def groupBusy (s : State) (w g : Nat) : Bool :=
  groupNamed s w g || decide (loopBays s g ≠ 0) ||
    ((List.range 16).any fun i => decide ((usher s (16 * g + i)).st ≠ .idle)) ||
    ((List.range 2).any fun i => !(unitOf s 1 (2 * g + i)).queued.isEmpty || !(unitOf s 1 (2 * g + i)).accepted.isEmpty) ||
    bit (getR s .lntCoreCfg g) 0 || ((List.range 4).any fun i => decide (portState s (4 * g + i) ≠ 0)) ||
    windowNames s g || timNames s g

/-- The tenant numbers of the variant (R353, R463). -/
def tenantCount (s : State) : Nat := match s.variant with | .d1200 => 96 | _ => 128

/-- A tenant belongs to the wing. -/
def wingHasTenant (s : State) (w : Nat) : Bool := (List.range (tenantCount s)).any fun t => decide (wingOf s t = w)

/-- The sum of the quotas of the wings other than `w`. -/
def othersQuota (s : State) (w : Nat) : Nat := (((List.range 16).filter fun x => x != w).map fun x => getR s .wngWQuota x).sum

/-- The user capacity of the Undercroft, UCR_USER_BYTES (R404); a device without an Undercroft has none. -/
def userBytes (s : State) : Nat :=
  if hasUndercroft s then (match s.variant with | .d1200 => 0xE0000000000 | _ => 0x1C0000000000) else 0

/-- Change the owners of the hall groups: those of `groups` pass to the wing, its others become unowned (R460). -/
def setGroups (s : State) (w groups : Nat) : State :=
  let s1 := (List.range 16).foldl (fun t g =>
    if bit groups g then setR t .wngGroup (16 + w) g else if ownsGroup t w g then setR t .wngGroup 0 g else t) s
  setField s1 .wngW 0 16 groups w

/-- Set the peer account of a wing, in WNG_W_w and at index 128 + w of the tenant settings (R464, R473). -/
def setPeer (s : State) (w prio weight quota : Nat) : State :=
  let s1 := setField (setField (setField s .wngW 16 2 prio w) .wngW 24 8 weight w) .wngW 32 11 quota w
  setField (setField (setField s1 .wngTCfg 4 2 prio (128 + w)) .wngTCfg 8 8 weight (128 + w)) .wngTCfg 24 11 quota (128 + w)

/-- A register that the configuration record of wings and tenants holds (R473, R507). -/
def wingKey (k : Nat) : Bool :=
  (decide (0x200000 ≤ k) && decide (k < 0x200040)) || (decide (0x200100 ≤ k) && decide (k < 0x200300)) ||
    (decide (0x201000 ≤ k) && decide (k < 0x203400) && decide ((k - 0x201000) % 0x40 < 0x10))

/-- An accepted change of wings or tenants is programmed into the configuration record before it completes (R507). -/
def recordWings (s : State) : State :=
  if hasUndercroft s && decide (health s < 2) then
    programmed { s with wingRecord := some (s.regs.filter fun e => wingKey e.1) } 16384
  else s

/-- The argument of WING_SET sets a field that its FLAGS do not select (R459). -/
def wingSetUnused (a : List Byte) : Bool :=
  let f := numAt a 1 1
  (!bit f 0 && decide (numAt a 2 2 ≠ 0)) || (!bit f 1 && decide (numAt a 8 8 ≠ 0)) || (!bit f 2 && decide (numAt a 16 4 ≠ 0))

/-- The first check that WING_SET fails, if one does (R459 to R461). -/
def wingSetFail (c : Cmd) (s : State) : Option Nat :=
  let a := argBytes s c
  let w := numAt a 0 1
  let f := numAt a 1 1
  let groups := numAt a 2 2
  let quota := numAt a 8 8
  let old := wingGroups s w
  let new := if bit f 0 then groups else old
  let removed := clearBits old new
  let fail := argFail s c [(0, 4), (8, 12)]
    [(decide (8 ≤ f) || wingSetUnused a || decide (4 ≤ numAt a 16 1), stReservedSet),
     (f = 0 || decide (15 < w), stBadField), (decide (othersGroups s w &&& groups ≠ 0), stBadField),
     (bit f 2 && (numAt a 17 1 = 0 || decide (1024 < numAt a 18 2)), stBadField),
     (bit f 1 && hasUndercroft s && decide (userBytes s < othersQuota s w + quota), stBadField),
     (decide (wingCount s ≤ w) || decide (clearBits groups (presentHalls s) ≠ 0) || (!hasUndercroft s && decide (quota ≠ 0)), stUnitAbsent),
     ((maskHalls removed).any fun g => groupBusy s w g, stUnitBusy),
     (bit f 0 && decide (old ≠ 0) && new = 0 && wingHasTenant s w, stUnitBusy)]
  fail

/-- WING_SET's checks and effect (R459 to R461). -/
def wingSetBody (c : Cmd) (s : State) : State :=
  let a := argBytes s c
  let w := numAt a 0 1
  let f := numAt a 1 1
  let groups := numAt a 2 2
  let quota := numAt a 8 8
  let old := wingGroups s w
  let new := if bit f 0 then groups else old
  let removed := clearBits old new
  let s1 := if bit f 0 then setGroups s w groups else s
  let s2 := if bit f 1 then setR s1 .wngWQuota quota w else s1
  let s3 := if bit f 2 then setPeer s2 w (numAt a 16 1) (numAt a 17 1) (numAt a 18 2) else s2
  let out := bytesOf 2 new ++ bytesOf 2 (clearBits new old) ++ bytesOf 2 removed ++ bytesOf 2 0 ++ bytesOf 8 (getR s3 .wngWQuota w)
  orElse s c (wingSetFail c s) (finish (putOut (recordWings s3) c out) c.id stOk)

/-- WING_SET (R459): changes a wing's hall groups, Undercroft quota or peer account. -/
def execWingSet (id : Nat) (s : State) : Out := .next (withCmd s id 0x66 wingSetBody)

/-- The tenant has work that keeps it in its wing (R463). -/
def tenantBusy (s : State) (id t : Nat) : Bool :=
  (s.vst.inflight.any fun x => decide (x.tenant = t) && x.id != id) ||
    ((List.range 256).any fun u => present s .usher u && decide (fieldR s .ushContext 0 7 u = t)) ||
    (s.cloister.nss.any fun n => decide (n.owner = t) || (grantOf n t).isSome) ||
    s.store.colls.any fun e => match e.2 with | some x => decide (x.owner = t) | none => false

/-- The first check that TENANT_SET fails, if one does (R462, R463). -/
def tenantSetFail (c : Cmd) (s : State) : Option Nat :=
  let a := argBytes s c
  let t := numAt a 0 1
  let f := numAt a 1 1
  let w := numAt a 2 1
  let delay := numAt a 8 4
  let fail := argFail s c [(0, 12)]
    [(decide (4 ≤ f) || decide (4 ≤ numAt a 3 1), stReservedSet), (f = 0, stBadField), (bit f 0 && decide (15 < w), stBadField),
     (bit f 1 && (numAt a 4 1 = 0 || numAt a 5 1 = 0 || decide (1024 < numAt a 6 2) || decide (10000000 < delay)), stBadField),
     (decide (tenantCount s ≤ t), stUnitAbsent), (bit f 0 && decide (wingCount s ≤ w), stUnitAbsent),
     (bit f 0 && wingGroups s w = 0, stBadField), (bit f 0 && decide (w ≠ wingOf s t) && tenantBusy s c.id t, stUnitBusy)]
  fail

/-- TENANT_SET's checks and effect (R462, R463). -/
def tenantSetBody (c : Cmd) (s : State) : State :=
  let a := argBytes s c
  let t := numAt a 0 1
  let f := numAt a 1 1
  let w := numAt a 2 1
  let delay := numAt a 8 4
  let s1 := if bit f 0 then setField s .wngTCfg 0 4 w t else s
  let share := numAt a 3 1 * 2 ^ 4 + numAt a 4 1 * 2 ^ 8 + numAt a 5 1 * 2 ^ 16 + numAt a 6 2 * 2 ^ 24
  let s2 := if bit f 1 then setR (setR s1 .wngTCfg (wingOf s1 t + share) t) .wngTDelay delay t else s1
  orElse s c (tenantSetFail c s) (finish (putOut (recordWings s2) c (bytesOf 8 (getR s2 .wngTCfg t) ++ bytesOf 4 (getR s2 .wngTDelay t))) c.id stOk)

/-- TENANT_SET (R462): changes a tenant's wing or its shares. -/
def execTenantSet (id : Nat) (s : State) : Out := .next (withCmd s id 0x67 tenantSetBody)

end Sys2Proof.Machine
end

