-- ==== Sys2Proof/Machine/PorterOps.lean ====
section
/-! DEFINITION. The Porter's shared operations: its clock, the log, images and slots, the policy of voltages, and sensors (R475
to R493). -/

namespace Sys2Proof.Machine

/-- Change the Porter. -/
def modPorter (s : State) (f : Porter → Porter) : State := { s with porter := f s.porter }

/-- Change the module. -/
def modOam (s : State) (f : Module → Module) : State := { s with oam := f s.oam }

/-- The Porter is RUNNING (R501). -/
def porterRuns (s : State) : Bool := s.porter.state == .running

/-- Porter time since the last standby power-on (R483). -/
def porterNow (s : State) : Nat := (s.now + s.porter.localBase).toNat

/-- Bring shared time to at least the moment that Porter time reads `t`. -/
def notBeforeLocal (s : State) (t : Nat) : State := { s with now := max s.now ((t : Int) - s.porter.localBase).toNat }

/-- Every main rail is in regulation (R502). -/
def mainUp (s : State) : Bool := s.oam.powerGood

/-- The main domain is powered and bring-up has ended (R504). -/
def deviceUp (s : State) : Bool := mainUp s && bit (getR s .devBoot) 8

/-! ### The persistent log (R483 to R485) -/

/-- PRT_EVENTS bits set (R501). -/
def porterSticky (s : State) (m : Nat) : State := setSticky s .prtEvents .prtEventEn m

/-- The oldest SEQ that the NOR ring still holds once `next` is the SEQ of the next record: the sector ahead of the head is
erased (R483). -/
def oldestSeq (next : Nat) : Nat := (next / 64 + 2 - 1024) * 64

/-- Append a record to the log (R483): unit class and instance, and the payload's fields. -/
def appendLog (s : State) (type cls inst : Nat) (fields : List Nat) : State :=
  let seq := getR s .prtLogSeq
  let local_ := !synced s
  let r : LogRec := ⟨seq, if local_ then porterNow s else s.now, getR s .prtBoots, type, local_, cls, inst, fields⟩
  addR (modPorter s fun p => { p with log := (p.log ++ [r]).filter fun x => decide (oldestSeq (seq + 1) ≤ x.seq) }) .prtLogSeq 1

/-- Append a record about the Porter, unit class 8. -/
def porterLog (s : State) (type : Nat) (fields : List Nat) : State := appendLog s type 8 0 fields

/-- A byte that R483 names without an encoding (log entry 1). -/
def looseByte (r : LogRec) (i : Nat) : Byte := Config.logByte r.type r.fields i

/-- The payload: the UE log entry of R273 for HALL_UE, and otherwise the fields of R484 in the device's own encoding. -/
def payloadBytes (r : LogRec) : List Byte :=
  if r.type = 0x21 then
    bytesOf 8 (r.fields.getD 1 0) ++ bytesOf 8 (r.fields.getD 2 0) ++ bytesOf 8 (r.fields.getD 3 0 + 256 * r.fields.getD 4 0) ++ bytesOf 8 0
  else (List.range 32).map fun i => looseByte r (28 + i)

/-- The 64 bytes of a record (R483). -/
def logBytes (r : LogRec) : List Byte :=
  let body := bytesOf 8 r.seq ++ bytesOf 8 r.time ++ bytesOf 4 r.boot ++ bytesOf 2 r.type ++ [looseByte r 22] ++ bytesOf 1 (b2n r.localTime) ++
    bytesOf 4 (r.cls + 256 * r.inst) ++ payloadBytes r
  body ++ bytesOf 4 (crc32c body)

/-! ### Images, slots and counters (R489 to R493) -/

/-- The firmware of component 1 (Vipol) or 2 (microcode). -/
def firmware (s : State) (comp : Nat) : Firmware := if comp = 1 then s.porter.vipol else s.porter.micro

/-- Change the firmware of a component. -/
def modFirmware (s : State) (comp : Nat) (f : Firmware → Firmware) : State :=
  modPorter s fun p => if comp = 1 then { p with vipol := f p.vipol } else { p with micro := f p.micro }

/-- What a slot holds. -/
def slotOf (fw : Firmware) (slot : Nat) : SlotData := if slot = 0 then fw.slotA else fw.slotB

/-- Replace what a slot holds. -/
def putSlot (fw : Firmware) (slot : Nat) (d : SlotData) : Firmware := if slot = 0 then { fw with slotA := d } else { fw with slotB := d }

/-- A run of header bytes of a slot's image as a number (R489). -/
def headerNum (comp slot : Nat) (d : SlotData) (lo n : Nat) : Nat :=
  match d with
  | .shipped => ofLe ((List.range n).map fun i => (Config.shippedHeader comp slot (lo + i)).toNat)
  | .image bs => numAt bs lo n
  | .invalid => 0

/-- The 512 header bytes of a slot's image. -/
def headerOf (comp slot : Nat) (d : SlotData) : List Byte :=
  match d with
  | .shipped => (List.range 512).map (Config.shippedHeader comp slot)
  | .image bs => bs.take 512
  | .invalid => []

/-- A header field of the image in a component's slot. -/
def slotNum (s : State) (comp slot lo n : Nat) : Nat := headerNum comp slot (slotOf (firmware s comp) slot) lo n

/-- Consecutive set bits from bit 0: the security version counter (R491). -/
def onesFrom (x : Nat) : Nat → Nat
  | 0 => 0
  | n + 1 => if bit x 0 then 1 + onesFrom (x / 2) n else 0

/-- The security version counter of a component (R491). -/
def secCounter (fw : Firmware) : Nat := onesFrom fw.fuses.toNat 64

/-- The variant's bit of VARIANTS (R489). -/
def variantBit (s : State) : Nat := match s.variant with | .d1600 => 0 | .d1600n => 1 | .d1200 => 2

/-- SHA-384 of bytes (R489, log entry 2). -/
def shaBytes (bs : List Byte) : List Byte := (sha384 (bs.map BitVec.toNat)).map (BitVec.ofNat 8)

/-- Checks 1 to 5 of R490 on the bytes of an image. -/
def imageSigned (s : State) (comp : Nat) (bs : List Byte) : Bool :=
  let len := numAt bs 16 8
  let key := numAt bs 7 1
  let pub := (bs.drop 168).take 96
  decide (numAt bs 0 4 = 0x48444C31) && decide (numAt bs 4 2 = comp) && decide (len ≤ (if comp = 1 then 8388608 else 16777216) - 512) &&
    decide (bs.length = 512 + len) && ((bs.drop 264).take 248).all (fun b => b = 0) &&
    (comp != 1 || decide (numAt bs 12 2 = 0)) && bit (numAt bs 14 2) (variantBit s) &&
    decide (key < 4) && Config.keyUsable key && (shaBytes pub == (List.range 48).map (Config.keyDigest key)) &&
    Config.ecdsaVerify pub (bs.take 72) ((bs.drop 72).take 96) && (shaBytes (bs.drop 512) == (bs.drop 24).take 48)

/-- The outcome of R490 on a slot: 0, or the value of R495 for the first check that fails. Shipped images are signed and sound, so
they pass checks 1 to 5, and their LEVEL_MIN is not above their LEVEL (R542, log entry 23). -/
def imageCheck (s : State) (comp slot : Nat) : Nat :=
  let fw := firmware s comp
  let d := slotOf fw slot
  let signed := match d with | .shipped => true | .image bs => imageSigned s comp bs | .invalid => false
  let runs := match d with | .shipped => true | _ => decide (headerNum comp slot d 13 1 ≤ headerNum comp slot d 12 1)
  if !signed then 0x90
  else if headerNum comp slot d 6 1 < secCounter fw then 0x91
  else if comp = 2 && (decide (headerNum comp slot d 12 1 < getR s .mrqLevelFloor) || !runs) then 0x92
  else 0

/-- The image in a slot is valid (R490). -/
def slotValid (s : State) (comp slot : Nat) : Bool := decide (imageCheck s comp slot = 0)

/-- FW_FALLBACK (R484, R492): component, slot left, slot booted and reason (0 tries exhausted, 1 trial slot invalid, 2 self-test
failed, 3 active slot invalid). -/
def fallbackLog (s : State) (comp left booted reason : Nat) : State :=
  porterSticky (porterLog s 4 [comp, left, booted, reason]) 32

/-- Boot a slot: it runs, on trial or not. -/
def runSlot (s : State) (comp slot : Nat) (trial : Bool) : State := modFirmware s comp fun f => { f with running := slot, onTrial := trial }

/-- The rows of R492 with TRIAL = 0: the state, and whether a slot boots. -/
def bootActive (s : State) (comp : Nat) : State × Bool :=
  let fw := firmware s comp
  if slotValid s comp fw.active then (runSlot s comp fw.active false, true)
  else if slotValid s comp (1 - fw.active) then
    (runSlot (modFirmware (fallbackLog s comp fw.active (1 - fw.active) 3) comp fun f => { f with active := 1 - f.active }) comp (1 - fw.active) false,
      true)
  else (s, false)

/-- A trial ends without its slot (R492): TRIAL is cleared and ACTIVE is the other slot. -/
def leaveTrial (s : State) (comp reason : Nat) : State :=
  let fw := firmware s comp
  modFirmware (fallbackLog s comp fw.active (1 - fw.active) reason) comp fun f => { f with trial := false, onTrial := false, active := 1 - f.active }

/-- The choice of a slot at a start (R492). -/
def bootSlot (s : State) (comp : Nat) : State × Bool :=
  let fw := firmware s comp
  if fw.trial then
    if fw.tries < 3 && slotValid s comp fw.active then
      (runSlot (modFirmware s comp fun f => { f with tries := f.tries + 1 }) comp fw.active true, true)
    else bootActive (leaveTrial s comp (if fw.tries < 3 then 1 else 0)) comp
  else bootActive s comp

/-- A trial is committed (R491, R493): TRIAL is cleared, and the counter advances to the image's security version. -/
def commitTrial (s : State) (comp : Nat) : State :=
  let fw := firmware s comp
  let old := secCounter fw
  let v := slotNum s comp fw.running 6 1
  let s1 := modFirmware s comp fun f => { f with trial := false, onTrial := false, tries := 0 }
  if old < v then
    porterLog (modFirmware s1 comp fun f => { f with fuses := BitVec.ofNat 64 (f.fuses.toNat ||| (2 ^ v - 1)) }) 5 [comp, old, v]
  else s1

/-- Activate a staged slot (R492, R495): TRIAL is set and points at it. -/
def activateSlot (s : State) (comp : Nat) : State :=
  modFirmware s comp fun f => { f with active := 1 - f.running, trial := true, tries := 0, staged := false }

/-! ### A Porter restart (R477) -/

/-- The Porter restarts (R477): its core is reset and its SRAM cleared; the configuration area, the log, the session vault, the
registers and the regulators' settings stay. -/
def restartPorter (s : State) (why : RestartCause) : State :=
  modPorter s fun p =>
    { p with state := .restarting, cause := why, eid := 0, sensors := [], receiver := none, pldmQueue := [], update := none, spdm := [],
             policy := { p.policy with below := 0, tick := 0, trip := 0 } }

/-! ### Voltage policy (R479 to R482, R536) -/

/-- The target of a voltage mode in mV (R479). -/
def modeTarget (v : Nat) : Nat := [750, 720, 800, 860].getD v 750

/-- What a die's voltage moves to (R479): the lowest of the mode target, the cap setting and the thermal limit, at least 0.68 V;
0.68 V while the power brake is asserted (R536). -/
def voltTarget (s : State) (limit : Nat) : Nat :=
  let p := s.porter.policy
  if s.oam.brake then 680 else max 680 (min (modeTarget p.vmode) (min p.capMv limit))

/-- A voltage changes by at most 10 mV at a time (R479). -/
def stepVolt (v target : Nat) : Nat := if v < target then min target (v + 10) else max target (v - 10)

/-- Change the policy. -/
def modPolicy (s : State) (f : Policy → Policy) : State := modPorter s fun p => { p with policy := f p.policy }

/-- The regulators take both dies to 0.68 V (R482, R536). -/
def fastVolts (s : State) : State := modPolicy s fun p => { p with voltE := 680, voltW := 680 }

/-- POWER_LIMIT is set while the cap setting is below the mode target, with one record for each episode (R480). -/
def notePowerLimit (s : State) (average : Nat) : State :=
  let p := s.porter.policy
  if p.capMv < modeTarget p.vmode then
    let s1 := porterSticky s 4
    if p.episode then s1 else modPolicy (porterLog s1 0x11 [average, p.capW, p.capMv]) fun x => { x with episode := true }
  else modPolicy s fun x => { x with episode := false }

/-- Set the voltage mode and the cap (R479, R480): settings that stood at the old mode's target follow the new one. -/
def setPolicy (s : State) (vmode cap : Nat) : State :=
  let old := modeTarget s.porter.policy.vmode
  let new := modeTarget vmode
  let move := fun x => if x = old then new else min x new
  let s1 := modPolicy s fun p => { p with vmode := vmode, capW := cap, capMv := move p.capMv, limitE := move p.limitE, limitW := move p.limitW }
  setField s1 .prtPower 16 16 cap

/-! ### Sensors (R478, R499) -/

/-- The Porter reads a sensor in the standby domain: the 54 V input, the standby rail and the trip diodes (R499). -/
def standbySensor (i : Nat) : Bool := [80, 103, 104, 127, 161, 162].contains i

/-- A sensor is present (R478, R511): not one of an absent hall, of the pace monitors of an absent hall group, or monitor 20 on the
D1600-N. -/
def sensorHere (s : State) (i : Nat) : Bool :=
  if i < 64 then true
  else if i < 80 then present s .hall (i - 64)
  else if i = 100 ∨ i = 124 then (match s.variant with | .d1600n => false | _ => true)
  else if i < 128 then true
  else if i < 160 then present s .group ((i - 128) / 2)
  else decide (i < 163)

/-- The state of a sensor (R500): 0 valid, 1 unavailable, 2 not present; and its value and time. A sensor without a sample since
its domain left reset is unavailable. -/
def sensorNow (s : State) (i : Nat) : Nat × Int × Nat :=
  if !sensorHere s i then (2, 0, 0)
  else if !standbySensor i && !deviceUp s then (1, 0, 0)
  else match tget (fun _ => none) s.porter.samples i with
    | some (v, t) => (0, v, t)
    | none => (1, 0, 0)

end Sys2Proof.Machine
end

