-- ==== Sys2Proof/Machine/Reset.lean ====
section
/-! DEFINITION. A cold reset, the main rails and the thermal trip as shared operations (R502, R503, R509, R541). -/

namespace Sys2Proof.Machine

/-! ### Cold reset (R509, R513) -/

/-- A register that a cold reset keeps: the Porter's and the cause of the reset, which stand in the standby domain, and the
Undercroft's counts (R404, R501, R509, R512). -/
def keptKey (k : Nat) : Bool :=
  (decide (0x3800000 ≤ k) && decide (k < 0x3801000)) ||
    [regKey 0 .devResetCause 0 0, regKey 0 .ucrProgrammed 0 0, regKey 0 .ucrWear 0 0].contains k

/-- A wing's journal after a reset: its last commit, its log and its checkpoints in the NAND, awaiting recovery (R395). -/
def keptJournal (j : Journal) : Journal :=
  { resetJournal with seq := j.seq, durableImage := j.durableImage, log := j.log, ckpt := j.ckpt, newCkpts := j.newCkpts, recovering := true }

/-- A map as the Undercroft's record gives it back (R445). -/
def keptMap (m : MapEnt) : MapEnt :=
  match m.state with
  | .none => noMap
  | .active => { noMap with state := .active, cur := m.cur }
  | .prepared => if m.cur.isSome then { noMap with state := .active, cur := m.cur } else noMap
  | .committed => { noMap with state := .active, cur := m.next }
  | .grace => { noMap with state := .active, cur := m.cur }

/-- The Porter across a reset of the main domain: it keeps its state; link sessions end, and the samples of main-domain sensors
no longer hold (R499, R509). -/
def keptPorter (s : State) : Porter :=
  let p := s.porter
  { p with
    localBase := p.localBase + s.now
    samples := p.samples.filter fun e => standbySensor e.1
    sessions := p.sessions.filter fun x => match x.via with | .link _ => false | _ => true
    spdm := p.spdm.filter fun e => decide (e.1 < 16)
    micro := { p.micro with onTrial := false }
    pldmSent := p.pldmSent }

/-- The configuration of R458 and what the Undercroft keeps, over a cleared main domain. -/
def clearedMain (s : State) : State :=
  let ucr := (fuseWord s.variant 6) / 2 ^ 32 % 2 == 1
  let wings := List.range (wingCount s)
  let base := State.reset
  let s1 : State :=
    { base with
      pending := s.pending, free := s.free, variant := s.variant, fifo := s.fifo, fifoLost := s.fifoLost, host := s.host
      regs := s.regs.filter fun e => keptKey e.1
      store := { base.store with
        nextVer := s.store.nextVer, nextUid := s.store.nextUid
        journals := if ucr then wings.map fun w => (w, keptJournal (journal s w)) else [] }
      maps := if ucr && decide (health s ≠ 3) then (s.maps.map fun e => (e.1, keptMap e.2)).filter fun e => decide (e.2 ≠ noMap) else []
      porter := keptPorter s, oam := { s.oam with trained := [] }, wingRecord := s.wingRecord }
  let s2 := setR s1 .ucrStatus (health s)
  let s4 := wings.foldl (fun t w => setR t .ucrWDurableSeq (getR s .ucrWDurableSeq w) w) s2
  setR s4 .wngWQuota (userBytes s4) 0

/-- A cold reset (R509): the main domain is cleared, the link goes down, which the Porter logs (R383), and the cause is shown. -/
def coldReset (s : State) (cause : Option Nat) : State :=
  let s1 := if s.vst.linkUp then porterEvt s 0x30 [getR s .vstLink] else s
  let s2 := clearedMain s1
  match cause with
  | none => s2
  | some n => setR s2 .devResetCause n

/-- DEV_RESET_CAUSE (R512). -/
def causeCode : ResetCause → Nat
  | .powerOn => 1
  | .perst => 2
  | .resetCtrl => 3
  | .railsLost => 4
  | .thermalTrip => 5

/-! ### The main rails (R502, R503) -/

/-- The main rails of the variant (R502). -/
def railTotal (s : State) : Nat := match s.variant with | .d1600n => 6 | _ => 7

/-- The main rails fall; power-good goes first. -/
def dropRails (s : State) : State := modOam s fun m => { m with rails := 0, rising := false, powerGood := false, trained := [] }

/-- The main rails are lost (R503, R509): the dies, where they run, enter a cold reset. -/
def mainLoss (s : State) (cause : Nat) : State := dropRails (if mainUp s then coldReset s (some cause) else s)

/-- The conditions of R503, with a rail failure and the trip latch against them. -/
def railsMay (s : State) : Bool :=
  s.oam.standby && porterRuns s && s.oam.pwrEn && s.oam.inputOk && !s.oam.trip && !s.oam.retryFailed

/-- The first rail starts where the rails may rise and are down. Without a valid microcode slot the Porter goes to RECOVERY
instead (R504 step 4). -/
def startRails (s : State) : State :=
  if railsMay s && decide (s.oam.rails = 0) && !s.oam.rising then
    if slotValid s 2 0 || slotValid s 2 1 then modOam s fun m => { m with rising := true } else modPorter s fun p => { p with state := .recovery }
  else s

/-- The rails rise on a change of a condition, unless a retry is awaited (R503). -/
def raiseRails (s : State) : State := if s.oam.railFailed then s else startRails s

/-! ### Thermal trip (R541) -/

/-- The last sampled value of a sensor, or a free value where the Porter has none (log entry 1). -/
def lastMilli (s : State) (i : Nat) : Int :=
  match tget (fun _ => none) s.porter.samples i with
  | some (v, _) => v
  | none => (freeNow s).toNat

/-- THERMTRIP_N is asserted (R541): the latch is set, the Porter logs the trip, at its next boot where the comparator made it, and
the main rails fall. The trip governs where a power failure has just taken the rails. -/
def tripNow (s : State) (comparator : Bool) (sensor : Nat) : State :=
  if s.oam.trip then s
  else
    let t := lastMilli s sensor
    let s1 := modOam (drawFree s) fun m => { m with trip := true }
    let s2 := if comparator then modPorter s1 fun p => { p with tripNote := some (sensor, t) } else porterLog s1 0x13 [sensor, ofSigned 32 t, 0]
    if s2.oam.rails = 0 ∧ !s2.oam.rising ∧ !s2.oam.inputOk then setR s2 .devResetCause 5 else mainLoss s2 5

end Sys2Proof.Machine
end

