-- ==== Sys2Proof/Machine/Porter.lean ====
section
/-! DEFINITION. The Porter's boot, watchdog, policy, log and mailbox commands, and MCTP control (R475 to R501). -/

namespace Sys2Proof.Machine

/-! ### Boot and restart (R477, R492, R498) -/

/-- The code of a restart's cause in the BOOT record. -/
def restartCode : RestartCause → Nat
  | .powerOn => 0
  | .watchdog => 1
  | .activation => 2
  | .sram => 3
  | .command => 4

/-- The records that wait for a boot: WATCHDOG and a comparator's THERMAL_TRIP (R498, R541). -/
def bootNotes (s : State) : State :=
  let s1 := match s.porter.wdtNote with | some (t, pc) => porterLog s 0x50 [t, pc] | none => s
  let s2 := match s.porter.tripNote with | some (i, t) => porterLog s1 0x13 [i, ofSigned 32 t, 1] | none => s1
  modPorter s2 fun p => { p with wdtNote := none, tripNote := none }

/-- PORTER_RESTART's answer once the restart has ended (R500): GO self-clears. -/
def endCommand (s : State) : State :=
  if s.porter.cause = .command then porterSticky (setR (setField s .prtMbxCtrl 0 1 0) .prtMbxResp 0) 1 else s

/-- A Vipol slot has booted: RUNNING, with its records (R484, R492, R495). -/
def vipolRuns (s : State) : State :=
  let p := s.porter
  let s1 := modPorter s fun x => { x with state := .running, runSince := porterNow s }
  let s2 := porterLog s1 1
    [p.vipol.running, slotNum s 1 p.vipol.running 8 4, p.micro.running, slotNum s 2 p.micro.running 8 4, restartCode p.cause]
  let s3 := if p.cause = .activation then
      porterSticky (porterLog s2 3 [1, p.vipol.running, slotNum s 1 p.vipol.running 8 4]) 16
    else s2
  raiseRails (endCommand (bootNotes s3))

/-- PORTER_BOOT (R492): the boot ROM chooses and checks the Vipol slot; without a valid one it stays in recovery, and the main
domain is off (R503, R504). -/
def execPorterBoot (s : State) : Out :=
  .next (if s.porter.state = .rom ∨ s.porter.state = .restarting then
      let r := bootSlot (addR s .prtBoots 1) 1
      if r.2 then vipolRuns r.1 else mainLoss (modPorter r.1 fun p => { p with state := .recovery }) 4
    else s)

/-- WATCHDOG_EXPIRY (R498): Vipol has not refreshed the watchdog within its timeout. -/
def execWatchdogExpiry (pc : W64) (s : State) : Out :=
  .next (if porterRuns s then
      let s1 := restartPorter (porterSticky (addR s .prtWdtFires 1) 8) .watchdog
      modPorter s1 fun p => { p with wdtNote := some (p.wdtMs, pc.toNat) }
    else s)

/-- PORTER_SRAM_UNCORRECTABLE (R477). -/
def execPorterSramUncorrectable (s : State) : Out := .next (if porterRuns s then restartPorter s .sram else s)

/-! ### Policy (R479 to R482) -/

/-- The hottest of 32 die sensors from `i` on, in thousandths of a degree. -/
def hottest (s : State) (i : Nat) : Int :=
  (List.range 32).foldl (fun m k => match tget (fun _ => none) s.porter.samples (i + k) with | some (v, _) => max m v | none => m) (-1000000)

/-- The sensor of the hottest reading. -/
def hottestAt (s : State) (i : Nat) : Nat :=
  i + ((List.range 32).findIdx fun k =>
    match tget (fun _ => none) s.porter.samples (i + k) with | some (v, _) => decide (v = hottest s i) | none => false)

/-- The thermal limit of a die after a sample (R481), in steps of 10 mV; `ms` marks the end of a millisecond. -/
def nextLimit (hot : Int) (ms : Bool) (target limit : Nat) : Nat :=
  if 105000 ≤ hot then 680
  else if ms && decide (95000 ≤ hot) then max 680 (limit - 10)
  else if ms && decide (hot < 92000) then min target (limit + 10)
  else limit

/-- DIE_THERMAL and the event as a die crosses 105 °C (R481, R484). -/
def dieThermal (s : State) (die : Nat) (was : Bool) : State :=
  let hot := hottest s (32 * die)
  if 105000 ≤ hot ∧ !was then porterSticky (porterLog s 0x10 [die, hottestAt s (32 * die), ofSigned 32 hot, 680]) 2 else s

/-- DIE_SENSOR_SAMPLE (R478, R479, R481): the samples of every 100 µs, the dies' limits and voltages, and the trip at 110 °C for
1 ms. -/
def execDieSensorSample (samples : List SensorSample) (s : State) : Out :=
  let s1 := (samples.filter fun x => sensorHere s x.sensor && (standbySensor x.sensor || deviceUp s)).foldl
    (fun t x => noteSample t x.sensor x.milli) s
  if !porterRuns s || !mainUp s then .next (if porterRuns s then s1 else s)
  else
    let p := s1.porter.policy
    let ms := decide (9 ≤ p.tick)
    let e := hottest s1 0
    let w := hottest s1 32
    let target := modeTarget p.vmode
    let s2 := modPolicy s1 fun x =>
      { x with
        tick := if ms then 0 else x.tick + 1
        limitE := nextLimit e ms target x.limitE
        limitW := nextLimit w ms target x.limitW
        hotE := decide (105000 ≤ e)
        hotW := decide (105000 ≤ w)
        trip := if 110000 ≤ max e w then x.trip + 1 else 0 }
    let s3 := dieThermal (dieThermal s2 0 p.hotE) 1 p.hotW
    let s4 := modPolicy s3 fun x =>
      { x with voltE := stepVolt x.voltE (voltTarget s3 x.limitE), voltW := stepVolt x.voltW (voltTarget s3 x.limitW) }
    .next (if 10 ≤ s4.porter.policy.trip then tripNow s4 false (if w ≤ e then hottestAt s4 0 else hottestAt s4 32) else s4)

/-- POWER_CAP_TICK (R480): every 1 ms, with the average of sensor 160 in 0.1 W. -/
def execPowerCapTick (average : Nat) (s : State) : Out :=
  if !porterRuns s || !mainUp s then .next s
  else
    let s1 := setR s .prtPower (min average 0xFFFF + s.porter.policy.capW * 2 ^ 16)
    let low := decide (average < 10 * (s.porter.policy.capW - 50))
    let s2 := modPolicy s1 fun p =>
      let n := if low then p.below + 1 else 0
      { p with
        below := n
        capMv := if 10 * p.capW < average then max 680 (p.capMv - 10)
          else if 10 ≤ n then min (modeTarget p.vmode) (p.capMv + 10) else p.capMv }
    .next (notePowerLimit s2 average)

/-- FAST_POWER_LIMIT (R482): hardware takes both dies to 0.68 V, and the cap setting stands there. The record of a restarting
Porter waits in the FIFO. -/
def execFastPowerLimit (peak : Nat) (s : State) : Out :=
  if !mainUp s then .next s
  else
    let s1 := modPolicy (fastVolts s) fun p => { p with capMv := 680, below := 0 }
    .next (if porterRuns s1 then notePowerLimit (porterLog s1 0x12 [peak]) (fieldR s1 .prtPower 0 16) else porterEvt s1 0x12 [peak])

/-! ### Trials (R493) -/

/-- A trial of the component is running. -/
def trialRuns (s : State) (comp : Nat) : Bool :=
  let f := firmware s comp
  porterRuns s && f.trial && f.onTrial && (comp = 1 || (comp = 2 && deviceUp s))

/-- TRIAL_COMMIT (R493): 600 s have passed since the Porter entered RUNNING, or since bring-up ended. -/
def execTrialCommit (component : Nat) (s : State) : Out :=
  .next (if trialRuns s component && (component = 1 || component = 2) then
      commitTrial (notBeforeLocal s ((if component = 1 then s.porter.runSince else s.porter.upSince) + 600000000000)) component
    else s)

/-! ### The log (R483 to R486) -/

/-- The Porter may mirror its log (R485). -/
def mayMirror (s : State) : Bool :=
  porterRuns s && deviceUp s && hasUndercroft s && decide (health s < 2) && !s.store.journals.any fun e => e.2.recovering

/-- LOG_MIRROR_COMMIT (R485): the records that the mirror lacks and the NOR ring holds are copied in order. The mirror's programs
count as the Undercroft's. -/
def execLogMirrorCommit (s : State) : Out :=
  if !mayMirror s then .next s
  else
    let p := s.porter
    let new := p.log.filter fun r => match p.mirror.getLast? with | some l => decide (l.seq < r.seq) | none => true
    if new.isEmpty then .next s
    else
      let all := p.mirror ++ new
      .next (programmed (modPorter s fun x => { x with mirror := all.drop (all.length - 4194304) }) (16384 * ((64 * new.length + 16383) / 16384)))

/-- A pin mark enters the table of the configuration area (R267, R486). -/
def recordMark (s : State) (h pc pin : Nat) : State :=
  porterLog (modPorter s fun p => { p with pinMarks := tset (fun _ => 0) p.pinMarks (64 * h + pc) (pin + 1) }) 0x22 [h, pc, pin, 1]

/-- The unit class of a record about a unit event (R483). -/
def eventClass (type : Nat) : Nat :=
  if type = 0x20 ∨ type = 0x21 then 0 else if type = 0x30 then 9 else if type = 0x31 ∨ type = 0x32 then 10 else if type = 0x40 then 11 else 8

/-- Hall events that the log takes (R280): step changes, halts, sensor faults, marks, refused marks and crossings of the CE
threshold. -/
abbrev loggedHallBits := 0xFD

/-- A unit event is logged (R280, R484). -/
def logEvent (s : State) (e : UnitEvt) : State :=
  let inst := if eventClass e.type = 0 ∨ eventClass e.type = 10 then e.fields.getD 0 0 else 0
  if e.type = 0x20 ∧ e.fields.getD 1 0 &&& loggedHallBits = 0 then s
  else
    let s1 := appendLog s e.type (eventClass e.type) inst e.fields
    if e.type = 0x20 ∧ bit (e.fields.getD 1 0) 2 then recordMark s1 (e.fields.getD 0 0) (e.fields.getD 4 0) (e.fields.getD 5 0) else s1

/-- PORTER_EVENT (R477, R484): the Porter takes the oldest event of its FIFO; events that found it full are reported in one
record. -/
def execPorterEvent (s : State) : Out :=
  if !porterRuns s then .next s
  else
    let s1 := if s.fifoLost = 0 then s else porterSticky (porterLog { s with fifoLost := 0 } 0x51 [s.fifoLost]) 64
    match s1.fifo with
    | [] => .next s1
    | e :: es => .next (logEvent { s1 with fifo := es } e)

/-! ### Management messages and the mailbox (R487, R499 to R501) -/

/-- The Porter answers over a binding: PCIe messages need the link (R487, R499). -/
def mctpReaches (s : State) (via : Transport) : Bool :=
  s.oam.standby && match via with | .pcie => s.vst.linkUp | _ => true

/-- PRT_MBX_CTRL.GO (R501). -/
def mbxGo (s : State) : Bool := bit (getR s .prtMbxCtrl) 0

/-- The request of a mailbox command of an opcode, where one is to run (R487, R500). -/
def mbxRequest (s : State) (op : Nat) : MbxFrom → Option (List Byte)
  | .mailbox =>
    if porterRuns s && mbxGo s && decide (fieldR s .prtMbxCmd 0 16 = op) then some ((List.range 512).map fun i => tget (fun _ => 0) s.porter.mbx i)
    else none
  | .message via bs => if porterRuns s && mctpReaches s via then some bs else none

/-- Answer a mailbox command (R500): the response overwrites the request, GO self-clears and MBX_DONE sets; a message gets its
answer as one. -/
def mbxAnswer (s : State) (op : Nat) (from_ : MbxFrom) (status : Nat) (resp : List Byte) : State :=
  match from_ with
  | .mailbox =>
    let s1 := modPorter s fun p => { p with mbx := putBytes p.mbx 0 resp }
    porterSticky (setField (setR s1 .prtMbxResp (status + resp.length * 2 ^ 16)) .prtMbxCtrl 0 1 0) 1
  | .message _ _ => modPorter s fun p => { p with reply := some ⟨0x7E, op, status, [], resp⟩ }

/-- Run a mailbox command: with a status and no data where it is refused. -/
def withMbx (s : State) (op : Nat) (from_ : MbxFrom) (run : List Byte → State → State × Nat × List Byte) : State :=
  match mbxRequest s op from_ with
  | none => s
  | some bs => let r := run bs s; mbxAnswer r.1 op from_ r.2.1 r.2.2

/-- The 16 bytes of a sensor's answer (R500). -/
def sensorBytes (s : State) (i : Nat) : List Byte :=
  let r := sensorNow s i
  bytesOf 2 i ++ bytesOf 1 r.1 ++ bytesOf 1 0 ++ bytesOf 4 (ofSigned 32 r.2.1) ++ bytesOf 8 r.2.2

/-- SENSOR_READ (R500). An ID that names no sensor reads as not present. -/
def execSensorRead (from_ : MbxFrom) (s : State) : Out :=
  .next (withMbx s 1 from_ fun q t =>
    let n := numAt q 2 2
    if n = 0 ∨ 256 < n then (t, stBadField, [])
    else (t, stOk, (List.range n).flatMap fun k => sensorBytes t (numAt q 0 2 + k)))

/-- The records that LOG_READ can serve (R485, R499): the mirror's that the NOR ring no longer holds, then the ring's. -/
def heldRecords (s : State) : List LogRec :=
  let p := s.porter
  let inRing := fun (r : LogRec) => match p.log with | [] => false | x :: _ => decide (x.seq ≤ r.seq)
  (if hasUndercroft s && deviceUp s && decide (health s < 3) then p.mirror.filter fun r => !inRing r else []) ++ p.log

/-- LOG_READ (R500). The first SEQ of an answer without records is a free value (log entry 1). -/
def execLogRead (from_ : MbxFrom) (s : State) : Out :=
  .next (withMbx s 2 from_ fun q t =>
    let n := numAt q 8 1
    if n = 0 ∨ 63 < n then (t, stBadField, [])
    else
      let rs := ((heldRecords t).filter fun r => decide (numAt q 0 8 ≤ r.seq)).take n
      let first := match rs with | [] => (freeNow t).toNat | r :: _ => r.seq
      (drawFree t, stOk, bytesOf 8 first ++ bytesOf 1 rs.length ++ bytesOf 55 0 ++ rs.flatMap logBytes))

/-- POWER_SET (R479, R480, R500). -/
def execPowerSet (from_ : MbxFrom) (s : State) : Out :=
  .next (withMbx s 3 from_ fun q t =>
    let v := numAt q 0 1
    let w := numAt q 2 2
    if 3 < v ∨ w < 1250 ∨ 1600 < w then (t, stBadField, [])
    else
      let t1 := setPolicy t v w
      (t1, stOk, bytesOf 1 v ++ bytesOf 1 0 ++ bytesOf 2 w ++ bytesOf 2 t1.porter.policy.voltE ++ bytesOf 2 t1.porter.policy.voltW))

/-- PIN_MARK_CLEAR (R486, R500). -/
def execPinMarkClear (from_ : MbxFrom) (s : State) : Out :=
  .next (withMbx s 4 from_ fun q t =>
    let h := numAt q 0 1
    let pc := numAt q 1 1
    let k := 64 * h + pc
    let kept := tget (fun _ => 0) t.porter.pinMarks k
    if 15 < h ∨ 63 < pc then (t, stBadField, [])
    else if !present t .hall h then (t, stUnitAbsent, [])
    else if kept = 0 ∧ !bit (getR t .halPcCe h pc) 30 then (t, stNoSuchObject, [])
    else
      let pin := if kept = 0 then fieldR t .halPcCe 24 6 h pc else kept - 1
      let t1 := modPorter (setField t .halPcCe 24 7 0 h pc) fun p => { p with pinMarks := tset (fun _ => 0) p.pinMarks k 0 }
      (porterLog t1 0x22 [h, pc, pin, 0], stOk, []))

/-- TRUST_SET (R497, R500): the trust store is replaced whole. -/
def execTrustSet (from_ : MbxFrom) (s : State) : Out :=
  .next (withMbx s 5 from_ fun q t =>
    let n := numAt q 0 1
    if n = 0 ∨ 8 < n then (t, stBadField, [])
    else
      let roots := (List.range n).map fun i => ((q ++ bytesOf 448 0).drop (64 + 48 * i)).take 48
      (modPorter t fun p => { p with trust := some ⟨roots, numAt q 1 1, numAt q 2 1⟩ }, stOk, []))

/-- FW_COMMIT (R493, R500). -/
def execFwCommit (from_ : MbxFrom) (s : State) : Out :=
  .next (withMbx s 6 from_ fun q t =>
    let c := numAt q 0 1
    if c ≠ 1 ∧ c ≠ 2 then (t, stBadField, [])
    else if !trialRuns t c then (t, stNoSuchObject, [])
    else
      let t1 := commitTrial t c
      (t1, stOk, bytesOf 1 (secCounter (firmware t1 c))))

/-- WDT_SET (R498, R500). -/
def execWdtSet (from_ : MbxFrom) (s : State) : Out :=
  .next (withMbx s 7 from_ fun q t =>
    let ms := numAt q 0 2
    if ms < 100 ∨ 10000 < ms then (t, stBadField, []) else (modPorter t fun p => { p with wdtMs := ms }, stOk, []))

/-- PORTER_RESTART (R477, R487, R500): a command of the mailbox alone; GO self-clears when the restart ends. -/
def execPorterRestart (s : State) : Out :=
  .next (match mbxRequest s 8 .mailbox with | some _ => restartPorter s .command | none => s)

/-- An undefined opcode completes with 0x0101 (R500). -/
def undefinedMbx (s : State) : State :=
  let op := fieldR s .prtMbxCmd 0 16
  if op = 0 ∨ 8 < op then mbxAnswer s op .mailbox stBadOpcode [] else s

/-- MCTP_CONTROL_MESSAGE (R487): the bus owner assigns the endpoint ID, or asks for it or for the message types. In recovery the
ROM answers too (R492). -/
def execMctpControlMessage (via : Transport) (request : MctpControl) (s : State) : Out :=
  .next (if (porterRuns s || s.porter.state = .recovery) && mctpReaches s via then
      match request with
      | .setEndpointId e =>
        if e = 0 ∨ e = 255 then modPorter s fun p => { p with reply := some ⟨0, 1, 2, [p.eid], []⟩ }
        else modPorter s fun p => { p with eid := e, reply := some ⟨0, 1, 0, [e], []⟩ }
      | .getEndpointId => modPorter s fun p => { p with reply := some ⟨0, 2, 0, [p.eid], []⟩ }
      | .getMessageTypes => modPorter s fun p => { p with reply := some ⟨0, 5, 0, [0x00, 0x01, 0x05, 0x7E], []⟩ }
    else s)

end Sys2Proof.Machine
end

