-- ==== Sys2Proof/Machine/Dma.lean ====
section
/-! DEFINITION. The DMA engines (R349). -/

namespace Sys2Proof.Machine

/-- Two ranges overlap. -/
def overlap (a b n : Nat) : Bool := decide (a < b + n) && decide (b < a + n)

/-- The bytes of a destination line that a range covers: the line's first covered byte and how many. -/
def linePart (a n l : Nat) : Nat × Nat :=
  let lo := if l * 64 < a then a - l * 64 else 0
  (lo, min 64 (a + n - l * 64) - lo)

/-- Write one line of a range: whole with WR_FULL, a part through the write-combining buffer (R241, R242, R349). -/
def dmaLine (s : State) (wing : Nat) (a n l : Nat) (bs : List Byte) : State × Nat :=
  let p := linePart a n l
  if p = (0, 64) then writeFull s (some wing) l bs else writePart s (some wing) l (spanMask p.1 p.2) (bytesOf p.1 0 ++ bs)

/-- Move lines one after another; the first failure stops the descriptor (R349). Answers the state, the status and the lines
written. -/
def dmaLines (wing a n : Nat) (src : State → Nat → List Byte × Nat) : State → List Nat → Nat → State × Nat × Nat
  | s, [], k => (s, 0, k)
  | s, l :: ls, k =>
    let (bs, st) := src s l
    if st ≠ 0 then (s, st, k)
    else
      let (s1, st1) := dmaLine s wing a n l bs
      if st1 ≠ 0 then (s1, st1, k) else dmaLines wing a n src s1 ls (k + 1)

/-- The source bytes of a destination line of a COPY, with the failure that their read meets. -/
def copySource (src dst n : Nat) (s : State) (l : Nat) : List Byte × Nat :=
  let p := linePart dst n l
  let a := src + (l * 64 + p.1 - dst)
  (memRead s a p.2, (readFail s a p.2).getD 0)

/-- The pattern bytes of a destination line of a FILL (R349). -/
def fillSource (pat dst n : Nat) (_s : State) (l : Nat) : List Byte × Nat :=
  let p := linePart dst n l
  ((List.range p.2).map fun i => BitVec.ofNat 8 (bits pat (8 * ((l * 64 + p.1 - dst + i) % 8)) 8), 0)

/-- The checks of a COPY (R331, R349). -/
def copyFail (s : State) (g : Nat) (d : Desc) : Option Nat :=
  let src := d.num 16 8
  let dst := d.num 24 8
  let n := d.num 32 8
  descFail s 4 g d
    { named := [(16, 24)]
      fields := [(n = 0 || decide (2 ^ 36 < n), stBadField), (overlap src dst n, stBadField)]
      window := [(!descMay s d src n || !descMay s d dst n, stWindow)]
      trans := [(noRead s src n || noWrite s dst n, stNoTranslation)] }

/-- The checks of a FILL. -/
def fillFail (s : State) (g : Nat) (d : Desc) : Option Nat :=
  let dst := d.num 24 8
  let n := d.num 32 8
  descFail s 4 g d
    { named := [(24, 24)]
      fields := [(n = 0 || decide (2 ^ 36 < n), stBadField)]
      window := [(!descMay s d dst n, stWindow)]
      trans := [(noWrite s dst n, stNoTranslation)] }

/-- The lines of a DMA descriptor's destination. -/
def dmaDest (d : Desc) : List Nat := linesOf (d.num 24 8) (d.num 32 8)

/-- The source of each line of a DMA descriptor. -/
def dmaSource (d : Desc) : State → Nat → List Byte × Nat :=
  if d.op = 0x50 then copySource (d.num 16 8) (d.num 24 8) (d.num 32 8) else fillSource (d.num 40 8) (d.num 24 8) (d.num 32 8)

/-- Run a checked DMA descriptor over some of its destination lines. -/
def runDma (s : State) (g : Nat) (d : Desc) (ls : List Nat) : State :=
  let s1 := if d.op = 0x50 then touchRead s (some d.wing) (d.num 16 8) (d.num 32 8) else s
  let (s2, st, k) := dmaLines d.wing (d.num 24 8) (d.num 32 8) (dmaSource d) s1 ls 0
  endDesc s2 4 g d.id st k

/-- DMA_COPY (R349). -/
def execDmaCopy (g id : Nat) (s : State) : Out :=
  .next <| withDesc s 4 g id 0x50 fun d s1 =>
    match copyFail s1 g d with
    | some st => refuseDesc s1 4 g id st
    | none => runDma s1 g d (dmaDest d)

/-- DMA_FILL (R349). -/
def execDmaFill (g id : Nat) (s : State) : Out :=
  .next <| withDesc s 4 g id 0x51 fun d s1 =>
    match fillFail s1 g d with
    | some st => refuseDesc s1 4 g id st
    | none => runDma s1 g d (dmaDest d)

end Sys2Proof.Machine
end

