-- ==== Sys2Proof/Machine/HallDesc.lean ====
section
/-! DEFINITION. The descriptors of halls: BOARD, TREAD_SET and the Turnstile's (R335 to R339). -/

namespace Sys2Proof.Machine

/-- The lowest hall of a collection (R335). -/
def lowestHall (s : State) (coll : Nat) : Option Nat := match collOf s coll with | some x => (maskHalls x.halls).head? | none => none

/-- A collection exists in a wing and is not closed (R335, R549). -/
def wingColl (s : State) (w coll : Nat) : Option Coll :=
  match collOf s coll with
  | some x => if x.wing = w ∧ x.closing.isNone then some x else none
  | none => none

/-- Count what admission refused (R453, R473). -/
def countRefused (s : State) (q : Query) (st : Nat) : State :=
  countOutcome (if q.deadline ≠ 0 ∧ !synced s then addR s .timRefused 1 else s) q st

/-- PRIO_TOP of a tenant (R464). -/
def prioTop (s : State) (t : Nat) : Nat := fieldR s .wngTCfg 4 2 t

/-- The query of a BOARD (R335). -/
def boardQuery (s : State) (d : Desc) (w : Nat) : Query :=
  let pm := d.num 30 2
  let dl := d.num 56 8
  { ctx := s.store.nextCtx, source := .board d.id, coll := d.num 24 2, account := d.tenant, tag := d.num 16 8, k := d.num 26 1, prio := d.num 27 1,
    radius := d.num 28 2, code := memNum s (d.num 40 8) (w / 8), permit := if pm = 0xFFFF then none else some pm, permitVer := none, view := none,
    deadline := dl, limit := if dl = 0 then none else some dl, waiting := 0, halls := 0, admitted := s.now, resultAddr := d.num 48 8, recs := [],
    delayed := false, released := false }

/-- The checks of a BOARD, its entry and then its code (R331, R335, R464, R550). -/
def boardFail (s : State) (h : Nat) (d : Desc) : Option Nat :=
  let coll := d.num 24 2
  let x := wingColl s d.wing coll
  let w := match x with | some c => c.width | none => 64
  let pm := d.num 30 2
  (descFail s 0 h d
    { named := [(16, 18), (40, 24)]
      reserved := [(decide (4096 ≤ coll) || decide (4 ≤ d.num 27 1), stReservedSet)]
      fields := [(x.isNone, stNoSuchObject), (d.num 26 1 = 0 || decide (64 < d.num 26 1), stBadField), (d.num 32 2 ≠ w, stBadField),
        (decide (w < d.num 28 2), stBadField), (lowestHall s coll ≠ some h, stBadField),
        (pm ≠ 0xFFFF && (currentPermit s coll pm).isNone, stBadField), (decide (d.num 27 1 < prioTop s d.tenant), stBadField)]
      align := [(misaligned (d.num 40 8) || misaligned (d.num 48 8), stBadAlign)]
      window := [(!descMay s d (d.num 40 8) (w / 8) || !descMay s d (d.num 48 8) 17408, stWindow)]
      trans := [(noRead s (d.num 40 8) (w / 8) || noWrite s (d.num 48 8) 17408, stNoTranslation)] }).or (readFail s (d.num 40 8) (w / 8))

/-- BOARD (R335 to R337): admission judges the flight, and its entries join the Landings of its halls together. -/
def execBoard (h id : Nat) (s : State) : Out :=
  .next <| withDesc s 0 h id 0x01 fun d s1 =>
    match boardFail s1 h d with
    | some st => refuseDesc s1 0 h id st
    | none =>
      let w := match collOf s1 (d.num 24 2) with | some x => x.width | none => 0
      let s2 := touchRead s1 (some d.wing) (d.num 40 8) (w / 8)
      let q := boardQuery s2 d w
      match admitQuery (bumpCtx s2) q with
      | .error st => refuseDesc (countRefused s2 q st) 0 h id st
      | .ok s3 => settleFlights s3

/-- A flight is dropped: its entries, treads and candidates are freed and no record is written (R80, R332, R351). -/
def dropFlight (s : State) (ctx : Nat) : State :=
  let f := fun (t : Stair) =>
    { t with treads := t.treads.filter fun e => !(decide (e.2.state ≠ .free) && decide (e.2.ctx = ctx))
             landing := t.landing.filter fun e => e.ctx ≠ ctx
             alighted := t.alighted.filter fun a => a.ctx ≠ ctx }
  dropQuery ((List.range 16).foldl (fun t h => modStair t h f) s) ctx

/-- The query of a BOARD that a program context issued and that has yet to complete, by its token (R338). -/
def boardedBy (s : State) (u token : Nat) : Option Query :=
  match (usher s u).tokens.find? fun t => t.value == token && t.status.isNone with
  | none => none
  | some t => s.store.queries.find? fun q => q.source == .board t.desc

/-- The checks of a TREAD_SET (R331, R338). -/
def treadSetFail (s1 : State) (h : Nat) (d : Desc) (q : Option Query) : Option Nat :=
  let ch := d.num 24 1
  let r := d.num 25 2
  descFail s1 0 h d
    { named := [(16, 11)]
      busy := [(q.isSome && decide (bits ch 1 3 ≠ 0), stUnitBusy)]
      reserved := [(decide (16 ≤ ch), stReservedSet)]
      fields := [(q.isNone, stNoSuchObject), (ch = 0, stBadField), (q.any (fun x => decide (x.radius < r)), stBadField),
        (q.any (fun x => lowestHall s1 x.coll ≠ some h), stBadField)] }

/-- TREAD_SET (R338): RADIUS drops in every hall where the flight is aboard or waits. -/
def execTreadSet (h id : Nat) (s : State) : Out :=
  .next <| withDesc s 0 h id 0x02 fun d s1 =>
    let q := match d.issuer with | .usher u _ => boardedBy s1 u (d.num 16 8) | _ => none
    let r := d.num 25 2
    match treadSetFail s1 h d q with
    | some st => refuseDesc s1 0 h id st
    | none =>
      match q with
      | none => s1
      | some x => endDesc (modQuery s1 x.ctx fun y => { y with radius := r }) 0 h id stOk 0

/-- A Turnstile descriptor: microcode issues it on queue 3 and it takes effect, or a program's descriptor at the head of a
queue is refused (R339). -/
def turnstileDesc (s : State) (h id op : Nat) (micro : Option (List Byte)) (act : Desc → State → State) : State :=
  match micro with
  | some b => if present s .hall h then act ⟨s.nextDesc, 3, .micro, 0, (groupWing s h).getD 0, b, none⟩ s else s
  | none => withDesc s 0 h id op fun d s1 =>
      if d.queue = 3 then act d s1
      else refuseDesc s1 0 h id ((descFail s1 0 h d { named := [(16, 48)] }).getD stBadField)

/-- TRN_THRESH (R100, R339): the tread takes the lower threshold if it still serves the context. -/
def execTrnThresh (h id : Nat) (micro : Option (List Byte)) (s : State) : Out :=
  .next <| turnstileDesc s h id 0x10 micro fun d s1 =>
    let n := bits (d.num 16 2) 0 10
    let x := treadOf (stair s1 h) n
    let s2 :=
      if x.state = .aboard ∧ x.ctx % 65536 = d.num 18 2 then
        modStair s1 h fun t => setTread t n { x with thresh := min x.thresh (d.num 20 2) }
      else s1
    endDesc s2 0 h d.id stOk 0

/-- TRN_SPILL_FREE (R86, R339): units of the spill ring are freed at its consumer end; more than the ring holds are refused. -/
def execTrnSpillFree (h id : Nat) (micro : Option (List Byte)) (s : State) : Out :=
  .next <| turnstileDesc s h id 0x11 micro fun d s1 =>
    let t := stair s1 h
    let n := d.num 16 4
    if t.spillProd - t.spillCons < 256 * n then refuseDesc s1 0 h d.id stBadField
    else
      endDesc (freeSpill s1 h n) 0 h d.id stOk 0

/-- The pool entries of a flight that has alighted, tread by tread, in the format of R85. -/
def drainBytes (ctx : Nat) : List (Nat × Nat) → List Cand → List Byte
  | [], _ => []
  | (n, k) :: ts, cs => ((cs.take k).map fun c => spillBytes c.dist n c.slot ctx).flatten ++ drainBytes ctx ts (cs.drop k)

/-- TRN_DRAIN (R339): the context's pool entries are written out and leave the pool; the flight's selection goes on over them in
memory. A context that no flight of the hall bears has no entries. -/
def execTrnDrain (h id : Nat) (micro : Option (List Byte)) (s : State) : Out :=
  .next <| turnstileDesc s h id 0x12 micro fun d s1 =>
    let c := d.num 16 2
    let a := d.num 24 8
    if a % 64 ≠ 0 then refuseDesc s1 0 h d.id stBadAlign
    else
      match (stair s1 h).alighted.find? fun x => x.ctx % 65536 == c with
      | none =>
        if (stair s1 h).treads.any fun e => decide (e.2.state = .aboard) && decide (e.2.ctx % 65536 = c) then refuseDesc s1 0 h d.id stUnitBusy
        else endDesc s1 0 h d.id stOk 0
      | some x =>
        let (s2, st) := runWrites s1 d.wing [(a, padLines (drainBytes c x.treads x.cands))]
        let f := fun (y : Alighted) => if y.ctx == x.ctx then { y with cands := [], treads := [], spill := y.cands ++ y.spill } else y
        endDesc (modStair s2 h fun t => { t with alighted := t.alighted.map f }) 0 h d.id st x.cands.length

end Sys2Proof.Machine
end

