-- ==== Sys2Proof/Machine/HallMem.lean ====
section
/-! DEFINITION. The commands of hall memory: heat, refresh, scrub, repair and the write-combining buffer (R266 to R281). -/

namespace Sys2Proof.Machine

/-! ### Heat (R277 to R280) -/

/-- The thresholds of step n upward, in quarters of a degree; 4 stands for the halt (R277). -/
def upAt (n : Nat) : Int := [0, 340, 380, 420, 440].getD n 0

/-- The thresholds of step n downward. -/
def downAt (n : Nat) : Int := [-1000000, 328, 368, 400, 420].getD n 0

/-- The hall's thermal state: its step, or 4 while halted. -/
def heatState (s : State) (h : Nat) : Nat := if halted s h then 4 else thermalStep s h

/-- The highest state whose up threshold a reading meets, or step 0. -/
def metState (q : Int) : Nat := ([4, 3, 2, 1].find? fun n => decide (upAt n ≤ q)).getD 0

/-- The thermal state after a valid reading (R277, R279). -/
def nextHeat (cur : Nat) (fault : Bool) (q : Int) : Nat :=
  if fault then
    if cur = 4 then (if q ≤ 420 then metState q else 4) else metState q
  else if cur < metState q then metState q
  else if q ≤ downAt cur then cur - 1
  else cur

/-- The events of a transition (R280). -/
def heatEvents (old new : Nat) : Nat :=
  if old < new then (if new = 4 then 64 + (if old < 3 then 16 else 0) else 16) else if new < old then 32 else 0

/-- Set the hall's thermal state; one that reaches step 3 ends every tread aboard (R89, R277). -/
def setHeat (s : State) (h new : Nat) : State :=
  let old := heatState s h
  let s1 := setField (setField s .halStatus 0 2 (min new 3) h) .halStatus 2 1 (b2n (new = 4)) h
  let s2 := if heatEvents old new = 0 then s1 else hallEvent s1 h (heatEvents old new) 0 0
  let s3 := if 3 ≤ new ∧ old < 3 then thermalStop s2 h else s2
  if old = new then s3 else afterRate s3

/-- TEMP_SAMPLE (R277, R279): a valid reading in hundredths of a degree, rounded to the nearest quarter. -/
def execTempSample (h : Nat) (t : Int) (s : State) : Out :=
  if present s .hall h then
    let q := (4 * t + 50) / 100
    let fault := bit (getR s .halStatus h) 3
    let cur := heatState s h
    let s1 := setField (setR (noteSample s (64 + h) (250 * q)) .halTemp (ofSigned 16 q) h) .halStatus 3 1 0 h
    .next (setHeat s1 h (nextHeat cur fault q))
  else .next s

/-- SENSOR_TIMEOUT (R279): no valid reading for 1 ms. -/
def execSensorTimeout (h : Nat) (s : State) : Out :=
  if present s .hall h then
    let s1 := hallEvent (setField s .halStatus 3 1 1 h) h 128 0 0
    .next (if heatState s h < 3 then setHeat s1 h 3 else s1)
  else .next s

/-! ### Refresh (R276) -/

/-- The hall's controller issues no refresh rounds: the stack is in self-refresh (R276). -/
def selfRefresh (s : State) (h : Nat) : Bool := bit (getR s .halStatus h) 5

/-- REFRESH_ROUND (R276): a round starts, at which a Staged write takes effect and the round's interval is set. -/
def execRefreshRound (h : Nat) (s : State) : Out :=
  if present s .hall h && !selfRefresh s h then
    .next (modCtl (landR s .halScrubCfg h) h fun c => { c with round := if thermalStep s h = 0 then 3900000 else 1950000 })
  else .next s

/-! ### Patrol scrub and repair (R266 to R271, R281) -/

/-- Lines of a stack (R268). -/
abbrev stackLines := 805306368

/-- A pass starts: the tallies and the counts are zeroed, the marks stay (R268). -/
def startPass (s : State) (h : Nat) : State :=
  let s1 := modCtl s h fun c => { c with tally := [], passPeriod := fieldR s .halScrubCfg 1 5 h }
  addR ((List.range 64).foldl (fun t p => setField t .halPcCe 0 22 0 h p) s1) .halScrubPasses 1 h

/-- The patrol's tally of one corrected pin, and what a tally that reaches the threshold does (R266). -/
def tallyPin (h pc : Nat) (s : State) (pin : Nat) : State :=
  let k := pc * 64 + pin
  let before := tget (fun _ => 0) (ctl s h).tally k
  let th := getR s .halPinMarkThresh h
  let s1 := modCtl s h fun c => { c with tally := tset (fun _ => 0) c.tally k (before + 1) }
  if th = 0 ∨ before + 1 < th then s1
  else
    match markedPin s h pc with
    | none => hallEvent (setField (setField s1 .halPcCe 24 6 pin h pc) .halPcCe 30 1 1 h pc) h 4 pc pin
    | some m => if m = pin ∨ th ≤ before then s1 else hallEvent s1 h 8 pc pin

/-- SCRUB_LINE (R268): the patrol reads the next line of its pass; `at_` tells which part of a structure lies there, if one
does. -/
def execScrubLine (h : Nat) (at_ : Option LineAt) (e : LineErr) (s : State) : Out :=
  if present s .hall h && bit (getR s .halScrubCfg h) 0 && decide (thermalStep s h < 3) && !selfRefresh s h then
    let pos := getR s .halScrubPos h
    let l := at_.getD (.phys pos)
    let s1 := if pos = 0 then startPass s h else s
    let pc := linePc s1 l
    let s2 := (readLine s1 h l 1 e).1
    let s3 :=
      if lineHeld s1 h l then s2
      else match decodeLine (markedPin s1 h pc) e with | .corrected pins _ => pins.foldl (tallyPin h pc) s2 | _ => s2
    .next (if pos + 1 < stackLines then setR s3 .halScrubPos (pos + 1) h
      else hallEvent (setR s3 .halScrubPos 0 h) h 256 0 0)
  else .next s

/-- REPAIR (R269): the oldest queued repair reads, corrects and writes back its line. -/
def execRepair (h : Nat) (e : LineErr) (s : State) : Out :=
  match (ctl s h).repairs with
  | [] => .next s
  | l :: ls =>
    let s1 := modCtl s h fun c => { c with repairs := ls }
    if lineHeld s1 h l then .next s1
    else
      match decodeLine (markedPin s1 h (linePc s1 l)) e with
      | .bad => .next (enterBad s1 h l 3)
      | .corrected _ true => .next (corruptLine s1 h l)
      | .corrected _ false => .next s1
      | .clean => .next s1

/-! ### The write-combining buffer (R274) -/

/-- WCB_PARTIAL_WRITE (R274): a partial write of an Usher, or of a cacheless agent, reaches the buffer of its hall. -/
def execWcbPartialWrite (u : Option Nat) (line mask : Nat) (data : List Byte) (s : State) : Out :=
  if hostLine line || !present s .hall (lineHall line) then .next s
  else
    .next (wcbWrite s line (mask % 2 ^ 64) ((data ++ bytesOf 64 0).take 64)
      (match u with | some n => .usher n | none => .command 0))

/-- WCB_TIMEOUT (R274): an entry has been open for its TIMEOUT_NS. -/
def execWcbTimeout (line : Nat) (s : State) : Out :=
  match (ctl s (lineHall line)).wcb.find? fun e => e.line == line && !e.closed with
  | none => .next s
  | some e => .next (closeEntry { s with now := max s.now (e.opened + e.timeout) } (lineHall line) line)

/-- WCB_CLOSE_REQUEST (R274): a writer closes the entry that holds its bytes. -/
def execWcbCloseRequest (line : Nat) (s : State) : Out := .next (closeEntry s (lineHall line) line)

end Sys2Proof.Machine
end

