-- ==== Sys2Proof/Machine/Namespace.lean ====
section
/-! DEFINITION. Namespaces: creation, change, report and destruction (R180 to R183, R400). -/

namespace Sys2Proof.Machine

/-- The namespace that a 128-byte descriptor describes (R180). -/
def readNs (wing : Nat) (d : List Byte) (scales : List Nat) : Ns :=
  { nsId := numAt d 0 4, owner := numAt d 4 1, wing := wing, halls := numAt d 6 2, layers := numAt d 8 2, kvHeads := numAt d 10 1,
    flags := numAt d 11 1, headDim := numAt d 12 2, quant := numAt d 14 1, wideCount := numAt d 15 1, wide := wordsOf 2 8 (d.drop 16),
    engines := numAt d 32 4, scaleVer := numAt d 36 4, hallQuota := numAt d 40 8, flashQuota := numAt d 48 8, grants := wordsOf 2 8 (d.drop 56),
    scales := scales, hits := 0, demotions := 0, deletions := 0, sse := 0, ignored := 0 }

/-- A reserved bit of the writable fields is set (R180). -/
def nsReserved (d : List Byte) : Bool :=
  decide (2 ≤ numAt d 11 1) || decide (64 ≤ numAt d 14 1) || (wordsOf 2 8 (d.drop 56)).any fun g => decide (1024 ≤ g)

/-- A field that the device maintains is not 0 (R180). -/
def nsMaintained (d : List Byte) : Bool := decide (numAt d 5 1 ≠ 0) || anySet ((d.take 128).drop 72)

/-- A field is out of range, or a hall, engine or grantee lies outside the owner's wing (R180, R181). -/
def nsFields (s : State) (n : Ns) : Bool :=
  decide (128 ≤ n.owner) || n.halls = 0 || decide (clearBits n.halls (wingHalls s n.wing) ≠ 0) || n.layers = 0 || decide (256 < n.layers) ||
    n.kvHeads = 0 || decide (64 < n.kvHeads) || !([64, 128, 192, 256].contains n.headDim) || decide (4096 < n.dim) || decide (8 < n.wideCount) ||
    !wideOk n.dim (n.wide.take n.wideCount) || n.engines = 0 || decide (clearBits n.engines (wingEngines s n.wing) ≠ 0) ||
    n.grants.any fun g => bit g 8 && (decide (128 ≤ g % 256) || !tenantExists s (g % 256) || decide (wingOf s (g % 256) ≠ n.wing))

/-- Entries of a channel-scale table (R183). -/
def Ns.tableLen (n : Ns) : Nat := 2 * n.layers * n.dim

/-- The first check that NS_CREATE fails, if one does (R180, R181, R183, R389, R400). -/
def nsCreateFail (c : Cmd) (s : State) : Option Nat :=
  let da := hostOf (c.num 24 8)
  let sa := hostOf (c.num 32 8)
  let d := hostRead s da 128
  let w := wingOf s (numAt d 4 1)
  let n0 := readNs w d []
  let scales := wordsOf 2 n0.tableLen (hostRead s sa (2 * n0.tableLen))
  let entry := entryFail s c .tenant
    { named := [(24, 16)]
      align := [(misaligned (c.num 24 8) || misaligned (c.num 32 8), stBadAlign)]
      trans := [(!hostReadable s da 128 || !hostReadable s sa (2 * n0.tableLen), stNoTranslation)] }
  let buffers := firstFail
    [(hostPoisoned s da 128, stEcc), (bit (numAt d 11 1) 0 && !hasUndercroft s, stUnitAbsent), (nsReserved d || nsMaintained d, stReservedSet),
      (clearBits n0.halls (presentHalls s) ≠ 0 || (List.range 32).any fun e => bit n0.engines e && !present s .engine e, stUnitAbsent),
      (decide (w ≠ cmdWing s c) || !tenantExists s n0.owner || nsFields s n0 || (findNs s n0.owner n0.nsId).isSome, stBadField),
      (hostPoisoned s sa (2 * n0.tableLen), stEcc), (scales.any fun x => !scaleOk x, stBadField),
      (decide (1024 ≤ s.cloister.nss.length), stRefusedSpace)]
  entry.or buffers

/-- NS_CREATE's checks and effect (R180, R181, R183, R389, R400). -/
def nsCreateBody (c : Cmd) (s : State) : State :=
  let da := hostOf (c.num 24 8)
  let sa := hostOf (c.num 32 8)
  let d := hostRead s da 128
  let w := wingOf s (numAt d 4 1)
  let n0 := readNs w d []
  let scales := wordsOf 2 n0.tableLen (hostRead s sa (2 * n0.tableLen))
  orElse s c (nsCreateFail c s) (stageOrWait s (cmdWing s c) c.id (128 + 2 * n0.tableLen) fun t =>
    finish (modCloister t fun x => { x with nss := x.nss ++ [readNs w d scales] }) c.id stOk)

/-- NS_CREATE (R180 to R183): a namespace with its scale table. -/
def execNsCreate (id : Nat) (s : State) : Out := .next (withCmd s id 0x25 nsCreateBody)

/-- The fields that NS_SET never changes (R181). -/
def nsFixedSame (a b : Ns) : Bool :=
  decide ([a.nsId, a.owner, a.layers, a.kvHeads, a.headDim, a.quant, a.wideCount, a.flags] ++ a.wide =
    [b.nsId, b.owner, b.layers, b.kvHeads, b.headDim, b.quant, b.wideCount, b.flags] ++ b.wide)

/-- The namespace whose owner issues the command (R182). -/
def ownNs (s : State) (c : Cmd) : Option Ns :=
  if c.num 16 1 = c.tenant then nsFor s c.tenant (cmdWing s c) (c.num 16 1) (c.num 20 4) else none

/-- The first check that NS_SET fails, if one does (R181, R196). -/
def nsSetFail (c : Cmd) (s : State) : Option Nat :=
  let da := hostOf (c.num 24 8)
  let sa := hostOf (c.num 32 8)
  let load := decide (c.num 32 8 ≠ 0)
  let d := hostRead s da 128
  let n := ownNs s c
  let old := n.getD (readNs 0 [] [])
  let new := readNs old.wing d old.scales
  let len := old.tableLen
  let scales := wordsOf 2 len (hostRead s sa (2 * len))
  let used := !(nsBlocks s old).isEmpty
  let entry := entryFail s c .tenant
    { named := [(16, 1), (20, 20)]
      busy := [(n.isSome && load && used, stUnitBusy)]
      reserved := [(bit (c.num 16 1) 7, stReservedSet)]
      fields := [(n.isNone, stNoSuchObject)]
      align := [(misaligned (c.num 24 8) || misaligned (c.num 32 8), stBadAlign)]
      trans := [(!hostReadable s da 128 || (load && !hostReadable s sa (2 * len)), stNoTranslation)] }
  let buffers := firstFail
    [(hostPoisoned s da 128, stEcc), (nsReserved d, stReservedSet), (!nsFixedSame old new || nsFields s new, stBadField),
      (load && hostPoisoned s sa (2 * len), stEcc), (load && scales.any fun x => !scaleOk x, stBadField),
      (used && decide ((old.halls, old.engines, old.scaleVer) ≠ (new.halls, new.engines, new.scaleVer)), stUnitBusy)]
  entry.or buffers

/-- NS_SET's checks and effect (R181, R196). -/
def nsSetBody (c : Cmd) (s : State) : State :=
  let da := hostOf (c.num 24 8)
  let sa := hostOf (c.num 32 8)
  let load := decide (c.num 32 8 ≠ 0)
  let d := hostRead s da 128
  let n := ownNs s c
  let old := n.getD (readNs 0 [] [])
  let new := readNs old.wing d old.scales
  let len := old.tableLen
  let scales := wordsOf 2 len (hostRead s sa (2 * len))
  orElse s c (nsSetFail c s) (stageOrWait s (cmdWing s c) c.id (128 + if load then 2 * len else 0) fun t =>
    let t1 := modNs t old.owner old.nsId fun x =>
      { x with halls := new.halls, engines := new.engines, scaleVer := new.scaleVer, hallQuota := new.hallQuota, flashQuota := new.flashQuota,
               grants := new.grants, scales := if load then scales else x.scales }
    let t2 := match findNs t1 old.owner old.nsId with | some x => shrinkToQuota x t1 (nsBlocks t1 x).length | none => t1
    finish t2 c.id stOk)

/-- NS_SET (R181): changes a namespace's fields; a lowered quota starts eviction. -/
def execNsSet (id : Nat) (s : State) : Out := .next (withCmd s id 0x26 nsSetBody)

/-- The namespace descriptor as the device reports it (R180). -/
def nsDescriptor (s : State) (n : Ns) : List Byte :=
  let bs := nsBlocks s n
  let words := fun (l : List Nat) => ((List.range 8).map fun i => bytesOf 2 (l.getD i 0)).flatten
  bytesOf 4 n.nsId ++ bytesOf 1 n.owner ++ bytesOf 1 n.wing ++ bytesOf 2 n.halls ++ bytesOf 2 n.layers ++ bytesOf 1 n.kvHeads ++ bytesOf 1 n.flags ++
    bytesOf 2 n.headDim ++ bytesOf 1 n.quant ++ bytesOf 1 n.wideCount ++ words n.wide ++ bytesOf 4 n.engines ++ bytesOf 4 n.scaleVer ++
    bytesOf 8 n.hallQuota ++ bytesOf 8 n.flashQuota ++ words n.grants ++ bytesOf 4 (bs.filter Block.hallCopy).length ++
    bytesOf 4 (bs.filter Block.flash).length ++ bytesOf 8 (pinnedBytes s n) ++ bytesOf 8 n.hits ++ bytesOf 8 n.demotions ++ bytesOf 8 n.deletions ++
    bytesOf 8 n.sse ++ bytesOf 8 n.ignored

/-- The first check that NS_INFO fails, if one does. -/
def nsInfoFail (c : Cmd) (s : State) : Option Nat :=
  let dst := hostOf (c.num 24 8)
  let n := nsFor s c.tenant (cmdWing s c) (c.num 16 1) (c.num 20 4)
  let fail := entryFail s c .tenant
    { named := [(16, 1), (20, 12)]
      reserved := [(bit (c.num 16 1) 7, stReservedSet)]
      fields := [(n.isNone, stNoSuchObject)]
      align := [(misaligned (c.num 24 8), stBadAlign)]
      trans := [(!hostWritable s dst 128, stNoTranslation)] }
  fail

/-- NS_INFO's checks and effect. -/
def nsInfoBody (c : Cmd) (s : State) : State :=
  let dst := hostOf (c.num 24 8)
  let n := nsFor s c.tenant (cmdWing s c) (c.num 16 1) (c.num 20 4)
  orElse s c (nsInfoFail c s) (match n with | some x => finish (hostPut s dst (nsDescriptor s x)) c.id stOk | none => s)

/-- NS_INFO (R180): writes the namespace descriptor. -/
def execNsInfo (id : Nat) (s : State) : Out := .next (withCmd s id 0x27 nsInfoBody)

/-- The first check that NS_DESTROY fails, if one does (R182, R193). -/
def nsDestroyFail (c : Cmd) (s : State) : Option Nat :=
  let n := ownNs s c
  let fail := entryFail s c .tenant
    { named := [(16, 1), (20, 4)]
      reserved := [(bit (c.num 16 1) 7, stReservedSet)]
      fields := [(n.isNone, stNoSuchObject)] }
  fail

/-- NS_DESTROY's checks and effect (R182, R193): no get is ever under way between two steps, so no reader is waited for. -/
def nsDestroyBody (c : Cmd) (s : State) : State :=
  let n := ownNs s c
  orElse s c (nsDestroyFail c s) (stageOrWait s (cmdWing s c) c.id 128 fun t =>
    match n with
    | none => t
    | some x =>
      let t1 := (nsBlocks t x).foldl deleteBlock t
      finish (modCloister t1 fun k => { k with nss := k.nss.filter fun y => !(y.owner == x.owner && y.nsId == x.nsId) }) c.id stOk)

/-- NS_DESTROY (R182): deletes every block and frees the namespace. -/
def execNsDestroy (id : Nat) (s : State) : Out := .next (withCmd s id 0x28 nsDestroyBody)

end Sys2Proof.Machine
end

