-- ==== Sys2Proof/Machine/Journal.lean ====
section
/-! DEFINITION. Commits, flushes, credits, checkpoints and recovery (R390 to R400). -/

namespace Sys2Proof.Machine

/-- The blocks of DURABLE namespaces of a wing whose copies are still to be written (R194). -/
def uncopied (s : State) (w : Nat) : List (Ns × Block) :=
  s.cloister.nss.flatMap fun n => if n.wing = w && n.durable then ((nsBlocks s n).filter fun b => !b.flash).map fun b => (n, b) else []

/-- Begin a commit of a wing; the copies of DURABLE blocks that found no room earlier are tried again at its cut (R193, R391). -/
def cutCommit (s : State) (w : Nat) : State :=
  beginCommit ((uncopied s w).foldl (fun t p => journalBlock t p.1 p.2) s) w

/-! ### Staged settings (R390, R404) -/

/-- A command that waits for credits is refused (R390). -/
def refuseWaiter (s : State) (w id : Nat) : State :=
  match findCmd s id with
  | none => s
  | some c =>
    let s1 := modJournal s w fun j => { j with waiters := j.waiters.filter fun g => g.1 ≠ id }
    match findCompaction s1 id with
    | some k => endCompaction s1 k stJournalFull
    | none =>
    if c.opcode = 0x10 || c.opcode = 0x11 || c.opcode = 0x12 then refuseWriter s1 (c.num 16 2) w id stJournalFull
    else finish s1 id stJournalFull

/-- Staged UCR_W_ fields take effect; a lowered limit refuses the waiting commands that need more (R390, R404). -/
def landJournal (s : State) (w : Nat) : State :=
  let s1 := landR (landR s .ucrWCredits w) .ucrWAutoUs w
  ((journal s1 w).waiters.filter fun g => decide (getR s1 .ucrWCredits w < g.2.1)).foldl (fun t g => refuseWaiter t w g.1) s1

/-- The journal of a wing is running: it holds credits, or a commit runs (R404). -/
def journalRuns (s : State) (w : Nat) : Bool := (journal s w).running || decide (0 < creditsUsed s w)

/-! ### FLUSH (R392) -/

/-- The blocks that a FLUSH with 0xFFFF must see committed: those of the tenant's DURABLE namespaces that are not (R392). -/
def flushBlocks (s : State) (t : Nat) : List (Nat × Nat × Nat) :=
  s.cloister.nss.flatMap fun n =>
    if n.owner = t && n.durable then ((nsBlocks s n).filter fun b => !b.committed).map fun b => (b.owner, b.nsId, b.key) else []

/-- A FLUSH's blocks that are present and not yet committed. -/
def flushWaits (s : State) (f : Flush) : List (Nat × Nat × Nat) :=
  f.blocks.filter fun k => (findBlock s k.1 k.2.1 k.2.2).any fun b => !b.committed

/-- The epoch that a FLUSH's completion carries: the named collection's in an image, or 0 (R392). -/
def flushEpoch (img : Tbl (Option Coll)) (c : Cmd) : Nat :=
  if c.num 16 2 = 0xFFFF then 0 else match tget (fun _ => none) img (c.num 16 2) with | some x => x.epoch | none => 0

/-- The first check that FLUSH fails, if one does (R392, R398, R400). -/
def flushFail (c : Cmd) (s : State) : Option Nat :=
  let coll := c.num 16 2
  let fail := entryFail s c .tenant
    { named := [(16, 2)], absent := [(!hasUndercroft s, stUnitAbsent)]
      fields := [(decide (coll ≠ 0xFFFF) && !usable s c coll, stNoSuchObject)] }
  fail

/-- FLUSH's checks and effect (R392, R398, R400). -/
def flushBody (c : Cmd) (s : State) : State :=
  let coll := c.num 16 2
  let w := cmdWing s c
  let j := journal s w
  let blocks := if coll = 0xFFFF then flushBlocks s c.tenant else []
  let wait := fun (t : State) (n : Nat) => modJournal t w fun k => { k with flushes := k.flushes ++ [⟨c.id, n, blocks⟩] }
  orElse s c (flushFail c s)
    (if 2 ≤ health s then finish s c.id stNotDurable 0 0 (getR s .ucrWDurableSeq w) (flushEpoch s.store.colls c)
     else if j.running && !j.dirty && blocks.isEmpty then wait s j.seq
     else if !j.running && !j.dirty && blocks.isEmpty then
       finish s c.id stOk 0 0 (getR s .ucrWDurableSeq w) (flushEpoch s.store.colls c)
     else if !j.running then let s1 := cutCommit s w; wait s1 (journal s1 w).seq
     else wait (modJournal s w fun k => { k with again := true }) (j.seq + 1))

/-- FLUSH (R392). -/
def execFlush (id : Nat) (s : State) : Out := .next (withCmd s id 0x13 flushBody)

/-- AUTO_COMMIT (R391): the interval since the wing's last commit began has passed and staging holds uncovered data. -/
def execAutoCommit (w : Nat) (s : State) : Out :=
  let j := journal s w
  if hasUndercroft s && decide (w < wingCount s) && !j.recovering && !j.running && decide (0 < j.uncovered) then
    let s1 := { s with now := max s.now (j.lastStart + 1000 * getR s .ucrWAutoUs w) }
    .next (if health s1 < 2 then cutCommit s1 w else let s2 := tryCommit s1 w; if journalRuns s2 w then s2 else landJournal s2 w)
  else .next s

/-! ### COMMIT_COMPLETE (R391, R397, R398) -/

/-- The bytes that a commit of D data units programs (R391). -/
def commitBytes (d : Nat) : Nat := 16384 * (d + (d + 511) / 512 + 1)

/-- Checkpoints count once a commit whose cut follows their end has completed; earlier commits are released (R397). -/
def countCheckpoints (s : State) (w seq : Nat) : State :=
  let j := journal s w
  let ready := j.newCkpts.filter (fun k => decide (k.2 < seq))
  match ready.getLast? with
  | none => s
  | some k =>
    let gone := ((j.log.filter fun e => decide (e.1 ≤ k.2)).map Prod.snd).sum + j.ckpt + (ready.dropLast.map Prod.fst).sum
    setR (modJournal s w fun x =>
        { x with log := x.log.filter fun e => decide (k.2 < e.1), ckpt := k.1, newCkpts := x.newCkpts.filter fun e => !decide (e.2 < seq) })
      .ucrWUsed (getR s .ucrWUsed w - gone) w

/-- The blocks of an image become committed (R194). -/
def commitBlocks (s : State) (img : Image) : State :=
  let mark := fun b : Block => if img.blocks.any (fun x => x.owner == b.owner && x.nsId == b.nsId && x.key == b.key) then { b with committed := true } else b
  { s with cloister := { s.cloister with blocks := s.cloister.blocks.map mark } }

/-- Complete the FLUSHes that a commit covers, and let those with blocks still to be committed wait for the next (R392). -/
def finishFlushes (s : State) (w seq : Nat) : State :=
  let j := journal s w
  let due := j.flushes.filter fun f => decide (f.seq ≤ seq)
  let later := due.filter fun f => !(flushWaits s f).isEmpty
  let s1 := (due.filter fun f => (flushWaits s f).isEmpty).foldl
    (fun t f =>
      match findCmd t f.cmd with
      | none => t
      | some c => finish t f.cmd stOk 0 0 seq (flushEpoch j.durableImage.colls c)) s
  modJournal s1 w fun k =>
    { k with
      flushes := (later.map fun f => { f with seq := seq + 1 }) ++ k.flushes.filter fun f => !decide (f.seq ≤ seq)
      again := k.again || !later.isEmpty }

/-- A commit has programmed its commit page (R391). -/
def commitDone (s : State) (w : Nat) : State :=
  let j := journal s w
  let bytes := commitBytes j.covered
  let s1 := setR s .ucrWDurableSeq j.seq w
  let s2 := addR s1 .ucrWUsed bytes w
  let s3 := modJournal s2 w fun k => { k with running := false, covered := 0, durableImage := k.cutImage, log := k.log ++ [(j.seq, bytes)] }
  let s4 := finishFlushes (countCheckpoints (commitBlocks s3 j.cutImage) w j.seq) w j.seq
  let s5 := landJournal s4 w
  if (journal s5 w).again then cutCommit s5 w else commitAtHalf s5 w

/-- COMMIT_COMPLETE (R391, R398): the commit page is programmed, or a program of the commit failed; `spare` is SPARE_PCT after
it. -/
def execCommitComplete (w spare : Nat) (res : ProgResult) (s : State) : Out :=
  let j := journal s w
  if hasUndercroft s && j.running then
    let s1 := setField (programmed s (commitBytes j.covered)) .ucrWear 8 8 (min spare (fieldR s .ucrWear 8 8))
    .next
      (match res with
       | .ok =>
         let s2 := commitDone s1 w
         if fieldR s2 .ucrWear 8 8 = 0 then enterHealth s2 2 else if fieldR s2 .ucrWear 8 8 ≤ 10 then enterHealth s2 1 else s2
       | .failed => landJournal (enterHealth (setSticky s1 .ucrEvents .ucrEventEn 2) 2) w
       | .unreadable => landJournal (enterHealth s1 3) w)
  else .next s

/-- CHECKPOINT (R397): a background checkpoint of the wing's segments, of `bytes` bytes in whole units, has been written. -/
def execCheckpoint (w bytes : Nat) (s : State) : Out :=
  let n := 16384 * ((bytes + 16383) / 16384)
  if hasUndercroft s && decide (w < wingCount s) && decide (health s < 2) && decide (0 < n) && !(journal s w).recovering &&
      decide (getR s .ucrWUsed w + n ≤ getR s .wngWQuota w) then
    .next (modJournal (addR (programmed s n) .ucrWUsed n w) w fun j => { j with newCkpts := j.newCkpts ++ [(n, j.seq)] })
  else .next s

/-! ### Credits that are freed (R390) -/

/-- Go on with a command that has its credits. Store commands and compaction passes go on at their write points. -/
def resumeCmd (s : State) (c : Cmd) : State :=
  let coll := c.num 16 2
  match c.opcode with
  | 0x01 => collCreateBody c s
  | 0x02 => collSetBody c s
  | 0x03 => extendDone s c.id coll
  | 0x05 => destroyDone s coll
  | 0x08 => permitWriteBody c s
  | 0x25 => nsCreateBody c s
  | 0x26 => nsSetBody c s
  | 0x28 => nsDestroyBody c s
  | _ => s

/-- A grant that its command no longer needs is given back. -/
def settleGrant (s : State) (w id : Nat) : State :=
  match findCmd s id with
  | none => modJournal s w fun j => { j with granted := j.granted.filter fun g => g.1 ≠ id }
  | some c => if c.done.isSome then modJournal s w fun j => { j with granted := j.granted.filter fun g => g.1 ≠ id } else s

/-- JOURNAL_CREDITS_FREE (R390): the first command that waits takes its credits, if they are free, and goes on. -/
def execJournalCreditsFree (w : Nat) (s : State) : Out :=
  match (journal s w).waiters with
  | [] => .next s
  | (id, n, since) :: rest =>
    if creditsUsed s w + n ≤ getR s .ucrWCredits w then
      let s1 := modJournal s w fun j => { j with waiters := rest, granted := j.granted ++ [(id, n)] }
      let s2 := addR s1 .ucrWCreditWaitNs (s.now - since) w
      .next (match findCmd s2 id with | none => settleGrant s2 w id | some c => settleGrant (resumeCmd s2 c) w id)
    else .next s

/-- The wing and the start of a command's wait for credits. -/
def creditWait (s : State) (id : Nat) : Option (Nat × Nat) :=
  (List.range 16).findSome? fun w => ((journal s w).waiters.find? fun g => g.1 == id).map fun g => (w, g.2.2)

/-- Post the DELAYED record of a command, once (R372, R390, R470). -/
def postDelayed (s : State) (c : Cmd) (a : Nat) : State :=
  if c.delayed then s
  else
    postRecord (modCmd s c.id fun x => { x with delayed := true }) c.fn c.eq ⟨3, c.sq, stDelayed, c.tag, a, 0, 0, 0, 0⟩

/-- CREDIT_WAIT_DELAY (R390): the wait passes the tenant's delay threshold. The estimate in A is the device's own, a free
value (log entry 1). -/
def execCreditWaitDelay (id : Nat) (s : State) : Out :=
  match findCmd s id, creditWait s id with
  | some c, some (_, since) =>
    let s1 := { s with now := max s.now (since + 1000 * getR s .wngTDelay c.tenant) }
    .next (if c.delayed then s else postDelayed (drawFree s1) c (freeNow s1).toNat)
  | _, _ => .next s

/-! ### Recovery (R395, R396) -/

/-- A collection as recovery brings it back: no command waits on it, a journalled rebase starts again from DRAIN (R69, R395), and
lost halls leave it with their records (R508). -/
def recoverColl (lost : Nat) (x : Coll) : Coll :=
  { x with
    rebase := if x.rebase = .idle then .idle else .drain, rebaseCmds := [], closing := none, change := none, old := none, writers := []
    chosen := [], rebuilding := false, compactHalls := 0, compactUid := 0, halls := clearBits x.halls lost
    slots := x.slots.filter fun e => !bit lost (e.1 / 2 ^ 30) }

/-- An image without the halls that bring-up lost (R508). -/
def keptImage (lost : Nat) (i : Image) : Image :=
  { i with
    colls := i.colls.map fun e => (e.1, e.2.map (recoverColl lost))
    extents := i.extents.filter fun e => !bit lost e.1
    nss := i.nss.map fun n => { n with halls := clearBits n.halls lost } }

/-- A block as recovery brings it back: in FLASH, unpinned (R194). -/
def recoverBlock (b : Block) : Block := { b with st := .flash, flash := true, committed := true, pinHost := false, pinLantern := false, mark := none }

/-- Bytes that the wing's quota holds after recovery (R404). -/
def recoveredUsed (j : Journal) (img : Image) : Nat :=
  (j.log.map Prod.snd).sum + j.ckpt + (j.newCkpts.map Prod.fst).sum +
    (img.blocks.map fun b => match img.nss.find? fun n => n.owner == b.owner && n.nsId == b.nsId with
      | some n => n.blockBytes + blockRecord | none => 0).sum

/-- Recover a wing to its last intact commit. -/
def recoverWing (s : State) (w : Nat) : State :=
  let j := journal s w
  let img := keptImage (fieldR s .devBoot 16 16) (if health s = 3 then noImage else j.durableImage)
  let seq := getR s .ucrWDurableSeq w
  let s1 := setR (setR s .ucrWRecoveredSeq seq w) .ucrWUsed (recoveredUsed j img) w
  let s2 := { s1 with
    store := { s1.store with
      colls := img.colls.foldl (fun t e => tset (fun _ => none) t e.1 e.2) s1.store.colls
      permits := img.permits.foldl (fun t e => tset (fun _ => none) t e.1 e.2) s1.store.permits }
    cloister := { s1.cloister with nss := s1.cloister.nss ++ img.nss, blocks := s1.cloister.blocks ++ img.blocks.map recoverBlock } }
  let s3 := img.extents.foldl (fun t e => modStair t e.1 fun x => { x with extents := e.2 }) s2
  modJournal s3 w fun k => { resetJournal with seq := seq, durableImage := img, log := k.log, ckpt := k.ckpt, newCkpts := k.newCkpts }

/-- WING_RECOVERY (R395, R396): a wing comes back at its last commit; after the last wing RECOVERY_DONE sets. -/
def execWingRecovery (w : Nat) (s : State) : Out :=
  if (journal s w).recovering && bit (getR s .devBoot) 8 then
    let s1 := recoverWing s w
    .next (if s1.store.journals.any fun e => e.2.recovering then s1 else setSticky s1 .ucrEvents .ucrEventEn 4)
  else .next s

end Sys2Proof.Machine
end

