-- ==== Sys2Proof/Machine/Power.lean ====
section
/-! DEFINITION. The power states P0, P1 and P2 (R91, R222, R276, R401 to R403). -/

namespace Sys2Proof.Machine

/-- Change the power state. -/
def modPower (s : State) (f : PowerState → PowerState) : State := { s with store := { s.store with power := f s.store.power } }

/-- The OUT block of POWER_STATE (R402). -/
def powerOut (reached from_ delay during at_ : Nat) : List Byte :=
  bytesOf 1 reached ++ bytesOf 1 from_ ++ bytesOf 6 0 ++ bytesOf 8 delay ++ bytesOf 8 during ++ bytesOf 8 at_ ++ bytesOf 32 0

/-- A POWER_STATE command is answered (R402): OUT, then its completion. -/
def powerReply (s : State) (id from_ accepted during at_ : Nat) : State :=
  match findCmd s id with
  | none => s
  | some c =>
    let cur := s.store.power.current
    let s1 := putOut s c (powerOut cur from_ (s.now - accepted) during at_)
    finish s1 id stOk 0 0 cur (s.now - accepted)

/-- The first check that POWER_STATE fails, if one does (R402, R403). -/
def powerStateFail (c : Cmd) (s : State) : Option Nat :=
  let p := s.store.power
  let bs := argBytes s c
  let target := numAt bs 0 1
  let busy := firstFail [(p.moving.isSome, stUnitBusy)]
  let fail := busy.or (argFail s c [(0, 1), (8, 8)] [(decide (2 < target), stBadField)])
  fail

/-- POWER_STATE's checks and effect (R402, R403). -/
def powerStateBody (c : Cmd) (s : State) : State :=
  let p := s.store.power
  let bs := argBytes s c
  let target := numAt bs 0 1
  orElse s c (powerStateFail c s)
    (if target = p.current then powerReply s c.id p.current s.now 0 0
     else modPower s fun x => { x with moving := some (c.id, target, numAt bs 8 8, s.now), during := 0, paused := false })

/-- POWER_STATE (R402): a move to a power state begins. -/
def execPowerState (id : Nat) (s : State) : Out := .next (withCmd s id 0x60 powerStateBody)

/-- Quiet (R403): no command in flight but this one, and no tread aboard; in P1, waiting searches do not count. -/
def powerQuiet (s : State) (id : Nat) : Bool :=
  (s.vst.inflight.all fun c => c.id == id || (s.store.power.current = 1 && c.opcode = 0x30 && c.done.isNone)) &&
    (List.range 16).all fun h => decide (countTreads (stair s h) .aboard = 0)

/-- The halls enter self-refresh; a Staged write takes effect as they stop running (R48, R276). -/
def enterSelfRefresh (s : State) : State :=
  (List.range 16).foldl (fun t h => if present t .hall h then setField (landR t .halScrubCfg h) .halStatus 5 1 1 h else t) s

/-- The halls leave self-refresh. -/
def leaveSelfRefresh (s : State) : State := (List.range 16).foldl (fun t h => setField t .halStatus 5 1 0 h) s

/-- Park the halls, or let them go on (R91). -/
def setParking (s : State) (b : Bool) : State :=
  (List.range 16).foldl (fun t h => if present t .hall h then modStair t h fun x => { x with parking := b } else t) s

/-- The target of a move is entered (R401): halls park for P1; for P2 they enter self-refresh and the Lantern freezes; on the
way back the halls leave self-refresh, then the park, and the Lantern thaws. -/
def enterPower (s : State) (target : Nat) : State :=
  let old := s.store.power.current
  let s1 := modPower s fun x => { x with current := target, moving := none, paused := false }
  let s2 := setParking s1 (decide (1 ≤ target))
  if target = 2 then enterSelfRefresh s2
  else if old = 2 then (List.range 16).foldl (fun t c => if present t .lantern c then thawCore t c else t) (leaveSelfRefresh s2)
  else s2

/-- A move ends in its target, and its command is answered. -/
def powerReached (s : State) (id target accepted : Nat) : State :=
  let p := s.store.power
  powerReply (enterPower s target) id p.current accepted p.during s.now

/-- Wings that commit before P2 is entered (R403 step 4). -/
def committingWings (s : State) : List Nat :=
  if hasUndercroft s && decide (health s < 2) then List.range (wingCount s) else []

/-- POWER_STATE_QUIET (R403): quiet is reached and fetching pauses; for P2 a commit of every wing runs first, and the target is
entered once none runs. -/
def execPowerStateQuiet (s : State) : Out :=
  let p := s.store.power
  match p.moving with
  | none => .next s
  | some (id, target, _, acc) =>
    if target ≤ p.current || !powerQuiet s id then .next s
    else if target = 2 && !p.paused then
      .next ((committingWings s).foldl
        (fun t w => if (journal t w).running then modJournal t w fun j => { j with again := true } else cutCommit t w)
        (modPower s fun x => { x with paused := true }))
    else if target = 2 && (committingWings s).any fun w => (journal s w).running then .next s
    else .next (powerReached s id target acc)

/-- POWER_STATE_TIMEOUT (R403): TIMEOUT_NS passes before quiet, and the entry is abandoned. -/
def execPowerStateTimeout (s : State) : Out :=
  let p := s.store.power
  match p.moving with
  | none => .next s
  | some (id, target, limit, acc) =>
    if target ≤ p.current || limit = 0 || p.paused then .next s
    else
      let s1 := modPower { s with now := max s.now (acc + limit) } fun x => { x with moving := none }
      .next (powerReply s1 id p.current acc p.during 0)

/-- POWER_STATE_EXIT (R403): the exit time of a move to a lower-numbered state has passed. -/
def execPowerStateExit (s : State) : Out :=
  let p := s.store.power
  match p.moving with
  | none => .next s
  | some (id, target, _, acc) => .next (if p.current ≤ target then s else powerReached s id target acc)

end Sys2Proof.Machine
end

