-- ==== Sys2Proof/Machine/Search.lean ====
section
/-! DEFINITION. Searches: the root's command, the messages of the Newel merge, local merges, rerank and the search result block
(R114 to R137, R154 to R158, R368). -/

namespace Sys2Proof.Machine

/-! ### SEARCH (R117, R368, R443, R453, R464 to R468) -/

/-- A search command's fields and what they name. -/
structure SearchOp where
  coll : Option Coll
  width : Nat
  k : Nat
  rerankK : Nat
  radius : Nat
  permit : Nat
  tree : Nat
  deadline : Nat
  codeAddr : Nat
  resultAddr : Nat
  scoreAddr : Nat
  map : Option MapEnt
  treeOf : Option Tree
  shards : Nat

/-- The operands of a SEARCH (R368). -/
def readSearch (s : State) (c : Cmd) : SearchOp :=
  let x := collOf s (c.num 16 2)
  let m := x.bind fun y => y.mapId.map fun n => mapOf s n
  let img := m.bind MapEnt.cur
  { coll := x, width := match x with | some y => y.width | none => 64
    k := c.num 18 1, rerankK := c.num 19 1, radius := c.num 20 2, permit := c.num 22 2, tree := c.num 26 1, deadline := c.num 32 8
    codeAddr := hostOf (c.num 40 8), resultAddr := hostOf (c.num 48 8), scoreAddr := c.num 56 8
    map := m, treeOf := img.bind fun i => i.trees[c.num 26 1]?, shards := match img with | some i => i.shards.length | none => 1 }

/-- Bytes of the query buffer: the padded code, and the dense vector for a rerank (R368). -/
def SearchOp.codeBytes (o : SearchOp) : Nat :=
  pad64 (o.width / 8) + if o.rerankK = 0 then 0 else 2 * (match o.coll with | some x => x.denseDim | none => 0)

/-- Bytes of the result buffer (R368). -/
def SearchOp.resultBytes (o : SearchOp) : Nat := 64 + 64 * ((o.k + 3) / 4) + 64 * bitmapLines o.shards

/-- The checks of a SEARCH, its entry and then its query buffer (R154, R365, R368, R443, R464, R550). -/
def searchFail (s : State) (c : Cmd) (o : SearchOp) : Option Nat :=
  let id := c.num 16 2
  let sharded := o.map.isSome
  let dim := match o.coll with | some x => x.denseDim | none => 0
  let hop := c.num 24 2
  (entryFail s c .tenant
    { named := [(16, 11), (32, 32)]
      reserved := [(decide (4096 ≤ id) || decide (16 ≤ o.tree), stReservedSet)]
      fields := [(!usable s c id, stNoSuchObject), (o.k = 0 || decide (64 < o.k), stBadField),
        (o.rerankK ≠ 0 && (dim = 0 || decide (o.k < o.rerankK) || o.scoreAddr = 0), stBadField),
        (o.rerankK = 0 && o.scoreAddr ≠ 0, stBadField), (decide (o.width < o.radius) && o.radius ≠ 0xFFFF, stBadField),
        (o.permit ≠ 0xFFFF && (currentPermit s id o.permit).isNone, stBadField), (decide (10000 < hop), stBadField),
        (!sharded && o.tree ≠ 0, stBadField),
        (sharded && (o.deadline = 0 || !(match o.treeOf with | some t => decide (t.root = deviceIndex s) | none => false)), stBadField),
        (decide (c.prio < prioTop s c.tenant), stBadField)]
      align := [(misaligned (c.num 40 8) || misaligned (c.num 48 8) || misaligned o.scoreAddr, stBadAlign)]
      trans := [(!hostReadable s o.codeAddr o.codeBytes || !hostWritable s o.resultAddr o.resultBytes ||
        (o.rerankK ≠ 0 && !hostWritable s (hostOf o.scoreAddr) (pad64 (4 * o.rerankK))), stNoTranslation)] }).or
    (firstFail [(hostPoisoned s o.codeAddr o.codeBytes, stEcc),
      (anySet ((hostRead s o.codeAddr (pad64 (o.width / 8))).drop (o.width / 8)), stReservedSet),
      (match o.map with | some m => decide (m.state = .committed) && decide (m.g < o.deadline) | none => false, stRefusedDeadline)])

/-- Time that a rerank takes off the limit: X of R468. -/
def rerankTime (s : State) (o : SearchOp) (w : Nat) : Nat :=
  if o.rerankK = 0 then 0
  else
    let devs := match o.treeOf with | some t => (t.children (deviceIndex s)).map Member.device | none => []
    let ds := devs.map fun d => match portTo s d with | some p => getR s .mrqPDelayNs p | none => 0
    2 * ds.foldl max 0 + 200 * o.k * 1000 / computePace s w

/-- The limit of the root's estimate (R468). -/
def rootLimit (s : State) (o : SearchOp) (w : Nat) : Option Nat :=
  if o.deadline = 0 then none
  else
    let merge := match o.treeOf with | some t => mergeCost s w ((t.children (deviceIndex s)).length + 1) o.k | none => 0
    some (o.deadline - merge - rerankTime s o w)

/-- The root's record of an accepted search (R117, R120). -/
def rootQuery (s : State) (c : Cmd) (o : SearchOp) (x : Coll) : NewelQuery :=
  let img := o.map.bind MapEnt.cur
  let own := match o.treeOf with
    | some t => (match t.member (deviceIndex s) with | some m => if m.shard = 0xFFFF then none else some m.shard | none => none)
    | none => some 0
  { queryId := deviceIndex s + 4096 * (s.store.rootSeq + 1), tree := o.tree, isRoot := true, cmd := c.id, tenant := c.tenant, coll := c.num 16 2
    mapEpoch := match img with | some i => i.epoch | none => 0, level := match img with | some i => i.level | none => 0
    depth := 0, parentPort := 255, deadline := o.deadline, hopUs := if c.num 24 2 = 0 then getR s .nwlHopMargin else c.num 24 2
    tag := c.tag, k := o.k, rerankK := o.rerankK, radius := o.radius, permit := o.permit
    code := ofLe ((hostRead s o.codeAddr (o.width / 8)).map BitVec.toNat), shardCount := o.shards, ownShard := own, ctx := none
    subtree := 2 ^ o.shards - 1, shards := [], merged := noMerge, rerouted := 0, sent := false, lateSeen := false, noticesSent := 0
    lastEta := 0, reranked := none, decided := false, resultAddr := o.resultAddr, scoreAddr := hostOf o.scoreAddr
    dense := if o.rerankK = 0 then [] else wordsOf 2 x.denseDim (hostRead s (o.codeAddr + pad64 (o.width / 8)) (2 * x.denseDim))
    scales := x.scales }

/-- Add a query of the merge. -/
def addNewel (s : State) (q : NewelQuery) : State := { s with store := { s.store with newel := s.store.newel ++ [q] } }

/-- Forward an accepted query and mark what is lost or refused at once (R117, R133, R447). -/
def sendDown (s : State) (q : NewelQuery) (t : Tree) (want : Nat) (select : Option Nat) : State :=
  let r := forwardQuery s q t want select
  let s1 := if r.2.1 = 0 then r.1 else markLost r.1 q r.2.1
  if r.2.2 = 0 then s1
  else match findNewel s1 q.queryId q.tree with | some q1 => markRefused s1 q1 r.2.2 stVersion | none => s1

/-- Admission of a device that serves no shard of the query: the clock and the limit alone (R468). -/
def mergeOnlyFail (s : State) (q : Query) : Option Nat :=
  firstFail [(decide (q.deadline ≠ 0) && !synced s, stRefusedDeadline), (decide (q.deadline ≠ 0) && pastLimit s q [], stRefusedDeadline)]

/-- Admit a query's own flight, or what stands for it where the device serves no shard. -/
def admitOwn (s : State) (q : Query) (own : Bool) : Except Nat State :=
  if own then admitQuery s q else match mergeOnlyFail s q with | some st => .error st | none => .ok s

/-- SEARCH at the root: its checks, admission, the QUERY to its children and its own flight (R117, R368, R466). -/
def searchBody (c : Cmd) (s : State) : State :=
  let o := readSearch s c
  match searchFail s c o, o.coll with
  | some st, _ => finish s c.id st
  | none, none => s
  | none, some x =>
    let q0 := rootQuery s c o x
    let own := q0.ownShard.isSome
    let q := { q0 with ctx := if own then some s.store.nextCtx else none }
    let f := newelFlight s q c.tenant c.prio (rootLimit s o x.wing)
    match admitOwn (if own then bumpCtx s else s) f own with
    | .error st => finish (countRefused s f st) c.id st
    | .ok s1 =>
      let s2 := addR { addNewel s1 q with store := { (addNewel s1 q).store with rootSeq := s.store.rootSeq + 1 } } .nwlRooted 1
      settleFlights (match o.treeOf with | some t => sendDown s2 q t (2 ^ o.shards - 1) none | none => s2)

/-- SEARCH (R368). -/
def execSearch (id : Nat) (s : State) : Out := .next (withCmd s id 0x30 searchBody)

/-! ### Receiving messages (R123) -/

/-- The image of a message's map epoch at this device. -/
def msgImage (s : State) (h : NewelHead) : Option MapImage := imageAt (mapOf s h.mapId) h.mapEpoch

/-- The tree that a message travels. -/
def msgTree (s : State) (h : NewelHead) : Option Tree := (msgImage s h).bind fun i => i.trees[h.tree]?

/-- The sender of a message is this device's parent in the tree. -/
def fromParent (s : State) (p : Nat) (h : NewelHead) : Bool :=
  match (msgTree s h).bind fun t => t.member (deviceIndex s) with
  | some m => decide (m.parent = partnerOf s p)
  | none => false

/-- The sender of a message is this device's child in the tree. -/
def fromChild (s : State) (p : Nat) (h : NewelHead) : Bool :=
  match msgTree s h with
  | some t => (t.children (deviceIndex s)).any fun m => m.device == partnerOf s p
  | none => false

/-- The checks of R123 after the first, in its order. An unknown collection has no seal and fails the object check. -/
def msgFail (s : State) (p : Nat) (h : NewelHead) : Option Nat :=
  let x := collOf s h.coll
  let m := mapOf s h.mapId
  let bound := match x with | some c => decide (c.mapId = some h.mapId) && decide (m.state ≠ .none) | none => false
  let fits := match h.type with | 1 => fromParent s p h | 5 => fromParent s p h || fromChild s p h | _ => fromChild s p h
  firstFail [(decide (h.level < linkFloor s p), stVersion),
    (match x with | some c => decide (sealAt s c h.mapEpoch % 2 ^ 32 ≠ h.sealLo) | none => false, stSealMismatch),
    (bound && !epochAccepted s m h.mapEpoch h.deadline, stEpochMismatch), (!bound || !fits, stNoSuchObject)]

/-- Count a refusal or a discard of a message (R138). -/
def countMsg (s : State) (st : Nat) : State :=
  if st = stSealMismatch then addR s .nwlSealRefused 1 else if st = stEpochMismatch then addR s .nwlEpochRefused 1 else s

/-- A shard bitmap in a message. -/
def bitmapAt (b : List Byte) (off lines : Nat) : Nat := numAt b off (64 * lines)

/-- Take the next message of a virtual channel: its bytes, and the state without it, when it is of one of the types. -/
def takeMsg (s : State) (p vc : Nat) (type : Nat) : Option (List Byte × State) :=
  match rxFront s p vc with
  | none => none
  | some b => if portActive s p && (decide (numAt b 0 1 = type) || (decide (type = vc - 1) && !wellFormedMsg b)) then some (b, takeRx s p vc) else none

/-! ### QUERY (R117, R118, R121) -/

/-- A member's record of a QUERY. -/
def memberQuery (s : State) (p : Nat) (b : List Byte) (h : NewelHead) (m : Member) (t : Tree) : NewelQuery :=
  let w := match collOf s h.coll with | some x => x.width | none => 0
  let sub := t.subtree m.device 8
  let sel := if bit h.flags 0 then bitmapAt b (128 + pad64 (w / 8)) h.lines &&& sub else sub
  { queryId := h.queryId, tree := h.tree, isRoot := false, cmd := 0, tenant := 128, coll := h.coll, mapEpoch := h.mapEpoch
    level := match msgImage s h with | some i => i.level | none => h.level
    depth := m.depth, parentPort := p, deadline := h.deadline, hopUs := numAt b 78 2, tag := numAt b 64 8, k := numAt b 72 1
    rerankK := numAt b 73 1, radius := numAt b 76 2, permit := numAt b 74 2, code := numAt b 128 (w / 8), shardCount := h.shards
    ownShard := if m.shard ≠ 0xFFFF ∧ bit sel m.shard then some m.shard else none, ctx := none, subtree := sel, shards := []
    merged := noMerge, rerouted := 0, sent := false, lateSeen := false, noticesSent := 0, lastEta := 0, reranked := none, decided := false
    resultAddr := 0, scoreAddr := 0, dense := [], scales := [] }

/-- A REFUSAL in answer to a QUERY: the shards are those of this device's subtree, as far as it knows them (R118, R123). -/
def refuseMsg (s : State) (p : Nat) (b : List Byte) (h : NewelHead) (st : Nat) : State :=
  let me := deviceIndex s
  let w := match collOf s h.coll with | some x => x.width | none => 0
  let sub := match msgTree s h with | some t => t.subtree me 8 | none => 0
  let sh := if bit h.flags 0 ∧ w ≠ 0 then bitmapAt b (128 + pad64 (w / 8)) h.lines &&& sub else sub
  if portActive s p then
    sendMsg s p { h with type := 4, flags := 0, sender := me, depth := h.depth + 1, status := st } (bytesOf (64 * h.lines) sh)
  else s

/-- QUERY (R117, R118, R123, R466): checks, admission, forwarding and the member's own flight. A repeated QUERY is ignored. -/
def takeQuery (s : State) (p : Nat) (b : List Byte) : State :=
  let h := readHead b
  match msgFail s p h with
  | some st => refuseMsg (countMsg s st) p b h st
  | none =>
    match msgTree s h with
    | none => s
    | some t =>
      match t.member (deviceIndex s) with
      | none => s
      | some m =>
        let q0 := memberQuery s p b h m t
        if (findNewel s h.queryId h.tree).isSome then s
        else
          let own := q0.ownShard.isSome
          let q := { q0 with ctx := if own then some s.store.nextCtx else none }
          let f := newelFlight s q 128 (peerPrio s q.coll) (some (sendLimitOf q))
          match admitOwn (if own then bumpCtx s else s) f own with
          | .error st => refuseMsg (countRefused s f st) p b h st
          | .ok s1 =>
            let sel := if bit h.flags 0 then some q.subtree else none
            let s2 := sendDown (addNewel s1 q) q t q.subtree sel
            settleFlights (memberCheck s2 q.queryId q.tree)

/-- QUERY. A malformed message is discarded and counted (R123). -/
def execQuery (p : Nat) (s : State) : Out :=
  match takeMsg s p 2 1 with
  | none => .next s
  | some (b, s1) => .next (if wellFormedMsg b then takeQuery s1 p b else countMalformed s1 p)

/-! ### RESULT (R124, R129, R130, R135) -/

/-- The record that a message from below concerns: the query in its tree, or the root's when it comes up the fallback tree. -/
def recordFor (s : State) (h : NewelHead) : Option NewelQuery :=
  match (findNewel s h.queryId h.tree).filter fun q => decide (q.parentPort ≠ 255) || q.isRoot with
  | some q => some q
  | none => (findRoot s h.queryId).filter fun q => match newelTree s q with | some t => decide (t.fallback = h.tree) | none => false

/-- A late RESULT is discarded, counted and told (R129); one for a search that a reset abandoned is only counted (R381). -/
def lateResult (s : State) (p : Nat) (h : NewelHead) : State :=
  if s.store.abandoned.contains h.queryId then addR s .nwlOrphaned 1
  else discardMsg (addR s .nwlLateReceived 1) p h stLateDiscarded

/-- The bitmap of a record's covered shards. -/
def NewelQuery.covered (q : NewelQuery) : Nat := q.bitmap ShardState.isCovered

/-- Merge a RESULT into a record; what it covers again is a duplicate (R124, R135). PENDING shards without a notice stay open. -/
def mergeResult (s : State) (q : NewelQuery) (b : List Byte) (cover : Nat) : State :=
  if cover &&& q.covered ≠ 0 then addR s .nwlDuplicates 1
  else
    let s1 := modNewel (addR s .nwlMerged 1) q.queryId q.tree fun x => takeContribution x (readMerged b (readHead b).lines) cover
    judge s1 q

/-- Relay a RESULT that comes after this member has sent its own, with SUPPLEMENT set (R130). -/
def relayResult (s : State) (q : NewelQuery) (h : NewelHead) (b : List Byte) : State :=
  if carries s q.parentPort q.level then
    addR (sendMsg s q.parentPort { h with flags := h.flags ||| 2, sender := deviceIndex s, depth := q.depth } (b.drop 64)) .nwlResultsSent 1
  else addR s .nwlOrphaned 1

/-- A sound RESULT (R124, R127 to R130). -/
def takeResult (s : State) (p : Nat) (b : List Byte) (h : NewelHead) : State :=
  let cover := bitmapAt b 128 h.lines
  match recordFor s h with
  | none => lateResult s p h
  | some q =>
    if q.isRoot then
      if q.deadline < s.now ∨ (q.decided ∧ clearBits cover q.covered ≠ 0) then
        lateResult (modNewel s q.queryId q.tree fun x => { x with lateSeen := true }) p h
      else if q.decided then addR s .nwlDuplicates 1
      else mergeResult s q b cover
    else if q.deadline < s.now then lateResult s p h
    else if q.sent then relayResult s q h b
    else mergeResult s q b cover

/-- The shards of a message count as refused at its receiver (R123). -/
def refuseHere (s : State) (h : NewelHead) (st shards : Nat) : State :=
  match recordFor s h with
  | none => s
  | some q =>
    let sh := if q.isRoot ∧ h.tree = q.tree then clearBits shards q.rerouted else shards
    if (q.isRoot ∧ q.decided) ∨ clearBits sh q.covered = 0 then s else markRefused s q sh st

/-- RESULT (R123, R124). A message whose query this device no longer holds is late at its root and after the deadline, and
otherwise fails the object check. -/
def resultBody' (s : State) (p : Nat) (b : List Byte) : State :=
  let h := readHead b
  match msgFail s p h with
  | some st => refuseHere (discardMsg (countMsg s st) p h st) h st (bitmapAt b 128 h.lines)
  | none =>
    if (recordFor s h).isNone ∧ h.queryId % 4096 ≠ deviceIndex s ∧ s.now ≤ h.deadline then discardMsg s p h stNoSuchObject
    else takeResult s p b h

/-- RESULT. -/
def execResult (p : Nat) (s : State) : Out :=
  match takeMsg s p 3 2 with
  | none => .next s
  | some (b, s1) => .next (if wellFormedMsg b then resultBody' s1 p b else countMalformed s1 p)

/-! ### NOTICE, REFUSAL and DISCARD (R118, R123, R131 to R134) -/

/-- A LATE notice: the shards it names that are not settled otherwise take its ETA, and it is relayed (R132). -/
def takeLate (s : State) (q : NewelQuery) (shards eta : Nat) : State :=
  let keep := shards &&& q.bitmap fun x => match x with | .unsettled => true | .late _ => true | _ => false
  if keep = 0 then s
  else
    let s1 := modNewel s q.queryId q.tree fun x => x.mark keep (.late eta)
    if q.isRoot then rootCheck s1 q.queryId q.tree
    else memberCheck (noticeUp s1 q 1 (eta + getR s .mrqPDelayNs q.parentPort) keep) q.queryId q.tree

/-- A sound NOTICE (R132, R133). -/
def takeNotice (s : State) (h : NewelHead) (b : List Byte) : State :=
  match recordFor s h with
  | none => s
  | some q =>
    let named := bitmapAt b 128 h.lines
    let sh := clearBits (if q.isRoot ∧ h.tree = q.tree then clearBits named q.rerouted else named) q.covered
    if (q.isRoot ∧ q.decided) ∨ sh = 0 then s
    else if numAt b 64 1 = 2 then markLost s q sh
    else takeLate s q sh (numAt b 72 8)

/-- NOTICE (R123, R131 to R133). -/
def execNotice (p : Nat) (s : State) : Out :=
  match takeMsg s p 4 3 with
  | none => .next s
  | some (b, s1) =>
    let h := readHead b
    .next <|
      if !wellFormedMsg b then countMalformed s1 p
      else
        match msgFail s1 p h with
        | some st => refuseHere (discardMsg (countMsg s1 st) p h st) h st (bitmapAt b 128 h.lines)
        | none => takeNotice s1 h b

/-- REFUSAL (R118, R134): one that names no shards stands for the sender's whole subtree. One that fails a check is dropped. -/
def execRefusal (p : Nat) (s : State) : Out :=
  match takeMsg s p 4 4 with
  | none => .next s
  | some (b, s1) =>
    let h := readHead b
    let named := bitmapAt b 64 h.lines
    let sub := match msgTree s h with | some t => t.subtree (partnerOf s p) 8 | none => 0
    .next <|
      if !wellFormedMsg b then countMalformed s1 p
      else
        match msgFail s1 p h with
        | some st => countMsg s1 st
        | none => refuseHere s1 h h.status (if named = 0 then sub else named)

/-- DISCARD (R123, R129): the sender counts what it is told. -/
def execDiscard (p : Nat) (s : State) : Out :=
  match takeMsg s p 4 5 with
  | none => .next s
  | some (b, s1) =>
    .next <|
      if !wellFormedMsg b then countMalformed s1 p
      else if (readHead b).status = stLateDiscarded then addR s1 .nwlLateTold 1
      else s1

/-! ### Merging, limits and the result (R104, R126, R128, R136, R137, R156 to R158) -/

/-- A query's own hall records are complete. -/
def ownRecords (s : State) (q : NewelQuery) : Option Query :=
  (q.ctx.bind (findQuery s)).filter fun x => decide (x.halls ≠ 0) && decide (x.recs.length = x.halls)

/-- A member's own result after its RESULT has gone up travels as a supplement (R126, R129, R130). -/
def ownSupplement (s : State) (q : NewelQuery) (m : Merged) (sh : Nat) : State :=
  if q.parentPort = 255 then s
  else if carries s q.parentPort q.level then
    addR (sendMsg s q.parentPort (newelHead s q 2 (2 + 4 * b2n (decide (q.rerankK ≠ 0))) 0) (resultBody q m (2 ^ sh) 0)) .nwlResultsSent 1
  else addR s .nwlOrphaned 1

/-- The flight's part of the query is done: without a rerank, or after the deadline, its view epoch is released (R60, R156). -/
def ownDone (s : State) (q : NewelQuery) : State := if q.rerankK = 0 ∨ q.deadline < s.now then releaseFlight s q else s

/-- LOCAL_MERGE (R104): an Usher merges the hall results of this device. -/
def execLocalMerge (queryId tree : Nat) (s : State) : Out :=
  match findNewel s queryId tree with
  | none => .next s
  | some q =>
    match ownRecords s q, q.ownShard with
    | some x, some sh =>
      let m := localMerged sh q.k x.recs
      .next <|
        if bit q.covered sh then s
        else if q.isRoot then
          if q.decided then ownDone s q
          else rootCheck (ownDone (modNewel s queryId tree fun y => takeContribution y m (2 ^ sh)) q) queryId tree
        else if q.sent then
          ownDone (ownSupplement (modNewel s queryId tree fun y => y.mark (2 ^ sh) .covered) q m sh) q
        else memberCheck (modNewel s queryId tree fun y => takeContribution y m (2 ^ sh)) queryId tree
    | _, _ => .next s

/-- SEND_LIMIT (R126): a member sends at L_d in any case; one without children has nothing to send before its own shard ends. -/
def execSendLimit (queryId tree : Nat) (s : State) : Out :=
  match findNewel s queryId tree with
  | none => .next s
  | some q =>
    let kids := match newelTree s q with | some t => !(t.children (deviceIndex s)).isEmpty | none => false
    .next (if q.isRoot || q.sent || !kids || q.parentPort = 255 then s
      else memberSend { s with now := max s.now (sendLimitOf q) } q)

/-- SEARCH_DEADLINE (R128): the root decides its result with what it has. -/
def execSearchDeadline (queryId : Nat) (s : State) : Out :=
  match findRoot s queryId with
  | none => .next s
  | some q =>
    .next (if q.decided ∨ q.deadline = 0 then s
      else modNewel { s with now := max s.now q.deadline } queryId q.tree fun x => { x with decided := true })

/-- The scaled product of a query with a stored rerank vector (R149, R157, R176). -/
def rerankScore (dense scales : List Nat) (vec : List Byte) : FP :=
  let d := dense.length
  let qs := dense.map bf16.dec
  let vs := (List.range d).map fun i => bellOperand (rowElem 4 vec i) (scales.getD i 0)
  let slices := (List.range ((d + 63) / 64)).map fun n => dot32 ((qs.drop (64 * n)).take 64) ((vs.drop (64 * n)).take 64)
  mul32 (slices.foldl add32 (.fin false 0 0)) (bf16.dec (numAt vec ((d + 1) / 2) 2))

/-- A candidate with its score; none when its vector could not be read. -/
structure Scored where
  entry : MergeEntry
  score : Option FP

/-- The order of R157: scored ones by score, higher first, then by item ID; the others after them; then merge order. -/
def Scored.before (a b : Scored) : Bool :=
  match a.score, b.score with
  | some x, some y => FP.lt y x || (FP.eq x y && decide (a.entry.item < b.entry.item))
  | some _, none => true
  | none, _ => false

/-- Insert behind everything that does not rank after it. -/
def insertScored (a : Scored) : List Scored → List Scored
  | [] => [a]
  | b :: t => if a.before b then a :: b :: t else b :: insertScored a t

/-- A vector's score, none for NaN. -/
def scoreOf (q : NewelQuery) (vec : List Byte) : Option FP :=
  let x := rerankScore q.dense q.scales vec
  if x.isNan then none else some x

/-- A candidate's vector of this device: its bytes, unless a line of it is uncorrectable. -/
def localVector (s : State) (q : NewelQuery) (e : MergeEntry) : Option (List Byte) :=
  match collOf s q.coll with
  | none => none
  | some x =>
    let bad := (List.range (x.vecBytes / 64)).any fun n => lineHeld s e.hall (.vec q.coll e.slot n)
    if bad || halted s e.hall then none else some ((x.slot e.hall e.slot).vec ++ bytesOf x.vecBytes 0)

/-- Score one candidate: the halls whose vector lines were uncorrectable come with it. -/
def scoreEntry (s : State) (q : NewelQuery) (e : MergeEntry) (r : VecRead) : Scored × Nat :=
  match r with
  | .absent => (⟨e, none⟩, 0)
  | .uncorrectable => (⟨e, none⟩, 2 ^ e.hall)
  | .bytes b =>
    if q.ownShard = some e.shard then
      match localVector s q e with
      | some v => (⟨e, scoreOf q v⟩, 0)
      | none => (⟨e, none⟩, 2 ^ e.hall)
    else (⟨e, scoreOf q b⟩, 0)

/-- The score as the score buffer holds it: the default NaN for a candidate without one (R141, R158). -/
def Scored.word (x : Scored) : Nat := match x.score with | some f => bits32 f | none => 0x7FC00000

/-- RERANK (R156, R157): the decided root scores its merged candidates and keeps RERANK_K of them. `vecs` says what the read of
each candidate's vector brought, in merge order; `errs` are the errors of the lines read here. -/
def execRerank (queryId : Nat) (vecs : List VecRead) (errs : List (LineAt × LineErr)) (s : State) : Out :=
  match findRoot s queryId with
  | none => .next s
  | some q =>
    if !q.decided || q.rerankK = 0 || q.reranked.isSome then .next s
    else
      let readAll := fun (t : State) (h : Nat) => errs.foldl (fun u e => (readLine u h e.1 2 e.2).1) t
      let halls := (q.merged.entries.filter fun e => decide (q.ownShard = some e.shard)).map MergeEntry.hall
      let s1 := (halls.eraseDups).foldl readAll s
      let scored := (q.merged.entries.zip (List.range q.merged.entries.length)).map fun e => scoreEntry s1 q e.1 (vecs.getD e.2 .absent)
      let ranked := (scored.map Prod.fst).foldl (fun l x => insertScored x l) []
      let ecc := (scored.map Prod.snd).foldl (fun a b => a ||| b) 0
      let kept := ((ranked.take q.rerankK).map fun x => (x.word, x.entry))
      let s2 := modNewel s1 queryId q.tree fun x =>
        { x with reranked := some kept, merged := { x.merged with hallsEcc := x.merged.hallsEcc ||| ecc } }
      .next (releaseFlight s2 q)

/-- STATUS of a search result, by the precedence of R137. -/
def searchStatus (q : NewelQuery) : Nat :=
  let m := q.merged
  if m.hallsEcc ≠ 0 ∨ m.shardsEcc ≠ 0 then stEcc
  else if q.missing ≠ 0 then stPartialShards
  else if m.hallsThermal ≠ 0 ∨ m.shardsThermal ≠ 0 then stPartialThermal
  else if m.hallsSpill ≠ 0 ∨ m.shardsSpill ≠ 0 then stCandidatesSpilled
  else stOk

/-- The entries of the result: the merge's, or what the rerank kept. -/
def resultEntries (q : NewelQuery) : List MergeEntry :=
  match q.reranked with | some l => l.map Prod.snd | none => q.merged.entries

/-- The search result block (R136). -/
def searchBlock (q : NewelQuery) : List Byte :=
  let m := q.merged
  let es := resultEntries q
  let count := fun p : ShardState → Bool => (bitmapShards q.shardCount (q.bitmap p)).length
  let flags := b2n (decide (q.missing ≠ 0)) + 2 * b2n (decide (q.rerouted ≠ 0)) + 4 * b2n q.lateSeen + 8 * b2n q.reranked.isSome
  bytesOf 8 q.tag ++ bytesOf 2 (searchStatus q) ++ bytesOf 2 m.pace ++ bytesOf 1 es.length ++ bytesOf 1 q.k ++ bytesOf 2 q.shardCount ++
    bytesOf 2 (count ShardState.isCovered) ++ bytesOf 1 (bitmapLines q.shardCount) ++ bytesOf 1 flags ++ bytesOf 4 m.skipped ++
    bytesOf 8 m.examined ++ bytesOf 8 m.selSum ++ bytesOf 8 m.remSum ++ bytesOf 2 m.hallsEcc ++ bytesOf 2 m.hallsThermal ++
    bytesOf 2 m.hallsSpill ++ bytesOf 2 m.shardsEcc ++ bytesOf 2 m.shardsThermal ++ bytesOf 2 m.shardsSpill ++
    bytesOf 2 (count fun x => match x with | .refused _ => true | _ => false) ++ bytesOf 2 (count fun x => match x with | .lost => true | _ => false) ++
    padLines (es.map mergeEntryBytes).flatten ++ bytesOf (64 * bitmapLines q.shardCount) q.missing

/-- SEARCH_RESULT_WRITE (R136, R137, R158): the scores, then the block, then the command completes. -/
def execSearchResultWrite (queryId : Nat) (s : State) : Out :=
  match findRoot s queryId with
  | none => .next s
  | some q =>
    if !q.decided || (q.rerankK ≠ 0 && q.reranked.isNone) then .next s
    else
      let s1 := match q.reranked with
        | some l => hostPut s q.scoreAddr (padLines (l.map fun e => bytesOf 4 e.1).flatten)
        | none => s
      let s2 := if q.missing = 0 then s1 else addR s1 .nwlPartial 1
      let s3 := dropNewel (hostPut s2 q.resultAddr (searchBlock q)) queryId q.tree
      let s4 := s3.store.newel.foldl (fun t x => if x.queryId = queryId then dropNewel (releaseFlight t x) queryId x.tree else t) s3
      .next (finish (if (ownRecords s4 q).isSome then releaseFlight s4 q else s4) q.cmd (searchStatus q) q.resultAddr q.merged.examined)

/-- DEADLINE_AT_SHARD (R60, R156, R428): the query's deadline passes at a member, its windows close, and its view epoch is
released unless its flight still sweeps. -/
def execDeadlineAtShard (queryId tree : Nat) (s : State) : Out :=
  match findNewel s queryId tree with
  | none => .next s
  | some q =>
    if q.isRoot then .next s
    else
      let s1 := { s with now := max s.now (q.deadline + 1) }
      let busy := match q.ctx.bind (findQuery s) with | some x => decide (x.recs.length < x.halls) | none => false
      let unmerged := (ownRecords s q).isSome && !(match q.ownShard with | some sh => bit q.covered sh | none => true)
      .next (if busy || unmerged then s1 else dropNewel (releaseFlight s1 q) queryId tree)

end Sys2Proof.Machine
end

