-- ==== Sys2Proof/Machine/UsherFp.lean ====
section
/-! DEFINITION. Floating-point operations of the Ushers with the sticky flags that they set (R286, R304). The manual names
the flags and not every case in which they rise; what it leaves open is a free bit (log entry 17). -/

namespace Sys2Proof.Machine

/-- A floating-point result with the flags of FPFLAGS that it sets, and those that it may set. -/
structure FRes where
  val : FP
  set : Nat
  may : Nat
  deriving DecidableEq, Repr

/-- Flags [0] invalid, [1] divide by zero, [2] overflow, [3] underflow, [4] inexact (R286). -/
abbrev flInvalid := 1
abbrev flDivZero := 2
abbrev flOverflow := 4
abbrev flUnderflow := 8
abbrev flInexact := 16

/-- The least normal magnitude of a format. -/
def Fmt.minNormal (f : Fmt) : FP := .fin false (2 ^ (f.p - 1)) f.lsb

/-- Flags of a rounding, given whether it was inexact and whether the exact value lay below the normal range. The manual does
not say whether tininess is judged before or after the rounding (log entry 17). -/
def roundFlags (f : Fmt) (y : FP) (inexact tiny : Bool) : Nat × Nat :=
  if !y.finite then (flOverflow + flInexact, 0)
  else if !inexact then (0, 0)
  else if y.abs.lt f.minNormal then (flInexact + flUnderflow, 0)
  else if tiny then (flInexact, flUnderflow)
  else (flInexact, 0)

/-- Round an exact value to a format with its flags. A NaN or an infinity among the operands raises nothing here. -/
def roundRes (f : Fmt) (r : Round) (x : FP) : FRes :=
  if x.finite then
    let y := x.round f r
    let (a, b) := roundFlags f y (!y.eq x) (x.abs.lt f.minNormal)
    ⟨y, a, b⟩
  else ⟨x, 0, 0⟩

/-- The result of an operation on operands: a NaN operand may set invalid (log entry 17), and a NaN that arises without one
sets it. -/
def withNans (ops : List FP) (r : FRes) : FRes :=
  if ops.any FP.isNan then { r with may := r.may ||| flInvalid }
  else if r.val.isNan then { r with set := r.set ||| flInvalid }
  else r

/-- A sum rounded to a format (R304). -/
def fAdd (f : Fmt) (a b : FP) : FRes := withNans [a, b] (roundRes f .nearestEven (a.add b))

/-- A difference rounded to a format (R304). -/
def fSub (f : Fmt) (a b : FP) : FRes := withNans [a, b] (roundRes f .nearestEven (a.sub b))

/-- A product rounded to a format (R304). -/
def fMul (f : Fmt) (a b : FP) : FRes := withNans [a, b] (roundRes f .nearestEven (a.mul b))

/-- A quotient rounded to a format (R304). -/
def fDiv (f : Fmt) (a b : FP) : FRes :=
  let y := FP.div f a b
  withNans [a, b]
    (if a.finite && b.finite && !b.isZero then
      let (x, m) := roundFlags f y (!y.finite || !(y.mul b).eq a) (a.abs.lt (b.abs.mul f.minNormal))
      ⟨y, x, m⟩
    else if a.finite && !a.isZero && b.isZero then ⟨y, flDivZero, 0⟩
    else ⟨y, 0, 0⟩)

/-- A square root rounded to a format (R304). -/
def fSqrt (f : Fmt) (a : FP) : FRes :=
  let y := FP.sqrt f a
  withNans [a] (if a.finite && y.finite then ⟨y, if (y.mul y).eq a then 0 else flInexact, 0⟩ else ⟨y, 0, 0⟩)

/-- The total order of FMIN and FMAX: -0 lies below +0 (R304). -/
def fBelow (a b : FP) : Bool := a.lt b || (a.isZero && b.isZero && a.sign && !b.sign)

/-- FMIN (R304). -/
def fMin (a b : FP) : FRes :=
  withNans [a, b] ⟨if a.isNan then b else if b.isNan then a else if fBelow b a then b else a, 0, 0⟩

/-- FMAX (R304). -/
def fMax (a b : FP) : FRes :=
  withNans [a, b] ⟨if a.isNan then b else if b.isNan then a else if fBelow a b then b else a, 0, 0⟩

/-- A comparison: 1 or 0, with the flags that a NaN operand may set (R304, log entry 17). -/
def fCompare (a b : FP) (t : Bool) : Nat × Nat × Nat := (b2n t, 0, if a.isNan || b.isNan then flInvalid else 0)

/-- The least and the greatest integer of `w` bits, two's complement. -/
def intMin (w : Nat) : Int := -((2 ^ (w - 1) : Nat) : Int)
def intMax (w : Nat) : Int := ((2 ^ (w - 1) : Nat) : Int) - 1

/-- To an integer of `w` bits, toward zero, saturating; a NaN gives 0 (R304, R307). -/
def fToInt (w : Nat) (a : FP) : Int × Nat :=
  match a with
  | .nan => (0, flInvalid)
  | .inf n => (if n then intMin w else intMax w, flInvalid)
  | a =>
    let v := (a.toInt .zero).getD 0
    if v < intMin w then (intMin w, flInvalid)
    else if intMax w < v then (intMax w, flInvalid)
    else (v, if (FP.ofInt v).eq a then 0 else flInexact)

/-- Convert to a format with one rounding (R304, R307). -/
def fConv (f : Fmt) (r : Round) (a : FP) : FRes := withNans [a] (roundRes f r a)

/-- Add the flags of one result to those gathered. -/
def FRes.gather (r : FRes) (acc : Nat × Nat) : Nat × Nat := (acc.1 ||| r.set, acc.2 ||| r.may)

end Sys2Proof.Machine
end

