-- ==== Sys2Proof/Machine/UsherOps.lean ====
section
/-! DEFINITION. The Ushers' program contexts: registers, instruction fetch and decoding, faults, and memory accesses (R284 to
R299, R319, R320). -/

namespace Sys2Proof.Machine

/-! ### Faults and results -/

/-- A fault of an instruction: cause and status (R319), and the address for XADDR where it has one. -/
structure UFault where
  cause : Nat
  status : Nat
  addr : Option Nat
  deriving DecidableEq, Repr

def illegalOp : UFault := ⟨1, stBadOpcode, none⟩
def illegalSet : UFault := ⟨1, stReservedSet, none⟩
def faultField : UFault := ⟨2, stBadField, none⟩
def faultAlign (a : Nat) : UFault := ⟨3, stBadAlign, some a⟩
def faultAbsent (a : Option Nat) : UFault := ⟨4, stUnitAbsent, a⟩
def faultWindow (a : Option Nat) : UFault := ⟨5, stWindow, a⟩
def faultTranslation (a : Nat) : UFault := ⟨6, stNoTranslation, some a⟩

/-- The fault of a read or store that met a failure (R256, R278, R319). -/
def memFault (st a : Nat) : UFault :=
  if st = stUnitFault then ⟨8, stUnitFault, some a⟩
  else if st = stNoTranslation then faultTranslation a
  else ⟨7, stEcc, some a⟩

/-- What an instruction comes to: it completes and the program goes on, it faults, or it waits and runs again. -/
inductive URes where
  | next (s : State) (pc : Nat)
  | fault (s : State) (f : UFault)
  | stay (s : State)

/-- What part of an instruction comes to: a value, or a fault. -/
inductive UStep (α : Type) where
  | ok (s : State) (x : α)
  | fault (s : State) (f : UFault)

/-- Go on with an instruction where a part of it succeeded. -/
def UStep.bind {α : Type} (r : UStep α) (k : State → α → URes) : URes :=
  match r with
  | .ok s x => k s x
  | .fault s f => .fault s f

/-- Go on with part of an instruction. -/
def UStep.andThen {α β : Type} (r : UStep α) (k : State → α → UStep β) : UStep β :=
  match r with
  | .ok s x => k s x
  | .fault s f => .fault s f

/-- The first fault of a list of checks in order (R299). -/
def firstFault : List (Bool × UFault) → Option UFault
  | [] => none
  | (b, f) :: t => if b then some f else firstFault t

/-- Go on unless a check fails. -/
def guardU (s : State) (l : List (Bool × UFault)) (k : URes) : URes :=
  match firstFault l with
  | some f => .fault s f
  | none => k

/-! ### Registers (R284, R285) -/

/-- A scalar register; s0 reads 0. -/
def getS (s : State) (u i : Nat) : Nat := if i = 0 then 0 else (tget (fun _ => 0) (usher s u).s i).toNat

/-- Write a scalar register; a write to s0 is ignored. -/
def putS (s : State) (u i v : Nat) : State :=
  if i = 0 then s else modUsher s u fun x => { x with s := tset (fun _ => 0) x.s i (BitVec.ofNat 64 v) }

/-- The 256 bytes of zero. -/
def zeroVec : List Byte := List.replicate 256 0

/-- A vector register. -/
def getV (s : State) (u i : Nat) : List Byte := tget (fun _ => zeroVec) (usher s u).v i

/-- Write a vector register. -/
def putV (s : State) (u i : Nat) (b : List Byte) : State :=
  modUsher s u fun x => { x with v := tset (fun _ => zeroVec) x.v i b }

/-- A predicate register; p0 reads all ones. -/
def getP (s : State) (u i : Nat) : Nat := if i = 0 then 2 ^ 256 - 1 else (tget (fun _ => 0) (usher s u).p i).toNat

/-- Write a predicate register; a write to p0 is ignored. -/
def putP (s : State) (u i v : Nat) : State :=
  if i = 0 then s else modUsher s u fun x => { x with p := tset (fun _ => 0) x.p i (BitVec.ofNat 256 v) }

/-- Set sticky floating-point flags; those that the manual leaves open take a free value (R286, log entry 17). -/
def putFlags (s : State) (u : Nat) (acc : Nat × Nat) : State :=
  let s1 := if acc.2 = 0 then s else drawFree s
  let open_ := if acc.2 = 0 then 0 else acc.2 &&& (freeNow s).toNat
  modUsher s1 u fun x => { x with fpflags := x.fpflags ||| acc.1 ||| open_ }

/-- The wing that owns an Usher (R283). -/
def usherWing (s : State) (u : Nat) : Option Nat := groupWing s (u / 16)

/-- The tenant of a program context (R321). -/
def usherTenant (s : State) (u : Nat) : Nat := fieldR s .ushContext 0 7 u

/-! ### Vector lanes (R285) -/

/-- Bytes of an element of a vector type (R285). -/
def vtBytes (vt : Nat) : Nat := [1, 2, 4, 8, 2, 2, 4, 8].getD vt 1

/-- Lanes of a vector type (R285). -/
def vtLanes (vt : Nat) : Nat := 256 / vtBytes vt

/-- A vector type is floating-point. -/
def vtFloat (vt : Nat) : Bool := decide (4 ≤ vt)

/-- The format of a floating-point vector type. -/
def vtFmt (vt : Nat) : Fmt := match vt with | 4 => bf16 | 5 => fp16 | 6 => fp32 | _ => fp64

/-- The elements that bytes hold, `n` of `e` bytes. -/
def lanesOf (e : Nat) : Nat → List Byte → List Nat
  | 0, _ => []
  | n + 1, b => ofLe ((b.take e).map BitVec.toNat) :: lanesOf e n (b.drop e)

/-- The bytes of a list of elements. -/
def laneBytes (e : Nat) (l : List Nat) : List Byte := (l.map fun x => bytesOf e (x % 2 ^ (8 * e))).flatten

/-- The guard bits of the lanes of an element size (R285). -/
def guardBits (p e n : Nat) : List Bool := (List.range n).map fun i => bit p (e * i)

/-- Keep the old element of every lane that the guard leaves out (R305). -/
def mergeLanes (g : List Bool) (new old : List Nat) : List Nat :=
  (List.range old.length).map fun i => if g.getD i false then new.getD i 0 else old.getD i 0

/-- The predicate with the element bits of a list of truth values and every other bit clear (R285). -/
def predOf (e : Nat) (l : List Bool) : Nat := ((List.range l.length).zip l).foldl (fun a b => if b.2 then a + 2 ^ (e * b.1) else a) 0

/-! ### Write-combining entries and deferred errors (R274, R295) -/

/-- The open write-combining entries that hold bytes of an Usher: their lines. -/
def openLines (s : State) (u : Nat) : List Nat :=
  (List.range 16).flatMap fun h =>
    ((ctl s h).wcb.filter fun e => !e.closed && e.writers.contains (.usher u)).map fun e => e.line

/-- Close an Usher's entry of a line and let its merge complete. -/
def closeUsherLine (s : State) (l : Nat) : State := settleLine (closeEntry s (lineHall l) l) l

/-- Close every write-combining entry that holds an Usher's bytes and wait for its stores (R274, R292). -/
def drainUsher (s : State) (u : Nat) : State := (openLines s u).foldl closeUsherLine s

/-- Before its next access to a line the Usher closes its entry of that line (R274). -/
def drainLine (s : State) (u l : Nat) : State := if (openLines s u).contains l then closeUsherLine s l else s

/-- The deferred errors of an Usher, the oldest first. -/
def deferredOf (s : State) (u : Nat) : List (Nat × Nat × Nat) := s.mzn.deferred.filter fun e => e.1 == u

/-! ### Taking a fault (R320) -/

/-- XCAUSE: status, cause, DEFERRED, and the further deferred errors merged (R286). -/
def causeWord (f : UFault) (deferred : Option Nat) : Nat :=
  f.status + f.cause * 2 ^ 16 + (match deferred with | none => 0 | some n => 2 ^ 24 + min n 127 * 2 ^ 25)

/-- The number of an Usher's state in USH_STATUS (R321). -/
def UState.code : UState → Nat
  | .idle => 0
  | .running => 1
  | .waiting => 2
  | .stopped => 3
  | .faulted => 4

/-- Take an Usher that waits for room in a queue out of every unit's waiters (R327). -/
def dropWaiter (s : State) (u : Nat) : State :=
  { s with units := s.units.filterMap fun e =>
      let x := { e.2 with waiters := e.2.waiters.filter fun w => w.1 != u }
      if x = idleUnit then none else some (e.1, x) }

/-- The Usher's program stops in FAULTED: the fault's registers, its event record, and the end of the starting command (R320,
R369). -/
def enterFaulted (s : State) (u : Nat) (f : UFault) (pc addr cause : Nat) : State :=
  let x := usher s u
  let s1 := setR (setR (setR s .ushFaultPc pc u) .ushFaultAddr addr u) .ushFaultCause cause u
  let s2 := setField (modUsher s1 u fun y => { y with st := .faulted, cmd := none, until_ := none }) .ushCtrl 0 1 0 u
  let s3 := postEvent s2 (usherTenant s2 u + 1) 5 f.status u pc addr cause
  match x.cmd with
  | some id => finish s3 id f.status pc addr cause
  | none => s3

/-- An Usher takes a fault at an address: its handler runs, or the context stops in FAULTED (R320). XADDR of a fault that has
no address is a free value (log entry 18). -/
def raiseFault (s : State) (u : Nat) (f : UFault) (deferred : Option Nat) : State :=
  let x := usher s u
  let pc := x.pc.toNat
  let s0 := dropWaiter (addR s .ushExceptions 1 u) u
  let s1 := if f.addr.isSome then s0 else drawFree s0
  let addr := f.addr.getD (freeNow s0).toNat
  let cause := causeWord f deferred
  if x.xvec ≠ 0 && !x.inHandler then
    modUsher s1 u fun y =>
      { y with
        xpc := x.pc, xcause := BitVec.ofNat 32 cause, xaddr := BitVec.ofNat 64 addr, inHandler := true, pc := x.xvec
        st := .running, until_ := none }
  else enterFaulted s1 u f pc addr cause

/-- Take the deferred errors of an Usher as one fault (R295). -/
def raiseDeferred (s : State) (u : Nat) : State :=
  match deferredOf s u with
  | [] => s
  | (_, a, st) :: rest =>
    raiseFault (modMzn s fun m => { m with deferred := m.deferred.filter fun e => e.1 != u }) u (memFault st a) (some rest.length)

/-! ### Addresses and checks (R287, R288) -/

/-- What an Usher address names (R287). -/
inductive URegion where
  | memory
  | gallery (e off : Nat)
  | regs (off : Nat)
  | none
  deriving DecidableEq, Repr

/-- The region of an Usher address (R287). -/
def usherRegion (a : Nat) : URegion :=
  if bit a 63 then .memory
  else if a < 2 ^ 40 then .memory
  else if 0x4000000000000000 ≤ a && a < 0x4000000000000000 + 32 * 0x200000 then
    .gallery ((a - 0x4000000000000000) / 0x200000) (a % 0x200000)
  else if 0x4100000000000000 ≤ a && a < 0x4100000000000000 + 0x4000000 then .regs (a - 0x4100000000000000)
  else .none

/-- An access of an Usher. -/
inductive UAccess where
  | load
  | store
  | atomic
  deriving DecidableEq, Repr

/-- The access writes. -/
def UAccess.writes : UAccess → Bool
  | .load => false
  | .store => true
  | .atomic => true

/-- The unit whose register block holds an offset (R515). -/
def offsetUnit (off : Nat) : Option (UnitKind × Nat) :=
  if 0x1000000 ≤ off ∧ off < 0x2000000 then some (.hall, (off - 0x1000000) / 0x100000)
  else if 0x2000000 ≤ off ∧ off < 0x2200000 then some (.engine, (off - 0x2000000) / 0x10000)
  else if 0x2400000 ≤ off ∧ off < 0x2500000 then some (.lantern, (off - 0x2400000) / 0x10000)
  else if 0x2500000 ≤ off ∧ off < 0x2510000 then some (.usher, (off - 0x2500000) / 0x100)
  else if 0x2600000 ≤ off ∧ off < 0x2700000 then some (.slice, (off - 0x2600000) / 0x10000)
  else if 0x2800000 ≤ off ∧ off < 0x2800500 then some (.undercroft, 0)
  else if 0x3000000 ≤ off ∧ off < 0x3400000 then some (.port, (off - 0x3000000) / 0x10000)
  else none

/-- The hall group of a unit (R17). -/
def groupOfUnit (k : UnitKind) (i : Nat) : Nat :=
  match k with
  | .engine => i / 2
  | .usher => i / 16
  | .port => i / 4
  | _ => i

/-- Steps 2 and 3 of R288 for the register window: BAR0 offset `off` lies in the identity block, the shared-time block, or the block
of a unit that the Usher's wing owns; a store to an absent unit faults. `a` is the address of the access. -/
def regsFault (s : State) (u a off : Nat) (writes : Bool) : Option UFault :=
  if off < 0x100 ∨ (0x3C00000 ≤ off ∧ off < 0x3C00600) then none
  else
    match offsetUnit off with
    | none => some (faultWindow (some a))
    | some (k, i) =>
      if k = .undercroft || (usherWing s u).isNone then some (faultWindow (some a))
      else if !present s k i then (if writes then some (faultAbsent (some a)) else none)
      else if groupWing s (groupOfUnit k i) = usherWing s u then none
      else some (faultWindow (some a))

/-- The checks of R288 from step 2 on, for an access to memory or a Gallery of `n` bytes. -/
def accessFault (s : State) (u a n : Nat) (k : UAccess) : Option UFault :=
  match usherRegion a with
  | .memory =>
    firstFault
      [((match usherWing s u with | some w => !grantedTo s w a n | none => !isHostAddr a), faultWindow (some a)),
        ((decide (k ≠ .store) && !mayRead s a n) || (k.writes && !mayWrite s a n), faultTranslation a)]
  | .gallery e off =>
    firstFault
      [(decide (0x200000 < off + n) || (present s .engine e && usherWing s u ≠ groupWing s (e / 2)) || (usherWing s u).isNone,
          faultWindow (some a)),
        (!present s .engine e, faultAbsent (some a)), (k.writes, ⟨2, stBadField, some a⟩)]
  | .regs off => (regsFault s u a off k.writes).or (some ⟨2, stBadField, some a⟩)
  | .none => some (faultWindow (some a))

/-! ### Loads and stores of lines (R229, R230, R290, R291) -/

/-- The line is not cached by Ushers: STREAM and host-bias pages (R229). -/
def nonCaching (s : State) (l : Nat) : Bool := isStream l || hostBias s l

/-- A line of the Gallery window (R142, R144, R152). -/
def galleryLine (s : State) (a : Nat) : List Byte × Nat :=
  match usherRegion a with
  | .gallery e off =>
    let t := tileOf s e (off / 4096)
    (((tileBytes t).drop (off % 4096)).take 64, if t.poison then stEcc else 0)
  | _ => ([], 0)

/-- A request of an Usher for a line, served whole. -/
def usherReq (s : State) (u : Nat) (k : ReqKind) (l : Nat) : State :=
  serveLine s (plainReq k (.agent u) l (usherWing s u) MemErr.none s.now)

/-- Note the use of a line that an L1 holds. -/
def useLine (s : State) (u l : Nat) (c : CLine) : State := tickMzn (setCache s u l (some { c with used := s.mzn.tick }))

/-- Load one line: from the L1, through it, or straight from the home (R290). -/
def loadLine (s : State) (u l : Nat) : State × List Byte × Nat :=
  match usherRegion (l * 64) with
  | .memory =>
    if nonCaching s l then readNc (drainLine s u l) (usherWing s u) l
    else
      match cacheLine s u l with
      | some c => (useLine s u l c, c.data, if c.poison then stEcc else 0)
      | none => let s1 := usherReq s u .rdS l; (s1, s1.mzn.answer, s1.mzn.answerStatus)
  | _ => (s, galleryLine s (l * 64))

/-- Gain a line for writing in the L1, unless it is not cached; the failure that the writer meets. A store of a whole line
replaces poisoned data (R256). -/
def gainLine (s : State) (u l : Nat) (whole : Bool) : State × Nat :=
  if nonCaching s l then (s, if whole && !hostLine l && halted s (lineHall l) then stUnitFault else 0)
  else
    let s1 :=
      match cacheLine s u l with
      | some c => if c.st = .m || c.st = .e then useLine s u l c else usherReq s u .upgr l
      | none => usherReq s u .rdU l
    match cacheLine s1 u l with
    | some c => (s1, if c.poison && !whole then stEcc else 0)
    | none => (s1, if s1.mzn.answerStatus = 0 then stUnitFault else s1.mzn.answerStatus)

/-- Write bytes of a line that has been gained: in the L1, to its home, or into the write-combining buffer (R290, R294). -/
def putLine (s : State) (u l mask : Nat) (data : List Byte) : State :=
  if nonCaching s l then
    if mask = 2 ^ 64 - 1 then (writeFull (drainLine s u l) (usherWing s u) l data).1
    else wcbWrite (drainLine s u l) l mask data (.usher u)
  else
    match cacheLine s u l with
    | some c =>
      tickMzn (setCache s u l
        (some { c with st := .m, data := mergeMask mask c.data data, poison := c.poison && mask ≠ 2 ^ 64 - 1, used := s.mzn.tick }))
    | none => s

/-- Load lines one after another; the first failure ends the load. -/
def loadLines (u a : Nat) : State → List Nat → List Byte → UStep (List Byte)
  | s, [], acc => .ok s acc
  | s, l :: ls, acc =>
    let (s1, d, st) := loadLine s u l
    if st = 0 then loadLines u a s1 ls (acc ++ d) else .fault s1 (memFault st (max a (l * 64)))

/-- Load `n` bytes after the checks of R288 from step 2 on. -/
def loadBytes (s : State) (u a n : Nat) : UStep (List Byte) :=
  match if n = 0 then none else accessFault s u a n .load with
  | some f => .fault s f
  | none => (loadLines u a s (linesOf a n) []).andThen fun t b => .ok t ((b.drop (a % 64)).take n)

/-- The bytes of a store, line by line: the line, its mask and its data. -/
def storeParts (a : Nat) (bs : List Byte) : List (Nat × Nat × List Byte) :=
  (linesOf a bs.length).map fun l =>
    let lo := if l * 64 < a then a - l * 64 else 0
    let hi := min 64 (a + bs.length - l * 64)
    (l, spanMask lo (hi - lo), bytesOf lo 0 ++ (bs.drop (l * 64 + lo - a)).take (hi - lo))

/-- Gain the lines of a store one after another; the first failure faults, with nothing written. -/
def gainLines (u : Nat) : State → List (Nat × Nat × List Byte) → UStep Unit
  | s, [] => .ok s ()
  | s, p :: ps =>
    let (s1, st) := gainLine s u p.1 (p.2.1 = 2 ^ 64 - 1)
    if st = 0 then gainLines u s1 ps else .fault s1 (memFault st (p.1 * 64))

/-- Store lines in ascending order after all of them are gained (R294, R310). -/
def storeLines (s : State) (u : Nat) (ps : List (Nat × Nat × List Byte)) : UStep Unit :=
  (gainLines u s ps).andThen fun t _ => .ok (ps.foldl (fun x p => putLine x u p.1 p.2.1 p.2.2) t) ()

/-- Store bytes after the checks of R288 from step 2 on. -/
def storeBytes (s : State) (u a : Nat) (bs : List Byte) : UStep Unit :=
  match if bs.isEmpty then none else accessFault s u a bs.length .store with
  | some f => .fault s f
  | none => storeLines s u (storeParts a bs)

/-! ### Fetch and decoding (R290, R296 to R299) -/

/-- The instructions, each a row of the table. -/
inductive UOp where
  | alu | addi | andi | ori | xori | shi | slti | fpu | ld | st | br | jal | jalr | atom | argmax
  | varith | vcmp | vcvt | vperm | vred | vld | vst | li | lih | select | jl | vcomb
  | nop | halt | csrr | csrw | fence | xret | trap | issue | issuenb | wait | test | iflush
  deriving DecidableEq, Repr

/-- The SYS functions (R316). -/
def sysOp (fn : Nat) : Option UOp :=
  [UOp.nop, .halt, .csrr, .csrw, .fence, .xret, .trap, .issue, .issuenb, .wait, .test, .iflush][fn]?

/-- The instruction of an encoding; none for a reserved OP or SYS function (R296 to R298, R316). -/
def decodeOp (w : Nat) : Option UOp :=
  let op := bits w 1 6
  if w % 2 = 1 then [UOp.li, .lih, .select, .jl, .vcomb][op]?
  else if op = 0 then sysOp (bits w 25 7)
  else
    [UOp.alu, .addi, .andi, .ori, .xori, .shi, .slti, .fpu, .ld, .st, .br, .jal, .jalr, .atom, .argmax, .varith, .vcmp, .vcvt,
      .vperm, .vred, .vld, .vst][op - 1]?

/-- Field D, or the first register field (R296). -/
def fD (w : Nat) : Nat := bits w 7 5
/-- Field A. -/
def fA (w : Nat) : Nat := bits w 12 5
/-- Field B. -/
def fB (w : Nat) : Nat := bits w 17 5
/-- Field PG. -/
def fPG (w : Nat) : Nat := bits w 22 3
/-- Field FN of format A. -/
def fFN (w : Nat) : Nat := bits w 25 7
/-- Field VT of formats V and VM. -/
def fVT (w : Nat) : Nat := bits w 25 3
/-- Field FN of format V, IMM4 of format VM. -/
def fFN4 (w : Nat) : Nat := bits w 28 4
/-- IMM15 of format I, signed. -/
def fImm15 (w : Nat) : Int := toSigned 15 (bits w 17 15)

/-- The value modulo 2^64. -/
def wrap64 (x : Nat) : Nat := x % 2 ^ 64

/-- A signed offset added to an address, modulo 2^64. -/
def addOff (a : Nat) (o : Int) : Nat := ofSigned 64 ((a : Int) + o)

/-- The fault of an instruction fetch at an address (R287, R296, log entry 19). -/
def fetchFault (s : State) (u a : Nat) : Option UFault :=
  if a % 4 ≠ 0 then some (faultAlign a)
  else
    match usherRegion a with
    | .memory => accessFault s u a 4 .load
    | _ => some (faultWindow (some a))

/-- A line of instructions: from the instruction cache, which does not follow later stores, or read with RD_NC and kept; the
cache has room for 16 KiB (R290). -/
def fetchLine (s : State) (u l : Nat) : State × List Byte × Nat :=
  match (usher s u).icache.find? fun e => e.1 == l with
  | some e => (s, e.2, 0)
  | none =>
    let (s1, d, st) := readNc s (usherWing s u) l
    if st = 0 then
      (modUsher s1 u fun x => { x with icache := (x.icache ++ [(l, d)]).drop ((x.icache.length + 1) - 256) }, d, 0)
    else (s1, d, st)

/-- Fetch one word. -/
def fetchWord (s : State) (u a : Nat) : UStep Nat :=
  match fetchFault s u a with
  | some f => .fault s f
  | none =>
    let (s1, d, st) := fetchLine s u (a / 64)
    if st = 0 then .ok s1 (numAt d (a % 64) 4) else .fault s1 (memFault st a)

/-- Fetch the instruction at an address: 32 or 64 bits (R296). -/
def fetchInsn (s : State) (u a : Nat) : UStep Nat :=
  (fetchWord s u a).andThen fun t w =>
    if w % 2 = 0 then .ok t w else (fetchWord t u (wrap64 (a + 4))).andThen fun t2 w2 => .ok t2 (w + w2 * 2 ^ 32)

/-- The address of the instruction after this one. -/
def nextPc (pc w : Nat) : Nat := wrap64 (pc + if w % 2 = 1 then 8 else 4)

/-- The states in which an instruction may run: RUNNING, and WAITING for a WAIT under way. -/
def mayRun (st : UState) (op : UOp) : Bool := st = .running || (st = .waiting && op = .wait)

/-- Count the time that a context spent in a WAIT which is over (USH_WAIT_NS, R321). -/
def waitOver (old : Usher) (s : State) (u : Nat) : State :=
  if old.st = .waiting && (usher s u).st ≠ .waiting then addR s .ushWaitNs (s.now - old.waitFrom) u else s

/-- Run the instruction at an Usher's program counter, if it is of this row. A reserved encoding raises ILLEGAL, whichever row
is asked for. The body is given the state after the fetch, the address and the word. -/
def isaRow (u : Nat) (op : UOp) (s : State) (body : State → Nat → Nat → URes) : State :=
  let x := usher s u
  let pc := x.pc.toNat
  if !present s .usher u || !mayRun x.st op then s
  else
    match fetchInsn s u pc with
    | .fault t f => raiseFault t u f none
    | .ok t w =>
      match decodeOp w with
      | none => raiseFault t u illegalOp none
      | some o =>
        if o = op then
          waitOver x (match body t pc w with
          | .next r npc => addR (modUsher r u fun y => { y with pc := BitVec.ofNat 64 npc, st := if y.st = .waiting then .running else y.st }) .ushInstr 1 u
          | .fault r f => raiseFault r u f none
          | .stay r => r) u
        else s

/-- The checks of R299 before an instruction's body: reserved values, then fields that must be 0. -/
def encoding (s : State) (reserved : List Bool) (zero : List Bool) (k : URes) : URes :=
  guardU s ((reserved.map fun b => (b, illegalOp)) ++ zero.map fun b => (b, illegalSet)) k

end Sys2Proof.Machine
end

