-- ==== Sys2Proof/Machine/UsherScalar.lean ====
section
/-! DEFINITION. The Ushers' scalar instructions: integer, floating-point, branches and constants (R298, R300, R301, R303,
R304). -/

namespace Sys2Proof.Machine

/-- An instruction that only writes scalar register D: its encoding's checks and its result. -/
def scalarRow (u : Nat) (op : UOp) (s : State) (reserved zero : Nat → List Bool) (val : State → Nat → Nat → Nat) : State :=
  isaRow u op s fun t pc w =>
    encoding t (reserved w) (zero w) (.next (putS t u (fD w) (val t pc w)) (nextPc pc w))

/-- Signed reading of 64 bits. -/
def sgn (x : Nat) : Int := toSigned 64 x

/-- Leading zeros of a number of `n` bits. -/
def clz (n x : Nat) : Nat := if x = 0 then n else n - 1 - Nat.log2 x

/-- Trailing zeros of a number, at most `n`. -/
def ctz : Nat → Nat → Nat
  | 0, _ => 0
  | n + 1, x => if x % 2 = 1 then 0 else 1 + ctz n (x / 2)

/-- Set bits among the low `n`. -/
def popc : Nat → Nat → Nat
  | 0, _ => 0
  | n + 1, x => x % 2 + popc n (x / 2)

/-- Arithmetic shift right of `w` bits. -/
def sra (w x n : Nat) : Nat := ofSigned w (Int.fdiv (toSigned w x) (2 ^ n : Nat))

/-- The ALU operations by FN (R300). -/
def aluOp (fn a b : Nat) : Nat :=
  match fn with
  | 0 => wrap64 (a + b)
  | 1 => wrap64 (a + 2 ^ 64 - b)
  | 2 => a &&& b
  | 3 => a ||| b
  | 4 => a ^^^ b
  | 5 => wrap64 (a * 2 ^ (b % 64))
  | 6 => a / 2 ^ (b % 64)
  | 7 => sra 64 a (b % 64)
  | 8 => b2n (decide (sgn a < sgn b))
  | 9 => b2n (decide (a < b))
  | 10 => wrap64 (a * b)
  | 11 => a * b / 2 ^ 64
  | 12 => ofSigned 64 (Int.fdiv (sgn a * sgn b) (2 ^ 64 : Nat))
  | 13 => if b = 0 then 2 ^ 64 - 1 else ofSigned 64 (Int.tdiv (sgn a) (sgn b))
  | 14 => if b = 0 then 2 ^ 64 - 1 else a / b
  | 15 => if b = 0 then a else ofSigned 64 (Int.tmod (sgn a) (sgn b))
  | 16 => if b = 0 then a else a % b
  | 17 => if sgn a < sgn b then a else b
  | 18 => if sgn a < sgn b then b else a
  | 19 => min a b
  | 20 => max a b
  | 21 => clz 64 a
  | 22 => ctz 64 a
  | 23 => popc 64 a
  | _ => ofSigned 64 (toSigned 32 (a + b))

/-- ALU (R300). CLZ, CTZ and POPC use A alone, so that B must be 0 (R299, log entry 20). -/
def execAlu (u : Nat) (s : State) : Out :=
  .next (scalarRow u .alu s (fun w => [decide (25 ≤ fFN w)])
    (fun w => [fPG w ≠ 0, decide (21 ≤ fFN w) && decide (fFN w ≤ 23) && fB w ≠ 0])
    fun t _ w => aluOp (fFN w) (getS t u (fA w)) (getS t u (fB w)))

/-- An operation of A with the sign-extended IMM15 (R301). -/
def immRow (u : Nat) (op : UOp) (s : State) (f : Nat → Nat → Nat) : State :=
  scalarRow u op s (fun _ => []) (fun _ => []) fun t _ w => f (getS t u (fA w)) (ofSigned 64 (fImm15 w))

/-- ADDI (R301). -/
def execAddi (u : Nat) (s : State) : Out := .next (immRow u .addi s (aluOp 0))

/-- ANDI (R301). -/
def execAndi (u : Nat) (s : State) : Out := .next (immRow u .andi s (aluOp 2))

/-- ORI (R301). -/
def execOri (u : Nat) (s : State) : Out := .next (immRow u .ori s (aluOp 3))

/-- XORI (R301). -/
def execXori (u : Nat) (s : State) : Out := .next (immRow u .xori s (aluOp 4))

/-- SLTI (R301). -/
def execSlti (u : Nat) (s : State) : Out := .next (immRow u .slti s (aluOp 8))

/-- SHI (R301): IMM15[5:0] is the amount and IMM15[7:6] the kind. -/
def execShi (u : Nat) (s : State) : Out :=
  .next (scalarRow u .shi s (fun w => [bits w 23 2 = 3]) (fun w => [bits w 25 7 ≠ 0])
    fun t _ w => aluOp (5 + bits w 23 2) (getS t u (fA w)) (bits w 17 6))

/-- LI (R298). -/
def execLi (u : Nat) (s : State) : Out :=
  .next (scalarRow u .li s (fun _ => []) (fun w => [bits w 12 20 ≠ 0]) fun _ _ w => ofSigned 64 (toSigned 32 (bits w 32 32)))

/-- LIH (R298). -/
def execLih (u : Nat) (s : State) : Out :=
  .next (scalarRow u .lih s (fun _ => []) (fun w => [bits w 12 20 ≠ 0])
    fun t _ w => bits w 32 32 * 2 ^ 32 + getS t u (fD w) % 2 ^ 32)

/-! ### Branches (R296, R303) -/

/-- Write the link register and jump, unless the target is misaligned (R296, R303). -/
def jumpLink (s : State) (u d link target : Nat) : URes :=
  guardU s [(target % 4 ≠ 0, faultAlign target)] (.next (putS s u d link) target)

/-- BR's condition (R303). -/
def branchTaken (s : State) (u w : Nat) : Bool :=
  let a := getS s u (bits w 7 5)
  let b := getS s u (bits w 12 5)
  match bits w 17 3 with
  | 0 => a == b
  | 1 => a != b
  | 2 => decide (sgn a < sgn b)
  | 3 => decide (sgn b ≤ sgn a)
  | 4 => decide (a < b)
  | 5 => decide (b ≤ a)
  | 6 => decide (getP s u (bits w 7 3) ≠ 0)
  | _ => decide (getP s u (bits w 7 3) = 0)

/-- BR (R303). -/
def execBr (u : Nat) (s : State) : Out :=
  .next (isaRow u .br s fun t pc w =>
    encoding t [] [decide (6 ≤ bits w 17 3) && (bits w 12 5 ≠ 0 || bits w 10 2 ≠ 0)]
      (.next t (if branchTaken t u w then addOff pc (4 * toSigned 12 (bits w 20 12)) else nextPc pc w)))

/-- JAL (R303). -/
def execJal (u : Nat) (s : State) : Out :=
  .next (isaRow u .jal s fun t pc w => jumpLink t u (fD w) (wrap64 (pc + 4)) (addOff pc (4 * toSigned 20 (bits w 12 20))))

/-- JALR (R303). -/
def execJalr (u : Nat) (s : State) : Out :=
  .next (isaRow u .jalr s fun t pc w => jumpLink t u (fD w) (wrap64 (pc + 4)) (addOff (getS t u (fA w)) (fImm15 w)))

/-- JL (R298). -/
def execJl (u : Nat) (s : State) : Out :=
  .next (isaRow u .jl s fun t pc w =>
    encoding t [] [bits w 12 20 ≠ 0] (jumpLink t u (fD w) (wrap64 (pc + 8)) (addOff pc (toSigned 32 (bits w 32 32)))))

/-! ### Floating point (R304) -/

/-- The format of an FPU instruction: binary32, or binary64 with the D bit. -/
def fpuFmt (w : Nat) : Fmt := if bit w 31 then fp64 else fp32

/-- An encoded floating-point result with its flags. -/
def encoded (f : Fmt) (r : FRes) : Nat × Nat × Nat := (r.val.enc f, r.set, r.may)

/-- The FPU operations: the new value of D and the flags set, and that may be set (R304). -/
def fpuOp (w a b : Nat) : Nat × Nat × Nat :=
  let f := fpuFmt w
  let x := f.dec (a % 2 ^ f.width)
  let y := f.dec (b % 2 ^ f.width)
  match bits w 25 6 with
  | 0 => encoded f (fAdd f x y)
  | 1 => encoded f (fSub f x y)
  | 2 => encoded f (fMul f x y)
  | 3 => encoded f (fDiv f x y)
  | 4 => encoded f (fSqrt f x)
  | 5 => encoded f (fMin x y)
  | 6 => encoded f (fMax x y)
  | 7 => fCompare x y (x.eq y)
  | 8 => fCompare x y (x.lt y)
  | 9 => fCompare x y (x.le y)
  | 10 => let (v, fl) := fToInt 64 x; (ofSigned 64 v, fl, 0)
  | 11 => encoded f (fConv f .nearestEven (FP.ofInt (sgn a)))
  | 12 => let g := if bit w 31 then fp32 else fp64; encoded g (fConv g .nearestEven x)
  | 13 => encoded bf16 (fConv bf16 .nearestEven x)
  | 14 => encoded fp32 (fConv fp32 .nearestEven (bf16.dec (a % 2 ^ 16)))
  | 15 => encoded fp16 (fConv fp16 .nearestEven x)
  | 16 => encoded fp32 (fConv fp32 .nearestEven (fp16.dec (a % 2 ^ 16)))
  | _ => encoded bf16 (fConv bf16 .up x)

/-- FPU (R304). An operation of A alone leaves B unused, so that B must be 0 (R299, log entry 20). -/
def execFpu (u : Nat) (s : State) : Out :=
  .next (isaRow u .fpu s fun t pc w =>
    let op := bits w 25 6
    encoding t [decide (18 ≤ op)]
      [fPG w ≠ 0, decide (13 ≤ op) && bit w 31, (op = 4 || decide (10 ≤ op)) && fB w ≠ 0]
      (let r := fpuOp w (getS t u (fA w)) (getS t u (fB w))
       .next (putS (putFlags t u r.2) u (fD w) r.1) (nextPc pc w)))

end Sys2Proof.Machine
end

