-- ==== Sys2Proof/Machine/UsherVector.lean ====
section
/-! DEFINITION. The Ushers' vector instructions (R305 to R311). -/

namespace Sys2Proof.Machine

/-- An element with the flags that forming it sets, and may set. -/
abbrev Lane := Nat × Nat × Nat

/-- Gather the flags of the lanes that the guard takes. -/
def laneFlags (g : List Bool) (l : List Lane) : Nat × Nat :=
  (g.zip l).foldl (fun acc x => if x.1 then (acc.1 ||| x.2.2.1, acc.2 ||| x.2.2.2) else acc) (0, 0)

/-- Write vector register `d` under a guard with the lanes of an element size. -/
def putLanes (s : State) (u d e : Nat) (g : List Bool) (l : List Lane) : State :=
  putV (putFlags s u (laneFlags g l)) u d
    (laneBytes e (mergeLanes g (l.map Prod.fst) (lanesOf e (256 / e) (getV s u d))))

/-- The VARITH operation of a lane (R305). -/
def varithOp (vt fn a b : Nat) : Lane :=
  let e := 8 * vtBytes vt
  let f := vtFmt vt
  let x := f.dec a
  let y := f.dec b
  if vtFloat vt then
    match fn with
    | 0 => encoded f (fAdd f x y)
    | 1 => encoded f (fSub f x y)
    | 2 => encoded f (fMul f x y)
    | 3 => encoded f (fMin x y)
    | 4 => encoded f (fMax x y)
    | 14 => encoded f (fDiv f x y)
    | _ => encoded f (fSqrt f x)
  else
    let i := toSigned e a
    let j := toSigned e b
    (match fn with
      | 0 => (a + b) % 2 ^ e
      | 1 => (a + 2 ^ e - b) % 2 ^ e
      | 2 => a * b % 2 ^ e
      | 3 => if j < i then b else a
      | 4 => if i < j then b else a
      | 5 => min a b
      | 6 => max a b
      | 7 => a &&& b
      | 8 => a ||| b
      | 9 => a ^^^ b
      | 10 => a * 2 ^ (b % e) % 2 ^ e
      | 11 => sra e a (b % e)
      | 12 => a / 2 ^ (b % e)
      | _ => popc e a, 0, 0)

/-- An FN of VARITH that its type does not take (R305). -/
def varithBad (vt fn : Nat) : Bool := if vtFloat vt then decide (5 ≤ fn) && decide (fn ≤ 13) else decide (14 ≤ fn)

/-- VARITH (R305). POPC and SQRT use A alone, so that B must be 0 (R299, log entry 20). -/
def execVarith (u : Nat) (s : State) : Out :=
  .next (isaRow u .varith s fun t pc w =>
    let vt := fVT w
    let fn := fFN4 w
    let e := vtBytes vt
    let n := vtLanes vt
    encoding t [varithBad vt fn] [(fn = 13 || fn = 15) && fB w ≠ 0]
      (.next (putLanes t u (fD w) e (guardBits (getP t u (fPG w)) e n)
        (List.zipWith (varithOp vt fn) (lanesOf e n (getV t u (fA w))) (lanesOf e n (getV t u (fB w))))) (nextPc pc w)))

/-- The VCMP comparison of a lane, with the flags that it may set (R306). -/
def vcmpOp (vt fn a b : Nat) : Bool × Nat :=
  let e := 8 * vtBytes vt
  if vtFloat vt then
    let x := (vtFmt vt).dec a
    let y := (vtFmt vt).dec b
    (match fn with
      | 0 => x.eq y
      | 1 => !x.eq y
      | 2 => x.lt y
      | 3 => x.le y
      | 4 => y.lt x
      | _ => y.le x, if x.isNan || y.isNan then flInvalid else 0)
  else
    let i := toSigned e a
    let j := toSigned e b
    (match fn with
      | 0 => a == b
      | 1 => a != b
      | 2 => decide (i < j)
      | 3 => decide (i ≤ j)
      | 4 => decide (j < i)
      | 5 => decide (j ≤ i)
      | 6 => decide (a < b)
      | _ => decide (b ≤ a), 0)

/-- VCMP (R306). -/
def execVcmp (u : Nat) (s : State) : Out :=
  .next (isaRow u .vcmp s fun t pc w =>
    let vt := fVT w
    let fn := fFN4 w
    let e := vtBytes vt
    let n := vtLanes vt
    let g := guardBits (getP t u (fPG w)) e n
    let l := List.zipWith (vcmpOp vt fn) (lanesOf e n (getV t u (fA w))) (lanesOf e n (getV t u (fB w)))
    encoding t [vtFloat vt && decide (6 ≤ fn) && decide (fn ≤ 7)] [decide (8 ≤ fn), bits w 10 2 ≠ 0]
      (.next (putP (putFlags t u (laneFlags g (l.map fun x => (0, 0, x.2)))) u (bits w 7 3)
        (predOf e (List.zipWith (fun a b => a && b.1) g l))) (nextPc pc w)))

/-- The VCVT conversion of an element (R307). -/
def convElem (src dst a : Nat) : Lane :=
  let w := 8 * vtBytes dst
  match vtFloat src, vtFloat dst with
  | false, false => (ofSigned w (toSigned (8 * vtBytes src) a), 0, 0)
  | false, true => encoded (vtFmt dst) (fConv (vtFmt dst) .nearestEven (FP.ofInt (toSigned (8 * vtBytes src) a)))
  | true, false => let (v, fl) := fToInt w ((vtFmt src).dec a); (ofSigned w v, fl, 0)
  | true, true => encoded (vtFmt dst) (fConv (vtFmt dst) .nearestEven ((vtFmt src).dec a))

/-- The lanes that VCVT writes, by destination lane (R307). -/
def vcvtLanes (src dst : Nat) (hi : Bool) (a : List Nat) : List (Option Lane) :=
  let ns := vtLanes src
  let nd := vtLanes dst
  let n := min ns nd
  (List.range nd).map fun i =>
    if ns ≥ nd then (a[if hi && ns > nd then n + i else i]?).map (convElem src dst)
    else if hi then (if n ≤ i && i < 2 * n then (a[i - n]?).map (convElem src dst) else none)
    else if i < n then (a[i]?).map (convElem src dst) else none

/-- VCVT (R307). The guard's bits are those of the destination's lanes, and HI between types of equal lane counts is an unused
field (log entry 20). -/
def execVcvt (u : Nat) (s : State) : Out :=
  .next (isaRow u .vcvt s fun t pc w =>
    let src := fVT w
    let dst := bits w 28 3
    let e := vtBytes dst
    let l := vcvtLanes src dst (bit w 31) (lanesOf (vtBytes src) (vtLanes src) (getV t u (fA w)))
    let g := List.zipWith (fun a (b : Option Lane) => a && b.isSome) (guardBits (getP t u (fPG w)) e (vtLanes dst)) l
    encoding t [src = dst] [fB w ≠ 0, bit w 31 && vtLanes src = vtLanes dst]
      (.next (putLanes t u (fD w) e g (l.map fun x => x.getD (0, 0, 0))) (nextPc pc w)))

/-- The index of the first true value. -/
def firstTrue : Nat → List Bool → Option Nat
  | _, [] => none
  | i, b :: t => if b then some i else firstTrue (i + 1) t

/-- The fields of VPERM that must be 0: those that an FN does not use, predicate bits [4:3], and PG for FN 7 to 12 (R296, R308,
log entry 20). -/
def vpermZero (w : Nat) : List Bool :=
  let fn := fFN4 w
  let pred := decide (7 ≤ fn) && decide (fn ≤ 12)
  [(fn = 0 || fn = 6 || fn = 10 || fn = 11 || fn = 12) && fB w ≠ 0, fn = 6 && fA w ≠ 0, pred && fPG w ≠ 0,
    pred && bits w 15 2 ≠ 0, decide (7 ≤ fn) && decide (fn ≤ 10) && bits w 10 2 ≠ 0,
    decide (7 ≤ fn) && decide (fn ≤ 9) && bits w 20 2 ≠ 0]

/-- VPERM's effect (R308). -/
def runVperm (t : State) (u pc w : Nat) : URes :=
  let vt := fVT w
  let e := vtBytes vt
  let n := vtLanes vt
  let sb := getS t u (fB w)
  let a := lanesOf e n (getV t u (fA w))
  let b := lanesOf e n (getV t u (fB w))
  let g := guardBits (getP t u (fPG w)) e n
  let pa := guardBits (getP t u (bits w 12 3)) e n
  let pb := guardBits (getP t u (bits w 17 3)) e n
  let go := fun r : State => URes.next r (nextPc pc w)
  let vec := fun (g : List Bool) (l : List Nat) => go (putLanes t u (fD w) e g (l.map fun x => (x, 0, 0)))
  let pred := fun (f : Bool → Bool → Bool) => go (putP t u (bits w 7 3) (predOf e (List.zipWith f pa pb)))
  match fFN4 w with
  | 0 => vec g (List.replicate n (getS t u (fA w) % 2 ^ (8 * e)))
  | 1 => guardU t [(decide (n ≤ sb), faultField)] (go (putS t u (fD w) (a.getD sb 0)))
  | 2 =>
    guardU t [(decide (n ≤ sb), faultField)]
      (vec ((List.range n).map fun i => i == sb && g.getD i false) (List.replicate n (getS t u (fA w) % 2 ^ (8 * e))))
  | 3 => vec (List.replicate n true) ((List.range n).map fun i => if g.getD i false then a.getD i 0 else b.getD i 0)
  | 4 => vec g ((List.range n).map fun i => a.getD (i + sb) 0)
  | 5 => vec g ((List.range n).map fun i => a.getD (b.getD i 0 % n) 0)
  | 6 => vec g (List.range n)
  | 7 => pred fun x y => x && y
  | 8 => pred fun x y => x || y
  | 9 => pred fun x y => x != y
  | 10 => pred fun x _ => !x
  | 11 => go (putS t u (fD w) (pa.filter id).length)
  | _ => go (putS t u (fD w) ((firstTrue 0 pa).getD (2 ^ 64 - 1)))

/-- VPERM (R308). -/
def execVperm (u : Nat) (s : State) : Out :=
  .next (isaRow u .vperm s fun t pc w => encoding t [decide (13 ≤ fFN4 w)] (vpermZero w) (runVperm t u pc w))

/-- A reduction of the lanes of a floating-point type: SUM, MIN or MAX (R309). The work is done in binary32, or in binary64 for
FP64, and the result is in that format (log entry 21). -/
def vredFloat (vt fn : Nat) (l : List Nat) : Lane :=
  let f := if vt = 7 then fp64 else fp32
  let vals := l.map (vtFmt vt).dec
  let step := fun (op : FP → FP → FRes) (acc : FRes) (x : FP) =>
    let r := op acc.val x
    FRes.mk r.val (acc.set ||| r.set) (acc.may ||| r.may)
  match fn with
  | 0 => encoded f (vals.foldl (step (fAdd f)) ⟨.fin false 0 0, 0, 0⟩)
  | _ =>
    match vals with
    | [] => (0, 0, 0)
    | x :: xs => encoded f (xs.foldl (step (if fn = 1 then fMin else fMax)) ⟨x, 0, 0⟩)

/-- A reduction of sign-extended integers, or of the bits of elements (R309, log entry 21). -/
def vredInt (vt fn : Nat) (l : List Nat) : Nat :=
  let w := 8 * vtBytes vt
  let ext := fun x : Nat => if vtFloat vt then x else ofSigned 64 (toSigned w x)
  let fold := fun (op : Nat → Nat → Nat) => match l.map ext with | [] => 0 | x :: xs => xs.foldl op x
  match fn with
  | 0 => fold fun a b => wrap64 (a + b)
  | 1 => fold fun a b => if sgn b < sgn a then b else a
  | 2 => fold fun a b => if sgn a < sgn b then b else a
  | 3 => fold fun a b => a &&& b
  | 4 => fold fun a b => a ||| b
  | 5 => fold fun a b => a ^^^ b
  | _ => (l.map (popc w)).sum

/-- VRED (R309). -/
def execVred (u : Nat) (s : State) : Out :=
  .next (isaRow u .vred s fun t pc w =>
    let vt := fVT w
    let fn := fFN4 w
    let e := vtBytes vt
    let n := vtLanes vt
    let l := (((guardBits (getP t u (fPG w)) e n).zip (lanesOf e n (getV t u (fA w)))).filter Prod.fst).map Prod.snd
    encoding t [decide (7 ≤ fn)] [fB w ≠ 0]
      (if l.isEmpty then .next (putS t u (fD w) 0) (nextPc pc w)
       else if vtFloat vt && decide (fn ≤ 2) then
         let r := vredFloat vt fn l
         .next (putS (putFlags t u r.2) u (fD w) r.1) (nextPc pc w)
       else .next (putS t u (fD w) (vredInt vt fn l)) (nextPc pc w)))

/-! ### Loads and stores (R310) -/

/-- The address of a vector access (R296, R310). -/
def vmAddr (s : State) (u w : Nat) : Nat := wrap64 (getS s u (fA w) + getS s u (fB w) + 256 * bits w 28 4)

/-- VLD (R310). -/
def execVld (u : Nat) (s : State) : Out :=
  .next (isaRow u .vld s fun t pc w =>
    let a := vmAddr t u w
    let e := vtBytes (fVT w)
    let n := vtLanes (fVT w)
    guardU t [(a % 64 ≠ 0, faultAlign a)]
      ((loadBytes t u a 256).bind fun r b =>
        .next (putLanes r u (fD w) e (guardBits (getP r u (fPG w)) e n) ((lanesOf e n b).map fun x => (x, 0, 0))) (nextPc pc w)))

/-- The parts of a guarded burst: the lines that hold a guarded byte, with their masks (R310). -/
def burstParts (a e : Nat) (g : List Bool) (v : List Byte) : List (Nat × Nat × List Byte) :=
  (List.range 4).filterMap fun k =>
    let mask := (List.range 64).foldl (fun m i => if g.getD ((64 * k + i) / e) false then m + 2 ^ i else m) 0
    if mask = 0 then none else some (a / 64 + k, mask, (v.drop (64 * k)).take 64)

/-- VST (R294, R310). -/
def execVst (u : Nat) (s : State) : Out :=
  .next (isaRow u .vst s fun t pc w =>
    let a := vmAddr t u w
    let e := vtBytes (fVT w)
    let ps := burstParts a e (guardBits (getP t u (fPG w)) e (vtLanes (fVT w))) (getV t u (fD w))
    guardU t [(a % 64 ≠ 0, faultAlign a)]
      (match ps.findSome? fun p => accessFault t u (p.1 * 64) 64 .store with
       | some f => .fault t f
       | none => (storeLines t u ps).bind fun r _ => .next r (nextPc pc w)))

/-! ### VCOMB (R152, R311) -/

/-- The lane size of a VCOMB mode; a STATE row is a lane of 128 bytes. -/
def combBytes (mode : Nat) : Nat := match mode with | 0 => 4 | 1 => 8 | 2 => 4 | _ => 128

/-- One floating-point operation of a merge, with the flags gathered so far. -/
def noted (r : FRes) (acc : Nat × Nat) : FP × (Nat × Nat) := (r.val, r.gather acc)

/-- The flags of the merge steps of R151. -/
def mergeFlags (a b : MeanState) (acc : Nat × Nat) : Nat × Nat :=
  if a.n = 0 then acc
  else
    let (nf, c) := noted (fConv fp32 .nearestEven (FP.ofInt a.n)) acc
    let (bf, c) := noted (fConv fp32 .nearestEven (FP.ofInt b.n)) c
    let (n2f, c) := noted (fConv fp32 .nearestEven (FP.ofInt (a.n + b.n))) c
    let (delta, c) := noted (fSub fp32 b.mean a.mean) c
    let (q, c) := noted (fDiv fp32 bf n2f) c
    let (dq, c) := noted (fMul fp32 delta q) c
    let (_, c) := noted (fAdd fp32 a.mean dq) c
    let (m, c) := noted (fAdd fp32 a.m2 b.m2) c
    let (dd, c) := noted (fMul fp32 delta delta) c
    let (nb, c) := noted (fMul fp32 nf bf) c
    let (r, c) := noted (fDiv fp32 nb n2f) c
    let (dr, c) := noted (fMul fp32 dd r) c
    (noted (fAdd fp32 m dr) c).2

/-- The row state that 128 bytes hold (R150). -/
def stateOf (b : List Byte) : MeanState := ⟨numAt b 0 4, fp32.dec (numAt b 4 4), fp32.dec (numAt b 8 4)⟩

/-- A VCOMB under way: its lanes, its flags, and whether a merged count passed 2^32 - 1. -/
structure Comb where
  lanes : List (List Byte)
  flags : Nat × Nat
  tooMany : Bool
  deriving DecidableEq, Repr

/-- Add one lane of a partial (R311). -/
def combLane (mode : Nat) (g : Bool) (old new : List Byte) (flags : Nat × Nat) : List Byte × (Nat × Nat) × Bool :=
  if !g then (old, flags, false)
  else
    match mode with
    | 0 => let r := fAdd fp32 (fp32.dec (numAt old 0 4)) (fp32.dec (numAt new 0 4)); (bytesOf 4 (r.val.enc fp32), r.gather flags, false)
    | 1 => let r := fAdd fp64 (fp64.dec (numAt old 0 8)) (fp64.dec (numAt new 0 8)); (bytesOf 8 (r.val.enc fp64), r.gather flags, false)
    | 2 => (bytesOf 4 ((numAt old 0 4 + numAt new 0 4) % 2 ^ 32), flags, false)
    | _ =>
      let a := stateOf old
      let b := stateOf new
      let m := mergeState a b
      (bytesOf 4 m.n ++ bytesOf 4 (bits32 m.mean) ++ bytesOf 4 (bits32 m.m2) ++ bytesOf 116 0, mergeFlags a b flags, decide (2 ^ 32 ≤ m.n))

/-- Split bytes into lanes of `e` bytes. -/
def splitLanes (e : Nat) : Nat → List Byte → List (List Byte)
  | 0, _ => []
  | n + 1, b => b.take e :: splitLanes e n (b.drop e)

/-- Add a partial, lane by lane (R311). -/
def combAdd (mode : Nat) (g : List Bool) (acc : Comb) (b : List Byte) : Comb :=
  let ls := splitLanes (combBytes mode) acc.lanes.length b
  ((g.zip acc.lanes).zip ls).foldl
    (fun c x =>
      let (l, fl, o) := combLane mode x.1.1 x.1.2 x.2 c.flags
      { lanes := c.lanes ++ [l], flags := fl, tooMany := c.tooMany || o })
    { acc with lanes := [] }

/-- The start value of a STATE lane: columns 3 to 31 are 0 (R311). -/
def combStart (mode : Nat) (b : List Byte) : List (List Byte) :=
  (splitLanes (combBytes mode) (256 / combBytes mode) b).map fun l => if mode = 3 then l.take 12 ++ bytesOf 116 0 else l

/-- Read the partials in ascending order and combine them. -/
def combRun (u mode base stride : Nat) (g : List Bool) : Nat → Nat → State → Comb → UStep Comb
  | 0, _, s, c => .ok s c
  | n + 1, i, s, c =>
    (loadBytes s u (wrap64 (base + i * stride)) 256).andThen fun t b =>
      combRun u mode base stride g n (i + 1) t
        (if i = 0 then ⟨combStart mode b, (0, 0), false⟩ else combAdd mode g c b)

/-- VCOMB (R311). -/
def execVcomb (u : Nat) (s : State) : Out :=
  .next (isaRow u .vcomb s fun t pc w =>
    let mode := bits w 32 3
    let base := getS t u (bits w 12 5)
    let count := getS t u (bits w 17 5)
    let stride := getS t u (bits w 22 5)
    let e := combBytes mode
    let g := guardBits (getP t u (bits w 27 3)) e (256 / e)
    encoding t [decide (4 ≤ mode)] [bits w 30 2 ≠ 0, bits w 35 29 ≠ 0]
      (guardU t
        [(count = 0 || decide (65536 < count) || stride = 0, faultField), (base % 64 ≠ 0, faultAlign base), (stride % 64 ≠ 0, faultAlign base)]
        ((combRun u mode base stride g count 0 t ⟨[], (0, 0), false⟩).bind fun r c =>
          if c.tooMany then .fault r faultField
          else
            let old := splitLanes e (256 / e) (getV r u (fD w))
            let new := (List.range (256 / e)).map fun i => if g.getD i false then c.lanes.getD i [] else old.getD i []
            .next (putV (putFlags r u c.flags) u (fD w) new.flatten) (nextPc pc w))))

end Sys2Proof.Machine
end

