-- ==== Sys2Proof/Machine/UsherSelect.lean ====
section
/-! DEFINITION. SELECT, ARGMAX and the atomics (R97, R105 to R109, R112, R243, R312 to R315). -/

namespace Sys2Proof.Machine

/-- An element of a key row: its index, key and tie value. -/
structure SelElem where
  idx : Nat
  key : Nat
  tie : Nat
  deriving DecidableEq, Repr

/-- A key type holds BF16 keys (R105). -/
def keyFloat (kt : Nat) : Bool := kt = 2 || kt = 3

/-- A key is a NaN. -/
def keyNan (kt key : Nat) : Bool := keyFloat kt && (bf16.dec key).isNan

/-- The place of a key in its type's order: a better key has the lower place; -0 and +0 share theirs (R97, R105). -/
def keyPlace (kt key : Nat) : Nat :=
  let asc := if keyFloat kt then (if bit key 15 then 2 ^ 15 - key % 2 ^ 15 else 2 ^ 15 + key) else key
  if kt = 0 || kt = 3 then asc else 2 ^ 17 - asc

/-- Rank of (key, tie value), with the index last (R97). -/
def rankBefore (kt : Nat) (a b : SelElem) : Bool :=
  let x := keyPlace kt a.key
  let y := keyPlace kt b.key
  decide (x < y) || (x == y && (decide (a.tie < b.tie) || (a.tie == b.tie && decide (a.idx < b.idx))))

/-- Insert an element in rank order. -/
def insertRank (kt : Nat) (x : SelElem) : List SelElem → List SelElem
  | [] => [x]
  | y :: ys => if rankBefore kt x y then x :: y :: ys else y :: insertRank kt x ys

/-- The `k` best elements in rank order. -/
def bestOf (kt k : Nat) (l : List SelElem) : List SelElem := l.foldl (fun acc x => (insertRank kt x acc).take k) []

/-- The sum of keys in the order given: exact, or binary64 with one rounding an addition (R108). -/
def keySum (kt : Nat) (l : List SelElem) : Nat :=
  if keyFloat kt then (l.foldl (fun acc x => add64 acc (bf16.dec x.key)) (.fin false 0 0)).enc fp64
  else (l.map SelElem.key).sum

/-- The element ranks at or before the carried threshold (R106). -/
def atThreshold (kt key tie : Nat) (x : SelElem) : Bool :=
  let a := keyPlace kt x.key
  let b := keyPlace kt key
  decide (a < b) || (a == b && decide (x.tie ≤ tie))

/-- The outcome of a selection (R106). -/
structure SelOut where
  winners : List SelElem
  remaining : List SelElem
  nans : Nat
  excluded : Nat
  deriving DecidableEq, Repr

/-- Select the `k` best of a row under a carried threshold (R106). -/
def selectRow (kt k : Nat) (threshold : Option (Nat × Nat)) (row : List SelElem) : SelOut :=
  let good := row.filter fun x => !keyNan kt x.key
  let cut := fun x => match threshold with | some (key, tie) => atThreshold kt key tie x | none => false
  let eligible := good.filter fun x => !cut x
  let w := bestOf kt k eligible
  ⟨w, eligible.filter fun x => !w.contains x, row.length - good.length, good.length - eligible.length⟩

/-- The summary block (R107). -/
def selectSummary (kt : Nat) (r : SelOut) (threshold ids : Bool) : List Byte :=
  let last := r.winners.getLast?.getD ⟨0, 0, 0⟩
  bytesOf 4 r.winners.length ++ bytesOf 2 last.key ++ bytesOf 2 (b2n threshold + 2 * b2n (decide (r.nans ≠ 0)) + 4 * b2n ids) ++
    bytesOf 8 last.tie ++ bytesOf 8 (keySum kt r.winners) ++ bytesOf 8 (keySum kt r.remaining) ++ bytesOf 4 r.nans ++
    bytesOf 4 r.excluded ++ bytesOf 8 0

/-- The elements of a key row with its ID row, if it has one. -/
def rowElems (n : Nat) (keys : List Byte) (ids : Option (List Byte)) : List SelElem :=
  let ks := lanesOf 2 n keys
  let ts := match ids with | some b => lanesOf 8 n b | none => List.range n
  (List.zip (List.range n) (List.zip ks ts)).map fun x => ⟨x.1, x.2.1, x.2.2⟩

/-- Write SELECT's results in the order of R314: the vector register, the index buffer, the summary block. Both ranges are
checked before anything is written. -/
def selectOut (t : State) (u vd kt idxA sumA : Nat) (r : SelOut) (threshold ids : Bool) (pc : Nat) : URes :=
  let n := r.winners.length
  let idx := (r.winners.map fun x => bytesOf 4 x.idx).flatten
  match (if n = 0 then none else accessFault t u idxA (4 * n) .store).or (accessFault t u sumA 48 .store) with
  | some f => .fault t f
  | none =>
    let parts := storeParts idxA idx ++ storeParts sumA (selectSummary kt r threshold ids)
    (storeLines t u parts).bind fun x _ =>
      .next (putV x u vd (laneBytes 2 ((List.range 128).map fun i => match r.winners[i]? with | some e => e.key | none => 0))) pc

/-- SELECT (R105 to R109, R312, R314). -/
def execSelect (u : Nat) (s : State) : Out :=
  .next (isaRow u .select s fun t pc w =>
    let kA := getS t u (bits w 12 5)
    let len := getS t u (bits w 17 5)
    let idR := bits w 22 5
    let idA := getS t u idR
    let xA := getS t u (bits w 27 5)
    let sA := getS t u (bits w 32 5)
    let thR := bits w 37 5
    let k := bits w 42 8
    let kt := bits w 50 3
    let threshold := if thR = 0 then none else some (getS t u thR % 2 ^ 16, getS t u (thR + 1))
    encoding t [] [bits w 53 11 ≠ 0]
      (guardU t
        [(k = 0 || decide (128 < k) || decide (2 ^ 20 < len) || decide (4 ≤ kt) || thR = 31, faultField), (kA % 2 ≠ 0, faultAlign kA),
          (decide (idR ≠ 0) && idA % 8 ≠ 0, faultAlign idA), (xA % 4 ≠ 0, faultAlign xA), (sA % 16 ≠ 0, faultAlign sA)]
        ((loadBytes t u kA (2 * len)).bind fun t1 keys =>
          if idR = 0 then
            selectOut t1 u (fD w) kt xA sA (selectRow kt k threshold (rowElems len keys none)) threshold.isSome false (nextPc pc w)
          else
            (loadBytes t1 u idA (8 * len)).bind fun t2 ids =>
              selectOut t2 u (fD w) kt xA sA (selectRow kt k threshold (rowElems len keys (some ids))) threshold.isSome true (nextPc pc w))))

/-- ARGMAX (R112, R313). -/
def execArgmax (u : Nat) (s : State) : Out :=
  .next (isaRow u .argmax s fun t pc w =>
    let d := fD w
    let a := getS t u (fA w)
    let len := getS t u (fB w)
    let kt := bits w 25 3
    encoding t [] [fPG w ≠ 0, bits w 28 4 ≠ 0]
      (guardU t
        [(d = 0 || decide (28 < d) || len = 0 || decide (2 ^ 20 < len) || decide (4 ≤ kt), faultField), (a % 2 ≠ 0, faultAlign a)]
        ((loadBytes t u a (2 * len)).bind fun t1 keys =>
          let r := selectRow kt 1 none (rowElems len keys none)
          let out := fun (x : State) (i k m : Nat) => putS (putS (putS (putS x u d i) u (d + 1) k) u (d + 2) m) u (d + 3) r.nans
          .next
            (match r.winners with
              | [] => out t1 0xFFFFFFFF 0 0
              | e :: _ => out t1 e.idx (if keyFloat kt then (bf16.dec e.key).enc fp64 else e.key) (keySum kt r.remaining))
            (nextPc pc w))))

/-! ### Atomics (R243, R315) -/

/-- An atomic on a line: its old value and the failure that it meets (R243). -/
def atomicAt (t : State) (u a : Nat) (o : AtomOp) : State × Nat × Nat :=
  let l := a / 64
  if nonCaching t l then
    let t1 := serveLine (drainLine t u l)
      { plainReq .atomH (.agent u) l (usherWing t u) MemErr.none t.now with atom := o, off := a % 64 }
    (t1, numAt t1.mzn.answer (a % 64) o.size, t1.mzn.answerStatus)
  else
    let (t1, st) := gainLine t u l false
    match cacheLine t1 u l with
    | some c =>
      if st ≠ 0 then (t1, 0, st)
      else
        let old := numAt c.data (a % 64) o.size
        (putLine t1 u l (spanMask (a % 64) o.size) (bytesOf (a % 64) 0 ++ bytesOf o.size (atomResult o old)), old, 0)
    | none => (t1, 0, st)

/-- ATOM (R315). The REL bit completes the Usher's earlier stores; the model runs accesses in order, so that ACQ asks nothing
more. -/
def execAtom (u : Nat) (s : State) : Out :=
  .next (isaRow u .atom s fun t pc w =>
    let a := getS t u (fA w)
    let size := if bit w 29 then 8 else 4
    encoding t [decide (10 ≤ bits w 25 4)] [fPG w ≠ 0]
      (guardU t [(a % size ≠ 0, faultAlign a)]
        (match accessFault t u a size .atomic with
         | some f => .fault t f
         | none =>
           let t0 := if bit w 31 then drainUsher t u else t
           let (t1, old, st) := atomicAt t0 u a ⟨bits w 25 4, size, getS t u (fB w), getS t u (fD w)⟩
           if st ≠ 0 then .fault t1 (memFault st a)
           else .next (putS t1 u (fD w) (if size = 4 then ofSigned 64 (toSigned 32 old) else old)) (nextPc pc w))))

end Sys2Proof.Machine
end

