-- ==== Sys2Proof/Machine/UsherSys.lean ====
section
/-! DEFINITION. The Ushers' system instructions, the issue of descriptors and the waiting for them, and the control of a
program context (R286, R291 to R295, R316 to R318, R320 to R322). -/

namespace Sys2Proof.Machine

/-- Fields A, B, D and PG that a SYS function leaves unused must be 0 (R316). -/
def sysZero (w : Nat) (d a b : Bool) : List Bool := [fPG w ≠ 0, d && fD w ≠ 0, a && fA w ≠ 0, b && fB w ≠ 0]

/-- At an ordering point a deferred error is taken and the instruction does not execute (R295). -/
def orderingPoint (t : State) (u : Nat) (k : URes) : URes :=
  if (deferredOf t u).isEmpty then k else .stay (raiseDeferred t u)

/-- SYS NOP (R316). -/
def execSysNop (u : Nat) (s : State) : Out :=
  .next (isaRow u .nop s fun t pc w => encoding t [] (sysZero w true true true) (.next t (nextPc pc w)))

/-- HALT (R316): the program ends in IDLE and its starting command completes with s1 and s2. Its stores complete first (R274). -/
def execHalt (u : Nat) (s : State) : Out :=
  .next (isaRow u .halt s fun t pc w =>
    encoding t [] (sysZero w true true true)
      (let t0 := drainUsher t u
       orderingPoint t0 u
        (let x := usher t0 u
         let t1 := setField (modUsher t0 u fun y => { y with st := .idle, cmd := none }) .ushCtrl 0 1 0 u
         .next (match x.cmd with | some id => finish t1 id 0 (getS t0 u 1) (getS t0 u 2) | none => t1) (nextPc pc w))))

/-- The value of a control register (R286). The owning wing of an Usher whose group no wing owns is a free value (log entry
18). -/
def csrValue (t : State) (u n : Nat) : Nat :=
  let x := usher t u
  match n with
  | 0 => u % 256 + u / 16 * 256 + (match usherWing t u with | some w => w | none => (freeNow t).toNat % 16) * 2 ^ 12
  | 1 => t.now
  | 2 => fieldR t .pceMon 0 16 (2 * (u / 16) + 1)
  | 3 => getR t .ushContext u
  | 4 => x.xvec.toNat
  | 5 => x.xpc.toNat
  | 6 => x.xcause.toNat
  | 7 => x.xaddr.toNat
  | 8 => x.fpflags
  | 9 => x.scratch.toNat
  | 10 => x.tokens.length
  | _ => fieldR t .devLevels 0 8

/-- CSRR (R286). -/
def execCsrr (u : Nat) (s : State) : Out :=
  .next (isaRow u .csrr s fun t pc w =>
    encoding t [decide (12 ≤ fB w)] (sysZero w false true false)
      (.next (putS (if fB w = 0 && (usherWing t u).isNone then drawFree t else t) u (fD w) (csrValue t u (fB w))) (nextPc pc w)))

/-- The effect of CSRW on an RW control register (R286). FPFLAGS holds its five flags. -/
def csrWrite (t : State) (u n v : Nat) : State :=
  modUsher t u fun y =>
    match n with
    | 4 => { y with xvec := BitVec.ofNat 64 v }
    | 5 => { y with xpc := BitVec.ofNat 64 v }
    | 8 => { y with fpflags := v % 32 }
    | _ => { y with scratch := BitVec.ofNat 64 v }

/-- CSRW (R286). -/
def execCsrw (u : Nat) (s : State) : Out :=
  .next (isaRow u .csrw s fun t pc w =>
    let n := fB w
    let v := getS t u (fA w)
    encoding t [decide (12 ≤ n)] (sysZero w true false false)
      (guardU t [(!([4, 5, 8, 9].contains n), faultField), (n = 4 && v % 4 ≠ 0, faultAlign v)]
        (.next (csrWrite t u n v) (nextPc pc w))))

/-- FENCE (R292, R295). The model runs loads in order, so that a fence has only the Usher's stores to wait for. -/
def execFence (u : Nat) (s : State) : Out :=
  .next (isaRow u .fence s fun t pc w =>
    encoding t [decide (3 ≤ fD w)] (sysZero w false true true)
      (let t0 := if fD w = 2 then t else drainUsher t u
       orderingPoint t0 u (.next t0 (nextPc pc w))))

/-- XRET (R316, R320). -/
def execXret (u : Nat) (s : State) : Out :=
  .next (isaRow u .xret s fun t _ w =>
    let x := usher t u
    encoding t [] (sysZero w true true true)
      (orderingPoint t u
        (guardU t [(!x.inHandler, illegalOp), (x.xpc.toNat % 4 ≠ 0, faultAlign x.xpc.toNat)]
          (.next (modUsher t u fun y => { y with inHandler := false }) x.xpc.toNat))))

/-- TRAP (R316). -/
def execTrap (u : Nat) (s : State) : Out :=
  .next (isaRow u .trap s fun t _ w =>
    encoding t [] (sysZero w true false true) (.fault t ⟨9, 0, some (getS t u (fA w))⟩))

/-- IFLUSH (R290). -/
def execIflush (u : Nat) (s : State) : Out :=
  .next (isaRow u .iflush s fun t pc w =>
    encoding t [] (sysZero w true true true) (.next (modUsher t u fun y => { y with icache := [] }) (nextPc pc w)))

/-! ### Issue (R317, R324 to R327, R333) -/

/-- A queue selector's class, instance and queue (R324). -/
def selClass (x : Nat) : Nat := x % 16
def selInst (x : Nat) : Nat := bits x 8 8
def selQueue (x : Nat) : Nat := bits x 16 2

/-- A selector is malformed, or names the microcode's queue (R324, R325). -/
def selBad (x : Nat) : Bool :=
  decide (5 ≤ selClass x) || bits x 4 4 ≠ 0 || decide (unitInstances (selClass x) ≤ selInst x) || selQueue x = 3 || x / 2 ^ 18 ≠ 0

/-- The lowest slot that no outstanding token holds (R333). -/
def freeTokenSlot (ts : List Token) : Nat := ((List.range 64).find? fun i => !ts.any fun t => t.value % 64 == i).getD 0

/-- The value of the next token (R333): the issue count takes in this issue. -/
def nextToken (x : Usher) : Nat := freeTokenSlot x.tokens + 64 + (x.issues + 1) % 2 ^ 57 * 128

/-- A unit's queue takes an Usher's descriptor now: it has room, and no other Usher waits before this one (R327). -/
def queueTakes (s : State) (u cls inst q : Nat) (bs : List Byte) : Bool :=
  hasRoom s cls inst q bs && (((unitOf s cls inst).waiters.find? fun w => w.2 == q).all fun w => w.1 == u)

/-- Hand a descriptor over and note its token (R326, R332, R333). -/
def handOver (s : State) (u cls inst q : Nat) (bs : List Byte) (d : Nat) : State :=
  let x := usher s u
  let tok := nextToken x
  let desc : Desc := ⟨s.nextDesc, q, .usher u tok, usherTenant s u, (usherWing s u).getD 0, bs, none⟩
  let s1 := dropWaiter s u
  let s2 := modUsher s1 u fun y => { y with tokens := y.tokens ++ [⟨tok, s.nextDesc, none⟩], issues := y.issues + 1, until_ := none }
  putS (pushDesc s2 cls inst desc) u d tok

/-- An Usher waits for room in a queue (R327). -/
def joinWaiters (s : State) (u cls inst q : Nat) : State :=
  modUnit s cls inst fun x => if x.waiters.contains (u, q) then x else { x with waiters := x.waiters ++ [(u, q)] }

/-- ISSUE and ISSUENB (R293, R316, R317, R326, R327). -/
def issueBody (u : Nat) (blocking : Bool) (t : State) (pc w : Nat) : URes :=
  encoding t [] [fPG w ≠ 0]
    (let t0 := drainUsher t u
     orderingPoint t0 u
      (let a := getS t0 u (fA w)
       let sel := getS t0 u (fB w)
       let cls := selClass sel
       let inst := selInst sel
       let q := selQueue sel
       guardU t0
        [(a % 64 ≠ 0, faultAlign a), (selBad sel || decide (64 ≤ (usher t0 u).tokens.length), faultField),
          (!unitPresent t0 cls inst, faultAbsent none),
          ((usherWing t0 u).isNone || groupWing t0 (unitGroup cls inst) ≠ usherWing t0 u, faultWindow none)]
        ((loadBytes t0 u a 64).bind fun t1 first =>
          if descLines cls first = 1 then
            if queueTakes t1 u cls inst q first then .next (handOver t1 u cls inst q first (fD w)) (nextPc pc w)
            else if blocking then .stay (joinWaiters t1 u cls inst q)
            else .next (putS t1 u (fD w) 0) (nextPc pc w)
          else
            (loadBytes t1 u (wrap64 (a + 64)) 64).bind fun t2 second =>
              if queueTakes t2 u cls inst q (first ++ second) then .next (handOver t2 u cls inst q (first ++ second) (fD w)) (nextPc pc w)
              else if blocking then .stay (joinWaiters t2 u cls inst q)
              else .next (putS t2 u (fD w) 0) (nextPc pc w))))

/-- ISSUE (R316, R317): while the queue is full the Usher waits at the instruction. -/
def execIssue (u : Nat) (s : State) : Out := .next (isaRow u .issue s (issueBody u true))

/-- ISSUENB (R316). -/
def execIssuenb (u : Nat) (s : State) : Out := .next (isaRow u .issuenb s (issueBody u false))

/-! ### Completion (R318) -/

/-- The outstanding token of a value. -/
def tokenOf (s : State) (u v : Nat) : Option Token := (usher s u).tokens.find? fun t => t.value == v

/-- Return a token's status and consume it (R318). -/
def consumeToken (s : State) (u v d st : Nat) : State :=
  putS (modUsher s u fun y => { y with tokens := y.tokens.filter fun t => t.value != v, until_ := none }) u d st

/-- All ones: a WAIT whose timeout passed, or a TEST before completion (R318). -/
def allOnes : Nat := 2 ^ 64 - 1

/-- WAIT (R318): it completes with its token, at its timeout, or goes on waiting. -/
def execWait (u : Nat) (s : State) : Out :=
  .next (isaRow u .wait s fun t pc w =>
    encoding t [] [fPG w ≠ 0]
      (orderingPoint t u
        (let v := getS t u (fA w)
         match tokenOf t u v with
         | none => .fault t faultField
         | some k =>
           match k.status with
           | some st => .next (consumeToken t u v (fD w) st) (nextPc pc w)
           | none =>
             let x := usher t u
             let due := if x.st = .waiting then x.until_ else if fB w = 0 then none else some (t.now + getS t u (fB w))
             if due.any fun d => decide (d ≤ t.now) then
               .next (putS (modUsher t u fun y => { y with until_ := none }) u (fD w) allOnes) (nextPc pc w)
             else
               .stay (modUsher t u fun y =>
                 { y with st := .waiting, until_ := due, waitFrom := if y.st = .waiting then y.waitFrom else t.now }))))

/-- WAIT_TIMEOUT (R318): the timeout of a WAIT under way passes before its token completes. -/
def execWaitTimeout (u : Nat) (s : State) : Out :=
  match (usher s u).st, (usher s u).until_ with
  | .waiting, some d =>
    .next (isaRow u .wait { s with now := max s.now d } fun t pc w =>
      match tokenOf t u (getS t u (fA w)) with
      | some ⟨_, _, none⟩ =>
        .next (putS (modUsher t u fun y => { y with until_ := none }) u (fD w) allOnes) (nextPc pc w)
      | _ => .stay s)
  | _, _ => .next s

/-- TEST (R318). -/
def execTest (u : Nat) (s : State) : Out :=
  .next (isaRow u .test s fun t pc w =>
    encoding t [] [fPG w ≠ 0]
      (orderingPoint t u
        (let v := getS t u (fA w)
         match tokenOf t u v with
         | none => .fault t faultField
         | some k =>
           match k.status with
           | some st => .next (consumeToken t u v (fD w) st) (nextPc pc w)
           | none => .next (putS t u (fD w) allOnes) (nextPc pc w))))

/-! ### Control (R321, R322, R369) -/

/-- Start a program context from IDLE with s1 to s4 (R290, R321). -/
def startUsher (s : State) (u : Nat) (cmd : Option Nat) (args : List Nat) : State :=
  let s1 := setField s .ushCtrl 0 1 1 u
  let s2 := modUsher s1 u fun x => { x with st := .running, pc := BitVec.ofNat 64 (getR s .ushEntry u), icache := [], cmd := cmd, until_ := none }
  (List.range 4).foldl (fun t i => putS t u (i + 1) (args.getD i 0)) s2

/-- A write of GO (R321): start from IDLE, resume from STOPPED; a stopped WAIT runs again. -/
def usherGo (s : State) (u : Nat) : State :=
  match (usher s u).st with
  | .idle => startUsher s u none []
  | .stopped => setField (modUsher s u fun x => { x with st := .running }) .ushCtrl 0 1 1 u
  | _ => s

/-- A write of STOP (R321): a running context stops at the boundary at which it stands, a waiting one at its WAIT. -/
def usherStop (s : State) (u : Nat) : State :=
  let x := usher s u
  match x.st with
  | .running => modUsher (dropWaiter s u) u fun y => { y with st := .stopped }
  | .waiting => waitOver x (modUsher s u fun y => { y with st := .stopped, until_ := none }) u
  | _ => s

/-- The lines that an Usher's L1 holds. -/
def usherLines (s : State) (u : Nat) : List Nat :=
  s.mzn.caches.filterMap fun e => if e.1 / 2 ^ 58 = u then e.2.map fun _ => e.1 % 2 ^ 58 else none

/-- Write back every M and O line of an Usher's L1 and evict every E and S line (R322 step 4). -/
def emptyL1 (s : State) (u : Nat) : State := (usherLines s u).foldl (fun t l => settleLine (evictLine t u l) l) s

/-- Reset a program context (R322); `drop` when a function-level reset drops the starting command. -/
def usherReset (s : State) (u : Nat) (drop : Bool) : State :=
  let x := usher s u
  let s1 := emptyL1 (dropWaiter s u) u
  let s2 := modMzn s1 fun m => { m with deferred := m.deferred.filter fun e => e.1 != u }
  let s3 := waitOver x (modUsher s2 u fun _ => resetUsher) u
  let s4 := setR s3 .ushCtrl 0 u
  match x.cmd with
  | some id => if drop then s4 else finish s4 id stAbortedReset
  | none => s4

/-- USHER_GO (R321). -/
def execUsherGo (u : Nat) (s : State) : Out := .next (if present s .usher u then usherGo s u else s)

/-- USHER_STOP (R321). -/
def execUsherStop (u : Nat) (s : State) : Out := .next (if present s .usher u then usherStop s u else s)

/-- USHER_RESET (R322). -/
def execUsherReset (u : Nat) (s : State) : Out := .next (if present s .usher u then usherReset s u false else s)

end Sys2Proof.Machine
end

