-- ==== Sys2Proof/Machine/Vestibule.lean ====
section
/-! DEFINITION. The Vestibule: doorbells, entry fetches, completions, the commands that carry work to a unit, resets of
functions, the link, and BAR2 (R352 to R383). -/

namespace Sys2Proof.Machine

/-- DEV_BOOT.READY (R504, R512). -/
def deviceReady (s : State) : Bool := bit (getR s .devBoot) 8

/-- Requests of the host reach the device (R505, R513). -/
def hostReaches (s : State) : Bool := s.vst.linkUp && deviceReady s

/-- The function exists (R353): the PF, or a VF that SR-IOV has enabled. -/
def fnExists (s : State) (f : Nat) : Bool := decide (f ≤ s.vst.numVfs)

/-- The offset at which a function finds a register of its own block: a VF's block lies 0x0010_0000 lower (R355). -/
def fnOff (f : Nat) (r : Reg) (i : Nat) : Nat := if f = 0 then regOff r i 0 else regOff r i 0 - 0x100000

/-! ### Queues -/

/-- The host writes to its own memory; a line that the device caches is invalidated first, by SnpInv (R250, R251). -/
def hostStore (s : State) (a : Nat) (bs : List Byte) : State :=
  let ls := (linesOf a bs.length).map fun l => 2 ^ 57 + l
  hostPut (ls.foldl (fun t l => if (lineRec t l).holders.isEmpty then t else settleLine (hostSnoop t .snpInv l) l) s) a bs

/-- SQ_DOORBELL (R359, R360): the host has written the entries, and writes the queue's tail. -/
def execSqDoorbell (f q value : Nat) (writes : List HostWrite) (s : State) : Out :=
  .next (
    let s1 := writes.foldl (fun t w => hostStore t w.addr w.bytes) s
    let v := value % 2 ^ 32
    let off := fnOff f .vstSqTail q
    if !hostReaches s || !fnExists s f || decide (64 ≤ q) then s1
    else if 2 ^ 16 ≤ v then discardWrite s1 (.fn f) off v stReservedSet
    else if !bit (getR s1 .vstSqCfg q 0 f) 31 || decide (2 ^ fieldR s1 .vstSqCfg 0 5 q 0 f ≤ v) then
      discardWrite s1 (.fn f) off v stBadField
    else setR s1 .vstSqTail v q 0 f)

/-- A head doorbell is accepted: the head moves, the queue is armed again, and held records are written (R374, R375). -/
def consume (s : State) (f e v : Nat) : State :=
  let s1 := setField (setR s .vstEqHead v e 0 f) .vstEqTail 17 1 1 e 0 f
  releaseHeld s1 f e (heldOf s1 f e).length

/-- EQ_DOORBELL (R360, R374, R375). -/
def execEqDoorbell (f e value : Nat) (s : State) : Out :=
  .next (
    let v := value % 2 ^ 32
    let off := fnOff f .vstEqHead e
    let n := eqSize s f e
    let head := fieldR s .vstEqHead 0 16 e 0 f
    let tail := fieldR s .vstEqTail 0 16 e 0 f
    if !hostReaches s || !fnExists s f || decide (16 ≤ e) then s
    else if 2 ^ 16 ≤ v then discardWrite s (.fn f) off v stReservedSet
    else if !eqEnabled s f e || decide (n ≤ v) || decide ((tail + n - head) % n < (v + n - head) % n) then
      discardWrite s (.fn f) off v stBadField
    else consume s f e v)

/-- Commands of a queue that are fetched and not completed: VST_SQ_STATUS.INFLIGHT (R376). -/
def inflightOf (s : State) (f q : Nat) : Nat := (s.vst.inflight.filter fun c => decide (c.fn = f) && decide (c.sq = q)).length

/-- A queue runs while it is enabled or has commands in flight (R377). -/
def sqRunning (s : State) (f q : Nat) : Bool := bit (getR s .vstSqCfg q 0 f) 31 || decide (inflightOf s f q ≠ 0)

/-- A disabled queue whose last command has completed takes its staged write (R48). -/
def landIdle (s : State) (f q : Nat) : State := if sqRunning s f q then s else landR s .vstSqCfg q 0 f

/-! ### Entry fetch (R361 to R364, R395, R401, R403) -/

/-- The settings of a queue at its next fetch: a staged write takes effect first (R47). -/
def nextCfg (s : State) (f q : Nat) : Nat := (stagedR s .vstSqCfg q 0 f).getD (getR s .vstSqCfg q 0 f)

/-- The address of a queue's next entry. -/
def entryAddr (s : State) (f q : Nat) : Nat := getR s .vstSqBase q 0 f + 64 * getR s .vstSqHead q 0 f

/-- The tenant for whom the next entry of a queue runs (R363, R364). -/
def entryTenant (s : State) (f q : Nat) : Nat := if f = 0 then (hostByte s (entryAddr s f q + 2)).toNat else f - 1

/-- The tenant's wing awaits recovery: its entries wait in their queues (R395). -/
def tenantRecovering (s : State) (t : Nat) : Bool := decide (t < 128) && (journal s (wingOf s t)).recovering

/-- The device may fetch from the queue now (R361, R362, R374). -/
def fetchable (s : State) (f q : Nat) : Bool :=
  let e := bits (nextCfg s f q) 8 4
  bit (getR s .vstSqCfg q 0 f) 31 && !bit (getR s .vstSqStatus q 0 f) 1 &&
    decide (getR s .vstSqHead q 0 f ≠ getR s .vstSqTail q 0 f) && !eqFull s f e && (heldOf s f e).isEmpty &&
    !tenantRecovering s (entryTenant s f q)

/-- The queue that gives the next entry: the one whose turn it is while it has given fewer than WEIGHT entries, or the next
in round-robin order (R361). -/
def nextQueueOf (s : State) (f : Nat) : Option Nat :=
  let t := tget (fun _ => 63) s.vst.turn f
  let given := tget (fun _ => 0) s.vst.given f
  if fetchable s f t && decide (given ≠ 0) && decide (given < bits (nextCfg s f t) 16 8) then some t
  else ((List.range 64).map fun i => (t + 1 + i) % 64).find? fun q => fetchable s f q

/-- The queue faults (R362). -/
def queueFault (s : State) (f q status : Nat) : State :=
  postEvent (setField s .vstSqStatus 1 1 1 q 0 f) f 9 status q (getR s .vstSqHead q 0 f) 0 0

/-- The host-level opcodes (R366). -/
def hostOpcodes : List Nat :=
  [0x00, 0x01, 0x02, 0x03, 0x04, 0x05, 0x06, 0x07, 0x08, 0x10, 0x11, 0x12, 0x13, 0x20, 0x21, 0x22, 0x23, 0x24, 0x25, 0x26, 0x27, 0x28,
   0x30, 0x40, 0x41, 0x42, 0x43, 0x44, 0x60, 0x61, 0x62, 0x63, 0x64, 0x65, 0x66, 0x67, 0x68]

/-- The command that an entry spells (R363, R364). -/
def newCmd (s : State) (f q : Nat) (bs : List Byte) : Cmd :=
  { id := s.vst.nextId, fn := f, sq := q, eq := fieldR s .vstSqCfg 8 4 q 0 f, tenant := if f = 0 then numAt bs 2 1 else f - 1
    entry := bs, started := false, delayed := false, buf := [], done := none }

/-- An entry has been read: the head passes it and its command is in flight. A reserved opcode ends it at once (R361, R365,
R366, R402). -/
def takeEntry (s : State) (f q : Nat) (bs : List Byte) : State :=
  let c := newCmd s f q bs
  let n := 2 ^ fieldR s .vstSqCfg 0 5 q 0 f
  let s1 := setR s .vstSqHead ((getR s .vstSqHead q 0 f + 1) % n) q 0 f
  let s2 := { s1 with vst := { s1.vst with inflight := s1.vst.inflight ++ [c], nextId := c.id + 1 } }
  let s3 := modPower s2 fun p => if p.moving.any fun m => decide (p.current < m.2.1) then { p with during := p.during + 1 } else p
  if hostOpcodes.contains (numAt bs 0 1) then s3 else finish s3 c.id stBadOpcode

/-- Fetch from a queue. -/
def fetchFrom (s : State) (f q : Nat) : State :=
  let s1 := landR s .vstSqCfg q 0 f
  let turn := tget (fun _ => 63) s.vst.turn f
  let given := tget (fun _ => 0) s.vst.given f
  let s2 := { s1 with vst := { s1.vst with turn := tset (fun _ => 63) s1.vst.turn f q
                                           given := tset (fun _ => 0) s1.vst.given f (if turn = q then given + 1 else 1) } }
  let a := entryAddr s2 f q
  if !hostReadable s2 a 64 then queueFault s2 f q stNoTranslation
  else if hostPoisoned s2 a 64 then queueFault s2 f q stEcc
  else takeEntry s2 f q (hostRead s2 a 64)

/-- Fetching is allowed for the function (R401, R403). -/
def mayFetch (s : State) (f : Nat) : Bool :=
  hostReaches s && fnExists s f && !s.store.power.paused && (decide (s.store.power.current < 2) || decide (f = 0))

/-- ENTRY_FETCH (R361): a function's turn to give an entry. -/
def execEntryFetch (f : Nat) (s : State) : Out :=
  .next (if mayFetch s f then (match nextQueueOf s f with | none => s | some q => fetchFrom s f q) else s)

/-- HOST_READ_COMPLETION (R354, R362): a completion for a device read of host memory. A poisoned one fails the command that
reads, or faults the queue whose entry it carries. -/
def execHostReadCompletion (what : ReadFor) (poisoned : Bool) (s : State) : Out :=
  .next (
    if !poisoned then s
    else
      match what with
      | .command id => (match findCmd s id with | none => s | some c => if mayStart s c then finish s id stEcc else s)
      | .fetch f q => if mayFetch s f && fetchable s f q then queueFault (landR s .vstSqCfg q 0 f) f q stEcc else s)

/-! ### Completion (R21, R370, R373, R379) -/

/-- The record of a command that has ended. -/
def completionRecord (c : Cmd) (d : Done) : EventRec := ⟨1, c.sq, d.status, c.tag, d.a, d.b, d.c, d.d, d.pace⟩

/-- A command completes: counters, its record, and the queue's Landing when it was the last (R48, R379). -/
def complete (s : State) (c : Cmd) (d : Done) : State :=
  let s1 := { s with vst := { s.vst with inflight := s.vst.inflight.filter fun x => x.id != c.id } }
  let s2 := addR s1 .vstFnCommands 1 0 0 c.fn
  let s3 := if statusClass d.status = 1 then addR s2 .vstFnRefused 1 0 0 c.fn else s2
  landIdle (postRecord s3 c.fn c.eq (completionRecord c d)) c.fn c.sq

/-- COMMAND_COMPLETION (R21, R373). -/
def execCommandCompletion (id : Nat) (s : State) : Out :=
  .next (match findCmd s id with
    | none => s
    | some c => match c.done with | none => s | some d => complete s c d)

/-! ### Commands of this chapter -/

/-- NOP (R366). -/
def execNop (id : Nat) (s : State) : Out :=
  .next (withCmd s id 0x00 fun c s1 => orElse s1 c (entryFail s1 c .anyone {}) (finish s1 c.id stOk))

/-- The first check that RUN fails, if one does (R369, R546). -/
def runFail (c : Cmd) (s : State) : Option Nat :=
  let u := c.num 16 2
  let entry := c.num 24 8
  let fail := entryFail s c .tenant
    { named := [(16, 2), (24, 40)]
      absent := [(!present s .usher u, stUnitAbsent)]
      busy := [(decide ((usher s u).st ≠ .idle), stUnitBusy)]
      align := [(entry % 4 ≠ 0, stBadAlign)]
      window := [(usherWing s u ≠ some (cmdWing s c), stWindow)] }
  fail

/-- RUN's checks and effect (R369, R546). -/
def runBody (c : Cmd) (s : State) : State :=
  let u := c.num 16 2
  let entry := c.num 24 8
  let pasid := getR s .vstSqPasid c.sq 0 c.fn
  let s1 := if entry = 0 then s else setR s .ushEntry entry u
  let s2 := setR s1 .ushContext (c.tenant + bits pasid 0 20 * 2 ^ 8 + bits pasid 31 1 * 2 ^ 31) u
  orElse s c (runFail c s) (startUsher s2 u (some c.id) ((List.range 4).map fun i => c.num (32 + 8 * i) 8))

/-- RUN (R369). -/
def execRun (id : Nat) (s : State) : Out := .next (withCmd s id 0x40 runBody)

/-- The descriptor that a command carries: the unit's opcode and the body of the entry, its unit byte cleared (R366). -/
def carried (s : State) (c : Cmd) (op unitByte : Nat) : Desc :=
  { id := s.nextDesc, queue := 3, issuer := .command c.id, tenant := c.tenant, wing := cmdWing s c
    bytes := bytesOf 1 op ++ bytesOf 15 0 ++ ((c.entry.drop 16).take 48).set (unitByte - 16) 0, result := none }

/-- The header checks of a command that carries a descriptor, the unit's absence first. -/
def carryFail (s : State) (c : Cmd) (absent : Bool) : Option Nat :=
  entryFail s c .tenant { named := [(16, 48)], absent := [(absent, stUnitAbsent)] }

/-- A core of another wing: what the descriptor's own checks of R331 up to step 6 refuse, or WINDOW_VIOLATION (R457). -/
def foreignCore (own : Option Nat) : Nat :=
  match own with
  | some st => if statusClass st = 1 ∧ st ≠ stNoTranslation then st else stWindow
  | none => stWindow

/-- Give a command's descriptor to its unit, if it has room (R327, R366). -/
def carry (s : State) (c : Cmd) (cls inst : Nat) (d : Desc) (fail : Option Nat) : State := orElse s c fail (pushDesc s cls inst d)

/-- LNT_LOAD's checks; the load goes to queue 3 of its core (R221, R366). -/
def lntLoadBody (c : Cmd) (s : State) : State :=
  let core := c.num 17 1
  let d := carried s c 0x30 17
  let own := decide (groupWing s core = some (cmdWing s c))
  carry s c 2 core d ((carryFail s c (!present s .lantern core)).or (if own then none else some (foreignCore (loadFail s core d))))

/-- LNT_LOAD (R366): carries an LNT_LOAD to a core of the tenant's wing. -/
def execLntLoad (id : Nat) (s : State) : Out :=
  .next (match findCmd s id with
    | none => s
    | some c => if present s .lantern (c.num 17 1) && !hasRoom s 2 (c.num 17 1) 3 c.entry then s else withCmd s id 0x41 lntLoadBody)

/-- LNT_INJECT's checks; the injection goes to queue 3 of its core (R219, R366). -/
def lntInjectBody (c : Cmd) (s : State) : State :=
  let core := c.num 18 1
  let own := decide (groupWing s core = some (cmdWing s c))
  let n := c.num 16 2
  let foreign := firstFail
    [(unnamedSet c.entry [(0, 19), (24, 8)], stReservedSet), (n = 0 || decide (512 < n), stBadField), (misaligned (c.num 24 8), stBadAlign)]
  carry s c 2 core (carried s c 0x31 18)
    ((carryFail s c (!present s .lantern core)).or (if own then none else some (foreignCore foreign)))

/-- LNT_INJECT (R366): carries an LNT_INJECT to a core of the tenant's wing. -/
def execLntInject (id : Nat) (s : State) : Out :=
  .next (match findCmd s id with
    | none => s
    | some c => if present s .lantern (c.num 18 1) && !hasRoom s 2 (c.num 18 1) 3 c.entry then s else withCmd s id 0x42 lntInjectBody)

/-- The DMA engine that the device chooses: the lowest of the tenant's wing (R366). -/
def dmaEngine (s : State) (w : Nat) : Option Nat := (List.range 16).find? fun g => present s .group g && ownsGroup s w g

/-- A DMA command of a tenant: its descriptor goes to queue 3 of the chosen engine. -/
def dmaCommand (s : State) (id op descOp : Nat) : State :=
  match findCmd s id with
  | none => s
  | some c =>
    match dmaEngine s (cmdWing s c) with
    | none => withCmd s id op fun c s1 => orElse s1 c ((carryFail s1 c false).or (some stWindow)) s1
    | some g =>
      if !hasRoom s 4 g 3 c.entry then s
      else withCmd s id op fun c s1 => carry s1 c 4 g { carried s1 c descOp 16 with bytes := bytesOf 1 descOp ++ bytesOf 15 0 ++ c.entry.drop 16 }
        (carryFail s1 c false)

/-- COPY (R366). -/
def execCopy (id : Nat) (s : State) : Out := .next (dmaCommand s id 0x43 0x50)

/-- FILL (R366). -/
def execFill (id : Nat) (s : State) : Out := .next (dmaCommand s id 0x44 0x51)

/-! ### Function-level reset (R381, R382) -/

/-- Searches rooted here for dropped commands are abandoned; their own flights end with no record (R80, R381). -/
def dropSearches (s : State) (ids : List Nat) : State :=
  let gone := s.store.newel.filter fun q => q.isRoot && ids.contains q.cmd
  let s1 := gone.foldl (fun t q => match q.ctx with | some x => dropFlight t x | none => t) s
  { s1 with store := { s1.store with newel := s1.store.newel.filter fun q => !(q.isRoot && ids.contains q.cmd)
                                     abandoned := s1.store.abandoned ++ gone.map fun q => q.queryId } }

/-- A descriptor that a reset of the function removes: one whose issuing tenant is the function's, unless another function's
command carries it, and one that a dropped command carries (R351). -/
def dropsDesc (ids : List Nat) (tenant : Option Nat) (d : Desc) : Bool :=
  match d.issuer with
  | .command id => ids.contains id
  | _ => tenant == some d.tenant

/-- Descriptors of the function are removed with no notify word; flights of its BOARDs end with no record (R351). -/
def dropDescs (s : State) (ids : List Nat) (tenant : Option Nat) : State :=
  let gone := (s.units.map fun e => ((e.2.queued ++ e.2.accepted).filter (dropsDesc ids tenant)).map Desc.id).flatten
  let keep := fun (d : Desc) => !dropsDesc ids tenant d
  let s1 := { s with
    units := s.units.filterMap fun e =>
      let x := { e.2 with queued := e.2.queued.filter keep, accepted := e.2.accepted.filter keep }
      if x = idleUnit then none else some (e.1, x) }
  let s2 := (s.store.queries.filter fun q => match q.source with | .board d => gone.contains d | _ => false).foldl
    (fun t q => dropFlight t q.ctx) s1
  (List.range 16).foldl (fun t c =>
    if (lcore t c).loads.any fun l => gone.contains l.desc then
      modCore t c fun x => { x with loads := x.loads.filter fun l => !gone.contains l.desc }
    else t) s2

/-- Program contexts bound to the function's tenant are reset (R322, R381). -/
def dropContexts (s : State) (ids : List Nat) (t : Nat) : State :=
  (List.range 256).foldl (fun a u =>
    if present a .usher u && decide (usherTenant a u = t) && decide (usher a u ≠ resetUsher) then
      usherReset a u ((usher a u).cmd.all fun id => ids.contains id)
    else a) s

/-- A collection without the store commands that were dropped before their epoch advance (R69, R382). -/
def dropWriters (ids : List Nat) (x : Coll) : Coll :=
  let cmds := x.rebaseCmds.filter fun i => !ids.contains i
  let front := x.writers.head?.any fun i => ids.contains i
  { x with
    rebaseCmds := cmds
    writers := x.writers.filterMap fun i =>
      if ids.contains i then (if x.rebaseCmds.contains i ∧ x.rebase = .idle then cmds.head? else none) else some i
    chosen := if front then [] else x.chosen }

/-- A compaction's current pass holds its credits and goes on; it starts no other (R551). -/
def passRuns (s : State) (k : Compaction) : Bool :=
  k.planned && (!hasUndercroft s || s.store.journals.any fun e => e.2.granted.any fun g => g.1 == k.cmd)

/-- Store commands, compactions, flushes and extent changes of dropped commands go (R382, R551). -/
def dropStores (s : State) (dropped : List Nat) : State :=
  let running := (s.store.compactions.filter fun k => dropped.contains k.cmd && passRuns s k).map Compaction.cmd
  let ids := dropped.filter fun i => !running.contains i
  let st := s.store
  let s1 := { s with store := { st with
    colls := st.colls.map fun e => (e.1, e.2.map (dropWriters ids))
    compactions := (st.compactions.filter fun k => !ids.contains k.cmd).map fun k =>
      if running.contains k.cmd then { k with stopping := true } else k
    journals := st.journals.map fun e =>
      (e.1, { e.2 with waiters := e.2.waiters.filter fun w => !ids.contains w.1, granted := e.2.granted.filter fun g => !ids.contains g.1
                       flushes := e.2.flushes.filter fun f => !ids.contains f.cmd }) } }
  (List.range 16).foldl (fun t h =>
    if (stair t h).changes.isEmpty then t
    else modStair t h fun x =>
      { x with changes := x.changes.filter fun c =>
          match c with | .add i _ _ => !ids.contains i | .remove i _ _ => !ids.contains i | .destroy _ => true }) s1

/-- A power move whose command is dropped: an entry is abandoned, and no reply is written. -/
def dropPower (s : State) (ids : List Nat) : State :=
  modPower s fun p =>
    match p.moving with
    | some (id, target, _, _) => if ids.contains id ∧ p.current < target then { p with moving := none, paused := false } else p
    | none => p

/-- The work of dropped commands in maps: a commit that waits for its time goes on without them (R381, R441). -/
def dropMaps (s : State) (ids : List Nat) : State :=
  { s with maps := s.maps.map fun e => (e.1, if e.2.cmd.any fun i => ids.contains i then { e.2 with cmd := none } else e.2) }

/-- A key of the register table that belongs to a function's own block: queues, function registers, MSI-X (R355, R381). -/
def ownKey (f k : Nat) : Bool :=
  decide (k / 2 ^ 32 = f) && (decide (f ≠ 0) || (decide (0x100000 ≤ k) && decide (k < 0x139000)))

/-- Queue, function and MSI-X registers return to reset; records held for the function are discarded, and its snapshot latches
hold 0 (R14, R381 step 6). -/
def resetFunction (s : State) (f : Nat) : State :=
  { s with
    regs := tclear (ownKey f) s.regs, staged := tclear (ownKey f) s.staged
    latch := tclear (fun k => decide (k / 2 ^ 32 = f)) s.latch
    vst := { s.vst with held := tclear (fun k => decide (k / 16 = f)) s.vst.held, turn := terase s.vst.turn f, given := terase s.vst.given f
                        inflight := s.vst.inflight.filter fun c => c.fn != f } }

/-- One function is reset: its commands are dropped, then its registers clear (R381 steps 2 to 6). -/
def dropFunction (s : State) (f : Nat) : State :=
  let ids := (s.vst.inflight.filter fun c => decide (c.fn = f)).map Cmd.id
  let tenant := if f = 0 then none else some (f - 1)
  let s1 := dropDescs (dropSearches s ids) ids tenant
  let s2 := match tenant with | none => s1 | some t => dropContexts s1 ids t
  resetFunction (dropMaps (dropPower (dropStores s2 ids) ids) ids) f

/-- Every function is reset, and SR-IOV is disabled (R381, R383). -/
def dropAll (s : State) : State :=
  let s1 := (List.range (s.vst.numVfs + 1)).reverse.foldl dropFunction s
  { s1 with vst := { s1.vst with numVfs := 0 } }

/-- FLR (R381, R382). -/
def execFlr (f : Nat) (s : State) : Out :=
  .next (if hostReaches s && fnExists s f then afterRate (addR (if f = 0 then dropAll s else dropFunction s f) .vstFlrs 1) else s)

/-! ### The link (R383, R505) -/

/-- The link goes down (R383): the Porter logs the link as it was. -/
def linkLost (s : State) : State :=
  if s.vst.linkUp then
    let s1 := addR (porterEvt (dropAll s) 0x30 [getR s .vstLink]) .vstLinkDowns 1
    setR { s1 with vst := { s1.vst with linkUp := false } } .vstLink 0
  else s

/-- LINK_DOWN (R383). -/
def execLinkDown (s : State) : Out := .next (if s.vst.linkUp then afterRate (linkLost s) else s)

/-- LINK_TRAINED (R352, R380, R505): the rate (4 to 6) and width at which the link trained; x16 and x8 are supported, and
64.0 GT/s in FLIT mode only. -/
def execLinkTrained (rate width : Nat) (flit cxl : Bool) (s : State) : Out :=
  .next (
    if !s.vst.linkUp && s.oam.powerGood && !s.oam.perst && (width = 16 || width = 8) && decide (4 ≤ rate) && decide (rate ≤ 6) &&
        (flit || rate ≠ 6) then
      let s1 := { s with vst := { s.vst with linkUp := true } }
      setR s1 .vstLink (rate + width * 2 ^ 4 + b2n flit * 2 ^ 16 + b2n cxl * 2 ^ 17)
    else s)

/-- VF_ENABLE (R353): the PF's configuration write of the number of VFs; VFs that go are reset. -/
def execVfEnable (n : Nat) (s : State) : Out :=
  .next (
    if hostReaches s && decide (n ≤ tenantCount s) then
      let gone := (List.range (s.vst.numVfs + 1)).filter fun f => decide (n < f)
      let s1 := gone.reverse.foldl dropFunction s
      afterRate { s1 with vst := { s1.vst with numVfs := n } }
    else s)

/-! ### BAR2 (R253, R357, R358) -/

/-- The state after one chunk of a TLP: the bytes of one line, from byte `lo` on. -/
def bar2Chunk (s : State) (l lo : Nat) (bs : List Byte) : State :=
  if hostBias s l then
    let (s1, old, st) := if bs.length = 64 then (s, bs, 0) else readMem s (plainReq .wrMerge .host l none MemErr.none s.now) 4
    if st = 0 then (writeMem s1 none l (overlay old lo bs)).1 else s1
  else if bs.length = 64 then (writeFull s none l bs).1
  else wcbWrite s l (spanMask lo bs.length) (bytesOf lo 0 ++ bs ++ bytesOf (64 - lo - bs.length) 0) .host

/-- The chunks of a TLP in ascending order, and whether one was discarded. -/
def bar2Chunks (a : Nat) (bs : List Byte) (s : State) : State × Bool :=
  (linesOf a bs.length).foldl (fun (t : State × Bool) l =>
    let p := linePart a bs.length l
    if bar2Reaches t.1 (l * 64) then (bar2Chunk t.1 l p.1 ((bs.drop (l * 64 + p.1 - a)).take p.2), t.2) else (t.1, true)) (s, false)

/-- BAR2_WRITE (R354, R357, R358): one TLP of at most 512 bytes. A poisoned one is discarded and reported through AER. -/
def execBar2Write (addr : Nat) (data : List Byte) (poisoned : Bool) (s : State) : Out :=
  .next (
    if !hostReaches s || decide (2 ^ 40 ≤ addr) then s
    else if poisoned then { s with vst := { s.vst with aer := s.vst.aer + 1 } }
    else
      let r := bar2Chunks addr (data.take 512) s
      if r.2 then addR r.1 .vstBar2Discards 1 else r.1)

/-- BAR2_READ (R253, R357): the bytes that a host read returns: each line as its home serves it, zeros outside the halls. -/
def execBar2Read (addr n : Nat) (s : State) : Out :=
  .next (
    if !hostReaches s || decide (2 ^ 40 ≤ addr) then s
    else
      let r := (linesOf addr (min n 4096)).foldl (fun (t : State × List Byte × Nat) l =>
        if bar2Reaches t.1 (l * 64) then
          let (s1, d, st) := if hostBias t.1 l then readMem t.1 (plainReq .rdNc .host l none MemErr.none t.1.now) 2 else readNc t.1 none l
          (s1, t.2.1 ++ d, if t.2.2 = 0 then st else t.2.2)
        else (t.1, t.2.1 ++ bytesOf 64 0, t.2.2)) (s, [], 0)
      hostReply r.1 ((r.2.1.drop (addr % 64)).take (min n 4096)) r.2.2)

end Sys2Proof.Machine
end

