-- ==== Sys2Proof/Machine/Bringup.lean ====
section
/-! DEFINITION. Standby power, main rails, bring-up, resets and the module's control pins (R502 to R513, R531 to R541). -/

namespace Sys2Proof.Machine

/-! ### Standby power (R499, R509, R532) -/

/-- A Porter that starts cold: what the NOR and the fuses hold, and nothing else (R476, R499, R509). -/
def coldPorter (p : Porter) : Porter :=
  { resetPorter with
    state := .off, vipol := { p.vipol with onTrial := false }, micro := { p.micro with onTrial := false }, log := p.log, mirror := p.mirror
    pinMarks := p.pinMarks, trust := p.trust, wdtMs := p.wdtMs, thresholds := p.thresholds, tripNote := p.tripNote
    policy := setMode resetPolicy p.policy.vmode p.policy.capW }
where
  /-- The policy with both dies at the target of the stored mode. -/
  setMode (x : Policy) (v cap : Nat) : Policy :=
    { x with vmode := v, capW := cap, capMv := modeTarget v, limitE := modeTarget v, limitW := modeTarget v, voltE := modeTarget v, voltW := modeTarget v }

/-- The Porter registers that a standby power-on keeps (R501). -/
def keptPorterKey (k : Nat) : Bool := !(decide (0x3800000 ≤ k) && decide (k < 0x3801000)) || (decide (0x3800028 ≤ k) && decide (k < 0x3800040))

/-- Standby power goes (R499, R503): the main rails fall, and the Porter with its session vault, its FIFO and the trip latch is
cleared. -/
def standbyGone (s : State) : State :=
  let s1 := mainLoss s 4
  modOam { s1 with porter := coldPorter s1.porter, regs := s1.regs.filter fun e => keptPorterKey e.1, fifo := [], fifoLost := 0 } fun m =>
    { m with standby := false, trip := false, railFailed := false, retryFailed := false }

/-- STANDBY_POWER_ON (R504 step 1, R509, R532): the address pins are read and the boot ROM starts. -/
def execStandbyPowerOn (address : Nat) (s : State) : Out :=
  .next (if s.oam.standby then s
    else
      let s1 := coldReset s (some 1)
      let p := { coldPorter s1.porter with state := .rom, cause := .powerOn, address := 0x40 + address % 8, localBase := 0 }
      modOam { s1 with porter := p, regs := s1.regs.filter fun e => keptPorterKey e.1, fifo := [], fifoLost := 0 } fun m =>
        { m with standby := true, rails := 0, rising := false, powerGood := false, since := 0 })

/-- STANDBY_POWER_LOSS (R499). -/
def execStandbyPowerLoss (s : State) : Out := .next (if s.oam.standby then standbyGone s else s)

/-! ### The main rails (R502, R503, R534, R535) -/

/-- PWR_EN_ASSERT (R503, R541). -/
def execPwrEnAssert (s : State) : Out := .next (raiseRails (modOam s fun m => { m with pwrEn := true }))

/-- PWR_EN_DEASSERT (R502, R503): the rails fall, and a failed rail may be tried anew. -/
def execPwrEnDeassert (s : State) : Out :=
  .next (if s.oam.pwrEn then
      let s1 := mainLoss s 4
      modOam s1 fun m => { m with pwrEn := false, railFailed := false, retryFailed := false, since := porterNow s1 }
    else s)

/-- RAIL_REGULATED (R502): the next rail starts; the core rails rise to the mode's target; the last one asserts power-good, and
the dies stand in reset. -/
def execRailRegulated (s : State) : Out :=
  if !s.oam.rising then .next s
  else
    let n := s.oam.rails + 1
    let s1 := modOam s fun m => { m with rails := n }
    let v := if s.oam.brake then 680 else modeTarget s.porter.policy.vmode
    let s2 := if n = 3 then modPolicy s1 fun p => { p with voltE := v, voltW := v } else s1
    .next (if n < railTotal s then s2
      else modOam (coldReset s2 none) fun m => { m with rising := false, powerGood := true, railFailed := false })

/-- RAIL_FAULT (R503): a rail fails to reach regulation, and every main rail falls; after a failed retry they stay off. -/
def execRailFault (s : State) : Out :=
  .next (if s.oam.rising then
      modOam s fun m => { m with rails := 0, rising := false, railFailed := true, retryFailed := m.railFailed, since := porterNow s }
    else s)

/-- RAIL_RETRY (R503): one retry after 1 s. -/
def execRailRetry (s : State) : Out :=
  .next (if s.oam.railFailed && !s.oam.retryFailed && !s.oam.rising && decide (s.oam.rails = 0) then
      startRails (notBeforeLocal s (s.oam.since + 1000000000))
    else s)

/-- POWER_FAIL (R535): the input has failed. -/
def execPowerFail (s : State) : Out := .next (modOam (mainLoss s 4) fun m => { m with inputOk := false })

/-- INPUT_RESTORED (R534): the input has reached 48.0 V. -/
def execInputRestored (s : State) : Out := .next (raiseRails (modOam s fun m => { m with inputOk := true }))

/-! ### Bring-up (R504 to R508) -/

/-- DEV_BOOT.STAGE (R512). -/
def bootStage (s : State) : Nat := fieldR s .devBoot 0 4

/-- Mark a unit as failed in bring-up (R511). -/
def failUnit (s : State) (k : UnitKind) (i : Nat) : State :=
  let p := presenceBit k i
  { s with failed := tmod (fun _ => 0) s.failed p.1 fun w => BitVec.ofNat 64 (w.toNat ||| 2 ^ p.2) }

/-- Bring-up fails in a stage (R506). -/
def bringupFails (s : State) (stage : Nat) : State := setField (setField (setField s .devBoot 0 4 stage) .devBoot 4 4 stage) .devBoot 9 1 1

/-- The microcode that step 7 loads (R492): the state, and whether a slot was loaded; a trial whose self-test fails gives way to
the other slot. -/
def loadMicrocode (s : State) (passes : Bool) : State × Bool :=
  let fw := s.porter.micro
  let r := bootSlot s 2
  let f := r.1.porter.micro
  let s1 := if r.2 && f.onTrial && decide (fw.tries = 0) then
      porterSticky (porterLog r.1 3 [2, f.running, slotNum r.1 2 f.running 8 4]) 16
    else r.1
  let r1 := if r.2 && f.onTrial && !passes then bootActive (leaveTrial s1 2 2) 2 else (s1, r.2)
  (if r1.1.porter.micro.active = fw.active then r1.1 else setField r1.1 .devBoot 10 1 1, r1.2)

/-- MAIN_BRINGUP (R504 steps 6 and 7, R506): the dies leave reset. -/
def execMainBringup (tests : DieTests) (s : State) : Out :=
  if !mainUp s || !porterRuns s || decide (getR s .devBoot ≠ 0) then .next s
  else if !tests.core then .next (bringupFails s 1)
  else
    let r := loadMicrocode (setR s .devBoot 2) tests.microcode
    if !r.2 then .next (mainLoss (modPorter r.1 fun p => { p with state := .recovery }) 4)
    else
      let s1 := (tests.failedUshers.filter fun u => present r.1 .usher u).foldl (fun t u => failUnit t .usher u) r.1
      let slot := s1.porter.micro.running
      if (List.range 256).any fun u => present s1 .usher u then
        .next (setR (setField s1 .devBoot 0 4 3) .devLevels (slotNum s1 2 slot 12 2))
      else .next (bringupFails s1 2)

/-- Re-apply the pin marks of a hall (R267, R486). -/
def applyMarks (s : State) (h : Nat) : State :=
  (List.range 64).foldl (fun t pc =>
    let pin := tget (fun _ => 0) s.porter.pinMarks (64 * h + pc)
    if pin = 0 then t else setField (setField t .halPcCe 24 6 (pin - 1) h pc) .halPcCe 30 1 1 h pc) s

/-- STACK_TRAINING (R261, R504 step 8): a stack completes its training or fails it; the last one ends the step. -/
def execStackTraining (h : Nat) (trained : Bool) (s : State) : Out :=
  if bootStage s ≠ 3 ∨ !bit (fuseWord s.variant 0) h ∨ 16 ≤ h ∨ s.oam.trained.contains h then .next s
  else
    let s1 := modOam (if trained then applyMarks s h else failUnit s .hall h) fun m => { m with trained := m.trained ++ [h] }
    .next (if (List.range 16).all fun x => !bit (fuseWord s1.variant 0) x || s1.oam.trained.contains x then setField s1 .devBoot 0 4 4 else s1)

/-- A unit that fails its self-test is absent (R504 step 9). -/
def failTested (s : State) : TestedUnit → State
  | .port p => if present s .port p then failUnit s .port p else s
  | .engine e => if present s .engine e then failUnit s .engine e else s
  | .lantern c => if present s .lantern c then failUnit s .lantern c else s
  | .slice i => if present s .slice i then failUnit s .slice i else s

/-- The absent halls that a journal records as holding segments (R508). -/
def lostHalls (s : State) : Nat :=
  ((List.range 16).filter fun h => !present s .hall h && s.store.journals.any fun e =>
    e.2.durableImage.extents.any fun x => x.1 == h && !x.2.isEmpty).foldl (fun a h => a + 2 ^ h) 0

/-- The last configuration record replaces the configuration of R458 (R507). -/
def restoreWings (s : State) : State :=
  match s.wingRecord with
  | some t =>
    if hasUndercroft s && decide (health s < 2) then
      { s with regs := t.foldl (fun r e => tput r e.1 e.2) (s.regs.filter fun e => !wingKey e.1) }
    else s
  | none => s

/-- BRINGUP_READY (R504 step 10, R505, R507, R508, R511): presence is fixed and the device is ready. -/
def execBringupReady (failed : List TestedUnit) (s : State) : Out :=
  if bootStage s ≠ 4 ∨ bit (getR s .devBoot) 8 ∨ !mainUp s then .next s
  else
    let s1 := restoreWings (failed.foldl failTested s)
    let s2 := setField (setField (setField s1 .devBoot 16 16 (lostHalls s1)) .devBoot 8 1 1) .devBoot 0 4 5
    .next (modPorter s2 fun p => { p with upSince := porterNow s2 })

/-! ### Resets (R505, R509, R513) -/

/-- PERST_ASSERT (R509). -/
def execPerstAssert (s : State) : Out :=
  .next (if s.oam.perst then s
    else modOam (if mainUp s then coldReset s (some 2) else s) fun m => { m with perst := true })

/-- PERST_DEASSERT (R505): the link may train. -/
def execPerstDeassert (s : State) : Out := .next (modOam s fun m => { m with perst := false })

/-- COLD_RESET (R509): a cold reset of a cause; a loss of the rails or a trip takes the rails too. -/
def execColdReset (cause : ResetCause) (s : State) : Out :=
  .next (
    if !mainUp s then s
    else match cause with
      | .railsLost => mainLoss s 4
      | .thermalTrip => mainLoss s 5
      | c => coldReset s (some (causeCode c)))

/-! ### Unit reset (R510) -/

/-- Every descriptor queued or running on the unit ends with ABORTED_RESET (R351, R510). -/
def abortDescs (s : State) (cls inst : Nat) : State :=
  modUnit s cls inst fun u =>
    { u with
      queued := []
      run3 := 0
      accepted := (u.accepted ++ u.queued).map fun d => if d.result.isSome then d else { d with result := some (stAbortedReset, 0) } }

/-- Queries with a tread, an entry or a record in the making in a hall. -/
def queriesIn (s : State) (h : Nat) : List Nat :=
  let t := stair s h
  ((t.treads.filter fun e => decide (e.2.state ≠ .free)).map fun e => e.2.ctx) ++ t.landing.map FlightEntry.ctx ++ t.alighted.map Alighted.ctx

/-- A flight is ended by a unit reset: it leaves every hall, and its requester is told. -/
def abortFlight (s : State) (ctx : Nat) : State :=
  match findQuery s ctx with
  | none => s
  | some q => let s1 := dropFlight s ctx; { s1 with store := { s1.store with ended := s1.store.ended ++ [(q, stAbortedReset)] } }

/-- A key of a block of registers. -/
def keyIn (lo n k : Nat) : Bool := decide (lo ≤ k) && decide (k < lo + n)

/-- Registers of a block return to their reset values, and staged writes to it are dropped. -/
def clearBlock (s : State) (lo n : Nat) : State := { s with regs := tclear (keyIn lo n) s.regs, staged := tclear (keyIn lo n) s.staged }

/-- A hall's Stair and Turnstile are cleared (R510): memory, extents and collections stay. -/
def clearStair (s : State) (h : Nat) : State :=
  let s1 := (queriesIn s h).foldl abortFlight s
  let s2 := modStair s1 h fun t => { resetHall.stair with extents := t.extents, changes := t.changes, parking := t.parking }
  clearBlock (clearBlock s2 (regOff .strCtrl h 0) 0x50) (regOff .trnPoolCtrl h 0) 0x20

/-- An engine and its quantiser are cleared (R160, R510). -/
def clearEngine (s : State) (e : Nat) : State :=
  setR (clearBlock { s with engines := terase s.engines e } (regOff .qntCfg e 0) 0x410) .colSrfVer 0 e

/-- A Lantern core is cleared: every table and register is zero (R223, R510). -/
def clearCore (s : State) (c : Nat) : State :=
  let s1 := clearBlock { s with cores := terase s.cores c } (regOff .lntCoreCfg c 0) 0x800
  setR (setR (setR s1 .lntTickNs 0 c) .lntHorizonNs 0 c) .lntWindowNs 0 c

/-- The kind of a unit of a class. -/
def classKind (cls : Nat) : UnitKind :=
  match cls with
  | 0 => .hall
  | 1 => .engine
  | 2 => .lantern
  | _ => .group

/-- A unit is reset and tested (R510). -/
def resetUnit (s : State) (cls inst : Nat) (pass : Bool) : State :=
  let s1 := abortDescs s cls inst
  let s2 := match cls with
    | 0 => clearStair s1 inst
    | 1 => clearEngine s1 inst
    | 2 => clearCore s1 inst
    | _ => s1
  let p := presenceBit (classKind cls) inst
  afterRate (setField (setR s2 .devUnitReset (cls + inst * 2 ^ 8)) .devUnitFaulted p.2 1 (b2n (!pass)) p.1)

/-! ### Control pins (R536, R541) -/

/-- PWRBRK_ASSERT (R536). -/
def execPwrbrkAssert (s : State) : Out :=
  let s1 := modOam s fun m => { m with brake := true }
  .next (if mainUp s then fastVolts s1 else s1)

/-- PWRBRK_RELEASE (R536): the Porter raises the voltages at its samples. -/
def execPwrbrkRelease (s : State) : Out := .next (modOam s fun m => { m with brake := false })

/-- THERMAL_TRIP (R481, R541): the comparator's, on a trip diode, or the Porter's, on a die sensor at or above 110 °C. -/
def execThermalTrip (comparator : Bool) (sensor : Nat) (s : State) : Out :=
  .next (
    if !s.oam.standby then s
    else if comparator then (if sensor = 161 ∨ sensor = 162 then tripNow s true sensor else s)
    else if porterRuns s && decide (sensor < 64) && decide (110000 ≤ lastMilli s sensor) then tripNow s false sensor
    else s)

/-- A trip diode reads below 95 °C (R541). -/
def diodeCool (s : State) (i : Nat) : Bool :=
  match tget (fun _ => none) s.porter.samples i with
  | some (v, _) => decide (v < 95000)
  | none => false

/-- TRIP_RELEASE (R541): PWR_EN has been deasserted for 1 s and both trip diodes read below 95 °C. -/
def execTripRelease (s : State) : Out :=
  .next (if s.oam.trip && !s.oam.pwrEn && diodeCool s 161 && diodeCool s 162 then
      modOam (notBeforeLocal s (s.oam.since + 1000000000)) fun m => { m with trip := false }
    else s)

end Sys2Proof.Machine
end

