-- ==== Sys2Proof/Machine/Invalidate.lean ====
section
/-! DEFINITION. A descriptor whose translation the host invalidates (R332). -/

namespace Sys2Proof.Machine

/-- The state that an outcome goes on with. -/
def stateAfter (s : State) : Out → State
  | .next t => t
  | _ => s

/-- What a descriptor at the head of a unit's queue does when it runs to its end. -/
def wholeRun (s : State) (cls inst id op : Nat) : State :=
  stateAfter s <|
    match cls, op with
    | 1, 0x20 => execMma inst id EngineEcc.none s
    | 1, 0x22 => execTileLoad inst id EngineEcc.none s
    | 1, 0x23 => execTileStore inst id EngineEcc.none s
    | 1, 0x25 => execReduce inst id EngineEcc.none s
    | 1, 0x26 => execSrfLoad inst id EngineEcc.none s
    | 1, 0x28 => execQuant inst id EngineEcc.none s
    | 1, 0x29 => execDequant inst id EngineEcc.none s
    | 2, 0x30 => execLntLoadDesc inst id s
    | 2, 0x31 => execLntInjectDesc inst id s
    | 3, 0x40 => execClsProbe inst id s
    | 3, 0x41 => execClsGet inst id [] s
    | 3, 0x42 => execClsPut inst id s
    | 3, 0x43 => execClsPin inst id s
    | 3, 0x44 => execClsDrop inst id s
    | _, _ => .next s

/-- The lines of host memory that differ between two states, ascending. -/
def changedLines (s t : State) : List Nat :=
  (distinct ((t.host.mem ++ s.host.mem).map fun e => e.1 / 64)).filter fun l => decide (hostRead s (l * 64) 64 ≠ hostRead t (l * 64) 64)

/-- Host memory of one state with whole lines of another. -/
def takeLines (s t : State) (ls : List Nat) : State := ls.foldl (fun u l => hostPut u (l * 64) (hostRead t (l * 64) 64)) s

/-- The descriptor that the unit takes next stops: `lines` of its destination lines are written whole and the others stay (R332).
One that fails a check is refused as ever. -/
def stopDesc (s : State) (cls inst id lines : Nat) (d : Desc) : State :=
  if cls = 4 then
    withDesc s 4 inst id d.op fun d s1 =>
      match (if d.op = 0x50 then copyFail s1 inst d else fillFail s1 inst d) with
      | some st => refuseDesc s1 4 inst id st
      | none => descResult (runDma s1 inst d ((dmaDest d).take lines)) 4 inst id stNoTranslation lines
  else
    let t := wholeRun s cls inst id d.op
    let res := ((unitOf t cls inst).accepted.find? fun x => x.id == id).bind Desc.result
    if res.any fun r => decide (statusClass r.1 = 1) || decide (statusClass r.1 = 7) then t
    else endDesc (takeLines (acceptDesc s cls inst d) t ((changedLines s t).take lines)) cls inst id stNoTranslation 0

/-- TRANSLATION_INVALIDATE (R332): a descriptor that the unit takes stops on its way; a BOARD that is under way is withdrawn and
writes no record. -/
def execTranslationInvalidate (cls inst id lines : Nat) (s : State) : Out :=
  match (unitOf s cls inst).accepted.find? fun d => d.id == id && d.result.isNone with
  | some d =>
    if cls = 0 ∧ d.op = 0x01 then
      match s.store.queries.find? fun q => q.source == .board id with
      | some q => .next (endDesc (dropFlight s q.ctx) cls inst id stNoTranslation 0)
      | none => .next s
    else .next s
  | none =>
    match nextDescOf (unitOf s cls inst) with
    | none => .next s
    | some d => if d.id = id ∧ (classOps cls).contains d.op ∧ cls ≠ 0 then .next (stopDesc s cls inst id lines d) else .next s

end Sys2Proof.Machine
end

