-- ==== Sys2Proof/Machine/Pldm.lean ====
section
/-! DEFINITION. PLDM for platform monitoring and for firmware update (R488, R494, R495). -/

namespace Sys2Proof.Machine

/-- Answer a PLDM request: type * 256 + command, completion code and fields, in the model's form of the response. -/
def pldmReply (s : State) (code result : Nat) (nums : List Nat) : State :=
  modPorter s fun p => { p with reply := some ⟨1, code, result, nums, []⟩ }

/-- A PLDM type 2 request (R488): a RUNNING Porter answers; no other does. -/
def platform (s : State) (m : Mgmt) (k : State → State) : State := if porterRuns s && mctpReaches s m.via then k s else s

/-- A PLDM type 5 request (R494): a RUNNING Porter answers, and so does the ROM in recovery (R492). -/
def updating (s : State) (m : Mgmt) (k : State → State) : State :=
  if (porterRuns s || s.porter.state = .recovery) && mctpReaches s m.via then k s else s

/-! ### Platform monitoring (R488) -/

/-- The state sensors: the thermal step of hall h as 0x100 + h, HEALTH as 0x110 and the Porter's STATE as 0x111 (log entry 22). -/
def stateSensorHere (s : State) (i : Nat) : Bool :=
  if 0x100 ≤ i ∧ i < 0x110 then present s .hall (i - 0x100) else if i = 0x110 then hasUndercroft s else i == 0x111

/-- PRT_STATUS.STATE (R501); a Porter without power has none. -/
def stateCode : PState → Nat
  | .off => 0
  | .rom => 0
  | .running => 1
  | .recovery => 2
  | .restarting => 3

/-- The reading of a state sensor: its state (0 valid, 1 unavailable) and its value. The Porter's sensor also tells whether the
main rails are up (R503). -/
def stateReading (s : State) (i : Nat) : List Nat :=
  if i = 0x111 then [0, stateCode s.porter.state, b2n (mainUp s)]
  else if !deviceUp s then [1, 0]
  else if i = 0x110 then [0, health s]
  else [0, if halted s (i - 0x100) then 4 else thermalStep s (i - 0x100)]

/-- The records of the repository: sensors and effecters of what is present (R488, R511). -/
def pdrs (s : State) : List Nat :=
  (List.range 163).filter (sensorHere s) ++ ((List.range 18).map (0x100 + ·)).filter (stateSensorHere s) ++ [0x200, 0x201]

/-- GET_PDR (R488): record 0 asks for the first. Record handles are places in the repository (log entry 22). -/
def execGetPdr (m : Mgmt) (record : Nat) (s : State) : Out :=
  .next (platform s m fun t =>
    let n := if record = 0 then 1 else record
    match (pdrs t)[n - 1]? with
    | none => pldmReply t 0x251 0x82 []
    | some x => pldmReply t 0x251 0 [n, if n < (pdrs t).length then n + 1 else 0, x])

/-- GET_PDR_REPOSITORY_INFO (R488). -/
def execGetPdrRepositoryInfo (m : Mgmt) (s : State) : Out := .next (platform s m fun t => pldmReply t 0x250 0 [(pdrs t).length])

/-- GET_SENSOR_READING (R488, R499): the sensor's state and value, or that it is disabled. -/
def execGetSensorReading (m : Mgmt) (sensor : Nat) (s : State) : Out :=
  .next (platform s m fun t =>
    if 163 ≤ sensor then pldmReply t 0x211 0x80 []
    else if !(pldmSensor t sensor).enabled then pldmReply t 0x211 0 [3]
    else let r := sensorNow t sensor; pldmReply t 0x211 0 [r.1, ofSigned 32 r.2.1])

/-- GET_STATE_SENSOR_READINGS (R488). -/
def execGetStateSensorReadings (m : Mgmt) (sensor : Nat) (s : State) : Out :=
  .next (platform s m fun t => if stateSensorHere t sensor then pldmReply t 0x221 0 (stateReading t sensor) else pldmReply t 0x221 0x80 [])

/-- SET_NUMERIC_SENSOR_ENABLE (R488). -/
def execSetNumericSensorEnable (m : Mgmt) (sensor : Nat) (enable events : Bool) (s : State) : Out :=
  .next (platform s m fun t =>
    if 163 ≤ sensor then pldmReply t 0x210 0x80 []
    else pldmReply (modSensor t sensor fun x => { x with enabled := enable, events := events }) 0x210 0 [])

/-- GET_SENSOR_THRESHOLDS (R488). -/
def execGetSensorThresholds (m : Mgmt) (sensor : Nat) (s : State) : Out :=
  .next (platform s m fun t =>
    if 163 ≤ sensor then pldmReply t 0x212 0x80 [] else pldmReply t 0x212 0 ((thresholdsOf t sensor).map (ofSigned 32)))

/-- SET_SENSOR_THRESHOLDS (R488): stored in the configuration area. -/
def execSetSensorThresholds (m : Mgmt) (sensor : Nat) (values : List Int) (s : State) : Out :=
  .next (platform s m fun t =>
    if 163 ≤ sensor then pldmReply t 0x213 0x80 []
    else if 3 < values.length then pldmReply t 0x213 2 []
    else pldmReply (modPorter t fun p => { p with thresholds := tput p.thresholds sensor values }) 0x213 0 [])

/-- SET_EVENT_RECEIVER (R488). -/
def execSetEventReceiver (m : Mgmt) (receiver : Option Nat) (s : State) : Out :=
  .next (platform s m fun t => pldmReply (modPorter t fun p => { p with receiver := receiver }) 0x204 0 [])

/-- POLL_FOR_PLATFORM_EVENT_MESSAGE (R488): the oldest queued event. -/
def execPollForPlatformEventMessage (m : Mgmt) (s : State) : Out :=
  .next (platform s m fun t =>
    match t.porter.pldmQueue with
    | [] => pldmReply t 0x20B 0 []
    | e :: es => pldmReply (modPorter t fun p => { p with pldmQueue := es }) 0x20B 0 [e.sensor, e.before, e.after, ofSigned 32 e.milli])

/-- EVENT_MESSAGE_SUPPORTED (R488): sensor events, sent or polled. -/
def execEventMessageSupported (m : Mgmt) (s : State) : Out := .next (platform s m fun t => pldmReply t 0x20C 0 [0])

/-- SET_NUMERIC_EFFECTER_VALUE (R488): the power cap in watts. -/
def execSetNumericEffecterValue (m : Mgmt) (effecter value : Nat) (s : State) : Out :=
  .next (platform s m fun t =>
    if effecter ≠ 0x200 then pldmReply t 0x231 0x80 []
    else if value < 1250 ∨ 1600 < value then pldmReply t 0x231 2 []
    else pldmReply (setPolicy t t.porter.policy.vmode value) 0x231 0 [])

/-- SET_STATE_EFFECTER_STATES (R488): VMODE. -/
def execSetStateEffecterStates (m : Mgmt) (effecter state : Nat) (s : State) : Out :=
  .next (platform s m fun t =>
    if effecter ≠ 0x201 then pldmReply t 0x239 0x80 []
    else if 3 < state then pldmReply t 0x239 2 []
    else pldmReply (setPolicy t state t.porter.policy.capW) 0x239 0 [])

/-! ### Firmware update (R494, R495) -/

/-- The PCI device ID of the variant (R1). -/
def deviceId (s : State) : Nat := match s.variant with | .d1600 => 0xD160 | .d1600n => 0xD16E | .d1200 => 0xD120

/-- QUERY_DEVICE_IDENTIFIERS (R494). -/
def execQueryDeviceIdentifiers (m : Mgmt) (s : State) : Out := .next (updating s m fun t => pldmReply t 0x501 0 [0x1F3E, deviceId t])

/-- GET_FIRMWARE_PARAMETERS (R494): of each component the running version and the version of the other slot where it is staged or
on trial. -/
def execGetFirmwareParameters (m : Mgmt) (s : State) : Out :=
  .next (updating s m fun t =>
    let two := fun c =>
      let f := firmware t c
      let other := 1 - f.running
      [c, slotNum t c f.running 8 4, if f.staged || (f.trial && f.active = other) then slotNum t c other 8 4 else 0]
    pldmReply t 0x502 0 (two 1 ++ two 2))

/-- The trial of a component is pending: activated and not committed (R495). -/
def trialPending (s : State) (c : Nat) : Bool := (firmware s c).trial

/-- REQUEST_UPDATE (R494, R495): bit 0 of `components` stands for Vipol, bit 1 for the microcode. One agent is served at a time,
and a component whose trial is pending is not updated. -/
def execRequestUpdate (m : Mgmt) (components : Nat) (s : State) : Out :=
  .next (updating s m fun t =>
    if t.porter.update.isSome then pldmReply t 0x510 0x81 []
    else if (bit components 0 && trialPending t 1) || (bit components 1 && trialPending t 2) then pldmReply t 0x510 0x80 []
    else pldmReply (modPorter t fun p => { p with update := some ⟨m, .learn, 0, 0, [], 0⟩ }) 0x510 0 [])

/-- A request of the update agent, in update mode (R494). -/
def withUpdate (s : State) (m : Mgmt) (code : Nat) (k : Update → State → State) : State :=
  updating s m fun t =>
    match t.porter.update with
    | none => pldmReply t code 0x80 []
    | some u => if u.agent = m then k u t else pldmReply t code 0x80 []

/-- Change the update under way. -/
def setUpdate (s : State) (u : Option Update) : State := modPorter s fun p => { p with update := u }

/-- PASS_COMPONENT_TABLE (R494). -/
def execPassComponentTable (m : Mgmt) (component : Nat) (last : Bool) (s : State) : Out :=
  .next (withUpdate s m 0x513 fun u t =>
    if u.stage ≠ .learn then pldmReply t 0x513 0x84 []
    else
      let known := decide (component = 1 ∨ component = 2)
      pldmReply (if last then setUpdate t (some { u with stage := .ready }) else t) 0x513 0 [b2n (!known)])

/-- The largest image of a component with its header (R489). -/
def slotBytes (c : Nat) : Nat := if c = 1 then 8388608 else 16777216

/-- UPDATE_COMPONENT (R495): the transfer into the inactive slot begins, which holds nothing valid from then on. -/
def execUpdateComponent (m : Mgmt) (component size : Nat) (s : State) : Out :=
  .next (withUpdate s m 0x514 fun u t =>
    if u.stage ≠ .ready ∧ u.stage ≠ .applied then pldmReply t 0x514 0x84 []
    else if (component ≠ 1 ∧ component ≠ 2) ∨ size = 0 ∨ slotBytes component < size then pldmReply t 0x514 2 []
    else if trialPending t component then pldmReply t 0x514 0x80 []
    else
      let t1 := modFirmware t component fun f => { putSlot f (1 - f.running) .invalid with staged := false }
      pldmReply (setUpdate t1 (some { u with stage := .download, component := component, size := size, data := [], verify := 0 })) 0x514 0 [])

/-- The most bytes that one transfer carries (R494). -/
def transferMax : Transport → Nat
  | .pcie => 1024
  | _ => 256

/-- A transfer is complete (R495): the image is checked, and a slot that passes is STAGED and logged. -/
def verifyImage (s : State) (u : Update) (data : List Byte) : State :=
  let c := u.component
  let slot := 1 - (firmware s c).running
  let s1 := modFirmware s c fun f => putSlot f slot (.image data)
  let v := imageCheck s1 c slot
  let u1 := { u with stage := .applied, data := [], verify := v }
  if v = 0 then
    setUpdate (porterLog (modFirmware s1 c fun f => { f with staged := true }) 2 [c, slot, slotNum s1 c slot 8 4, slotNum s1 c slot 6 1]) (some u1)
  else setUpdate s (some u1)

/-- REQUEST_FIRMWARE_DATA (R494, R495): the agent's answer to a request of the device for the next bytes; after the last,
TransferComplete, VerifyComplete and ApplyComplete follow. An answer of another length is not taken. -/
def execRequestFirmwareData (data : List Byte) (s : State) : Out :=
  .next (if porterRuns s || s.porter.state = .recovery then
      match s.porter.update with
      | none => s
      | some u =>
        if u.stage = .download ∧ mctpReaches s u.agent.via ∧ data.length = min (transferMax u.agent.via) (u.size - u.data.length) then
          let all := u.data ++ data
          if all.length < u.size then setUpdate s (some { u with data := all })
          else let s1 := verifyImage s u all; pldmReply s1 0x517 (match s1.porter.update with | some x => x.verify | none => 0) [u.component]
        else s
    else s)

/-- ACTIVATE_FIRMWARE (R495): a staged Vipol starts its trial with a Porter restart; staged microcode is pending until the next
cold reset. In recovery the ROM's restart boots it. -/
def execActivateFirmware (m : Mgmt) (s : State) : Out :=
  .next (withUpdate s m 0x51A fun u t =>
    if u.stage ≠ .applied then pldmReply t 0x51A 0x84 []
    else if !t.porter.vipol.staged && !t.porter.micro.staged then pldmReply t 0x51A 0x85 []
    else
      let t1 := if t.porter.micro.staged then activateSlot t 2 else t
      let t2 := pldmReply (setUpdate t1 none) 0x51A 0 [b2n t.porter.micro.staged]
      if t.porter.vipol.staged then restartPorter (activateSlot t2 1) .activation else t2)

/-- GET_STATUS (R494): the stage, and the result of VerifyComplete. -/
def execGetStatus (m : Mgmt) (s : State) : Out :=
  .next (updating s m fun t =>
    match t.porter.update with
    | none => pldmReply t 0x51B 0 [0]
    | some u => pldmReply t 0x51B 0 [match u.stage with | .learn => 1 | .ready => 2 | .download => 3 | .applied => 4, u.verify])

/-- CANCEL_UPDATE_COMPONENT (R495): the slot stays invalid, and update mode goes on. -/
def execCancelUpdateComponent (m : Mgmt) (s : State) : Out :=
  .next (withUpdate s m 0x51C fun u t =>
    if u.stage = .download then pldmReply (setUpdate t (some { u with stage := .ready, data := [] })) 0x51C 0 [] else pldmReply t 0x51C 0x84 [])

/-- CANCEL_UPDATE (R495): update mode ends; a slot in transfer stays invalid, and nothing else changes. -/
def execCancelUpdate (m : Mgmt) (s : State) : Out :=
  .next (withUpdate s m 0x51D fun _ t => pldmReply (setUpdate t none) 0x51D 0 [])

end Sys2Proof.Machine
end

