-- ==== Sys2Proof/Machine/RegRead.lean ====
section
/-! DEFINITION. Reads of the registers: what each register shows, snapshot latches, and reads that clear (R2, R7, R11, R14, R45,
R355, R515 to R521). -/

namespace Sys2Proof.Machine

/-! ### Offsets -/

/-- A requester's number for its snapshot latches (R45). -/
def requesterKey : Requester → Nat
  | .fn f => f
  | .usher u => 4096 + u

/-- The function whose own block a requester's queue registers are. -/
def requesterFn : Requester → Nat
  | .fn f => f
  | .usher _ => 0

/-- The offset of PF BAR0 that shows what a requester finds at its own offset: a VF's view holds the identity block, its own
function block and the TIM_ registers (R355, R456, R512, R515). -/
def pfOffset (who : Requester) (off : Nat) : Option Nat :=
  match who with
  | .usher _ => some off
  | .fn 0 => some off
  | .fn _ =>
    if off < 0xC0 then some off
    else if 0x1000 ≤ off ∧ off < 0x2000 then some (off + 0x100000)
    else if 0x2000 ≤ off ∧ off < 0x2040 then some (off - 0x2000 + 0x3C00000)
    else if 0x10000 ≤ off ∧ off < 0x40000 then some (off + 0x100000)
    else none

/-- The offset lies in the block of an absent instance, Undercroft wing registers included (R404, R516). -/
def absentAt (s : State) (off : Nat) : Bool :=
  (match offsetUnit off with | some (k, i) => !present s k i | none => false) ||
    (decide (0x2800100 ≤ off) && decide (off < 0x2800500) && decide (wingCount s ≤ (off - 0x2800100) / 0x40))

/-- BAR0 answers a requester: an Usher that passes the checks of R288; a function that exists, while the link is up; before READY
nothing answers, and in FAILED the identity block and the mailbox alone (R505, R506). -/
def barAnswers (s : State) (who : Requester) (off : Nat) (writes : Bool) : Bool :=
  match who with
  | .usher u => present s .usher u && (regsFault s u off off writes).isNone
  | .fn f =>
    s.vst.linkUp && fnExists s f &&
      (deviceReady s || (bit (getR s .devBoot) 9 && (decide (off < 0x100) || (f = 0 && decide (0x3800000 ≤ off) && decide (off < 0x3802000)))))

/-! ### What registers show -/

/-- A staged write to some of the registers of an instance awaits its Landing (R48). -/
def anyStaged (s : State) (rs : List Reg) (i : Nat) (n : Nat := 1) (f : Nat := 0) : Bool :=
  rs.any fun r => (List.range n).any fun j => (stagedR s r i j f).isSome

/-- A unit has a descriptor queued or in flight (R46). -/
def unitWorks (s : State) (cls inst : Nat) : Bool := !(unitOf s cls inst).queued.isEmpty || !(unitOf s cls inst).accepted.isEmpty

/-- The code width of the bay under a hall's head. -/
def headWidth (s : State) (h : Nat) : Nat :=
  match (stair s h).extents[(stair s h).headExt]? with | some x => extentWidth s x | none => 0

/-- The head of a hall streams (R95). -/
def sweeping (s : State) (h : Nat) : Bool := mayMove s h && decide (loopBays s h ≠ 0)

/-- STR_STATUS (R95). -/
def strStatus (s : State) (h : Nat) : Nat :=
  let t := stair s h
  b2n (sweeping s h) +
    2 * b2n (anyStaged s [.strStage, .trnPoolCtrl, .trnSpillBase, .trnSpillSize] h || !t.changes.isEmpty) +
    4 * b2n (t.running && !bit (getR s .strCtrl h) 0) + 8 * (if halted s h then 3 else thermalStep s h) +
    32 * b2n (sweeping s h && compareLimited s h (headWidth s h)) + 64 * b2n (t.parking && countTreads t .aboard = 0)

/-- STR_REV_EST_NS (R88, R95). While no revolution can end, or where the time exceeds the field, the value is free (log entry
1). -/
def strRevEst (s : State) (h : Nat) : Nat :=
  match revEst s h with
  | some n => if n < 2 ^ 32 then n else (freeNow s).toNat
  | none => (freeNow s).toNat

/-- STR_STALL_NS with a hold that goes on (R86, R95). -/
def strStall (s : State) (h : Nat) : Nat :=
  getR s .strStallNs h + match (stair s h).stallSince with | some b => s.now - b | none => 0

/-- Lines of a slice under reservation (R249, R259). -/
def reservedLines (s : State) (i : Nat) : Nat :=
  (s.mzn.recs.filter fun e => decide (homeSlice s e.1 = i) && !e.2.reserved.isEmpty).length

/-- Poisoned lines that a slice holds (R256, R259). -/
def poisonedLines (s : State) (i : Nat) : Nat :=
  (s.mzn.array.filter fun e => decide (homeSlice s e.1 = i) && e.2.any ArrLine.poison).length

/-- UCR_STATUS (R404). -/
def ucrStatus (s : State) : Nat :=
  health s + 4 * b2n ((List.range 16).any fun w => (journal s w).recovering) +
    8 * b2n ((List.range 16).any fun w => anyStaged s [.ucrWCredits, .ucrWAutoUs] w)

/-- UCR_W_STATE_w (R404). -/
def ucrWState (s : State) (w : Nat) : Nat :=
  let j := journal s w
  (if j.recovering then 2 else if j.running then 1 else 0) + 4 * b2n (!j.flushes.isEmpty) + 256 * creditsUsed s w

/-- The number of a map's state (R456). -/
def mapCode : MapState → Nat
  | .none => 0
  | .active => 1
  | .prepared => 2
  | .committed => 3
  | .grace => 4

/-- A word of SEL_MAP_n (R456). -/
def selMapWord (s : State) (n j : Nat) : Nat :=
  let m := mapOf s n
  let epoch := fun o : Option MapImage => match o with | some i => i.epoch | none => 0
  let level := match m.cur with | some i => i.level | none => 0
  match j with
  | 0 => epoch m.cur + 2 ^ 32 * epoch m.next
  | 1 => mapCode m.state + 256 * level
  | 2 => m.t
  | _ => m.g

/-- A word of SEL_SEAL (R456). -/
def selSealWord (s : State) (j : Nat) : Nat :=
  match collOf s (getR s .selColl) with
  | some c => currentSeal s c / 2 ^ (64 * j) % 2 ^ 64
  | none => 0

/-- PRT_STATUS.STATE (R501). -/
def PState.code : PState → Nat
  | .off => 0
  | .rom => 0
  | .running => 1
  | .recovery => 2
  | .restarting => 3

/-- PRT_STATUS (R501). -/
def prtStatus (s : State) : Nat :=
  let v := s.porter.vipol
  let m := s.porter.micro
  s.porter.state.code + 8 * b2n v.onTrial + 16 * (v.running % 2) + 32 * (m.running % 2) +
    64 * b2n (m.trial && decide (m.tries = 0)) + 128 * b2n m.onTrial

/-- VERSION of the running microcode; none runs before step 7 of bring-up completes (R501, R520). -/
def microVersion (s : State) : Nat := if 3 ≤ bootStage s then slotNum s 2 s.porter.micro.running 8 4 else 0

/-- DEV_STEPPING: one of the three that are fused (R512). -/
def steppingCode : Nat := [0x00, 0x01, 0x10].getD (Config.stepping % 3) 0

/-- VST_SQ_STATUS (R376). -/
def sqStatus (s : State) (f q : Nat) : Nat :=
  b2n (sqRunning s f q) + 2 * fieldR s .vstSqStatus 1 1 q 0 f + 4 * b2n (anyStaged s [.vstSqCfg] q 1 f) + 2 ^ 16 * inflightOf s f q

/-- VST_EQ_TAIL (R378). -/
def eqTail (s : State) (f e : Nat) : Nat := fieldR s .vstEqTail 0 18 e 0 f + 2 ^ 18 * b2n (eqEnabled s f e && eqFull s f e)

/-- A word of the wing and tenant block belongs to an instance that the variant lacks: it reads 0 (R473). -/
def wingWordAbsent (s : State) (r : Reg) (i : Nat) : Bool :=
  match r with
  | .wngGroup => !present s .group i
  | .wngW => decide (wingCount s ≤ i)
  | .wngWQuota => decide (wingCount s ≤ i)
  | .wngTCfg | .wngTDelay | .wngTServed | .wngTDelayed | .wngTQuota | .wngTOverload | .wngTDeadline | .wngTShed =>
    if i < 128 then decide (tenantCount s ≤ i) else decide (wingCount s ≤ i - 128)
  | _ => false

/-- What a register shows of the device's state, apart from staged writes. -/
def shown (s : State) (f : Nat) (r : Reg) (i j : Nat) : Nat :=
  match r with
  | .devId => 0x1F3E + deviceId s * 2 ^ 16
  | .devStepping => steppingCode
  | .devSerial => Config.serial.toNat
  | .devVariant => variantBit s
  | .devVipolVer => slotNum s 1 s.porter.vipol.running 8 4
  | .devMicroVer => microVersion s
  | .devUnitPresence => presenceWord s i
  | .vstFnStatus => if f = 0 then 0xFF00 else (f - 1) * 256
  | .vstSqStatus => sqStatus s f i
  | .vstEqTail => eqTail s f i
  | .wngW => getR s .wngW i - fieldR s .wngW 0 16 i + wingGroups s i
  | .halStatus => getR s .halStatus i - 16 * fieldR s .halStatus 4 1 i + 16 * b2n (anyStaged s [.halScrubCfg] i)
  | .halWcbStatus => (ctl s i).wcb.length
  | .strStatus => strStatus s i
  | .strHead => if loopBays s i = 0 then 0 else (stair s i).headExt % 256 + 256 * (stair s i).headBay
  | .strLoopBays => loopBays s i
  | .strRevEstNs => strRevEst s i
  | .strTreads => countTreads (stair s i) .aboard + 2 ^ 16 * countTreads (stair s i) .reserved
  | .strLanding => (stair s i).landing.length
  | .strMaps => (openStreams s i).length
  | .strStallNs => strStall s i
  | .trnPoolFree => 262144 - 16 * poolBlocks (stair s i)
  | .colStatus => b2n (unitWorks s 1 i) + 2 * ((tget (fun _ => resetEngine) s.engines i).tiles.filter fun e => e.2.poison).length
  | .qntStatus => b2n (anyStaged s streamRegs i 16)
  | .lntStatus =>
    b2n (coreOn s i) + 2 * b2n (anyStaged s [.lntHorizonNs, .lntPolicy] i || !(lcore s i).loads.isEmpty) + 2 ^ 16 * (lcore s i).buffer.length
  | .ushStatus => (usher s i).st.code + 8 * b2n (usher s i).inHandler + 16 * b2n (!(deferredOf s i).isEmpty)
  | .mznStatus => trackersUsed s i + 2 ^ 16 * reservedLines s i
  | .mznPoisoned => poisonedLines s i
  | .mznSlices => presenceWord s 6 % 2 ^ 16
  | .ucrStatus => ucrStatus s
  | .ucrUserBytes => userBytes s
  | .ucrUsedBytes => ((List.range 16).map fun w => getR s .ucrWUsed w).sum
  | .ucrRated => ratedBytes s
  | .ucrWState => ucrWState s i
  | .ucrWNextSeq => (journal s i).seq + 1
  | .ucrWQuota => getR s .wngWQuota i
  | .mrqPState => getR s .mrqPState i - 128 * fieldR s .mrqPState 7 1 i + 128 * b2n (anyStaged s [.mrqPRaRate] i)
  | .mrqLevelMax => fieldR s .devLevels 0 8
  | .prtStatus => prtStatus s
  | .prtVipolVer => slotNum s 1 s.porter.vipol.running 8 4
  | .prtMicroVer => microVersion s
  | .prtSecver => secCounter s.porter.vipol + 256 * secCounter s.porter.micro
  | .timNow => s.now
  | .timUnsyncNs => getR s .timUnsyncNs + if synced s then 0 else s.now - s.tim.since
  | .selSeal => selSealWord s i
  | .selMap => selMapWord s i j
  | r => getR s r i j f

/-- A register whose staged writes are shown from their acceptance on (R11); the window words are held, and not shown (R519). -/
def showsStaged (r : Reg) : Bool := decide ((regSpec r).staged ≠ 0)

/-- The value that a read of a register returns (R7, R11, R473, R543): bits that its table names, WO and W1S-only actions as they
stand. -/
def readable (s : State) (f : Nat) (r : Reg) (i j : Nat) : Nat :=
  if wingWordAbsent s r i then 0
  else
    let v := shown s f r i j
    let x := if showsStaged r then (match stagedR s r i j f with | some y => y | none => v) else v
    clearBits (x % 2 ^ (8 * (regSpec r).bytes) &&& (regSpec r).named) (regSpec r).wo

/-! ### Snapshot latches (R14, R45, R519) -/

/-- The key of a latch word: requester and register word. -/
def latchKey (who : Requester) (r : Reg) (i j : Nat) : Nat := requesterKey who * 2 ^ 32 + regOff r i j

/-- A latched word; 0 before its requester's first low-word read. -/
def latched (s : State) (who : Requester) (r : Reg) (i j : Nat) : Nat := (tget (fun _ => 0) s.latch (latchKey who r i j)).toNat

/-- Copy a word into a latch. -/
def setLatch (s : State) (who : Requester) (r : Reg) (i j v : Nat) : State :=
  { s with latch := tset (fun _ => 0) s.latch (latchKey who r i j) (BitVec.ofNat 64 v) }

/-- The words of a snapshot as index pairs: SEL_SEAL and SEL_MAP are wider than 64 bits (R519). -/
def snapWords (r : Reg) (i j : Nat) : List (Nat × Nat) :=
  match r with
  | .selSeal => [(0, 0), (1, 0)]
  | .selMap => [(i, 0), (i, 1), (i, 2), (i, 3)]
  | _ => [(i, j)]

/-- The register is wider than 64 bits, so that its latch serves 8-byte reads too (R519). -/
def wideSnap : Reg → Bool
  | .selSeal => true
  | .selMap => true
  | _ => false

/-- The word is the lowest of its snapshot. -/
def lowWord (r : Reg) (i j : Nat) : Bool :=
  match r with
  | .selSeal => i = 0
  | .selMap => j = 0
  | _ => true

/-- Copy all words of a snapshot counter into a requester's latch (R14). -/
def snapshot (s : State) (who : Requester) (r : Reg) (i j : Nat) : State :=
  (snapWords r i j).foldl (fun t p => setLatch t who r p.1 p.2 (readable s (requesterFn who) r p.1 p.2)) s

/-- `n` bytes from byte `o` of a word. -/
def cut (v o n : Nat) : Nat := v / 2 ^ (8 * o) % 2 ^ (8 * n)

/-- Read `n` bytes of a snapshot counter from byte `o` (R14, R45, R519). -/
def readSnap (s : State) (who : Requester) (r : Reg) (i j o n : Nat) : State × Nat :=
  if n = 8 && !wideSnap r then (s, readable s (requesterFn who) r i j)
  else if o = 0 && lowWord r i j then (snapshot s who r i j, cut (readable s (requesterFn who) r i j) 0 n)
  else (s, cut (latched s who r i j) o n)

/-- Read `n` bytes of a register from byte `o`: an RC field is cleared by the read, except what a colliding hardware set adds
(R7, R13). -/
def readElem (s : State) (who : Requester) (r : Reg) (i j o n hwSet : Nat) : State × Nat :=
  let f := requesterFn who
  if (regSpec r).snap then readSnap s who r i j o n
  else
    let v := cut (readable s f r i j) o n
    let s1 := if (regSpec r).rc = 0 then s else setR s r (clearBits (getR s r i j f) (regSpec r).rc + (hwSet &&& (regSpec r).rc)) i j f
    (if r = .strRevEstNs then drawFree s1 else s1, v)

/-- Read `n` bytes within one 4- or 8-byte word at an offset of a requester's view. An offset that no register occupies, and the
block of an absent instance, read 0 with no side effect (R2, R356). -/
def readWord (s : State) (who : Requester) (off n hwSet : Nat) : State × Nat :=
  match pfOffset who off with
  | none => (s, 0)
  | some o =>
    if absentAt s o then (s, 0)
    else if 0x3801000 ≤ o ∧ o < 0x3802000 then
      (s, ofLe ((List.range n).map fun k => (tget (fun _ => 0) s.porter.mbx (o - 0x3801000 + k)).toNat))
    else
      match regDecode o with
      | none => (s, 0)
      | some (r, i, j, b) =>
        if requesterFn who ≠ 0 && [Reg.devResetCtrl, .devUnitReset].contains r then (s, 0) else readElem s who r i j b n hwSet

/-- The register at an offset is 8 bytes wide, or the offset lies in the mailbox buffer: one access of 8 bytes reads it whole. -/
def wideAt (who : Requester) (off : Nat) : Bool :=
  match pfOffset who off with
  | none => false
  | some o =>
    (decide (0x3801000 ≤ o) && decide (o < 0x3802000)) ||
      match regDecode o with | some (r, _, _, _) => decide ((regSpec r).bytes = 8) | none => false

/-- A register read of 4 or 8 bytes (R356, R518). Two 4-byte registers under one access are read one after the other. -/
def regRead (s : State) (who : Requester) (off n hwSet : Nat) : State × Nat :=
  if n = 4 || wideAt who off then readWord s who off n hwSet
  else
    let (s1, a) := readWord s who off 4 hwSet
    let (s2, b) := readWord s1 who (off + 4) 4 hwSet
    (s2, a + 2 ^ 32 * b)

/-- A read through BAR0: aligned, of 4 or 8 bytes; any other is an Unsupported Request and returns nothing (R356). -/
def barRead (s : State) (who : Requester) (off n hwSet : Nat) : State :=
  if !barAnswers s who off false || (n ≠ 4 && n ≠ 8) || off % n ≠ 0 then s
  else
    let (s1, v) := regRead s who off n hwSet
    { s1 with readData := BitVec.ofNat 64 v }

/-- RC_READ (R7, R13): a 4-byte read. `hwSet` is what the hardware adds to the field at that moment. -/
def execRcRead (who : Requester) (off : Nat) (hwSet : W64) (s : State) : Out := .next (barRead s who off 4 hwSet.toNat)

/-- SNAP_LOW_READ (R14, R45). -/
def execSnapLowRead (who : Requester) (off size : Nat) (s : State) : Out := .next (barRead s who off size 0)

/-! ### Pace windows (R28, R31) -/

/-- One monitor ends its window: PACE_NOW, its LOW bit, its record and its sensor (R28, R31, R478). -/
def paceMonitor (s : State) (n count : Nat) : State :=
  let pace := min count 0xFFFF
  let low := getR s .pceLowStatus
  let thresh := fieldR s .pceLowThresh 0 16
  let armed := tget (fun _ => true) s.paceArmed n
  let sets := armed && decide (pace < thresh)
  let s1 := setR s .pceMon pace n
  let s2 := { s1 with paceArmed := tset (fun _ => true) s1.paceArmed n ((armed && !sets) || decide (thresh + 20 ≤ pace)) }
  let s3 := if sets then setR s2 .pceLowStatus (low ||| 2 ^ n) else s2
  let s4 := if sets && !bit low n && bit (getR s .pceCtrl) 0 then postEvent s3 0 7 0 n pace 0 0 else s3
  noteSample s4 (128 + n) (100 * pace)

/-- PACE_WINDOW (R28): the counts of the 32 monitors; those of absent hall groups read 0. Estimates and compare limits follow the
pace. -/
def execPaceWindow (counts : List Nat) (s : State) : Out :=
  .next (
    if mainUp s then
      afterRate (((List.range 32).filter fun n => bit (fuseWord s.variant 6) (16 + n / 2)).foldl (fun t n => paceMonitor t n (counts.getD n 0)) s)
    else s)

end Sys2Proof.Machine
end

