-- ==== Sys2Proof/Machine/StairCmds.lean ====
section
/-! DEFINITION. The events of the Stair and the Turnstile (R46, R70 to R91, R101, R470). -/

namespace Sys2Proof.Machine

/-- STR_CTRL.SWEEP_EN is written 1 (R46, R86, R90): the write is discarded while TRN_SPILL_SIZE reads 0, a staged value
counting. -/
def sweepEnable (s : State) (who : Requester) (h : Nat) : State :=
  if (stagedR s .trnSpillSize h).getD (getR s .trnSpillSize h) = 0 then discardWrite s who (regOff .strCtrl h 0) 1 stBadField
  else
    let first := !(stair s h).running
    let s1 := modStair (setField s .strCtrl 0 1 1 h) h fun t =>
      { t with running := true, revStart := if first then s.now else t.revStart }
    noteStall s1 h

/-- SWEEP_EN is written 0 (R90): the head holds at the bay boundary; the Stair stays running. -/
def sweepPause (s : State) (h : Nat) : State := noteStall (setField s .strCtrl 0 1 0 h) h

/-- SWEEP_ENABLE (R46, R86). -/
def execSweepEnable (who : Requester) (h : Nat) (s : State) : Out := .next (if present s .hall h then sweepEnable s who h else s)

/-- SWEEP_PAUSE (R90). -/
def execSweepPause (h : Nat) (s : State) : Out := .next (if present s .hall h then sweepPause s h else s)

/-- Lines that the sweep meets with errors (R265, R269, R270). -/
def readSwept (s : State) (h : Nat) (errs : List (LineAt × LineErr)) : State :=
  errs.foldl (fun t e => (readLine t h e.1 0 e.2).1) s

/-- BAY_STREAM (R70): bay boundary, grants, and one bay; then waiting flights are judged again and requesters told. `errs`
are the errors of the lines that the sweep reads. -/
def execBayStream (h : Nat) (errs : List (LineAt × LineErr)) (s : State) : Out :=
  .next (if present s .hall h && mayMove s h then afterRate (noteStall (bayStep (readSwept s h errs) h) h) else s)

/-- FINAL_SELECTION (R101): `errs` are the errors of the ID lines that it reads. -/
def execFinalSelection (h ctx : Nat) (errs : List (LineAt × LineErr)) (s : State) : Out :=
  .next (settleFlights (finalSelection s h ctx errs))

/-- SPILL_FINISH (R85, R86). -/
def execSpillFinish (h ctx units : Nat) (errs : List (LineAt × LineErr)) (s : State) : Out :=
  .next (settleFlights (spillFinish s h ctx units errs))

/-- The command whose flight it is: of a root's own search, or the one that started the program of a BOARD (R336, R470). -/
def flightCmd (s : State) (q : Query) : Option Nat :=
  match q.source with
  | .newel id tree =>
    match findNewel s id tree with
    | none => none
    | some n => if n.isRoot then some n.cmd else if n.parentPort = 255 then (findRoot s id).map NewelQuery.cmd else none
  | .board d =>
    match ownerUnit s d with
    | none => none
    | some (_, _, x) =>
      match x.issuer with
      | .usher u _ => (tget (fun _ => resetUsher) s.ushers u).cmd
      | .command id => some id
      | .micro => none

/-- The DELAYED record of a flight: to its command's event queue; a BOARD that no command started reports to event queue 0 of
its tenant's function; a member's flight for a peer posts none (R470). -/
def delayedRecord (s : State) (q : Query) (a : Nat) : State :=
  match (flightCmd s q).bind (findCmd s) with
  | some c => postDelayed s c a
  | none =>
    match q.source with
    | .newel _ _ => s
    | .board _ => postRecord s (q.account + 1) 0 ⟨3, 255, stDelayed, 0, a, 0, 0, 0, 0⟩

/-- DELAY_THRESHOLD (R470): the flight has waited DELAY_US without being granted in every hall. -/
def execDelayThreshold (ctx : Nat) (s : State) : Out :=
  match findQuery s ctx with
  | none => .next s
  | some q =>
    .next (if q.waiting = 0 ∨ q.delayed then s
      else
        let s0 := { s with now := max s.now (q.admitted + 1000 * getR s .wngTDelay (q.index s)) }
        let s1 := addR (modQuery s0 ctx fun x => { x with delayed := true }) .wngTDelayed 1 (q.index s)
        delayedRecord s1 q (lastGrant s1 q))

end Sys2Proof.Machine
end

