-- ==== Sys2Proof/Machine/RegWrite.lean ====
section
/-! DEFINITION. Writes of the registers: the order of checks of R545, change classes, collisions, and each register's own rules
(R7 to R13, R40 to R48, R356, R515 to R521, R543 to R545), and the commands that are writes of one register. -/

namespace Sys2Proof.Machine

/-! ### Running units (R46, R321, R377, R378, R404, R435, R436, R500) -/

/-- The unit that a register belongs to is running, as far as its Fixed and Staged fields go. -/
def regRuns (s : State) (f : Nat) (r : Reg) (i : Nat) : Bool :=
  match r with
  | .vstSqBase | .vstSqCfg | .vstSqPasid => sqRunning s f i
  | .vstEqBase | .vstEqCfg | .vstEqPasid => eqEnabled s f i
  | .strStage | .trnPoolCtrl | .trnSpillBase | .trnSpillSize => (stair s i).running
  | .halScrubCfg => !bit (getR s .halStatus i) 5
  | .qntCfg | .qntWide01 | .qntWide23 | .qntWide45 | .qntWide67 => unitWorks s 1 i
  | .lntCoreCfg | .lntTickNs | .lntHorizonNs | .lntWindowNs | .lntPolicy => bit (getR s .lntCoreCfg i) 0
  | .ushEntry | .ushContext => decide ((usher s i).st = .running) || decide ((usher s i).st = .waiting)
  | .ucrWCredits | .ucrWAutoUs => journalRuns s i
  | .mrqPCtrl | .mrqPRaRate | .mrqPRetxNs | .mrqPCredits => decide (portState s i ≠ 0)
  | .mrqDeviceIndex | .mrqLevelFloor => (List.range 64).any fun p => decide (portState s p ≠ 0)
  | .prtMbxCmd => mbxGo s
  | _ => false

/-! ### The registers' own rules -/

/-- The spill region of a hall (R263). -/
def spillLo : Nat := 0xBE0000000
def spillHi : Nat := 0xBF0000000

/-- A register's value, a staged one counting (R11). -/
def settled (s : State) (r : Reg) (i : Nat) : Nat := (stagedR s r i).getD (getR s r i)

/-- A spill ring does not lie within the hall's spill region (R96). -/
def ringOutside (base size : Nat) : Bool := decide (base < spillLo) || decide (spillHi ≤ base) || decide (spillHi < base + 4096 * size)

/-- The journal credits of the module (R390). -/
def creditTotal (s : State) : Nat := match s.variant with | .d1200 => 196608 | _ => 262144

/-- TIM_CTRL names an absent port, or one of a hall group that no wing owns (R456). -/
def timPortBad (s : State) (p : Nat) : Bool := !present s .port p || (portWing s p).isNone

/-- DEV_UNIT_RESET's checks (R512). -/
def unitResetFail (s : State) (v : Nat) : Option Nat :=
  firstFail
    [(decide (4 < bits v 0 4) || decide (unitInstances (bits v 0 4) ≤ bits v 8 8), stBadField),
      (!unitPresent s (bits v 0 4) (bits v 8 8), stUnitAbsent)]

/-- VST_SQ_CFG's checks (R377). -/
def sqCfgFail (s : State) (f q v : Nat) : Option Nat :=
  let starts := !bit (getR s .vstSqCfg q 0 f) 31
  firstFail
    [(bit v 31 && ((starts && (decide (bits v 0 5 < 4) || decide (16 < bits v 0 5))) || bits v 16 8 = 0 || !eqEnabled s f (bits v 8 4)),
        stBadField)]

/-- A submission queue of a function is enabled and bound to an event queue, at present or by a staged write (R378). -/
def sqBoundTo (s : State) (f e q : Nat) : Bool :=
  bit (getR s .vstSqCfg q 0 f) 31 && (decide (fieldR s .vstSqCfg 8 4 q 0 f = e) || decide (bits (nextCfg s f q) 8 4 = e))

/-- An event queue is in use, so that it may not be disabled (R374, R378). -/
def eqInUse (s : State) (f e : Nat) : Bool :=
  ((List.range 64).any fun q => sqBoundTo s f e q || (e = 0 && bit (getR s .vstSqCfg q 0 f) 31)) ||
    (s.vst.inflight.any fun c => decide (c.fn = f) && decide (c.eq = e)) || !(heldOf s f e).isEmpty

/-- VST_EQ_CFG's checks (R378). -/
def eqCfgFail (s : State) (f e v : Nat) : Option Nat :=
  firstFail
    [(eqEnabled s f e && !bit v 31 && eqInUse s f e, stUnitBusy),
      (!eqEnabled s f e && bit v 31 && (decide (bits v 0 5 < 4) || decide (16 < bits v 0 5)), stBadField)]

/-- The status of the first rule of its own that a register write breaks (R545 step 5). -/
def ownRule (s : State) (f : Nat) (r : Reg) (i j v : Nat) : Option Nat :=
  match r with
  | .vstSqCfg => sqCfgFail s f i v
  | .vstEqCfg => eqCfgFail s f i v
  | .vstSqTail => firstFail [(!bit (getR s .vstSqCfg i 0 f) 31 || decide (2 ^ fieldR s .vstSqCfg 0 5 i 0 f ≤ v), stBadField)]
  | .vstEqHead =>
    let n := eqSize s f i
    let head := fieldR s .vstEqHead 0 16 i 0 f
    firstFail
      [(!eqEnabled s f i || decide (n ≤ v) || decide ((fieldR s .vstEqTail 0 16 i 0 f + n - head) % n < (v + n - head) % n), stBadField)]
  | .devUnitReset => unitResetFail s v
  | .wngPfHostWeight => firstFail [(v = 0, stBadField)]
  | .halScrubCfg => firstFail [(bits v 1 5 = 0 || decide (24 < bits v 1 5), stBadField)]
  | .halWcbCfg => firstFail [(decide (v < 50), stBadField)]
  | .halUeTail =>
    let t := fieldR s .halUeTail 0 8 i
    firstFail [(decide ((fieldR s .halUeHead 0 8 i + 256 - t) % 256 < (v + 256 - t) % 256), stBadField)]
  | .strCtrl => firstFail [(bit v 0 && settled s .trnSpillSize i = 0, stBadField)]
  | .strStage => firstFail [(v % 4 ≠ 0 || decide (1024 < v), stBadField)]
  | .trnPoolCtrl => firstFail [(decide (v < 64) || decide (256 < v) || v % 16 ≠ 0, stBadField)]
  | .trnSpillBase => firstFail [(v % 4096 ≠ 0, stBadAlign), (ringOutside v (settled s .trnSpillSize i), stBadField)]
  | .trnSpillSize => firstFail [((v = 0 && (stair s i).running) || ringOutside (settled s .trnSpillBase i) v, stBadField)]
  | .qntCfg => firstFail [(bits v 4 2 = 3 || decide (8 < bits v 11 4), stBadField)]
  | .lntTickNs => firstFail [(v = 0, stBadField)]
  | .lntHorizonNs => firstFail [(decide (v < 500), stBadField)]
  | .lntWindowNs => firstFail [(decide (v < 1000) || decide (10000000000 < v), stBadField)]
  | .ushEntry => firstFail [(v % 4 ≠ 0, stBadAlign)]
  | .ushContext => firstFail [(decide (usherWing s i ≠ some (wingOf s (bits v 0 7))) || !decide (bits v 0 7 < tenantCount s), stBadField)]
  | .mznResHoldNs => firstFail [(decide (v < 1000), stBadField)]
  | .ucrWCredits =>
    let others := (((List.range 16).filter fun w => decide (w ≠ i) && decide (w < wingCount s)).map fun w => settled s .ucrWCredits w).sum
    firstFail [(decide (v < 64) || decide (creditTotal s < v), stBadField),
      (decide (settled s .ucrWCredits i ≠ v) && decide (creditTotal s < others + v), stBadField)]
  | .ucrWAutoUs => firstFail [(decide (v < 100) || decide (100000 < v), stBadField)]
  | .mrqPRaRate => firstFail [(v = 0 || decide (1000 < v), stBadField)]
  | .mrqPRetxNs => firstFail [(decide (v < 2000), stBadField)]
  | .mrqPCredits =>
    firstFail [(decide (512 < v + (((List.range 7).filter fun k => k != j).map fun k => getR s .mrqPCredits i k).sum), stBadField)]
  | .nwlHopMargin => firstFail [(v = 0 || decide (10000 < v), stBadField)]
  | .timCtrl =>
    firstFail [((bit v 14 && timPortBad s (bits v 8 6)) || (bit v 22 && timPortBad s (bits v 16 6)), stBadField)]
  | .timSet => firstFail [(!timekeeper s || decide (v < s.now), stBadField)]
  | .prtMbxCtrl => firstFail [(bit v 0 && s.porter.state = .restarting, stUnitBusy)]
  | _ => none

/-! ### Effects of accepted writes -/

/-- Give a register's Staged bits to the unit's next Landing, or put them into effect at once (R46, R48); the spill ring's settings
wait in either case until the ring is empty (R96). -/
def stageOrApply (s : State) (runs : Bool) (f : Nat) (r : Reg) (i j v : Nat) : State :=
  match r with
  | .trnSpillBase | .trnSpillSize =>
    let s1 := stageR s r v i
    if runs then s1 else landStair s1 i
  | _ => if runs then stageR s r v i j f else setR { s with staged := terase s.staged (regKey f r i j) } r v i j f

/-- The bits of `new` that a mask names, over those of `old`. -/
def blend (old new mask : Nat) : Nat := clearBits old mask + (new &&& mask)

/-- A register's plain write: RW bits take the value, W1C and W1S bits clear and set (R7), and Staged bits wait (R10). -/
def plainWrite (s : State) (f : Nat) (r : Reg) (i j v : Nat) : State :=
  let p := regSpec r
  let x := clearBits (blend (getR s r i j f) v (clearBits p.rw p.staged)) (v &&& p.w1c) ||| (v &&& p.w1s)
  if p.rw ||| p.w1c ||| p.w1s = 0 then s
  else if p.staged = 0 then setR s r x i j f
  else stageOrApply (setR s r x i j f) (regRuns s f r i) f r i j (blend x v p.staged)

/-- An accepted write of VST_SQ_CFG (R377): an enable sets head and tail to 0 and clears FAULT; a queue that no longer runs takes
its staged write. -/
def sqCfgWritten (s : State) (f q v : Nat) : State :=
  let starts := bit v 31 && !bit (getR s .vstSqCfg q 0 f) 31
  let s1 := plainWrite s f .vstSqCfg q 0 v
  if starts then
    setField (setR (setR s1 .vstSqHead 0 q 0 f) .vstSqTail 0 q 0 f) .vstSqStatus 1 1 0 q 0 f
  else landIdle s1 f q

/-- An accepted write of VST_EQ_CFG (R378): an enable sets head and tail to 0, PHASE and ARMED to 1. -/
def eqCfgWritten (s : State) (f e v : Nat) : State :=
  let starts := bit v 31 && !eqEnabled s f e
  let s1 := plainWrite s f .vstEqCfg e 0 v
  if starts then setR (setR s1 .vstEqHead 0 e 0 f) .vstEqTail (2 ^ 16 + 2 ^ 17) e 0 f else s1

/-- MSI-X: a vector that is unmasked with its pending bit set is sent (R355, R375). -/
def msixCtrlWritten (s : State) (f e v : Nat) : State :=
  let s1 := plainWrite s f .msixCtrl e 0 v
  if bit v 0 || !bit (getR s .msixPending 0 0 f) e then s1
  else
    let s2 := setField s1 .msixPending e 1 0 0 0 f
    { s2 with vst := { s2.vst with nudges := s2.vst.nudges ++ [(f, e)] } }

/-- LNT_CORE_CFG is written (R201, R213): a core that starts opens its window; one that stops takes what waits for a Landing. -/
def coreCfgWritten (s : State) (c v : Nat) : State :=
  let was := bit (getR s .lntCoreCfg c) 0
  let s1 := plainWrite s 0 .lntCoreCfg c 0 v
  if bit v 0 && !was then startCore s1 c
  else if !bit v 0 && was then
    (lcore s1 c).loads.foldl
      (fun t l => endDesc (modCore t c fun x => applyLoad { x with loads := x.loads.drop 1 } l.kind l.first l.entries) 2 c l.desc stOk 0)
      (coreLanding s1 c)
  else s1

/-- MRQ_P_CTRL is written (R431 to R435): ENC, then ENABLE, RETRAIN and RELEASE. -/
def portCtrlWritten (s : State) (p v : Nat) : State :=
  let s1 := setField s .mrqPCtrl 1 1 (v / 2) p
  let s2 :=
    if bit v 0 then portEnable s1 p
    else if bit (getR s1 .mrqPCtrl p) 0 || decide (portState s1 p ≠ 0) then portDisable s1 p
    else s1
  let s3 := if bit v 2 then portRetrain s2 p else s2
  if bit v 3 then portRelease s3 p else s3

/-- USH_CTRL is written (R321). -/
def ushCtrlWritten (s : State) (u v : Nat) : State :=
  let s1 := if bit v 0 then usherGo s u else s
  let s2 := if bit v 1 then usherStop s1 u else s1
  if bit v 2 then usherReset s2 u false else s2

/-- DEV_UNIT_RESET is written (R43, R510): with GO the unit is reset and tested, with a free outcome (log entry 1). -/
def unitResetWritten (s : State) (v : Nat) : State :=
  if bit v 16 then resetUnit (drawFree s) (bits v 0 4) (bits v 8 8) (bit (freeNow s).toNat 0)
  else plainWrite s 0 .devUnitReset 0 0 v

/-- PRT_MBX_CTRL is written (R500): an undefined opcode completes at once. -/
def mbxCtrlWritten (s : State) (v : Nat) : State :=
  if bit v 0 && !mbxGo s then
    let s1 := setField s .prtMbxCtrl 0 1 1
    if porterRuns s then undefinedMbx s1 else s1
  else s

/-- A held word of a window entry (R519): held, with no effect, until the commit word is written. -/
def windowHeld (s : State) (r : Reg) (i v : Nat) : State := stageR s r v i

/-- The effect of a register write that no rule refuses. -/
def applyWrite (s : State) (who : Requester) (r : Reg) (i j v : Nat) : State :=
  let f := requesterFn who
  match r with
  | .vstSqCfg => sqCfgWritten s f i v
  | .vstEqCfg => eqCfgWritten s f i v
  | .vstEqHead => consume s f i v
  | .msixCtrl => msixCtrlWritten s f i v
  | .devResetCtrl => if bit v 0 then coldReset s (some 3) else s
  | .devUnitReset => unitResetWritten s v
  | .strCtrl => if bit v 0 then sweepEnable s who i else sweepPause s i
  | .lntCoreCfg => coreCfgWritten s i v
  | .ushCtrl => ushCtrlWritten s i v
  | .mrqPCtrl => portCtrlWritten s i v
  | .mrqPRaSubmit => submitRequest s who i v
  | .mrqDeviceIndex => setR s .mrqDeviceIndex (v % 2 ^ 12 + 2 ^ 31)
  | .mrqWinBase => windowHeld s .mrqWinBase i v
  | .mrqWinSize => windowHeld s .mrqWinSize i v
  | .mrqWinCommit => windowCommit s who i v
  | .mrqWinHigh => s
  | .prtMbxCtrl => mbxCtrlWritten s v
  | .timCtrl => timCtrlWritten s v
  | .timSet => timSetWritten s who v
  | r => plainWrite s f r i j v

/-! ### The write itself (R8, R10, R356, R516, R517, R519, R544, R545) -/

/-- A VF's view of the identity block and of shared time is read only, and an Usher may not reset the device or a unit (R355, R512,
log entry 32). -/
def readOnlyView (who : Requester) (o : Nat) : Bool :=
  match who with
  | .fn 0 => false
  | .fn _ => decide (o < 0x100) || decide (0x3C00000 ≤ o)
  | .usher _ => false

/-- The register does not stand in a requester's view: DEV_RESET_CTRL and DEV_UNIT_RESET are the PF's alone (R512). -/
def hiddenFrom (who : Requester) (r : Reg) : Bool := decide (who ≠ .fn 0) && [Reg.devResetCtrl, .devUnitReset].contains r

/-- The whole value that a write of `n` bytes at byte `o` of a register gives it: the other half is as the register reads (R517). -/
def wholeValue (s : State) (f : Nat) (r : Reg) (i j o n v : Nat) : Nat :=
  if n = (regSpec r).bytes then v
  else
    let x := readable s f r i j
    if o = 0 then x / 2 ^ 32 * 2 ^ 32 + v else x % 2 ^ 32 + v * 2 ^ 32

/-- The first rule that a write of a register breaks, in the order of R545. -/
def writeFail (s : State) (f : Nat) (r : Reg) (i j v : Nat) : Option Nat :=
  let p := regSpec r
  firstFail
    [(regRuns s f r i && decide (v &&& p.fixed ≠ readable s f r i j &&& p.fixed), stUnitBusy),
      (decide (clearBits v p.named ≠ 0), stReservedSet)]

/-- A refused commit of a window entry discards its held words (R519). -/
def dropHeld (s : State) (r : Reg) (i : Nat) : State :=
  if r = .mrqWinCommit then { s with staged := terase (terase s.staged (regKey 0 .mrqWinBase i 0)) (regKey 0 .mrqWinSize i 0) } else s

/-- Write a register's `n` bytes at byte `o`. `off` is where the requester wrote. -/
def writeElem (s : State) (who : Requester) (off : Nat) (r : Reg) (i j o n value : Nat) : State :=
  let f := requesterFn who
  let v := wholeValue s f r i j o n value
  let ro := readOnlyView who (regOff r i j)
  match (writeFail s f r i j v).or (if ro || wingWordAbsent s r i then none else ownRule s f r i j v) with
  | some st => discardWrite (dropHeld s r i) who off value st
  | none => if ro then s else applyWrite s who r i j v

/-- Write one 4- or 8-byte word at an offset of a requester's view: an absent instance and an offset that no register occupies refuse
it (R356, R516). -/
def writeWord (s : State) (who : Requester) (off n value : Nat) : State :=
  match pfOffset who off with
  | none => discardWrite s who off value stBadField
  | some o =>
    if absentAt s o then discardWrite s who off value stUnitAbsent
    else if 0x3801000 ≤ o ∧ o < 0x3802000 then
      if mbxGo s then discardWrite s who off value stUnitBusy
      else modPorter s fun p => { p with mbx := putBytes p.mbx (o - 0x3801000) (bytesOf n value) }
    else
      match regDecode o with
      | none => discardWrite s who off value stBadField
      | some (r, i, j, b) => if hiddenFrom who r then discardWrite s who off value stBadField else writeElem s who off r i j b n value

/-- A register write of 4 or 8 bytes. An 8-byte write over two 4-byte registers is two writes, the lower first (log entry 30). -/
def regWrite (s : State) (who : Requester) (off n value : Nat) : State :=
  if n = 4 || wideAt who off then writeWord s who off n value
  else writeWord (writeWord s who off 4 (value % 2 ^ 32)) who (off + 4) 4 (value / 2 ^ 32)

/-- The hardware's set of status bits that collides with the write, after it (R13, R41): a set is never lost, and posts its record. -/
def collideSet (s : State) (r : Reg) (i m : Nat) : State :=
  let k := m &&& (regSpec r).w1c
  if k = 0 then s
  else
    match r with
    | .strEvents => setSticky s .strEvents .strEventEn k i
    | .halEvents => hallEvent s i k 0 0
    | .colEvents => setSticky s .colEvents .colEventEn k i
    | .qntEvents => setSticky s .qntEvents .qntEventEn k i
    | .lntEvents => setSticky s .lntEvents .lntEventEn k i
    | .mznEvents => setSticky s .mznEvents .mznEventEn k i
    | .ucrEvents => setSticky s .ucrEvents .ucrEventEn k
    | .mrqPEvents => portEvent s i k
    | .prtEvents => porterSticky s k
    | .timEvents => setSticky s .timEvents .timEventEn k
    | .pceSweepLimited => ((List.range 16).filter fun h => bit k h).foldl setLimited s
    | .pceLowStatus =>
      ((List.range 32).filter fun n => bit k n).foldl (fun t n =>
        let fresh := !bit (getR t .pceLowStatus) n
        let t1 := setR t .pceLowStatus (getR t .pceLowStatus ||| 2 ^ n)
        let t2 := { t1 with paceArmed := tset (fun _ => true) t1.paceArmed n false }
        if fresh && bit (getR t .pceCtrl) 0 then postEvent t2 0 7 0 n (getR t .pceMon n) 0 0 else t2) s
    | _ => s

/-- The counters of class CNT (R13). -/
def presetCounter : Reg → Bool
  | .vstFnRefused => true
  | .colRefused => true
  | .lntEccUncorr => true
  | .ushExceptions => true
  | _ => false

/-- What the hardware does to the register at an offset in collision with the write (R13, R41, R42). -/
def collide (s : State) (who : Requester) (off hwSet hwInc : Nat) : State :=
  match (pfOffset who off).bind fun o => if absentAt s o then none else regDecode o with
  | none => s
  | some (r, i, _, _) =>
    if presetCounter r then addR s r hwInc i 0 (requesterFn who) else collideSet s r i hwSet

/-- A write through BAR0: aligned, of 4 or 8 bytes (R356); `hwSet` and `hwInc` are status bits that the hardware sets, and what it adds
to a counter, in collision with it. -/
def barWrite (s : State) (who : Requester) (off n value hwSet hwInc : Nat) : State :=
  if !barAnswers s who off true then s
  else if (n ≠ 4 && n ≠ 8) || off % n ≠ 0 then discardWrite s who off value stBadAlign
  else collide (regWrite s who off n (value % 2 ^ (8 * n))) who off hwSet hwInc

/-- REGISTER_WRITE (R8, R10, R545). -/
def execRegisterWrite (who : Requester) (off size : Nat) (value hwSet : W64) (hwInc : Nat) (s : State) : Out :=
  .next (barWrite s who off size value.toNat hwSet.toNat hwInc)

/-! ### Rows that are writes of one register -/

/-- A function writes a register of its own block or of the device, at the offset at which it finds it. -/
def fnWrite (s : State) (f : Nat) (r : Reg) (i n value : Nat) : State := barWrite s (.fn f) (fnOff f r i) n value 0 0

/-- SQ_ENABLE (R377): a write of VST_SQ_CFG that carries ENABLE 1. -/
def execSqEnable (f q : Nat) (cfg : W64) (s : State) : Out :=
  .next (if q < 64 then fnWrite s f .vstSqCfg q 4 (cfg.toNat % 2 ^ 31 + 2 ^ 31) else s)

/-- SQ_DISABLE (R377): a write of VST_SQ_CFG with ENABLE 0 and its other fields as they read. -/
def execSqDisable (f q : Nat) (s : State) : Out :=
  .next (if q < 64 then fnWrite s f .vstSqCfg q 4 (readable s f .vstSqCfg q 0 % 2 ^ 31) else s)

/-- EQ_ENABLE (R378): a write of VST_EQ_CFG that carries ENABLE 1. -/
def execEqEnable (f e : Nat) (cfg : W64) (s : State) : Out :=
  .next (if e < 16 then fnWrite s f .vstEqCfg e 4 (cfg.toNat % 2 ^ 31 + 2 ^ 31) else s)

/-- EQ_DISABLE (R378): a write of VST_EQ_CFG with ENABLE 0 and its other fields as they read. -/
def execEqDisable (f e : Nat) (s : State) : Out :=
  .next (if e < 16 then fnWrite s f .vstEqCfg e 4 (readable s f .vstEqCfg e 0 % 2 ^ 31) else s)

/-- COLD (R509, R512): a write of 1 to DEV_RESET_CTRL. -/
def execCold (who : Requester) (s : State) : Out := .next (barWrite s who (regOff .devResetCtrl 0 0) 4 1 0 0)

/-- UNIT_RESET (R510, R512): a write of DEV_UNIT_RESET with GO; `pass` is the outcome of the self-test. -/
def execUnitReset (who : Requester) (cls inst : Nat) (pass : Bool) (s : State) : Out :=
  let off := regOff .devUnitReset 0 0
  let v := cls % 16 + inst % 256 * 2 ^ 8 + 2 ^ 16
  .next (
    if !barAnswers s who off true then s
    else if hiddenFrom who .devUnitReset then discardWrite s who off v stBadField
    else
      match unitResetFail s v with
      | some st => discardWrite s who off v st
      | none => resetUnit s (cls % 16) (inst % 256) pass)

end Sys2Proof.Machine
end

