-- ==== Sys2Proof/Machine/Spdm.lean ====
section
/-! DEFINITION. The Porter as an SPDM 1.3 responder (R496, R497). Nonces, signatures, certificates and keys are free values (log
entry 2). -/

namespace Sys2Proof.Machine

/-- The place of a connection: the MCTP bindings, the Data Object Exchange mailbox, and the ports from 16 on. -/
def viaKey : SpdmVia → Nat
  | .mctp .smbus => 0
  | .mctp .i3c => 1
  | .mctp .pcie => 2
  | .doe => 3
  | .link p => 16 + p

/-- The Porter serves SPDM over a way (R496, R499): the DOE mailbox needs the PCIe link, and VC 7 a port in AUTH or ACTIVE. -/
def spdmReaches (s : State) (via : SpdmVia) : Bool :=
  porterRuns s &&
    match via with
    | .mctp v => mctpReaches s v
    | .doe => s.vst.linkUp
    | .link p => present s .port p && (decide (portState s p = 4) || decide (portState s p = 5))

/-- How far a connection's handshake has come: 1 version, 2 capabilities, 3 algorithms. -/
def spdmStage (s : State) (via : SpdmVia) : Nat := tget (fun _ => 0) s.porter.spdm (viaKey via)

/-- A response: its code is the request's without bit 7. -/
def spdmReply (s : State) (code : Nat) (nums : List Nat) (bytes : List Byte) : State :=
  modPorter s fun p => { p with reply := some ⟨5, code % 128, 0, nums, bytes⟩ }

/-- An ERROR response with an error code. -/
def spdmError (s : State) (code : Nat) : State := modPorter s fun p => { p with reply := some ⟨5, 0x7F, code, [], []⟩ }

/-- Serve a request from a stage of the handshake on; an earlier one is unexpected. -/
def spdmServe (s : State) (via : SpdmVia) (stage : Nat) (k : State → State) : State :=
  if !spdmReaches s via then s else if spdmStage s via < stage then spdmError s 4 else k s

/-- Set how far the handshake has come. -/
def setStage (s : State) (via : SpdmVia) (n : Nat) : State :=
  modPorter s fun p => { p with spdm := tset (fun _ => 0) p.spdm (viaKey via) n }

/-- A response with `n` bytes of the device's own: free values (log entry 2). -/
def freeReply (s : State) (code : Nat) (nums : List Nat) (n : Nat) : State := drawFree (spdmReply s code nums (freeBytes s.free n))

/-- GET_VERSION (R496): SPDM 1.3; the handshake starts anew. -/
def execGetVersion (via : SpdmVia) (s : State) : Out :=
  .next (spdmServe s via 0 fun t => spdmReply (setStage t via 1) 0x84 [0x13] [])

/-- GET_CAPABILITIES (R496): mutual authentication on links alone. -/
def execGetCapabilities (via : SpdmVia) (s : State) : Out :=
  .next (spdmServe s via 1 fun t =>
    spdmReply (setStage t via 2) 0xE1 [match via with | .link _ => 1 | _ => 0] [])

/-- NEGOTIATE_ALGORITHMS (R496): ECDSA P-384, SHA-384, ECDHE on secp384r1 and AES-256-GCM, or no agreement. -/
def execNegotiateAlgorithms (via : SpdmVia) (agreed : Bool) (s : State) : Out :=
  .next (spdmServe s via 2 fun t => if agreed then spdmReply (setStage t via 3) 0xE3 [384, 384, 384, 256] [] else spdmError t 1)

/-- GET_DIGESTS (R496): the SHA-384 digests of the chains in slots 0 and 1. -/
def execGetDigests (via : SpdmVia) (s : State) : Out := .next (spdmServe s via 3 fun t => freeReply t 0x81 [3] 96)

/-- GET_CERTIFICATE (R496): a part of the chain in slot 0 or 1, at most 4,096 bytes. -/
def execGetCertificate (via : SpdmVia) (slot offset length : Nat) (s : State) : Out :=
  .next (spdmServe s via 3 fun t => if 1 < slot then spdmError t 1 else freeReply t 0x82 [slot, offset] (min length 4096))

/-- CHALLENGE (R496): a nonce and a signature of the slot's key. -/
def execChallenge (via : SpdmVia) (slot : Nat) (s : State) : Out :=
  .next (spdmServe s via 3 fun t => if 1 < slot then spdmError t 1 else freeReply t 0x83 [slot] 128)

/-- The 48 bytes of a measurement (R496): the digest of the running Vipol header, that of the running microcode header or 0 before
bring-up, and free values for those whose encoding the manual leaves open. -/
def measurement (s : State) (i : Nat) : List Byte :=
  let p := s.porter
  if i = 2 then shaBytes (headerOf 1 p.vipol.running (slotOf p.vipol p.vipol.running))
  else if i = 3 then
    (if 2 ≤ fieldR s .devBoot 0 4 then shaBytes (headerOf 2 p.micro.running (slotOf p.micro p.micro.running)) else bytesOf 48 0)
  else (List.range 48).map fun k => Config.freeByte s.free (48 * i + k)

/-- GET_MEASUREMENTS (R496): index 0 asks for their number, 255 for all. -/
def execGetMeasurements (via : SpdmVia) (index : Nat) (s : State) : Out :=
  .next (spdmServe s via 3 fun t =>
    if index = 0 then spdmReply t 0xE0 [6] []
    else if index = 255 then drawFree (spdmReply t 0xE0 [6] ([1, 2, 3, 4, 5, 6].flatMap (measurement t)))
    else if index ≤ 6 then drawFree (spdmReply t 0xE0 [1] (measurement t index))
    else spdmError t 1)

/-- A session of a Mariq link. -/
def SpdmSession.onLink (x : SpdmSession) : Bool := match x.via with | .link _ => true | _ => false

/-- Room for one more session (R496): 64 of links and 4 of management. -/
def sessionRoom (s : State) (via : SpdmVia) : Bool :=
  match via with
  | .link _ => decide ((s.porter.sessions.filter SpdmSession.onLink).length < 64)
  | _ => decide ((s.porter.sessions.filter fun x => !x.onLink).length < 4)

/-- KEY_EXCHANGE (R496): a session begins, to be finished; the public value and the signature are the device's own. -/
def execKeyExchange (via : SpdmVia) (slot requester : Nat) (s : State) : Out :=
  .next (spdmServe s via 3 fun t =>
    if 1 < slot then spdmError t 1
    else if !sessionRoom t via then spdmError t 0x0A
    else
      let id := t.porter.nextSession
      freeReply (modPorter t fun p => { p with sessions := p.sessions ++ [⟨id, via, false, 0⟩], nextSession := id + 1 }) 0xE4 [id, requester] 224)

/-- Serve a request in a session of the way. -/
def inSession (s : State) (via : SpdmVia) (id : Nat) (established : Bool) (k : SpdmSession → State → State) : State :=
  spdmServe s via 0 fun t =>
    match t.porter.sessions.find? fun x => x.id == id && decide (x.via = via) with
    | none => spdmError t 0x0B
    | some x => if x.established = established then k x t else spdmError t 4

/-- Change a session. -/
def modSession (s : State) (id : Nat) (f : SpdmSession → SpdmSession) : State :=
  modPorter s fun p => { p with sessions := p.sessions.map fun x => if x.id = id then f x else x }

/-- End a session. -/
def dropSession (s : State) (id : Nat) : State := modPorter s fun p => { p with sessions := p.sessions.filter fun x => x.id != id }

/-- FINISH (R496, R497): the session stands where the requester's proofs verify; a failure ends it and is logged. -/
def execFinish (via : SpdmVia) (session : Nat) (verified : Bool) (s : State) : Out :=
  .next (inSession s via session false fun x t =>
    if verified then spdmReply (modSession t x.id fun y => { y with established := true }) 0xE5 [] []
    else porterLog (spdmError (dropSession t x.id) 6) 0x32 [match via with | .link p => p | _ => x.id, 6])

/-- KEY_UPDATE (R496). -/
def execKeyUpdate (via : SpdmVia) (session : Nat) (s : State) : Out :=
  .next (inSession s via session true fun x t => spdmReply (modSession t x.id fun y => { y with keys := y.keys + 1 }) 0xE9 [] [])

/-- HEARTBEAT (R496). -/
def execHeartbeat (via : SpdmVia) (session : Nat) (s : State) : Out :=
  .next (inSession s via session true fun _ t => spdmReply t 0xE8 [] [])

/-- END_SESSION (R496). -/
def execEndSession (via : SpdmVia) (session : Nat) (s : State) : Out :=
  .next (inSession s via session true fun x t => spdmReply (dropSession t x.id) 0xEC [] [])

end Sys2Proof.Machine
end

