-- ==== Sys2Proof/Machine/UsherMem.lean ====
section
/-! DEFINITION. The Ushers' scalar loads and stores, those of the register window among them (R37, R287 to R289, R302). -/

namespace Sys2Proof.Machine

/-- The address of a scalar access: A plus the signed IMM12 (R296, R302). -/
def scalarAddr (s : State) (u w : Nat) : Nat := addOff (getS s u (fA w)) (toSigned 12 (bits w 20 12))

/-- Bytes of an access by SZ (R302). -/
def szBytes (sz : Nat) : Nat := 2 ^ (sz % 4)

/-- The value that LD writes: U types zero-extended, S types sign-extended (R302). -/
def loadValue (sz v : Nat) : Nat := if sz < 4 then v else ofSigned 64 (toSigned (8 * szBytes sz) v)

/-- Steps 2 to 4 of R288 for a scalar access of `n` bytes to the register window. -/
def windowFault (s : State) (u a off n : Nat) (writes : Bool) : Option UFault :=
  (regsFault s u a off writes).or (if n = 4 ∨ n = 8 then none else some ⟨2, stBadField, some a⟩)

/-- Load `n` bytes from memory, a Gallery or the register window. -/
def loadScalar (s : State) (u a n : Nat) : UStep Nat :=
  match usherRegion a with
  | .regs off =>
    match windowFault s u a off n false with
    | some f => .fault s f
    | none => let r := regRead s (.usher u) off n 0; .ok r.1 r.2
  | _ => (loadBytes s u a n).andThen fun t b => .ok t (ofLe (b.map BitVec.toNat))

/-- Store `n` bytes to memory or to the register window; the Usher's earlier stores go before a register write (R37, R274). -/
def storeScalar (s : State) (u a n v : Nat) : UStep Unit :=
  match usherRegion a with
  | .regs off =>
    match windowFault s u a off n true with
    | some f => .fault s f
    | none => .ok (regWrite (drainUsher s u) (.usher u) off n v) ()
  | _ => storeBytes s u a (bytesOf n v)

/-- LD (R302). -/
def execLd (u : Nat) (s : State) : Out :=
  .next (isaRow u .ld s fun t pc w =>
    let sz := bits w 17 3
    let a := scalarAddr t u w
    encoding t [sz = 7] []
      (guardU t [(a % szBytes sz ≠ 0, faultAlign a)]
        ((loadScalar t u a (szBytes sz)).bind fun r v => .next (putS r u (fD w) (loadValue sz v)) (nextPc pc w))))

/-- ST (R302). -/
def execSt (u : Nat) (s : State) : Out :=
  .next (isaRow u .st s fun t pc w =>
    let sz := bits w 17 3
    let a := scalarAddr t u w
    encoding t [decide (4 ≤ sz)] []
      (guardU t [(a % szBytes sz ≠ 0, faultAlign a)]
        ((storeScalar t u a (szBytes sz) (getS t u (fD w) % 2 ^ (8 * szBytes sz))).bind fun r _ => .next r (nextPc pc w))))

end Sys2Proof.Machine
end

