-- ==== Sys2Proof/Machine/Dispatch.lean ====
section
/-! DEFINITION. One arm for each command: the direct call of its meaning. -/

namespace Sys2Proof.Machine

/-- The effect of a command on everything but the queue. -/
def exec (i : Instr) (s : State) : Host.Outcome State Fault Refusal :=
  match i with
  | .registerWrite who off size value hwSet hwInc => Sys2Proof.Machine.execRegisterWrite who off size value hwSet hwInc s
  | .rcRead who off hwSet => Sys2Proof.Machine.execRcRead who off hwSet s
  | .snapLowRead who off size => Sys2Proof.Machine.execSnapLowRead who off size s
  | .paceWindow counts => Sys2Proof.Machine.execPaceWindow counts s
  | .nop id => Sys2Proof.Machine.execNop id s
  | .collCreate id => Sys2Proof.Machine.execCollCreate id s
  | .collSet id => Sys2Proof.Machine.execCollSet id s
  | .collExtend id => Sys2Proof.Machine.execCollExtend id s
  | .collInfo id => Sys2Proof.Machine.execCollInfo id s
  | .collDestroy id => Sys2Proof.Machine.execCollDestroy id s
  | .compact id => Sys2Proof.Machine.execCompact id s
  | .compactionPass id abandoned => Sys2Proof.Machine.execCompactionPass id abandoned s
  | .rebase id => Sys2Proof.Machine.execRebase id s
  | .rebaseRewrite coll => Sys2Proof.Machine.execRebaseRewrite coll s
  | .permitWrite id => Sys2Proof.Machine.execPermitWrite id s
  | .insert id => Sys2Proof.Machine.execInsert id s
  | .delete id => Sys2Proof.Machine.execDelete id s
  | .upsert id => Sys2Proof.Machine.execUpsert id s
  | .storeWritePoint coll bad dirLine => Sys2Proof.Machine.execStoreWritePoint coll bad dirLine s
  | .directoryRebuild coll hall line members => Sys2Proof.Machine.execDirectoryRebuild coll hall line members s
  | .journalCreditsFree w => Sys2Proof.Machine.execJournalCreditsFree w s
  | .flush id => Sys2Proof.Machine.execFlush id s
  | .autoCommit w => Sys2Proof.Machine.execAutoCommit w s
  | .commitComplete w spare res => Sys2Proof.Machine.execCommitComplete w spare res s
  | .checkpoint w bytes => Sys2Proof.Machine.execCheckpoint w bytes s
  | .wingRecovery w => Sys2Proof.Machine.execWingRecovery w s
  | .sweepEnable who h => Sys2Proof.Machine.execSweepEnable who h s
  | .sweepPause h => Sys2Proof.Machine.execSweepPause h s
  | .bayStream h errs => Sys2Proof.Machine.execBayStream h errs s
  | .selectionPass h n errs => Sys2Proof.Machine.execSelectionPass h n errs s
  | .finalSelection h ctx errs => Sys2Proof.Machine.execFinalSelection h ctx errs s
  | .spillFinish h ctx units errs => Sys2Proof.Machine.execSpillFinish h ctx units errs s
  | .delayThreshold ctx => Sys2Proof.Machine.execDelayThreshold ctx s
  | .tempSample h t => Sys2Proof.Machine.execTempSample h t s
  | .sensorTimeout h => Sys2Proof.Machine.execSensorTimeout h s
  | .refreshRound h => Sys2Proof.Machine.execRefreshRound h s
  | .scrubLine h at_ e => Sys2Proof.Machine.execScrubLine h at_ e s
  | .repair h e => Sys2Proof.Machine.execRepair h e s
  | .wcbPartialWrite u line mask data => Sys2Proof.Machine.execWcbPartialWrite u line mask data s
  | .wcbTimeout line => Sys2Proof.Machine.execWcbTimeout line s
  | .wcbCloseRequest line => Sys2Proof.Machine.execWcbCloseRequest line s
  | .rdS agent line err => Sys2Proof.Machine.execRdS agent line err s
  | .rdU agent line err => Sys2Proof.Machine.execRdU agent line err s
  | .upgr agent line err => Sys2Proof.Machine.execUpgr agent line err s
  | .wb agent line => Sys2Proof.Machine.execWb agent line s
  | .evc agent line => Sys2Proof.Machine.execEvc agent line s
  | .rdNc line wing err => Sys2Proof.Machine.execRdNc line wing err s
  | .wrFull line wing data => Sys2Proof.Machine.execWrFull line wing data s
  | .wrMerge line err => Sys2Proof.Machine.execWrMerge line err s
  | .atomH u line off op size arg cmp err => Sys2Proof.Machine.execAtomH u line off op size arg cmp err s
  | .rrd p rtag err => Sys2Proof.Machine.execRrd p rtag err s
  | .rwr p rtag err => Sys2Proof.Machine.execRwr p rtag err s
  | .ratom p rtag err => Sys2Proof.Machine.execRatom p rtag err s
  | .snpPull agent line bad => Sys2Proof.Machine.execSnpPull agent line bad s
  | .snpPeek agent line bad => Sys2Proof.Machine.execSnpPeek agent line bad s
  | .snpInv agent line => Sys2Proof.Machine.execSnpInv agent line s
  | .snpInvd agent line bad => Sys2Proof.Machine.execSnpInvd agent line bad s
  | .flushSet agent set slice => Sys2Proof.Machine.execFlushSet agent set slice s
  | .srsp agent line => Sys2Proof.Machine.execSrsp agent line s
  | .sdat agent line => Sys2Proof.Machine.execSdat agent line s
  | .gdat line => Sys2Proof.Machine.execGdat line s
  | .cmp agent line => Sys2Proof.Machine.execCmp agent line s
  | .wcmp line => Sys2Proof.Machine.execWcmp line s
  | .ack agent line => Sys2Proof.Machine.execAck agent line s
  | .nack p => Sys2Proof.Machine.execNack p s
  | .nackRetry p tag => Sys2Proof.Machine.execNackRetry p tag s
  | .reservationLapse line => Sys2Proof.Machine.execReservationLapse line s
  | .snpdata line => Sys2Proof.Machine.execSnpdata line s
  | .snpinv line => Sys2Proof.Machine.execSnpinv line s
  | .snpcur line => Sys2Proof.Machine.execSnpcur line s
  | .hostD2hResponse line data => Sys2Proof.Machine.execHostD2hResponse line data s
  | .cxlMemRead addr err => Sys2Proof.Machine.execCxlMemRead addr err s
  | .cxlMemWrite addr mask data => Sys2Proof.Machine.execCxlMemWrite addr mask data s
  | .biasSet id => Sys2Proof.Machine.execBiasSet id s
  | .alu u => Sys2Proof.Machine.execAlu u s
  | .addi u => Sys2Proof.Machine.execAddi u s
  | .andi u => Sys2Proof.Machine.execAndi u s
  | .ori u => Sys2Proof.Machine.execOri u s
  | .xori u => Sys2Proof.Machine.execXori u s
  | .shi u => Sys2Proof.Machine.execShi u s
  | .slti u => Sys2Proof.Machine.execSlti u s
  | .fpu u => Sys2Proof.Machine.execFpu u s
  | .ld u => Sys2Proof.Machine.execLd u s
  | .st u => Sys2Proof.Machine.execSt u s
  | .br u => Sys2Proof.Machine.execBr u s
  | .jal u => Sys2Proof.Machine.execJal u s
  | .jalr u => Sys2Proof.Machine.execJalr u s
  | .atom u => Sys2Proof.Machine.execAtom u s
  | .argmax u => Sys2Proof.Machine.execArgmax u s
  | .varith u => Sys2Proof.Machine.execVarith u s
  | .vcmp u => Sys2Proof.Machine.execVcmp u s
  | .vcvt u => Sys2Proof.Machine.execVcvt u s
  | .vperm u => Sys2Proof.Machine.execVperm u s
  | .vred u => Sys2Proof.Machine.execVred u s
  | .vld u => Sys2Proof.Machine.execVld u s
  | .vst u => Sys2Proof.Machine.execVst u s
  | .li u => Sys2Proof.Machine.execLi u s
  | .lih u => Sys2Proof.Machine.execLih u s
  | .select u => Sys2Proof.Machine.execSelect u s
  | .jl u => Sys2Proof.Machine.execJl u s
  | .vcomb u => Sys2Proof.Machine.execVcomb u s
  | .sysNop u => Sys2Proof.Machine.execSysNop u s
  | .halt u => Sys2Proof.Machine.execHalt u s
  | .csrr u => Sys2Proof.Machine.execCsrr u s
  | .csrw u => Sys2Proof.Machine.execCsrw u s
  | .fence u => Sys2Proof.Machine.execFence u s
  | .xret u => Sys2Proof.Machine.execXret u s
  | .trap u => Sys2Proof.Machine.execTrap u s
  | .issue u => Sys2Proof.Machine.execIssue u s
  | .issuenb u => Sys2Proof.Machine.execIssuenb u s
  | .wait u => Sys2Proof.Machine.execWait u s
  | .waitTimeout u => Sys2Proof.Machine.execWaitTimeout u s
  | .test u => Sys2Proof.Machine.execTest u s
  | .iflush u => Sys2Proof.Machine.execIflush u s
  | .usherGo u => Sys2Proof.Machine.execUsherGo u s
  | .usherStop u => Sys2Proof.Machine.execUsherStop u s
  | .usherReset u => Sys2Proof.Machine.execUsherReset u s
  | .board h id => Sys2Proof.Machine.execBoard h id s
  | .treadSet h id => Sys2Proof.Machine.execTreadSet h id s
  | .trnThresh h id micro => Sys2Proof.Machine.execTrnThresh h id micro s
  | .trnSpillFree h id micro => Sys2Proof.Machine.execTrnSpillFree h id micro s
  | .trnDrain h id micro => Sys2Proof.Machine.execTrnDrain h id micro s
  | .mma e id ecc => Sys2Proof.Machine.execMma e id ecc s
  | .tileZero e id ecc => Sys2Proof.Machine.execTileZero e id ecc s
  | .tileLoad e id ecc => Sys2Proof.Machine.execTileLoad e id ecc s
  | .tileStore e id ecc => Sys2Proof.Machine.execTileStore e id ecc s
  | .tileMove e id ecc => Sys2Proof.Machine.execTileMove e id ecc s
  | .reduce e id ecc => Sys2Proof.Machine.execReduce e id ecc s
  | .srfLoad e id ecc => Sys2Proof.Machine.execSrfLoad e id ecc s
  | .quant e id ecc => Sys2Proof.Machine.execQuant e id ecc s
  | .dequant e id ecc => Sys2Proof.Machine.execDequant e id ecc s
  | .qntStatsClr e => Sys2Proof.Machine.execQntStatsClr e s
  | .lntLoadDesc c id => Sys2Proof.Machine.execLntLoadDesc c id s
  | .lntInjectDesc c id => Sys2Proof.Machine.execLntInjectDesc c id s
  | .clsProbe g id => Sys2Proof.Machine.execClsProbe g id s
  | .clsGet g id bad => Sys2Proof.Machine.execClsGet g id bad s
  | .clsPut g id => Sys2Proof.Machine.execClsPut g id s
  | .clsPin g id => Sys2Proof.Machine.execClsPin g id s
  | .clsDrop g id => Sys2Proof.Machine.execClsDrop g id s
  | .dmaCopy g id => Sys2Proof.Machine.execDmaCopy g id s
  | .dmaFill g id => Sys2Proof.Machine.execDmaFill g id s
  | .descriptorComplete cls inst id => Sys2Proof.Machine.execDescriptorComplete cls inst id s
  | .lanternEventArrival c sender => Sys2Proof.Machine.execLanternEventArrival c sender s
  | .lanternEvent c bad => Sys2Proof.Machine.execLanternEvent c bad s
  | .windowClose c bad => Sys2Proof.Machine.execWindowClose c bad s
  | .lanternAction c => Sys2Proof.Machine.execLanternAction c s
  | .lntLoadApply c => Sys2Proof.Machine.execLntLoadApply c s
  | .prefixProbe id => Sys2Proof.Machine.execPrefixProbe id s
  | .prefixGet id bad => Sys2Proof.Machine.execPrefixGet id bad s
  | .prefixPut id => Sys2Proof.Machine.execPrefixPut id s
  | .prefixPin id => Sys2Proof.Machine.execPrefixPin id s
  | .prefixDrop id => Sys2Proof.Machine.execPrefixDrop id s
  | .flashCopyComplete owner nsId key => Sys2Proof.Machine.execFlashCopyComplete owner nsId key s
  | .promotionComplete owner nsId key => Sys2Proof.Machine.execPromotionComplete owner nsId key s
  | .nsCreate id => Sys2Proof.Machine.execNsCreate id s
  | .nsSet id => Sys2Proof.Machine.execNsSet id s
  | .nsInfo id => Sys2Proof.Machine.execNsInfo id s
  | .nsDestroy id => Sys2Proof.Machine.execNsDestroy id s
  | .sqDoorbell f q value writes => Sys2Proof.Machine.execSqDoorbell f q value writes s
  | .eqDoorbell f e value => Sys2Proof.Machine.execEqDoorbell f e value s
  | .sqEnable f q cfg => Sys2Proof.Machine.execSqEnable f q cfg s
  | .sqDisable f q => Sys2Proof.Machine.execSqDisable f q s
  | .eqEnable f e cfg => Sys2Proof.Machine.execEqEnable f e cfg s
  | .eqDisable f e => Sys2Proof.Machine.execEqDisable f e s
  | .entryFetch f => Sys2Proof.Machine.execEntryFetch f s
  | .hostReadCompletion what poisoned => Sys2Proof.Machine.execHostReadCompletion what poisoned s
  | .commandCompletion id => Sys2Proof.Machine.execCommandCompletion id s
  | .search id => Sys2Proof.Machine.execSearch id s
  | .run id => Sys2Proof.Machine.execRun id s
  | .lntLoad id => Sys2Proof.Machine.execLntLoad id s
  | .lntInject id => Sys2Proof.Machine.execLntInject id s
  | .copy id => Sys2Proof.Machine.execCopy id s
  | .fill id => Sys2Proof.Machine.execFill id s
  | .powerState id => Sys2Proof.Machine.execPowerState id s
  | .powerStateQuiet => Sys2Proof.Machine.execPowerStateQuiet s
  | .powerStateTimeout => Sys2Proof.Machine.execPowerStateTimeout s
  | .mapPrepare id => Sys2Proof.Machine.execMapPrepare id s
  | .mapCommit id => Sys2Proof.Machine.execMapCommit id s
  | .mapAbort id => Sys2Proof.Machine.execMapAbort id s
  | .mapActivation n => Sys2Proof.Machine.execMapActivation n s
  | .graceEnd n => Sys2Proof.Machine.execGraceEnd n s
  | .collChangePrepare id => Sys2Proof.Machine.execCollChangePrepare id s
  | .collChangeCommit id => Sys2Proof.Machine.execCollChangeCommit id s
  | .wingSet id => Sys2Proof.Machine.execWingSet id s
  | .tenantSet id => Sys2Proof.Machine.execTenantSet id s
  | .flr f => Sys2Proof.Machine.execFlr f s
  | .linkDown => Sys2Proof.Machine.execLinkDown s
  | .bar2Write addr data poisoned => Sys2Proof.Machine.execBar2Write addr data poisoned s
  | .bar2Read addr n => Sys2Proof.Machine.execBar2Read addr n s
  | .query p => Sys2Proof.Machine.execQuery p s
  | .result p => Sys2Proof.Machine.execResult p s
  | .notice p => Sys2Proof.Machine.execNotice p s
  | .refusal p => Sys2Proof.Machine.execRefusal p s
  | .discard p => Sys2Proof.Machine.execDiscard p s
  | .localMerge queryId tree => Sys2Proof.Machine.execLocalMerge queryId tree s
  | .sendLimit queryId tree => Sys2Proof.Machine.execSendLimit queryId tree s
  | .searchDeadline queryId => Sys2Proof.Machine.execSearchDeadline queryId s
  | .rerank queryId vecs errs => Sys2Proof.Machine.execRerank queryId vecs errs s
  | .searchResultWrite queryId => Sys2Proof.Machine.execSearchResultWrite queryId s
  | .sectorSend p => Sys2Proof.Machine.execSectorSend p s
  | .idleSector p x => Sys2Proof.Machine.execIdleSector p x s
  | .controlSector p x => Sys2Proof.Machine.execControlSector p x s
  | .dataSector p x => Sys2Proof.Machine.execDataSector p x s
  | .helloSector p x => Sys2Proof.Machine.execHelloSector p x s
  | .helloSend p => Sys2Proof.Machine.execHelloSend p s
  | .retransmitTimeout p => Sys2Proof.Machine.execRetransmitTimeout p s
  | .nakTimeout p => Sys2Proof.Machine.execNakTimeout p s
  | .controlRecordDue p vc => Sys2Proof.Machine.execControlRecordDue p vc s
  | .heartbeatSend p => Sys2Proof.Machine.execHeartbeatSend p s
  | .heartbeatTimeout p => Sys2Proof.Machine.execHeartbeatTimeout p s
  | .lossOfSignal p => Sys2Proof.Machine.execLossOfSignal p s
  | .slowTimeout p => Sys2Proof.Machine.execSlowTimeout p s
  | .trainingComplete p => Sys2Proof.Machine.execTrainingComplete p s
  | .trainingTimeout p => Sys2Proof.Machine.execTrainingTimeout p s
  | .authComplete p credits => Sys2Proof.Machine.execAuthComplete p credits s
  | .spdmFailure p => Sys2Proof.Machine.execSpdmFailure p s
  | .authRetry p => Sys2Proof.Machine.execAuthRetry p s
  | .keyUpdateDue p done => Sys2Proof.Machine.execKeyUpdateDue p done s
  | .keySwitchWindowEnd p => Sys2Proof.Machine.execKeySwitchWindowEnd p s
  | .keyUpdateTimeout p => Sys2Proof.Machine.execKeyUpdateTimeout p s
  | .quarantineWindow p => Sys2Proof.Machine.execQuarantineWindow p s
  | .remoteRequest p => Sys2Proof.Machine.execRemoteRequest p s
  | .remoteResponse p => Sys2Proof.Machine.execRemoteResponse p s
  | .raSubmit who p addr => Sys2Proof.Machine.execRaSubmit who p addr s
  | .portEnable p => Sys2Proof.Machine.execPortEnable p s
  | .portDisable p => Sys2Proof.Machine.execPortDisable p s
  | .retrain p => Sys2Proof.Machine.execRetrain p s
  | .release p => Sys2Proof.Machine.execRelease p s
  | .windowCommit who n commit => Sys2Proof.Machine.execWindowCommit who n commit s
  | .timeProbeSend p => Sys2Proof.Machine.execTimeProbeSend p s
  | .timeProbeRequest p => Sys2Proof.Machine.execTimeProbeRequest p s
  | .timeProbeResponse p => Sys2Proof.Machine.execTimeProbeResponse p s
  | .syncTimeout => Sys2Proof.Machine.execSyncTimeout s
  | .timSet who value => Sys2Proof.Machine.execTimSet who value s
  | .porterBoot => Sys2Proof.Machine.execPorterBoot s
  | .watchdogExpiry pc => Sys2Proof.Machine.execWatchdogExpiry pc s
  | .dieSensorSample samples => Sys2Proof.Machine.execDieSensorSample samples s
  | .powerCapTick average => Sys2Proof.Machine.execPowerCapTick average s
  | .fastPowerLimit peak => Sys2Proof.Machine.execFastPowerLimit peak s
  | .trialCommit component => Sys2Proof.Machine.execTrialCommit component s
  | .logMirrorCommit => Sys2Proof.Machine.execLogMirrorCommit s
  | .porterEvent => Sys2Proof.Machine.execPorterEvent s
  | .sensorRead from_ => Sys2Proof.Machine.execSensorRead from_ s
  | .logRead from_ => Sys2Proof.Machine.execLogRead from_ s
  | .powerSet from_ => Sys2Proof.Machine.execPowerSet from_ s
  | .pinMarkClear from_ => Sys2Proof.Machine.execPinMarkClear from_ s
  | .trustSet from_ => Sys2Proof.Machine.execTrustSet from_ s
  | .fwCommit from_ => Sys2Proof.Machine.execFwCommit from_ s
  | .wdtSet from_ => Sys2Proof.Machine.execWdtSet from_ s
  | .porterRestart => Sys2Proof.Machine.execPorterRestart s
  | .getPdr m record => Sys2Proof.Machine.execGetPdr m record s
  | .getPdrRepositoryInfo m => Sys2Proof.Machine.execGetPdrRepositoryInfo m s
  | .getSensorReading m sensor => Sys2Proof.Machine.execGetSensorReading m sensor s
  | .getStateSensorReadings m sensor => Sys2Proof.Machine.execGetStateSensorReadings m sensor s
  | .setNumericSensorEnable m sensor enable events => Sys2Proof.Machine.execSetNumericSensorEnable m sensor enable events s
  | .getSensorThresholds m sensor => Sys2Proof.Machine.execGetSensorThresholds m sensor s
  | .setSensorThresholds m sensor values => Sys2Proof.Machine.execSetSensorThresholds m sensor values s
  | .setEventReceiver m receiver => Sys2Proof.Machine.execSetEventReceiver m receiver s
  | .pollForPlatformEventMessage m => Sys2Proof.Machine.execPollForPlatformEventMessage m s
  | .eventMessageSupported m => Sys2Proof.Machine.execEventMessageSupported m s
  | .setNumericEffecterValue m effecter value => Sys2Proof.Machine.execSetNumericEffecterValue m effecter value s
  | .setStateEffecterStates m effecter state => Sys2Proof.Machine.execSetStateEffecterStates m effecter state s
  | .queryDeviceIdentifiers m => Sys2Proof.Machine.execQueryDeviceIdentifiers m s
  | .getFirmwareParameters m => Sys2Proof.Machine.execGetFirmwareParameters m s
  | .requestUpdate m components => Sys2Proof.Machine.execRequestUpdate m components s
  | .passComponentTable m component last => Sys2Proof.Machine.execPassComponentTable m component last s
  | .updateComponent m component size => Sys2Proof.Machine.execUpdateComponent m component size s
  | .requestFirmwareData data => Sys2Proof.Machine.execRequestFirmwareData data s
  | .activateFirmware m => Sys2Proof.Machine.execActivateFirmware m s
  | .getStatus m => Sys2Proof.Machine.execGetStatus m s
  | .cancelUpdateComponent m => Sys2Proof.Machine.execCancelUpdateComponent m s
  | .cancelUpdate m => Sys2Proof.Machine.execCancelUpdate m s
  | .getVersion via => Sys2Proof.Machine.execGetVersion via s
  | .getCapabilities via => Sys2Proof.Machine.execGetCapabilities via s
  | .negotiateAlgorithms via agreed => Sys2Proof.Machine.execNegotiateAlgorithms via agreed s
  | .getDigests via => Sys2Proof.Machine.execGetDigests via s
  | .getCertificate via slot offset length => Sys2Proof.Machine.execGetCertificate via slot offset length s
  | .challenge via slot => Sys2Proof.Machine.execChallenge via slot s
  | .getMeasurements via index => Sys2Proof.Machine.execGetMeasurements via index s
  | .keyExchange via slot requester => Sys2Proof.Machine.execKeyExchange via slot requester s
  | .finish via session verified => Sys2Proof.Machine.execFinish via session verified s
  | .keyUpdate via session => Sys2Proof.Machine.execKeyUpdate via session s
  | .heartbeat via session => Sys2Proof.Machine.execHeartbeat via session s
  | .endSession via session => Sys2Proof.Machine.execEndSession via session s
  | .standbyPowerOn address => Sys2Proof.Machine.execStandbyPowerOn address s
  | .standbyPowerLoss => Sys2Proof.Machine.execStandbyPowerLoss s
  | .pwrEnAssert => Sys2Proof.Machine.execPwrEnAssert s
  | .pwrEnDeassert => Sys2Proof.Machine.execPwrEnDeassert s
  | .railRegulated => Sys2Proof.Machine.execRailRegulated s
  | .railFault => Sys2Proof.Machine.execRailFault s
  | .railRetry => Sys2Proof.Machine.execRailRetry s
  | .mainBringup tests => Sys2Proof.Machine.execMainBringup tests s
  | .stackTraining h trained => Sys2Proof.Machine.execStackTraining h trained s
  | .bringupReady failed => Sys2Proof.Machine.execBringupReady failed s
  | .perstAssert => Sys2Proof.Machine.execPerstAssert s
  | .perstDeassert => Sys2Proof.Machine.execPerstDeassert s
  | .coldReset cause => Sys2Proof.Machine.execColdReset cause s
  | .cold who => Sys2Proof.Machine.execCold who s
  | .unitReset who cls inst pass => Sys2Proof.Machine.execUnitReset who cls inst pass s
  | .powerFail => Sys2Proof.Machine.execPowerFail s
  | .inputRestored => Sys2Proof.Machine.execInputRestored s
  | .pwrbrkAssert => Sys2Proof.Machine.execPwrbrkAssert s
  | .pwrbrkRelease => Sys2Proof.Machine.execPwrbrkRelease s
  | .thermalTrip comparator sensor => Sys2Proof.Machine.execThermalTrip comparator sensor s
  | .tripRelease => Sys2Proof.Machine.execTripRelease s
  | .powerStateExit => Sys2Proof.Machine.execPowerStateExit s
  | .linkTrained rate width flit cxl => Sys2Proof.Machine.execLinkTrained rate width flit cxl s
  | .translationInvalidate cls inst id lines => Sys2Proof.Machine.execTranslationInvalidate cls inst id lines s
  | .vfEnable n => Sys2Proof.Machine.execVfEnable n s
  | .mctpControlMessage via request => Sys2Proof.Machine.execMctpControlMessage via request s
  | .creditWaitDelay id => Sys2Proof.Machine.execCreditWaitDelay id s
  | .deadlineAtShard queryId tree => Sys2Proof.Machine.execDeadlineAtShard queryId tree s
  | .porterSramUncorrectable => Sys2Proof.Machine.execPorterSramUncorrectable s

end Sys2Proof.Machine
end

