-- ==== Sys2Proof/Machine/Step.lean ====
section
/-! DEFINITION. One step of the block: the command at the front of the queue takes effect. -/

namespace Sys2Proof.Machine

/-- One nanosecond of the reference oscillator passes: shared time advances, and a slew absorbs one nanosecond of offset in
each thousand (R448, R450, log entry 13). -/
def idle (s : State) : State :=
  let k := s.tim.tick + 1
  let d : Int := if k % 1000 = 0 then (if 0 < s.tim.slew then 1 else if s.tim.slew < 0 then -1 else 0) else 0
  let s1 := { s with
    now := s.now + (1 + d).toNat
    tim := { s.tim with tick := k, slew := s.tim.slew - d }
    porter := { s.porter with localBase := s.porter.localBase - d } }
  if d ≠ 0 ∧ s.tim.slew = d then setField s1 .timStatus 5 1 0 else s1

/-- Take the command at the front of the queue and answer its outcome with the queue's rest; on an empty queue the block
idles (log entry 13). -/
def step (s : State) : Host.Outcome State Fault Refusal :=
  match s.pending with
  | [] => .next (idle s)
  | c :: rest => exec c { s with pending := rest }

/-- The state with the command that a word spells at the front of its queue. No row of the table gives bits, so no word
spells a command. -/
def State.withFetchWord (s : State) (nbits w : Nat) : State :=
  match Sys2Proof.decodeTableWord nbits w with
  | none => s
  | some c => { s with pending := c :: s.pending }

end Sys2Proof.Machine
end

