-- ==== Sys2Proof/Safety.lean ====
section
/-! DEFINITION. What counts as a safe run of the block, and the terms in which the statements speak of commands and of what a step
leaves alone. -/

namespace Sys2Proof.Safety

open Sys2Proof.Machine

/-- A step is safe when it goes on: it neither faults nor is refused. -/
def goesOn (s : State) : Prop := ∃ t, step s = .next t

/-- Command `id` is in flight as `c`, carries the opcode and may start (R361, R363). -/
def ready (s : State) (id op : Nat) (c : Cmd) : Prop := findCmd s id = some c ∧ c.opcode = op ∧ mayStart s c = true

/-- How a command ended, if it has (R373). -/
def ended (s : State) (id : Nat) : Option Done := (findCmd s id).bind Cmd.done

/-- The end of a command with a status and no fields beside it. -/
def plain (status : Nat) : Done := ⟨status, 0, 0, 0, 0, 0⟩

/-- The state in which command `id` is marked as started. -/
def started (s : State) (id : Nat) : State := modCmd s id fun x => { x with started := true }

/-- The header of an entry is in order: its opcode is one that its issuer may give, its reserved bytes are 0, and its TENANT names
one that may issue it (R331 steps 3 to 5, R353, R363, R365). -/
def entryOk (s : State) (c : Cmd) (by_ : IssuedBy) (named : List (Nat × Nat)) : Prop :=
  (by_ = .pf → c.fn = 0) ∧ entryReserved c named = false ∧ firstFail (tenantChecks s c by_) = none

/-- The journal can hold what a change of a wing stages, and its credits are free (R387, R390). -/
def creditsReady (s : State) (w id bytes : Nat) : Prop :=
  journalFull s w (creditsFor s bytes) = false ∧ creditsFree s w id (creditsFor s bytes) = true

/-- Every byte of host memory outside a range reads as before. -/
def hostKeptOutside (s t : State) (a n : Nat) : Prop := ∀ x, x < a ∨ a + n ≤ x → hostByte t x = hostByte s x

/-- Every register but the element of key `k` reads as before. -/
def regsKeptBut (s t : State) (k : Nat) : Prop :=
  ∀ r i j f, regKey f r i j ≠ k → getR t r i j f = getR s r i j f

/-- Every register reads as before. -/
def regsKept (s t : State) : Prop := ∀ r i j f, getR t r i j f = getR s r i j f

/-- No query is in the device and none waits to be told of its end. -/
def quiet (s : State) : Prop := s.store.queries = [] ∧ s.store.newel = [] ∧ s.store.ended = []

/-- A present Usher that runs stands at an instruction of this row: its fetch succeeds with word `w` in state `t` (R290, R296). -/
def atInsn (s : State) (u : Nat) (op : UOp) (t : State) (w : Nat) : Prop :=
  present s .usher u = true ∧ (usher s u).st = .running ∧ fetchInsn s u (usher s u).pc.toNat = .ok t w ∧ decodeOp w = some op

/-- The state after an instruction that completes: the program goes on at `npc`, and the instruction is counted (R321). -/
def retired (r : State) (u npc : Nat) : State :=
  addR (modUsher r u fun y => { y with pc := BitVec.ofNat 64 npc, st := if y.st = .waiting then .running else y.st }) .ushInstr 1 u

/-- The state after an instruction at which the program goes on with the next one. -/
def advanced (s r : State) (u w : Nat) : State := retired r u (nextPc (usher s u).pc.toNat w)

/-- A scalar register as 64 bits. -/
def sreg (s : State) (u i : Nat) : W64 := BitVec.ofNat 64 (getS s u i)

/-- A lane of a vector register (R285). -/
def lane (s : State) (u vt v i : Nat) : Nat := (lanesOf (vtBytes vt) (vtLanes vt) (getV s u v)).getD i 0

/-- The guard takes a lane (R285). -/
def guarded (s : State) (u vt p i : Nat) : Bool := bit (getP s u p) (vtBytes vt * i)

/-- An access of an Usher to device memory passes its checks, and its L1 holds the line, whole and sound (R288, R290). -/
def inL1 (s : State) (u a n : Nat) (k : UAccess) (c : CLine) : Prop :=
  usherRegion a = .memory ∧ accessFault s u a n k = none ∧ nonCaching s (a / 64) = false ∧ cacheLine s u (a / 64) = some c ∧
    c.poison = false ∧ (k ≠ .load → c.st = .m ∨ c.st = .e)

/-- The line differs from another only in `n` bytes at an offset. -/
def lineKeptOutside (c d : CLine) (off n : Nat) : Prop := ∀ i, i < 64 → i < off ∨ off + n ≤ i → d.data.getD i 0 = c.data.getD i 0

/-- A unit takes descriptor `id` with this opcode next (R328). -/
def taking (s : State) (cls inst id op : Nat) (d : Desc) : Prop :=
  nextDescOf (unitOf s cls inst) = some d ∧ d.id = id ∧ d.op = op

/-- The state in which an engine has accepted a descriptor, at the boundary before it and with the errors that it meets noted (R11,
R152, R328). -/
def engineAt (s : State) (e : Nat) (d : Desc) (ecc : EngineEcc) : State := noteEcc (engineBoundary (acceptDesc s 1 e d) e) e ecc

/-- The status and COUNT of an accepted descriptor whose work has ended (R333). -/
def worked (s : State) (cls inst id : Nat) : Option (Nat × Nat) :=
  ((unitOf s cls inst).accepted.find? fun d => d.id == id).bind Desc.result

/-- Every tile of every engine but these reads as before. -/
def tilesKept (s t : State) (e : Nat) (gs : List Nat) : Prop := ∀ n g, n ≠ e ∨ g ∉ gs → tileOf t n g = tileOf s n g

/-- A line is free at its home, which records these holders, and its slice has a tracker to give (R230, R235). -/
def lineFree (s : State) (l : Nat) (hs : List (Nat × Hold)) : Prop :=
  trackersUsed s (homeSlice s l) < 256 ∧ (lineRec s l).txn = none ∧ (lineRec s l).waiting = [] ∧ (lineRec s l).hostWaiting = [] ∧
    (lineRec s l).reserved = [] ∧ (lineRec s l).holders = hs

/-- The array holds a line of device memory under device bias, and it is sound (R228, R252). -/
def inArray (s : State) (l : Nat) (a : ArrLine) : Prop :=
  hostLine l = false ∧ hostBias s l = false ∧ arrayLine s l = some a ∧ a.poison = false

/-- The array holds a line with new data, dirty (R228). -/
def arrayWritten (t : State) (l : Nat) (a : ArrLine) (d : List Byte) : Prop :=
  ∃ n, arrayLine t l = some { a with data := d, dirty := true, poison := false, used := n }

/-- The Corridor after its message `m` has been received and `ms` have been sent (R231). -/
def corridor (s : State) (m : Msg) (ms : List Msg) : List Msg := s.mzn.msgs.erase m ++ ms

/-- Nothing is under way on a line but one transaction, and nothing else waits for it. -/
def lineOf (s : State) (l : Nat) (x : Txn) : Prop :=
  (lineRec s l).txn = some x ∧ (lineRec s l).waiting = [] ∧ (lineRec s l).hostWaiting = [] ∧ (lineRec s l).reserved = []

/-- A sector of this KIND arrives whole at a LOCKED receiver: mark, header, fields and trailer are in order (R409). -/
def sound (s : State) (p k : Nat) (x : Sector) : Prop :=
  p < 64 ∧ 2 ≤ portState s p ∧ rxLocked s p = true ∧ x.markBits ≤ 4 ∧ secHeaderOk x = true ∧ secKind x = k ∧
    headerMalformed s p x = false ∧ secTrailerOk x = true

/-- The port is ACTIVE, and the sector is of its session under an accepted key (R409, R426). -/
def ofSession (s : State) (p : Nat) (x : Sector) : Prop :=
  portState s p = 5 ∧ hd x 8 4 = (portOf s p).partnerSession ∧ tagAccepted (portOf s p) x = true

/-- A sector left on a port: KIND and virtual channel, flags, SEQ and payload of its header and body (R408, R413). -/
def sectorLeft (s t : State) (p kind vc seq : Nat) (payload : List Byte) : Prop :=
  (∃ o, (portOf t p).out = some o ∧ numAt o.header 0 1 = (vc + 8 * kind) % 256 ∧ numAt o.header 2 2 = seq % 2 ^ 16 ∧ o.payload = payload) ∧
    (portOf t p).txCount = (portOf s p).txCount + 1 ∧ getR t .mrqPTxSectors p = (getR s .mrqPTxSectors p + 1) % 2 ^ 64

/-- A mailbox command has been answered with a status and these bytes: in the mailbox, or as a message (R487, R500, R501). -/
def mbxAnswered (t : State) (op : Nat) (by_ : MbxFrom) (status : Nat) (resp : List Byte) : Prop :=
  match by_ with
  | .mailbox => getR t .prtMbxResp = status + resp.length * 2 ^ 16 ∧ mbxGo t = false ∧ bit (getR t .prtEvents) 0 = true ∧
      ∀ i, i < resp.length → tget (fun _ => 0) t.porter.mbx i = resp.getD i 0
  | .message _ _ => t.porter.reply = some ⟨0x7E, op, status, [], resp⟩

/-- A PLDM request has been answered with this code and these fields (R488, R494). -/
def replied (t : State) (code result : Nat) (nums : List Nat) : Prop := t.porter.reply = some ⟨1, code, result, nums, []⟩

/-- An SPDM request has been answered with a response of this request's code, or with an ERROR (R496). -/
def spdmReplied (t : State) (code : Nat) (nums : List Nat) : Prop := ∃ b, t.porter.reply = some ⟨5, code % 128, 0, nums, b⟩

end Sys2Proof.Safety
end

