-- ==== Sys2Proof/Certificates/Slice0/Obligations.lean ====
section
/-! DEFINITION. The statements for the provers: what the block does with each command, by the manual's rules. -/

set_option linter.unusedVariables false

open Sys2Proof Sys2Proof.Machine Sys2Proof.Safety

/-- A step takes the command at the front of the queue and answers what exec answers for it with the queue's rest, whatever the queue holds behind
it. On an empty queue a nanosecond passes (the model's choice, log entry 13): no register but TIM_STATUS changes. -/
def Obligations.StepRunsTheFrontCommand : Prop :=
  (∀ (c : Instr) (rest : List Instr) (s : State), step { s with pending := c :: rest } = exec c { s with pending := rest }) ∧
  (∀ (s : State), s.pending = [] →
    ∃ t, step s = .next t ∧ (∀ r i j f, regKey f r i j ≠ regKey 0 .timStatus 0 0 → getR t r i j f = getR s r i j f) ∧
      (s.tim.slew = 0 → t.now = s.now + 1) ∧
      t = { s with now := t.now, regs := t.regs, tim := t.tim, porter := { s.porter with localBase := t.porter.localBase } })

/-- R1, R9, R142, R160, R284, R406, R509: after a cold reset that followed a power-on, every register holds its reset value but the two whose value
the reset itself decides; no bring-up step has run; every tile is zero under the tag FP32, every scale entry +0, every Usher IDLE with zeros; no
function, port, hall or unit holds work; and no command waits. The variant is the model's choice (log entry 24). -/
def Obligations.ResetLeavesTheDevice : Prop :=
  let s := State.reset
  s.pending = [] ∧ memoryWf s = true ∧
  (∀ (r : Reg) (i j f : Nat), regKey f r i j ≠ regKey 0 .devResetCause 0 0 → regKey f r i j ≠ regKey 0 .wngWQuota 0 0 →
    getR s r i j f = resetVal r i j % 2 ^ 64) ∧
  getR s .devResetCause = 1 ∧ bootStage s = 0 ∧
  (∀ e g, (tileOf s e g).tag = 0 ∧ (tileOf s e g).poison = false ∧ ∀ r c, (tileOf s e g).at r c = 0) ∧ (∀ e i, srfAt s e i = 0) ∧
  (∀ u, (usher s u).st = .idle ∧ (usher s u).tokens = [] ∧ (∀ i, getS s u i = 0) ∧ (∀ i, i ≠ 0 → getP s u i = 0)) ∧
  (∀ p, p < 64 → portState s p = 0 ∧ portOf s p = idlePort) ∧ (∀ cls inst, unitOf s cls inst = idleUnit) ∧ (∀ h o, hallByte s h o = 0) ∧
  s.vst.linkUp = false ∧ s.vst.inflight = [] ∧ s.store.colls = [] ∧ s.maps = [] ∧ s.now = 0

/-- A byte memory has one form for one content (log entry 3): from every state whose host memory and hall memories are in canonical form, every
step leads to such a state, whatever command it takes. -/
def Obligations.MemoryStaysCanonical : Prop :=
  ∀ (s t : State), memoryWf s = true → step s = .next t → memoryWf t = true

/-- R1: every step takes the front command and no other off the queue, whatever the command does, and no command changes the variant that is fused
into the module. -/
def Obligations.StepsKeepQueueAndVariant : Prop :=
  ∀ (s t : State), step s = .next t → t.pending = s.pending.tail ∧ t.variant = s.variant

/-- R2, R7, R8, R13, R28, R545, R14, R45: a read of a register in the block of an absent unit returns 0 and has no side effect; an accepted write
sets its field and nothing else; a write that sets a reserved bit changes no register of its own and leaves one ERROR record with 0x0102; a preset
that meets an increment gives their sum; a read of an RC field returns it and leaves in it only what the hardware set meanwhile; every monitor of a
present hall group shows the count of its window. A 4-byte read of a snapshot counter's low word returns it and copies both words into the
requester's latch; a read of its high word returns what the latch holds, whatever the counter reads by then; an 8-byte read returns the counter and
leaves the latch. What the manual leaves open in it is the model's choice: log entries 12 and 41. -/
def Obligations.RegistersAnswerAndKeep : Prop :=
  ((∀ (s : State) (v : W64), barAnswers s (.fn 0) 0x200040 true = true → v.toNat < 2 ^ 32 →
    ∃ t, exec (.registerWrite (.fn 0) 0x200040 4 v 0 0) s = .next t ∧ getR t .wngAdmMarginNs = v.toNat ∧
      regsKeptBut s t (regKey 0 .wngAdmMarginNs 0 0) ∧ t = { s with regs := t.regs }) ∧
  (∀ (s : State) (v hwSet : W64), barAnswers s (.fn 0) 0x10080 true = true → v.toNat < 2 ^ 32 → 2 ^ 16 ≤ v.toNat →
    exec (.registerWrite (.fn 0) 0x10080 4 v hwSet 0) s = .next (postEvent s 0 2 0x0102 0x10080 v.toNat 0 0)) ∧
  (∀ (s : State) (v : W64) (n : Nat), barAnswers s (.fn 0) 0x101004 true = true → v.toNat < 2 ^ 32 →
    ∃ t, exec (.registerWrite (.fn 0) 0x101004 4 v 0 n) s = .next t ∧ getR t .vstFnRefused = (v.toNat + n) % 2 ^ 32 ∧
      regsKeptBut s t (regKey 0 .vstFnRefused 0 0) ∧ t = { s with regs := t.regs }) ∧
  (∀ (s : State) (e : Nat) (hwSet : W64), e < 32 → present s .engine e = true →
    barAnswers s (.fn 0) (0x2000028 + 0x10000 * e) false = true → getR s .colEccCorrected e < 2 ^ 32 →
    ∃ t, exec (.rcRead (.fn 0) (0x2000028 + 0x10000 * e) hwSet) s = .next t ∧
      t.readData.toNat = getR s .colEccCorrected e ∧ getR t .colEccCorrected e = hwSet.toNat % 2 ^ 32 ∧
      regsKeptBut s t (regKey 0 .colEccCorrected e 0) ∧ t = { s with regs := t.regs, readData := t.readData }) ∧
  (∀ (s : State) (who : Requester) (off o size : Nat) (hwSet : W64), barAnswers s who off false = true → pfOffset who off = some o →
    absentAt s o = true →
    (off % 4 = 0 → exec (.rcRead who off hwSet) s = .next { s with readData := 0 }) ∧
    (size = 4 ∨ size = 8 → off % size = 0 → exec (.snapLowRead who off size) s = .next { s with readData := 0 })) ∧
  (∀ (s : State) (counts : List Nat), mainUp s = true → quiet s →
    ∃ t, exec (.paceWindow counts) s = .next t ∧
      ∀ n, n < 32 → getR t .pceMon n = if bit (fuseWord s.variant 6) (16 + n / 2) then min (counts.getD n 0) 0xFFFF else getR s .pceMon n)) ∧
  (∀ (s : State), barAnswers s (.fn 0) 0x180008 false = true →
    (∃ t, exec (.snapLowRead (.fn 0) 0x180008 4) s = .next t ∧ t.readData.toNat = getR s .vstLinkDowns % 2 ^ 32 ∧
      latched t (.fn 0) .vstLinkDowns 0 0 = getR s .vstLinkDowns ∧ t = { s with latch := t.latch, readData := t.readData }) ∧
    (barAnswers s (.fn 0) 0x18000C false = true →
      ∃ t, exec (.snapLowRead (.fn 0) 0x18000C 4) s = .next t ∧
        t.readData.toNat = latched s (.fn 0) .vstLinkDowns 0 0 / 2 ^ 32 ∧ t = { s with readData := t.readData }) ∧
    ∃ t, exec (.snapLowRead (.fn 0) 0x180008 8) s = .next t ∧ t.readData.toNat = getR s .vstLinkDowns ∧
      t = { s with readData := t.readData })

/-- R49: COLL_CREATE makes the collection that its descriptor gives, with epoch 0 and no records, and no other; COLL_INFO writes the collection's
descriptor to the buffer that it names and to no other byte. Each completes with 0x0000. What the manual leaves open in it is the model's choice:
log entries 5 and 29. -/
def Obligations.CollectionsAreCreatedAndShown : Prop :=
  (∀ (s : State) (id : Nat) (c : Cmd), ready s id 0x01 c →
    let u := started s id
    let d := hostRead u (hostOf (c.num 16 8)) 64
    collCreateFail c u = none → creditsReady u (cmdWing u c) id (64 + 2 * numAt d 6 2) →
    ∃ t, exec (.collCreate id) s = .next t ∧ ended t id = some (plain 0x0000) ∧
      collOf t (numAt d 0 2) =
        some (newColl c d (wordsOf 2 (numAt d 6 2) (hostRead u (hostOf (c.num 24 8)) (2 * numAt d 6 2)))) ∧
      (∀ k, k ≠ numAt d 0 2 → collOf t k = collOf s k) ∧ t = { s with vst := t.vst, store := t.store }) ∧
  (∀ (s : State) (id : Nat) (c : Cmd) (x : Coll), ready s id 0x04 c →
    collInfoFail c (started s id) = none → collOf s (c.num 16 2) = some x →
    ∃ t, exec (.collInfo id) s = .next t ∧ ended t id = some (plain 0x0000) ∧
      hostRead t (hostOf (c.num 24 8)) 64 = collDescriptor s (c.num 16 2) x ∧
      hostKeptOutside s t (hostOf (c.num 24 8)) 64 ∧ t = { s with host := t.host, vst := t.vst })

/-- R50, R56, R367, R549: COLL_SET binds a collection to a map; COLL_EXTEND adds its bays at once where the hall's Stair does not run, and keeps
the addition for the next Landing where it does; COLL_DESTROY of a collection without bays frees its number; PERMIT_WRITE makes a new current
version of a permit map. What the manual leaves open in it is the model's choice: log entries 5, 7 and 26. -/
def Obligations.CollectionsChange : Prop :=
  (∀ (s : State) (id : Nat) (c : Cmd) (x : Coll), ready s id 0x02 c →
    collSetFail c (started s id) = none → collOf s (c.num 16 2) = some x → c.num 18 1 = 2 → c.num 19 1 ≠ 0xFF →
    creditsReady (started s id) x.wing id 64 →
    ∃ t, exec (.collSet id) s = .next t ∧ ended t id = some (plain 0x0000) ∧
      collOf t (c.num 16 2) = some { x with mapId := some (c.num 19 1) } ∧
      (∀ k, k ≠ c.num 16 2 → collOf t k = collOf s k) ∧ t = { s with vst := t.vst, store := t.store }) ∧
  (∀ (s : State) (id : Nat) (c : Cmd) (x : Coll), ready s id 0x03 c →
    collExtendFail c (started s id) = none → collOf s (c.num 16 2) = some x → c.num 19 1 = 0 →
    creditsReady (addExtent (started s id) (c.num 18 1) (c.num 16 2) (c.num 20 4)) x.wing id 64 →
    ∃ t, exec (.collExtend id) s = .next t ∧ t = { s with vst := t.vst, store := t.store, halls := t.halls } ∧
      ((stair s (c.num 18 1)).running = false →
        ended t id = some (plain 0x0000) ∧
          segBays t (c.num 16 2) (c.num 18 1) = segBays s (c.num 16 2) (c.num 18 1) + c.num 20 4) ∧
      ((stair s (c.num 18 1)).running = true →
        ended t id = none ∧ segBays t (c.num 16 2) (c.num 18 1) = segBays s (c.num 16 2) (c.num 18 1) ∧
          (stair t (c.num 18 1)).changes = (stair s (c.num 18 1)).changes ++ [.add id (c.num 16 2) (c.num 20 4)])) ∧
  (∀ (s : State) (id : Nat) (c : Cmd) (x : Coll), ready s id 0x05 c →
    collDestroyFail c (started s id) = none → collOf s (c.num 16 2) = some x →
    (∀ h, h < 16 → segBays s (c.num 16 2) h = 0) → creditsReady (started s id) x.wing id 64 →
    ∃ t, exec (.collDestroy id) s = .next t ∧ ended t id = some (plain 0x0000) ∧ collOf t (c.num 16 2) = none ∧
      (∀ k, k ≠ c.num 16 2 → collOf t k = collOf s k) ∧ t = { s with vst := t.vst, store := t.store }) ∧
  (∀ (s : State) (id : Nat) (c : Cmd) (x : Coll), ready s id 0x08 c →
    let u := started s id
    let len := ((maskHalls x.halls).map (permitBytes u (c.num 16 2))).sum
    permitWriteFail c u = none → collOf s (c.num 16 2) = some x → c.num 20 1 = 0 →
    creditsReady u (cmdWing u c) id (64 + len) →
    ∃ t, exec (.permitWrite id) s = .next t ∧ ended t id = some (plain 0x0000) ∧
      tget (fun _ => none) t.store.permits s.store.nextVer =
        some ⟨c.num 16 2, c.num 18 2, true, readMaps s (c.num 16 2) (maskHalls x.halls) (memRead s (c.num 24 8) len)⟩ ∧
      t = { s with vst := t.vst, store := t.store })

/-- R65, R66, R68, R69, R551: COMPACT and REBASE take their places at the collection's write point; a pass that holds its credits copies the record
with insert epoch E + 1, deletes the original at E + 1 and ends with one epoch advance; the rewrite of a rebase gives every live record insert
epoch 1, frees what the rebase's epoch deleted, restarts the epoch at 1 and completes the REBASE commands. What the manual leaves open in it is the
model's choice: log entries 5 and 46. -/
def Obligations.CompactionAndRebase : Prop :=
  (∀ (s : State) (id : Nat) (c : Cmd) (x : Coll), ready s id 0x06 c →
    compactFail c (started s id) = none → collOf s (c.num 16 2) = some x →
    ∃ t, exec (.compact id) s = .next t ∧ ended t id = none ∧
      collOf t (c.num 16 2) =
        some { x with writers := x.writers ++ [id], compactHalls := c.num 18 2, compactUid := s.store.nextUid } ∧
      (∃ k : Compaction, k.cmd = id ∧ k.coll = c.num 16 2 ∧ k.halls = c.num 18 2 ∧ t.store.compactions = s.store.compactions ++ [k]) ∧
      t = { s with vst := t.vst, store := t.store }) ∧
  (∀ (s : State) (id l f : Nat) (k : Compaction) (x : Coll), findCompaction s id = some k → k.cmd = id → collOf s k.coll = some x →
    k.planned = true → atLanding s k.hall = true → (journal s x.wing).granted.any (fun g => g.1 == id) = true →
    k.plan = [(l, f)] → l ≠ f →
    ∃ t y, exec (.compactionPass id []) s = .next t ∧ collOf t k.coll = some y ∧ y.epoch = x.epoch + 1 ∧
      y.slot k.hall f = { x.slot k.hall l with ins := x.epoch + 1 } ∧
      y.slot k.hall l = { x.slot k.hall l with del := x.epoch + 1 } ∧
      (∀ i, i ≠ l → i ≠ f → y.slot k.hall i = x.slot k.hall i) ∧ (∀ n, n ≠ k.coll → collOf t n = collOf s n)) ∧
  (∀ (s : State) (id : Nat) (c : Cmd) (x : Coll), ready s id 0x07 c →
    rebaseFail c (started s id) = none → collOf s (c.num 16 2) = some x → x.rebase = .idle → x.rebaseCmds = [] →
    ∃ t, exec (.rebase id) s = .next t ∧ ended t id = none ∧
      collOf t (c.num 16 2) = some { x with rebaseCmds := [id], writers := x.writers ++ [id] } ∧
      (∀ n, n ≠ c.num 16 2 → collOf t n = collOf s n) ∧ t = { s with vst := t.vst, store := t.store }) ∧
  (∀ (s : State) (coll : Nat) (x : Coll), collOf s coll = some x → x.rebase ≠ .idle → heldViews s coll = [] →
    ∃ t y, exec (.rebaseRewrite coll) s = .next t ∧ collOf t coll = some y ∧ y.epoch = 1 ∧ y.rebase = .idle ∧ y.epochHigh = false ∧
      (∀ e ∈ y.slots, ∃ r ∈ x.slots, r.1 = e.1 ∧ e.2 ≠ freeSlot ∧
        (r.2.live = true → e.2 = { r.2 with ins := 1 })) ∧
      (∀ r ∈ x.slots, r.2.live = true → (r.1, { r.2 with ins := 1 }) ∈ y.slots) ∧
      (∀ id, id ∈ x.rebaseCmds → (findCmd s id).isSome → ended s id = none → ended t id = some (plain 0x0000)) ∧
      t = { s with vst := t.vst, store := t.store })

/-- R384, R385, R386, R389, R548: a store command that passes its checks takes its place at the write point and changes nothing else of the
collection; an INSERT of one record at the front of the write point writes it with insert epoch E + 1 into the slot that it chooses, touches no
other slot, advances the epoch by one and completes with the epoch in A, its count in B and its commit in C; a rebuilt directory line leaves the
bad-line table. What the manual leaves open in it is the model's choice: log entries 5 and 46. -/
def Obligations.StoreCommandsWriteInOrder : Prop :=
  (∀ (s : State) (id : Nat) (c : Cmd) (x : Coll), ready s id 0x10 c → storeFail 0x10 c (started s id) = none →
    collOf s (c.num 16 2) = some x →
    ∃ t, exec (.insert id) s = .next t ∧ ended t id = none ∧ collOf t (c.num 16 2) = some { x with writers := x.writers ++ [id] } ∧
      t = { s with vst := t.vst, store := t.store }) ∧
  (∀ (s : State) (id : Nat) (c : Cmd) (x : Coll), ready s id 0x11 c → storeFail 0x11 c (started s id) = none →
    collOf s (c.num 16 2) = some x →
    ∃ t, exec (.delete id) s = .next t ∧ ended t id = none ∧ collOf t (c.num 16 2) = some { x with writers := x.writers ++ [id] } ∧
      t = { s with vst := t.vst, store := t.store }) ∧
  (∀ (s : State) (id : Nat) (c : Cmd) (x : Coll), ready s id 0x12 c → storeFail 0x12 c (started s id) = none →
    collOf s (c.num 16 2) = some x →
    ∃ t, exec (.upsert id) s = .next t ∧ ended t id = none ∧ collOf t (c.num 16 2) = some { x with writers := x.writers ++ [id] } ∧
      t = { s with vst := t.vst, store := t.store }) ∧
  (∀ (s : State) (coll id h i : Nat) (rest : List Nat) (c : Cmd) (x : Coll), collOf s coll = some x → x.rebase = .idle →
    x.rebuilding = false → x.writers = id :: rest → (journal s x.wing).waiters = [] → findCompaction s id = none →
    id ∉ x.rebaseCmds → findCmd s id = some c → c.done = none → c.opcode = 0x10 → c.num 20 4 = 1 → x.epoch < 0xFFFFFFFE →
    x.chosen = [] → chooseSlots s coll x 1 = some [(h, i)] → i < 2 ^ 30 →
    creditsReady s x.wing id (stagedBytes x [slotKey h i] []) → halted s h = false →
    ∃ t y, exec (.storeWritePoint coll false none) s = .next t ∧ collOf t coll = some y ∧ y.epoch = x.epoch + 1 ∧ y.writers = rest ∧
      y.slot h i = entryRecord x (sourceEntry x 0x10 0 c.buf 0) (x.epoch + 1) ∧
      (∀ k, k ≠ slotKey h i → tget (fun _ => freeSlot) y.slots k = tget (fun _ => freeSlot) x.slots k) ∧
      ended t id = some ⟨0x0000, x.epoch + 1, 1, jseq s x.wing, 0, 0⟩ ∧ (∀ n, n ≠ coll → collOf t n = collOf s n)) ∧
  (∀ (s : State) (coll hall line : Nat) (members : List Nat) (x : Coll), collOf s coll = some x → x.rebuilding = true →
    ∃ t y, exec (.directoryRebuild coll hall line members) s = .next t ∧ collOf t coll = some y ∧ y.rebuilding = false ∧
      lineHeld t hall (.dir coll line) = false ∧ y.slots = x.slots ∧ t = { s with store := t.store, halls := t.halls })

/-- R390, R391, R392, R395, R396, R397: the first waiting store command takes its credits when they are free and its wait is counted; a FLUSH with
nothing to cover completes at once with the durable sequence number and the collection's epoch; an automatic commit covers what is staged under the
next sequence number; a completed commit makes its number durable; a checkpoint waits for a later commit to count; a recovered wing stands at its
last durable commit. What the manual leaves open in it is the model's choice: log entries 62 and 104. -/
def Obligations.JournalMakesDurable : Prop :=
  (∀ (s : State) (w id n since : Nat) (rest : List (Nat × Nat × Nat)) (c : Cmd), (journal s w).waiters = (id, n, since) :: rest →
    creditsUsed s w + n ≤ getR s .ucrWCredits w → findCmd s id = some c → c.done = none → c.opcode ∈ [0x10, 0x11, 0x12] →
    ∃ t, exec (.journalCreditsFree w) s = .next t ∧ (journal t w).waiters = rest ∧
      (journal t w).granted = (journal s w).granted ++ [(id, n)] ∧
      getR t .ucrWCreditWaitNs w = (getR s .ucrWCreditWaitNs w + (s.now - since)) % 2 ^ 64 ∧
      regsKeptBut s t (regKey 0 .ucrWCreditWaitNs w 0) ∧ t = { s with regs := t.regs, store := t.store }) ∧
  (∀ (s : State) (id w since : Nat) (c : Cmd), findCmd s id = some c → creditWait s id = some (w, since) → c.delayed = false →
    let u := { s with now := max s.now (since + 1000 * getR s .wngTDelay c.tenant) }
    exec (.creditWaitDelay id) s =
      .next (postRecord (modCmd (drawFree u) c.id fun x => { x with delayed := true }) c.fn c.eq
        ⟨3, c.sq, 0x0201, c.tag, (Config.freeValue s.free).toNat, 0, 0, 0, 0⟩)) ∧
  (∀ (s : State) (id : Nat) (c : Cmd) (x : Coll), ready s id 0x13 c → flushFail c (started s id) = none → c.num 16 2 ≠ 0xFFFF →
    collOf s (c.num 16 2) = some x → health s < 2 → (journal s (cmdWing s c)).running = false →
    (journal s (cmdWing s c)).dirty = false →
    ∃ t, exec (.flush id) s = .next t ∧ ended t id = some ⟨0x0000, 0, 0, getR s .ucrWDurableSeq (cmdWing s c), x.epoch, 0⟩ ∧
      t = { s with vst := t.vst }) ∧
  (∀ (s : State) (w : Nat), hasUndercroft s = true → w < wingCount s → (journal s w).recovering = false →
    (journal s w).running = false → 0 < (journal s w).uncovered → health s < 2 → uncopied s w = [] →
    ∃ t, exec (.autoCommit w) s = .next t ∧ (journal t w).running = true ∧ (journal t w).seq = (journal s w).seq + 1 ∧
      (journal t w).covered = (journal s w).covered + (journal s w).uncovered ∧ (journal t w).uncovered = 0 ∧
      t = { s with now := t.now, store := t.store }) ∧
  (∀ (s : State) (w spare : Nat), hasUndercroft s = true → (journal s w).running = true → (journal s w).seq < 2 ^ 64 →
    (journal s w).flushes = [] → (journal s w).waiters = [] → (journal s w).again = false → (journal s w).uncovered = 0 →
    ∃ t, exec (.commitComplete w spare .ok) s = .next t ∧ getR t .ucrWDurableSeq w = (journal s w).seq ∧
      (journal t w).running = false ∧ (journal t w).covered = 0 ∧ (journal t w).durableImage = (journal s w).cutImage) ∧
  (∀ (s : State) (w n : Nat), hasUndercroft s = true → w < wingCount s → health s < 2 → 0 < n → (journal s w).recovering = false →
    getR s .ucrWUsed w + 16384 * n ≤ getR s .wngWQuota w → getR s .ucrWUsed w + 16384 * n < 2 ^ 64 →
    ∃ t, exec (.checkpoint w (16384 * n)) s = .next t ∧ getR t .ucrWUsed w = getR s .ucrWUsed w + 16384 * n ∧
      (journal t w).newCkpts = (journal s w).newCkpts ++ [(16384 * n, (journal s w).seq)]) ∧
  (∀ (s : State) (w : Nat), w < 16 → (journal s w).recovering = true → bit (getR s .devBoot) 8 = true →
    ∃ t, exec (.wingRecovery w) s = .next t ∧ (journal t w).recovering = false ∧ (journal t w).seq = getR s .ucrWDurableSeq w ∧
      getR t .ucrWRecoveredSeq w = getR s .ucrWDurableSeq w)

/-- R46, R55, R70, R82, R86, R90: SWEEP_ENABLE makes the Stair run where a spill ring is set; SWEEP_PAUSE holds the head and keeps the treads
aboard; a bay boundary inside an extent moves the head by one bay; a record that is visible and permitted joins the candidates of a tread when its
distance passes neither threshold nor radius, and adds its distance to the remainder otherwise. What the manual leaves open in it is the model's
choice: log entry 5. -/
def Obligations.StairStreamsBays : Prop :=
  (∀ (s : State) (who : Requester) (h : Nat), h < 16 → present s .hall h = true →
    (stagedR s .trnSpillSize h).getD (getR s .trnSpillSize h) ≠ 0 →
    ∃ t, exec (.sweepEnable who h) s = .next t ∧ (stair t h).running = true ∧ fieldR t .strCtrl 0 1 h = 1 ∧
      (stair t h).treads = (stair s h).treads ∧ t = { s with regs := t.regs, halls := t.halls }) ∧
  (∀ (s : State) (h : Nat), h < 16 → present s .hall h = true →
    ∃ t, exec (.sweepPause h) s = .next t ∧ (stair t h).running = (stair s h).running ∧ fieldR t .strCtrl 0 1 h = 0 ∧
      (stair t h).treads = (stair s h).treads ∧ t = { s with regs := t.regs, halls := t.halls }) ∧
  (∀ (s : State) (h : Nat) (x : Extent), h < 16 → present s .hall h = true → mayMove s h = true → quiet s →
    (stair s h).treads = [] → (stair s h).landing = [] → getR s .trnSpillSize h = 0 →
    (stair s h).extents[(stair s h).headExt]? = some x → (collOf s x.coll).isSome → (stair s h).headBay + 1 < x.bays →
    ∃ t, exec (.bayStream h []) s = .next t ∧ (stair t h).headBay = (stair s h).headBay + 1 ∧
      (stair t h).headExt = (stair s h).headExt ∧ (stair t h).extents = (stair s h).extents) ∧
  (∀ (s : State) (h uid bay i n : Nat) (c : Coll) (q : Query) (x : Tread), treadOf (stair s h) n = x → x.quarter = none →
    findQuery s x.ctx = some q → recordSkipped s h uid bay i c.width q.permitVer = false →
    (c.slot h i).visible (q.view.getD 0) = true → permitted s h i q = true → poolBlocks (stair s h) < 16384 →
    let d := hamming c.width (c.slot h i).code q.code
    treadOf (stair (compareRecord s h uid bay i c n) h) n =
      if d ≤ min x.thresh q.radius then { x with examined := x.examined + 1, cands := x.cands ++ [⟨d, i⟩] }
      else { x with examined := x.examined + 1, remSum := x.remSum + d })

/-- R81, R83, R85, R86, R97, R100, R101, R470: a selection pass keeps the k best candidates in the order of R97 and no other; final selection adds
the hall's record to the query and frees its candidates; the spill path frees its units of the ring and does the same; the delay threshold is
counted once for the account. What the manual leaves open in it is the model's choice: log entries 47 and 49. -/
def Obligations.TurnstileSelects : Prop :=
  (∀ (s : State) (h n : Nat) (x : Tread) (q : Query), treadOf (stair s h) n = x → x.state = .aboard → x.passQueued = true →
    findQuery s x.ctx = some q → (ctl s h).badLines = [] →
    let best := (sortBy Ranked.before (rankAll s q.coll h (withinRadius q.radius x.cands))).take q.k
    ∃ t y, exec (.selectionPass h n []) s = .next t ∧ treadOf (stair t h) n = y ∧
      y.cands = best.map (fun c => ⟨c.dist, c.slot⟩) ∧ y.passQueued = false ∧ y.thresh ≤ x.thresh ∧ y.skipped = x.skipped ∧
      (∀ m, m ≠ n → treadOf (stair t h) m = treadOf (stair s h) m) ∧ t = { s with halls := t.halls }) ∧
  (∀ (s : State) (h ctx d : Nat) (a : Alighted) (q : Query), alightedOf s h ctx = some a → findQuery s ctx = some q → a.spilled = false → a.skipped ≤ 0xFFFF →
    (ctl s h).badLines = [] → s.store.queries = [q] → s.store.newel = [] → s.store.ended = [] → q.source = .board d →
    q.recs.length + 1 < q.halls →
    ∃ t, exec (.finalSelection h ctx []) s = .next t ∧ findQuery t ctx = some { q with recs := q.recs ++ [finalRecord s h q a] } ∧
      alightedOf t h ctx = none ∧ t = { s with store := t.store, halls := t.halls }) ∧
  (∀ (s : State) (h ctx d units : Nat) (a : Alighted) (q : Query), h < 16 → alightedOf s h ctx = some a → findQuery s ctx = some q →
    (ctl s h).badLines = [] → s.store.queries = [q] → s.store.newel = [] → s.store.ended = [] → q.source = .board d →
    q.recs.length + 1 < q.halls →
    ∃ t r, exec (.spillFinish h ctx units []) s = .next t ∧ findQuery t ctx = some { q with recs := q.recs ++ [r] } ∧
      r.entries = (finalRecord s h q a).entries ∧ alightedOf t h ctx = none ∧
      (stair t h).spillCons = min (stair s h).spillProd ((stair s h).spillCons + 256 * units)) ∧
  (∀ (s : State) (ctx : Nat) (q : Query), findQuery s ctx = some q → q.waiting ≠ 0 → q.delayed = false → q.account < 128 →
    ∃ t, exec (.delayThreshold ctx) s = .next t ∧ (findQuery t ctx).any (fun x => x.delayed) = true ∧
      getR t .wngTDelayed q.account = (getR s .wngTDelayed q.account + 1) % 2 ^ 64)

/-- R268, R269, R274, R276, R277, R279: a valid temperature sets the hall's reading and its thermal state and clears the sensor fault; the missing
sensor takes the hall to step 3; a refresh round takes the interval of the thermal step; the patrol moves on by one line; a repair leaves the
queue; a partial write opens a write-combining entry, and a timeout or a close request closes it and sends its merge. What the manual leaves open
in it is the model's choice: log entry 50. -/
def Obligations.HallMemoryIsKept : Prop :=
  (∀ (s : State) (h : Nat) (x : Int), h < 16 → present s .hall h = true → quiet s →
    ∃ t, exec (.tempSample h x) s = .next t ∧ getR t .halTemp h = ofSigned 16 ((4 * x + 50) / 100) ∧
      heatState t h = nextHeat (heatState s h) (bit (getR s .halStatus h) 3) ((4 * x + 50) / 100) ∧
      bit (getR t .halStatus h) 3 = false) ∧
  (∀ (s : State) (h : Nat), h < 16 → present s .hall h = true → quiet s → heatState s h < 3 →
    ∃ t, exec (.sensorTimeout h) s = .next t ∧ heatState t h = 3 ∧ bit (getR t .halStatus h) 3 = true) ∧
  (∀ (s : State) (h : Nat), h < 16 → present s .hall h = true → selfRefresh s h = false →
    ∃ t, exec (.refreshRound h) s = .next t ∧ (ctl t h).round = (if thermalStep s h = 0 then 3900000 else 1950000) ∧
      t = { s with regs := t.regs, staged := t.staged, halls := t.halls }) ∧
  (∀ (s : State) (h : Nat), h < 16 → present s .hall h = true → bit (getR s .halScrubCfg h) 0 = true → thermalStep s h < 3 →
    selfRefresh s h = false → 0 < getR s .halScrubPos h → getR s .halScrubPos h + 1 < 805306368 →
    ∃ t, exec (.scrubLine h none ⟨[], false⟩) s = .next t ∧ getR t .halScrubPos h = getR s .halScrubPos h + 1 ∧
      regsKeptBut s t (regKey 0 .halScrubPos h 0) ∧ t = { s with regs := t.regs }) ∧
  (∀ (s : State) (h : Nat) (l : LineAt) (ls : List LineAt), (ctl s h).repairs = l :: ls → lineHeld s h l = false →
    ∃ t, exec (.repair h ⟨[], false⟩) s = .next t ∧ (ctl t h).repairs = ls ∧ (ctl t h).mem = (ctl s h).mem ∧
      t = { s with halls := t.halls }) ∧
  (∀ (s : State) (u line mask : Nat) (data : List Byte), hostLine line = false → present s .hall (lineHall line) = true →
    mask < 2 ^ 64 - 1 → data.length = 64 → ((ctl s (lineHall line)).wcb.find? fun e => e.line == line && !e.closed) = none →
    (ctl s (lineHall line)).wcb.length < 64 →
    ∃ t, exec (.wcbPartialWrite (some u) line mask data) s = .next t ∧
      (ctl t (lineHall line)).wcb = (ctl s (lineHall line)).wcb ++
        [⟨line, mask, mergeMask mask [] data, [.usher u], s.now, getR s .halWcbCfg (lineHall line), false⟩] ∧
      t = { s with halls := t.halls }) ∧
  (∀ (s : State) (line : Nat) (e : WcbEntry), ((ctl s (lineHall line)).wcb.find? fun x => x.line == line && !x.closed) = some e →
    ∃ t, exec (.wcbTimeout line) s = .next t ∧ e.opened + e.timeout ≤ t.now ∧
      (ctl t (lineHall line)).wcb = ((ctl s (lineHall line)).wcb.map fun x => if x == e then { x with closed := true } else x) ∧
      (∃ q : HomeReq, q.kind = .wrMerge ∧ q.line = line ∧ q.mask = e.mask ∧ q.data = e.data ∧ t.mzn.msgs = s.mzn.msgs ++ [.req q])) ∧
  (∀ (s : State) (line : Nat) (e : WcbEntry), ((ctl s (lineHall line)).wcb.find? fun x => x.line == line && !x.closed) = some e →
    ∃ t, exec (.wcbCloseRequest line) s = .next t ∧
      (ctl t (lineHall line)).wcb = ((ctl s (lineHall line)).wcb.map fun x => if x == e then { x with closed := true } else x) ∧
      (∃ q : HomeReq, q.kind = .wrMerge ∧ q.line = line ∧ q.mask = e.mask ∧ q.data = e.data ∧ t.mzn.msgs = s.mzn.msgs ++ [.req q]) ∧
      t = { s with regs := t.regs, halls := t.halls, mzn := t.mzn })

/-- R298, R299, R300, R301: ALU, the instructions with an immediate, LI and LIH write what the manual's tables say into their destination, nothing
into s0, and the program goes on with the next instruction; a reserved value raises ILLEGAL with 0x0101, a set bit of a field that must be 0 raises
it with 0x0102, and a word that no row decodes raises it with 0x0101. What the manual leaves open in it is the model's choice: log entries 19 and
20. -/
def Obligations.UshersComputeIntegers : Prop :=
  (∀ (s t : State) (u w : Nat), atInsn s u .alu t w → fPG w = 0 → fFN w < 25 → (21 ≤ fFN w → fFN w ≤ 23 → fB w = 0) →
    let a := sreg t u (fA w)
    let b := sreg t u (fB w)
    ∃ r : W64, exec (.alu u) s = .next (advanced s (putS t u (fD w) r.toNat) u w) ∧
      (fFN w = 0 → r = a + b) ∧ (fFN w = 1 → r = a - b) ∧ (fFN w = 2 → r = a &&& b) ∧ (fFN w = 3 → r = a ||| b) ∧
      (fFN w = 4 → r = a ^^^ b) ∧ (fFN w = 5 → r = a <<< (b.toNat % 64)) ∧ (fFN w = 6 → r = a >>> (b.toNat % 64)) ∧
      (fFN w = 7 → r = a.sshiftRight (b.toNat % 64)) ∧ (fFN w = 8 → r = if a.slt b then 1 else 0) ∧
      (fFN w = 9 → r = if a.ult b then 1 else 0) ∧ (fFN w = 10 → r = a * b) ∧
      (fFN w = 11 → r.toNat = a.toNat * b.toNat / 2 ^ 64) ∧ (fFN w = 12 → r.toInt = Int.fdiv (a.toInt * b.toInt) (2 ^ 64)) ∧
      (fFN w = 13 → r = if b = 0 then -1 else a.sdiv b) ∧ (fFN w = 14 → r = if b = 0 then -1 else a / b) ∧
      (fFN w = 15 → r = if b = 0 then a else a.srem b) ∧ (fFN w = 16 → r = if b = 0 then a else a % b) ∧
      (fFN w = 17 → r = if a.slt b then a else b) ∧ (fFN w = 18 → r = if a.slt b then b else a) ∧
      (fFN w = 19 → r.toNat = min a.toNat b.toNat) ∧ (fFN w = 20 → r.toNat = max a.toNat b.toNat) ∧
      (fFN w = 21 → r.toNat ≤ 64 ∧ a.toNat < 2 ^ (64 - r.toNat) ∧ (r.toNat < 64 → 2 ^ (63 - r.toNat) ≤ a.toNat)) ∧
      (fFN w = 22 → r.toNat ≤ 64 ∧ 2 ^ r.toNat ∣ a.toNat ∧ (r.toNat < 64 → a.toNat / 2 ^ r.toNat % 2 = 1)) ∧
      (fFN w = 23 → r.toNat = ((List.range 64).filter fun i => a.getLsbD i).length) ∧
      (fFN w = 24 → r = ((a + b).setWidth 32).signExtend 64)) ∧
  (∀ (s t : State) (u w : Nat), atInsn s u .addi t w →
    exec (.addi u) s = .next (advanced s (putS t u (fD w) (sreg t u (fA w) + ((BitVec.ofNat 15 (bits w 17 15)).signExtend 64)).toNat) u w)) ∧
  (∀ (s t : State) (u w : Nat), atInsn s u .andi t w →
    exec (.andi u) s = .next (advanced s (putS t u (fD w) (sreg t u (fA w) &&& ((BitVec.ofNat 15 (bits w 17 15)).signExtend 64)).toNat) u w)) ∧
  (∀ (s t : State) (u w : Nat), atInsn s u .ori t w →
    exec (.ori u) s = .next (advanced s (putS t u (fD w) (sreg t u (fA w) ||| ((BitVec.ofNat 15 (bits w 17 15)).signExtend 64)).toNat) u w)) ∧
  (∀ (s t : State) (u w : Nat), atInsn s u .xori t w →
    exec (.xori u) s = .next (advanced s (putS t u (fD w) (sreg t u (fA w) ^^^ ((BitVec.ofNat 15 (bits w 17 15)).signExtend 64)).toNat) u w)) ∧
  (∀ (s t : State) (u w : Nat), atInsn s u .slti t w →
    exec (.slti u) s = .next (advanced s (putS t u (fD w)
      (if (sreg t u (fA w)).slt ((BitVec.ofNat 15 (bits w 17 15)).signExtend 64) then 1 else 0)) u w)) ∧
  (∀ (s t : State) (u w : Nat), atInsn s u .shi t w → bits w 25 7 = 0 → bits w 23 2 < 3 →
    let a := sreg t u (fA w)
    ∃ r : W64, exec (.shi u) s = .next (advanced s (putS t u (fD w) r.toNat) u w) ∧
      (bits w 23 2 = 0 → r = a <<< bits w 17 6) ∧ (bits w 23 2 = 1 → r = a >>> bits w 17 6) ∧
      (bits w 23 2 = 2 → r = a.sshiftRight (bits w 17 6))) ∧
  (∀ (s t : State) (u w : Nat), atInsn s u .li t w → bits w 12 20 = 0 →
    exec (.li u) s = .next (advanced s (putS t u (fD w) ((BitVec.ofNat 32 (bits w 32 32)).signExtend 64).toNat) u w)) ∧
  (∀ (s t : State) (u w : Nat), atInsn s u .lih t w → bits w 12 20 = 0 →
    exec (.lih u) s = .next (advanced s (putS t u (fD w) (bits w 32 32 * 2 ^ 32 + getS t u (fD w) % 2 ^ 32)) u w)) ∧
  (∀ (s t : State) (u w : Nat), atInsn s u .alu t w →
    (25 ≤ fFN w → exec (.alu u) s = .next (raiseFault t u ⟨1, 0x0101, none⟩ none)) ∧
    (fFN w < 25 → fPG w ≠ 0 ∨ (21 ≤ fFN w ∧ fFN w ≤ 23 ∧ fB w ≠ 0) → exec (.alu u) s = .next (raiseFault t u ⟨1, 0x0102, none⟩ none))) ∧
  (∀ (s t : State) (u w : Nat), atInsn s u .shi t w →
    (bits w 23 2 = 3 → exec (.shi u) s = .next (raiseFault t u ⟨1, 0x0101, none⟩ none)) ∧
    (bits w 23 2 < 3 → bits w 25 7 ≠ 0 → exec (.shi u) s = .next (raiseFault t u ⟨1, 0x0102, none⟩ none))) ∧
  (∀ (s t : State) (u w : Nat) (op : UOp), atInsn s u op t w → bits w 12 20 ≠ 0 →
    (op = .li → exec (.li u) s = .next (raiseFault t u ⟨1, 0x0102, none⟩ none)) ∧
    (op = .lih → exec (.lih u) s = .next (raiseFault t u ⟨1, 0x0102, none⟩ none))) ∧
  (∀ (s t : State) (u w : Nat), present s .usher u = true → (usher s u).st = .running → fetchInsn s u (usher s u).pc.toNat = .ok t w →
    decodeOp w = none → ∀ i ∈ [Instr.alu u, .addi u, .shi u, .li u, .br u, .ld u], exec i s = .next (raiseFault t u ⟨1, 0x0101, none⟩ none)) ∧
  (∀ (t : State) (u d v i : Nat), v < 2 ^ 64 → getS (putS t u d v) u i = if i = d ∧ i ≠ 0 then v else getS t u i)

/-- R285, R304, R305, R306, R307, R308, R309: a floating-point instruction writes its result and only adds to the sticky flags; a vector
instruction forms each guarded lane from the lanes of its operands and keeps every other lane; VCMP writes the truth of each guarded lane at the
lane's bit of a predicate and clears every other bit; VRED reduces the guarded lanes, and writes 0 when there is none. What the manual leaves open
in it is the model's choice: log entries 17, 20 and 21. -/
def Obligations.UshersComputeOnLanes : Prop :=
  (∀ (s t : State) (u w : Nat), atInsn s u .fpu t w → fPG w = 0 → bits w 25 6 < 18 → (13 ≤ bits w 25 6 → bit w 31 = false) →
    (bits w 25 6 = 4 ∨ 10 ≤ bits w 25 6 → fB w = 0) →
    let r := fpuOp w (getS t u (fA w)) (getS t u (fB w))
    exec (.fpu u) s = .next (advanced s (putS (putFlags t u r.2) u (fD w) r.1) u w) ∧
      (usher t u).fpflags ||| (usher (putFlags t u r.2) u).fpflags = (usher (putFlags t u r.2) u).fpflags) ∧
  (∀ (s t : State) (u w : Nat), atInsn s u .varith t w → varithBad (fVT w) (fFN4 w) = false →
    (fFN4 w = 13 ∨ fFN4 w = 15 → fB w = 0) →
    let vt := fVT w
    ∃ v fl, exec (.varith u) s = .next (advanced s (putV (putFlags t u fl) u (fD w) v) u w) ∧ v.length = 256 ∧
      ∀ i, i < vtLanes vt → (lanesOf (vtBytes vt) (vtLanes vt) v).getD i 0 =
        if guarded t u vt (fPG w) i then
          (varithOp vt (fFN4 w) (lane t u vt (fA w) i) (lane t u vt (fB w) i)).1 % 2 ^ (8 * vtBytes vt)
        else lane t u vt (fD w) i) ∧
  (∀ (s t : State) (u w : Nat), atInsn s u .vcmp t w → fFN4 w < 8 → (4 ≤ fVT w → fFN4 w < 6) → bits w 10 2 = 0 →
    let vt := fVT w
    ∃ p fl, exec (.vcmp u) s = .next (advanced s (putP (putFlags t u (0, fl)) u (bits w 7 3) p) u w) ∧
      ∀ k, bit p k = (decide (k % vtBytes vt = 0 ∧ k < 256) && guarded t u vt (fPG w) (k / vtBytes vt) &&
        (vcmpOp vt (fFN4 w) (lane t u vt (fA w) (k / vtBytes vt)) (lane t u vt (fB w) (k / vtBytes vt))).1)) ∧
  (∀ (s t : State) (u w : Nat), atInsn s u .vcvt t w → fVT w ≠ bits w 28 3 → fB w = 0 → vtLanes (fVT w) = vtLanes (bits w 28 3) →
    bit w 31 = false →
    let vt := bits w 28 3
    ∃ v fl, exec (.vcvt u) s = .next (advanced s (putV (putFlags t u fl) u (fD w) v) u w) ∧ v.length = 256 ∧
      ∀ i, i < vtLanes vt → (lanesOf (vtBytes vt) (vtLanes vt) v).getD i 0 =
        if guarded t u vt (fPG w) i then (convElem (fVT w) vt (lane t u (fVT w) (fA w) i)).1 % 2 ^ (8 * vtBytes vt)
        else lane t u vt (fD w) i) ∧
  (∀ (s t : State) (u w : Nat), atInsn s u .vcvt t w → fVT w ≠ bits w 28 3 → fB w = 0 → vtLanes (fVT w) ≠ vtLanes (bits w 28 3) →
    let vt := bits w 28 3
    ∃ v fl, exec (.vcvt u) s = .next (advanced s (putV (putFlags t u fl) u (fD w) v) u w) ∧ v.length = 256 ∧
      ∀ i, i < vtLanes vt → (lanesOf (vtBytes vt) (vtLanes vt) v).getD i 0 =
        let n := min (vtLanes (fVT w)) (vtLanes vt)
        let from_ := if bit w 31 then (if vtLanes vt < vtLanes (fVT w) then some (n + i) else if n ≤ i ∧ i < 2 * n then some (i - n) else none)
          else if i < n then some i else none
        match guarded t u vt (fPG w) i, from_ with
        | true, some j => (convElem (fVT w) vt (lane t u (fVT w) (fA w) j)).1 % 2 ^ (8 * vtBytes vt)
        | _, _ => lane t u vt (fD w) i) ∧
  (∀ (s t : State) (u w : Nat), atInsn s u .vperm t w → (∀ b ∈ vpermZero w, b = false) → fFN4 w = 0 ∨ (3 ≤ fFN4 w ∧ fFN4 w ≤ 6) →
    let vt := fVT w
    ∃ v, exec (.vperm u) s = .next (advanced s (putV t u (fD w) v) u w) ∧ v.length = 256 ∧
      ∀ i, i < vtLanes vt → (lanesOf (vtBytes vt) (vtLanes vt) v).getD i 0 =
        (match guarded t u vt (fPG w) i, fFN4 w with
         | true, 0 => getS t u (fA w)
         | true, 3 => lane t u vt (fA w) i
         | false, 3 => lane t u vt (fB w) i
         | true, 4 => lane t u vt (fA w) (i + getS t u (fB w))
         | true, 5 => lane t u vt (fA w) (lane t u vt (fB w) i % vtLanes vt)
         | true, _ => i
         | false, _ => lane t u vt (fD w) i) % 2 ^ (8 * vtBytes vt)) ∧
  (∀ (s t : State) (u w : Nat), atInsn s u .vperm t w → (∀ b ∈ vpermZero w, b = false) → fFN4 w = 2 → getS t u (fB w) < vtLanes (fVT w) →
    let vt := fVT w
    ∃ v, exec (.vperm u) s = .next (advanced s (putV t u (fD w) v) u w) ∧ v.length = 256 ∧
      ∀ i, i < vtLanes vt → (lanesOf (vtBytes vt) (vtLanes vt) v).getD i 0 =
        if i = getS t u (fB w) ∧ guarded t u vt (fPG w) i = true then getS t u (fA w) % 2 ^ (8 * vtBytes vt) else lane t u vt (fD w) i) ∧
  (∀ (s t : State) (u w : Nat), atInsn s u .vperm t w → (∀ b ∈ vpermZero w, b = false) → 7 ≤ fFN4 w → fFN4 w ≤ 10 →
    ∃ p, exec (.vperm u) s = .next (advanced s (putP t u (bits w 7 3) p) u w) ∧
      ∀ k, bit p k =
        let x := guarded t u (fVT w) (bits w 12 3) (k / vtBytes (fVT w))
        let y := guarded t u (fVT w) (bits w 17 3) (k / vtBytes (fVT w))
        (decide (k % vtBytes (fVT w) = 0 ∧ k < 256) &&
          match fFN4 w with | 7 => x && y | 8 => x || y | 9 => x != y | _ => !x)) ∧
  (∀ (s t : State) (u w : Nat), atInsn s u .vperm t w → (∀ b ∈ vpermZero w, b = false) → fFN4 w = 12 →
    exec (.vperm u) s = .next (advanced s (putS t u (fD w)
      (((List.range (vtLanes (fVT w))).find? fun i => guarded t u (fVT w) (bits w 12 3) i).getD (2 ^ 64 - 1))) u w)) ∧
  (∀ (s t : State) (u w : Nat), atInsn s u .vperm t w → (∀ b ∈ vpermZero w, b = false) → fFN4 w = 11 →
    exec (.vperm u) s = .next (advanced s (putS t u (fD w)
      ((List.range (vtLanes (fVT w))).filter fun i => guarded t u (fVT w) (bits w 12 3) i).length) u w)) ∧
  (∀ (s t : State) (u w : Nat), atInsn s u .vperm t w → (∀ b ∈ vpermZero w, b = false) → fFN4 w = 1 → getS t u (fB w) < vtLanes (fVT w) →
    exec (.vperm u) s = .next (advanced s (putS t u (fD w) (lane t u (fVT w) (fA w) (getS t u (fB w)))) u w)) ∧
  (∀ (s t : State) (u w : Nat), atInsn s u .vperm t w → fFN4 w = 1 → vtLanes (fVT w) ≤ getS t u (fB w) →
    exec (.vperm u) s = .next (raiseFault t u ⟨2, 0x0103, none⟩ none)) ∧
  (∀ (s t : State) (u w : Nat), atInsn s u .vred t w → fB w = 0 → fFN4 w < 7 → fVT w < 4 ∨ 3 ≤ fFN4 w →
    let taken := ((List.range (vtLanes (fVT w))).filter fun i => guarded t u (fVT w) (fPG w) i).map fun i => lane t u (fVT w) (fA w) i
    exec (.vred u) s = .next (advanced s (putS t u (fD w) (if taken = [] then 0 else vredInt (fVT w) (fFN4 w) taken)) u w) ∧
      (fFN4 w = 0 → taken ≠ [] → sreg (putS t u 1 (vredInt (fVT w) 0 taken)) u 1 =
        taken.foldl (fun acc x => acc + (BitVec.ofInt 64 (toSigned (8 * vtBytes (fVT w)) x))) 0)) ∧
  (∀ (s t : State) (u w : Nat), atInsn s u .vred t w → fB w = 0 → fFN4 w < 3 → 4 ≤ fVT w →
    let taken := ((List.range (vtLanes (fVT w))).filter fun i => guarded t u (fVT w) (fPG w) i).map fun i => lane t u (fVT w) (fA w) i
    let r := vredFloat (fVT w) (fFN4 w) taken
    exec (.vred u) s = .next (advanced s (if taken = [] then putS t u (fD w) 0 else putS (putFlags t u r.2) u (fD w) r.1) u w))

/-- R243, R290, R302, R310, R315: LD writes the little-endian value at A plus the offset, extended to 64 bits; ST changes the bytes that it stores
and no other; VLD and VST move the guarded lanes; ATOM writes back the value of its operation and answers the old one. A line that the L1 holds for
writing is changed there. What the manual leaves open in it is the model's choice: log entry 12. -/
def Obligations.UshersReachMemory : Prop :=
  (∀ (s t r : State) (u w v : Nat), atInsn s u .ld t w →
    let sz := bits w 17 3
    let a := scalarAddr t u w
    sz < 7 → a % szBytes sz = 0 → loadScalar t u a (szBytes sz) = .ok r v →
    exec (.ld u) s = .next (advanced s (putS r u (fD w) (if sz < 4 then v else ofSigned 64 (toSigned (8 * szBytes sz) v))) u w)) ∧
  (∀ (s t : State) (u w : Nat) (c : CLine), atInsn s u .ld t w →
    let sz := bits w 17 3
    let a := scalarAddr t u w
    sz < 7 → a % szBytes sz = 0 → inL1 t u a (szBytes sz) .load c → loadScalar t u a (szBytes sz) =
      .ok (useLine t u (a / 64) c) (numAt c.data (a % 64) (szBytes sz))) ∧
  (∀ (s t : State) (u w : Nat), atInsn s u .ld t w → bits w 17 3 < 7 → scalarAddr t u w % szBytes (bits w 17 3) ≠ 0 →
    exec (.ld u) s = .next (raiseFault t u ⟨3, 0x0104, some (scalarAddr t u w)⟩ none)) ∧
  (∀ (s t r : State) (u w : Nat), atInsn s u .st t w →
    let n := szBytes (bits w 17 3)
    let a := scalarAddr t u w
    bits w 17 3 < 4 → a % n = 0 → storeScalar t u a n (getS t u (fD w) % 2 ^ (8 * n)) = .ok r () →
    exec (.st u) s = .next (advanced s r u w)) ∧
  (∀ (s t : State) (u w : Nat) (c : CLine), atInsn s u .st t w →
    let n := szBytes (bits w 17 3)
    let a := scalarAddr t u w
    bits w 17 3 < 4 → a % n = 0 → inL1 t u a n .store c →
    ∃ r d, exec (.st u) s = .next r ∧ cacheLine r u (a / 64) = some d ∧ d.st = .m ∧ d.poison = false ∧
      numAt d.data (a % 64) n = getS t u (fD w) % 2 ^ (8 * n) ∧ lineKeptOutside c d (a % 64) n ∧
      (∀ b l, cacheKey b l ≠ cacheKey u (a / 64) → cacheLine r b l = cacheLine t b l) ∧
      r = { advanced s t u w with mzn := { t.mzn with caches := r.mzn.caches, tick := r.mzn.tick } }) ∧
  (∀ (s t r : State) (u w : Nat) (b : List Byte), atInsn s u .vld t w →
    let a := vmAddr t u w
    let vt := fVT w
    a % 64 = 0 → loadBytes t u a 256 = .ok r b →
    ∃ v, exec (.vld u) s = .next (advanced s (putV r u (fD w) v) u w) ∧ v.length = 256 ∧
      ∀ i, i < vtLanes vt → (lanesOf (vtBytes vt) (vtLanes vt) v).getD i 0 =
        if guarded r u vt (fPG w) i then (lanesOf (vtBytes vt) (vtLanes vt) b).getD i 0 else lane r u vt (fD w) i) ∧
  (∀ (s t r : State) (u w : Nat), atInsn s u .vst t w →
    let a := vmAddr t u w
    let ps := burstParts a (vtBytes (fVT w)) (guardBits (getP t u (fPG w)) (vtBytes (fVT w)) (vtLanes (fVT w))) (getV t u (fD w))
    a % 64 = 0 → (∀ p ∈ ps, accessFault t u (p.1 * 64) 64 .store = none) → storeLines t u ps = .ok r () →
    exec (.vst u) s = .next (advanced s r u w) ∧
      ∀ p ∈ ps, ∀ i, i < 64 → (bit p.2.1 i = true ↔ guarded t u (fVT w) (fPG w) ((64 * (p.1 - a / 64) + i) / vtBytes (fVT w)) = true)) ∧
  (∀ (s t : State) (u w : Nat) (c : CLine), atInsn s u .atom t w →
    let n := if bit w 29 then 8 else 4
    let a := getS t u (fA w)
    let old := numAt c.data (a % 64) n
    let b := getS t u (fB w) % 2 ^ (8 * n)
    bits w 25 4 < 10 → fPG w = 0 → bit w 31 = false → a % n = 0 → inL1 t u a n .atomic c → c.data.length = 64 →
    ∃ r d, exec (.atom u) s = .next (advanced s (putS r u (fD w) (if n = 4 then ofSigned 64 (toSigned 32 old) else old)) u w) ∧
      cacheLine r u (a / 64) = some d ∧ d.st = .m ∧ lineKeptOutside c d (a % 64) n ∧
      r = { t with mzn := { t.mzn with caches := r.mzn.caches, tick := r.mzn.tick } } ∧
      (bits w 25 4 = 0 → numAt d.data (a % 64) n = (old + b) % 2 ^ (8 * n)) ∧
      (bits w 25 4 = 1 → numAt d.data (a % 64) n = old &&& b) ∧ (bits w 25 4 = 2 → numAt d.data (a % 64) n = old ||| b) ∧
      (bits w 25 4 = 3 → numAt d.data (a % 64) n = old ^^^ b) ∧
      (bits w 25 4 = 4 → toSigned (8 * n) (numAt d.data (a % 64) n) = min (toSigned (8 * n) old) (toSigned (8 * n) b)) ∧
      (bits w 25 4 = 5 → toSigned (8 * n) (numAt d.data (a % 64) n) = max (toSigned (8 * n) old) (toSigned (8 * n) b)) ∧
      (bits w 25 4 = 6 → numAt d.data (a % 64) n = min old b) ∧ (bits w 25 4 = 7 → numAt d.data (a % 64) n = max old b) ∧
      (bits w 25 4 = 8 → numAt d.data (a % 64) n = b) ∧
      (bits w 25 4 = 9 → numAt d.data (a % 64) n = if old = getS t u (fD w) % 2 ^ (8 * n) then b else old))

/-- R97, R106, R107, R112, R311, R312, R313, R314: ARGMAX answers the lowest index of the best key, that key, the sum of the others and the count
of NaNs; SELECT writes its winners' keys to a vector register and their indices and the summary to memory; VCOMB over one partial writes it, and
over two adds them lane by lane. -/
def Obligations.UshersSelectAndCombine : Prop :=
  (∀ (s t r : State) (u w : Nat) (b : List Byte), atInsn s u .argmax t w →
    let d := fD w
    let n := getS t u (fB w)
    let key := fun i => numAt b (2 * i) 2
    fPG w = 0 → bits w 28 4 = 0 → bits w 25 3 = 1 → 1 ≤ d → d ≤ 28 → 1 ≤ n → n ≤ 2 ^ 20 → getS t u (fA w) % 2 = 0 →
    loadBytes t u (getS t u (fA w)) (2 * n) = .ok r b → b.length = 2 * n →
    ∃ i sum, exec (.argmax u) s = .next (advanced s (putS (putS (putS (putS r u d i) u (d + 1) (key i)) u (d + 2) sum) u (d + 3) 0) u w) ∧
      i < n ∧ (∀ j, j < n → key j ≤ key i) ∧ (∀ j, j < i → key j < key i) ∧ sum + key i = ((List.range n).map key).sum) ∧
  (∀ (s t t1 r : State) (u w : Nat) (b : List Byte), atInsn s u .select t w →
    let k := bits w 42 8
    let kt := bits w 50 3
    let n := getS t u (bits w 17 5)
    let idx := getS t u (bits w 27 5)
    let sum := getS t u (bits w 32 5)
    let thr := bits w 37 5
    let sel := selectRow kt k (if thr = 0 then none else some (getS t u thr % 2 ^ 16, getS t u (thr + 1))) (rowElems n b none)
    bits w 53 11 = 0 → 1 ≤ k → k ≤ 128 → n ≤ 2 ^ 20 → kt < 4 → bits w 22 5 = 0 → thr ≠ 31 →
    getS t u (bits w 12 5) % 2 = 0 → idx % 4 = 0 → sum % 16 = 0 →
    loadBytes t u (getS t u (bits w 12 5)) (2 * n) = .ok t1 b →
    (sel.winners ≠ [] → accessFault t1 u idx (4 * sel.winners.length) .store = none) → accessFault t1 u sum 48 .store = none →
    storeLines t1 u (storeParts idx ((sel.winners.map fun x => bytesOf 4 x.idx).flatten) ++
      storeParts sum (selectSummary kt sel (thr ≠ 0) false)) = .ok r () →
    ∃ v, exec (.select u) s = .next (advanced s (putV r u (fD w) v) u w) ∧ sel.winners.length ≤ k ∧
      ∀ i, i < 128 → numAt v (2 * i) 2 = (sel.winners.map SelElem.key).getD i 0) ∧
  (∀ (s t r : State) (u w : Nat) (b : List Byte), atInsn s u .vcomb t w → bits w 30 2 = 0 → bits w 32 3 = 2 → bits w 35 29 = 0 →
    getS t u (bits w 17 5) = 1 → getS t u (bits w 12 5) % 64 = 0 → getS t u (bits w 22 5) ≠ 0 → getS t u (bits w 22 5) % 64 = 0 →
    loadBytes t u (getS t u (bits w 12 5)) 256 = .ok r b → b.length = 256 →
    ∃ v, exec (.vcomb u) s = .next (advanced s (putV r u (fD w) v) u w) ∧
      ∀ i, i < 64 → guarded t u 2 (bits w 27 3) i = true → numAt v (4 * i) 4 = numAt b (4 * i) 4) ∧
  (∀ (s t t1 r : State) (u w : Nat) (b1 b2 : List Byte), atInsn s u .vcomb t w → bits w 30 2 = 0 → bits w 32 3 = 2 → bits w 35 29 = 0 →
    getS t u (bits w 17 5) = 2 → getS t u (bits w 12 5) % 64 = 0 → getS t u (bits w 22 5) ≠ 0 → getS t u (bits w 22 5) % 64 = 0 →
    loadBytes t u (getS t u (bits w 12 5)) 256 = .ok t1 b1 → b1.length = 256 →
    loadBytes t1 u ((getS t u (bits w 12 5) + getS t u (bits w 22 5)) % 2 ^ 64) 256 = .ok r b2 → b2.length = 256 →
    (getV r u (fD w)).length = 256 →
    ∃ v, exec (.vcomb u) s = .next (advanced s (putV r u (fD w) v) u w) ∧
      ∀ i, i < 64 → numAt v (4 * i) 4 =
        if guarded t u 2 (bits w 27 3) i then (numAt b1 (4 * i) 4 + numAt b2 (4 * i) 4) % 2 ^ 32 else numAt (getV r u (fD w)) (4 * i) 4)

/-- R296, R298, R303: BR goes on at PC + 4 * offset when its condition holds and at the next instruction otherwise; JAL, JALR and JL write the
address of the next instruction into their destination and go on at the target, and JALR raises ALIGN at a misaligned one and writes nothing. -/
def Obligations.UshersBranch : Prop :=
  (∀ (s t : State) (u w : Nat), atInsn s u .br t w → (6 ≤ bits w 17 3 → bits w 10 2 = 0 ∧ bits w 12 5 = 0) →
    let a := sreg t u (bits w 7 5)
    let b := sreg t u (bits w 12 5)
    ∃ taken : Bool, exec (.br u) s = .next (if taken then
        retired t u ((usher s u).pc + 4 * (BitVec.ofNat 12 (bits w 20 12)).signExtend 64).toNat else advanced s t u w) ∧
      (bits w 17 3 = 0 → taken = decide (a = b)) ∧ (bits w 17 3 = 1 → taken = decide (a ≠ b)) ∧
      (bits w 17 3 = 2 → taken = a.slt b) ∧ (bits w 17 3 = 3 → taken = b.sle a) ∧
      (bits w 17 3 = 4 → taken = a.ult b) ∧ (bits w 17 3 = 5 → taken = b.ule a) ∧
      (bits w 17 3 = 6 → taken = decide (getP t u (bits w 7 3) ≠ 0)) ∧ (bits w 17 3 = 7 → taken = decide (getP t u (bits w 7 3) = 0))) ∧
  (∀ (s t : State) (u w : Nat), atInsn s u .br t w → 6 ≤ bits w 17 3 → bits w 10 2 ≠ 0 ∨ bits w 12 5 ≠ 0 →
    exec (.br u) s = .next (raiseFault t u ⟨1, 0x0102, none⟩ none)) ∧
  (∀ (s t : State) (u w : Nat), atInsn s u .jal t w → (usher s u).pc.toNat % 4 = 0 →
    exec (.jal u) s = .next (retired (putS t u (fD w) ((usher s u).pc + 4).toNat) u
      ((usher s u).pc + 4 * (BitVec.ofNat 20 (bits w 12 20)).signExtend 64).toNat)) ∧
  (∀ (s t : State) (u w : Nat), atInsn s u .jalr t w →
    let target := sreg t u (fA w) + (BitVec.ofNat 15 (bits w 17 15)).signExtend 64
    exec (.jalr u) s = .next (if target.toNat % 4 = 0 then retired (putS t u (fD w) ((usher s u).pc + 4).toNat) u target.toNat
      else raiseFault t u ⟨3, 0x0104, some target.toNat⟩ none)) ∧
  (∀ (s t : State) (u w : Nat), atInsn s u .jl t w → bits w 12 20 = 0 →
    let target := (usher s u).pc + (BitVec.ofNat 32 (bits w 32 32)).signExtend 64
    exec (.jl u) s = .next (if target.toNat % 4 = 0 then retired (putS t u (fD w) ((usher s u).pc + 8).toNat) u target.toNat
      else raiseFault t u ⟨3, 0x0104, some target.toNat⟩ none))

/-- R293, R316, R317, R318, R321, R322, R326, R333: ISSUE and ISSUENB put a descriptor at the end of its queue and answer a token that the Usher
then holds; while the queue is full ISSUE waits at the instruction and ISSUENB answers 0; WAIT and TEST answer the status of a token that has
completed and let it go; a WAIT for one that has not waits, and at its timeout answers all ones, as TEST does at once. -/
def Obligations.UshersIssueAndWait : Prop :=
  (∀ (s t r : State) (u w : Nat) (b : List Byte) (blocking : Bool), atInsn s u (if blocking then .issue else .issuenb) t w → fPG w = 0 →
    openLines t u = [] → deferredOf t u = [] →
    let a := getS t u (fA w)
    let sel := getS t u (fB w)
    a % 64 = 0 → selBad sel = false → (usher t u).tokens.length < 64 → unitPresent t (selClass sel) (selInst sel) = true →
    (usherWing t u).isSome → groupWing t (unitGroup (selClass sel) (selInst sel)) = usherWing t u →
    loadBytes t u a 64 = .ok r b → descLines (selClass sel) b = 1 →
    exec (if blocking then .issue u else .issuenb u) s = .next
      (if queueTakes r u (selClass sel) (selInst sel) (selQueue sel) b then
        advanced s (handOver r u (selClass sel) (selInst sel) (selQueue sel) b (fD w)) u w
      else if blocking then joinWaiters r u (selClass sel) (selInst sel) (selQueue sel)
      else advanced s (putS r u (fD w) 0) u w)) ∧
  (∀ (r : State) (u cls inst q d : Nat) (b : List Byte), (usher r u).tokens.length < 64 → (unitOf r cls inst).waiters = [] →
    (∀ e ∈ r.units, e.2.waiters.any (fun w => w.1 == u) = false ∧ e.2 ≠ idleUnit) →
    let t := handOver r u cls inst q b d
    let tok := nextToken (usher r u)
    (unitOf t cls inst).queued = (unitOf r cls inst).queued ++
      [⟨r.nextDesc, q, .usher u tok, usherTenant r u, (usherWing r u).getD 0, b, none⟩] ∧
    (usher t u).tokens = (usher r u).tokens ++ [⟨tok, r.nextDesc, none⟩] ∧
    bit tok 6 = true ∧ (∀ k ∈ (usher r u).tokens, k.value % 64 ≠ tok % 64)) ∧
  (∀ (s t : State) (u w st : Nat) (k : Token) (waiting : Bool), atInsn s u (if waiting then .wait else .test) t w → fPG w = 0 →
    deferredOf t u = [] → tokenOf t u (getS t u (fA w)) = some k → k.status = some st →
    ∃ r, exec (if waiting then .wait u else .test u) s = .next r ∧ r = advanced s (consumeToken t u (getS t u (fA w)) (fD w) st) u w ∧
      tokenOf r u (getS t u (fA w)) = none ∧ (fD w ≠ 0 → st < 2 ^ 16 → getS r u (fD w) = st)) ∧
  (∀ (s t : State) (u w : Nat) (waiting : Bool), atInsn s u (if waiting then .wait else .test) t w → fPG w = 0 →
    deferredOf t u = [] → tokenOf t u (getS t u (fA w)) = none →
    exec (if waiting then .wait u else .test u) s = .next (raiseFault t u ⟨2, 0x0103, none⟩ none)) ∧
  (∀ (s t : State) (u w : Nat) (k : Token), atInsn s u .test t w → fPG w = 0 → deferredOf t u = [] →
    tokenOf t u (getS t u (fA w)) = some k → k.status = none →
    exec (.test u) s = .next (advanced s (putS t u (fD w) (2 ^ 64 - 1)) u w)) ∧
  (∀ (s t : State) (u w : Nat) (k : Token), atInsn s u .wait t w → fPG w = 0 → deferredOf t u = [] → (usher t u).st = .running →
    tokenOf t u (getS t u (fA w)) = some k → k.status = none → 0 < getS t u (fB w) →
    ∃ r, exec (.wait u) s = .next r ∧ (usher r u).st = .waiting ∧ (usher r u).pc = (usher t u).pc ∧
      (usher r u).until_ = (if fB w = 0 then none else some (t.now + getS t u (fB w))) ∧ (usher r u).waitFrom = t.now ∧
      r = { t with ushers := r.ushers }) ∧
  (∀ (s t : State) (u w due : Nat) (k : Token), present s .usher u = true → (usher s u).st = .waiting → (usher s u).until_ = some due →
    fetchInsn { s with now := max s.now due } u (usher s u).pc.toNat = .ok t w → decodeOp w = some .wait →
    tokenOf t u (getS t u (fA w)) = some k → k.status = none → (usher t u).st = .waiting →
    ∃ r, exec (.waitTimeout u) s = .next r ∧ (usher r u).st = .running ∧ (usher r u).until_ = none ∧
      (fD w ≠ 0 → getS r u (fD w) = 2 ^ 64 - 1) ∧ (usher r u).pc = BitVec.ofNat 64 (nextPc (usher s u).pc.toNat w) ∧
      tokenOf r u (getS t u (fA w)) = some k)

/-- R284, R290, R321, R322, R286, R292, R316, R320: USHER_GO starts a context from IDLE at USH_ENTRY with s1 to s4 zero and its instruction cache
empty, and resumes one that is stopped; USHER_STOP stops one that runs; USHER_RESET leaves a context as a reset does and ends its command with
0x0403. HALT ends the program in IDLE and its command with s1 and s2; CSRR reads and CSRW writes a control register; TRAP raises its fault, which a
handler takes at XVEC with XPC, XCAUSE and XADDR set; XRET goes back to XPC; FENCE and the SYS NOP only go on; IFLUSH empties the instruction
cache. What the manual leaves open in it is the model's choice: log entry 18. -/
def Obligations.UshersRunAndAreControlled : Prop :=
  ((∀ (s : State) (u : Nat), present s .usher u = true → (usher s u).st = .idle →
    ∃ t, exec (.usherGo u) s = .next t ∧ (usher t u).st = .running ∧ (usher t u).pc.toNat = getR s .ushEntry u ∧ (usher t u).icache = [] ∧
      (∀ i, getS t u i = if 1 ≤ i ∧ i ≤ 4 then 0 else getS s u i) ∧ (usher t u).xvec = (usher s u).xvec ∧
      (∀ n, n ≠ u → usher t n = usher s n) ∧ regsKeptBut s t (regKey 0 .ushCtrl u 0) ∧ t = { s with regs := t.regs, ushers := t.ushers }) ∧
  (∀ (s : State) (u : Nat), present s .usher u = true → (usher s u).st = .stopped →
    ∃ t, exec (.usherGo u) s = .next t ∧ usher t u = { usher s u with st := .running } ∧ bit (getR t .ushCtrl u) 0 = true ∧
      t = { s with regs := t.regs, ushers := t.ushers }) ∧
  (∀ (s : State) (u : Nat), present s .usher u = true → (usher s u).st = .running →
    ∃ t, exec (.usherStop u) s = .next t ∧ usher t u = { usher s u with st := .stopped } ∧ t = { s with ushers := t.ushers, units := t.units }) ∧
  (∀ (s : State) (u id : Nat) (c : Cmd), present s .usher u = true → usherLines s u = [] → (usher s u).st = .running →
    (usher s u).cmd = some id → findCmd s id = some c → c.done = none →
    ∃ t, exec (.usherReset u) s = .next t ∧ usher t u = resetUsher ∧ ended t id = some (plain 0x0403) ∧ getR t .ushCtrl u = 0 ∧
      (∀ n, n ≠ u → usher t n = usher s n) ∧ t.host = s.host ∧ t.halls = s.halls)) ∧
  ((∀ (s t : State) (u w : Nat), atInsn s u .nop t w → fPG w = 0 → fD w = 0 → fA w = 0 → fB w = 0 →
    exec (.sysNop u) s = .next (advanced s t u w)) ∧
  (∀ (s t : State) (u w id : Nat) (c : Cmd), atInsn s u .halt t w → fPG w = 0 → fD w = 0 → fA w = 0 → fB w = 0 →
    deferredOf t u = [] → openLines t u = [] → (usher t u).cmd = some id → findCmd t id = some c → c.done = none →
    ∃ r, exec (.halt u) s = .next r ∧ (usher r u).st = .idle ∧ (usher r u).cmd = none ∧ bit (getR r .ushCtrl u) 0 = false ∧
      ended r id = some ⟨0x0000, getS t u 1, getS t u 2, 0, 0, 0⟩ ∧ (∀ i, getS r u i = getS t u i) ∧
      r = { t with regs := r.regs, ushers := r.ushers, vst := { t.vst with inflight := r.vst.inflight } }) ∧
  (∀ (s t : State) (u w : Nat), atInsn s u .csrr t w → fPG w = 0 → fA w = 0 → fB w < 12 → (fB w = 0 → (usherWing t u).isSome) →
    ∃ v, exec (.csrr u) s = .next (advanced s (putS t u (fD w) v) u w) ∧
      (fB w = 0 → ∃ x, usherWing t u = some x ∧ v = u % 256 + u / 16 * 2 ^ 8 + x * 2 ^ 12) ∧ (fB w = 1 → v = t.now) ∧
      (fB w = 2 → v = getR t .pceMon (2 * (u / 16) + 1) % 2 ^ 16) ∧
      (fB w = 3 → v = getR t .ushContext u) ∧ (fB w = 4 → v = (usher t u).xvec.toNat) ∧ (fB w = 5 → v = (usher t u).xpc.toNat) ∧
      (fB w = 6 → v = (usher t u).xcause.toNat) ∧ (fB w = 7 → v = (usher t u).xaddr.toNat) ∧ (fB w = 8 → v = (usher t u).fpflags) ∧
      (fB w = 9 → v = (usher t u).scratch.toNat) ∧ (fB w = 10 → v = (usher t u).tokens.length)) ∧
  (∀ (s t : State) (u w : Nat), atInsn s u .csrw t w → fPG w = 0 → fD w = 0 → fB w = 4 ∨ fB w = 5 ∨ fB w = 8 ∨ fB w = 9 →
    let v := sreg t u (fA w)
    (fB w = 4 → v.toNat % 4 = 0) →
    exec (.csrw u) s = .next (advanced s (modUsher t u fun x =>
      if fB w = 4 then { x with xvec := v } else if fB w = 5 then { x with xpc := v }
      else if fB w = 8 then { x with fpflags := v.toNat % 32 } else { x with scratch := v }) u w)) ∧
  (∀ (s t : State) (u w : Nat), atInsn s u .csrw t w → fPG w = 0 → fD w = 0 → fB w = 4 → getS t u (fA w) % 4 ≠ 0 →
    exec (.csrw u) s = .next (raiseFault t u ⟨3, 0x0104, some (getS t u (fA w))⟩ none)) ∧
  (∀ (s t : State) (u w : Nat), atInsn s u .fence t w → fPG w = 0 → fA w = 0 → fB w = 0 → fD w < 3 →
    let r := if fD w = 2 then t else drainUsher t u
    deferredOf r u = [] → exec (.fence u) s = .next (advanced s r u w)) ∧
  (∀ (s t : State) (u w : Nat), atInsn s u .xret t w → fPG w = 0 → fD w = 0 → fA w = 0 → fB w = 0 → deferredOf t u = [] →
    (usher t u).inHandler = true → (usher t u).xpc.toNat % 4 = 0 →
    exec (.xret u) s = .next (retired (modUsher t u fun x => { x with inHandler := false }) u (usher t u).xpc.toNat)) ∧
  (∀ (s t : State) (u w : Nat), atInsn s u .trap t w → fPG w = 0 → fD w = 0 → fB w = 0 → (usher t u).xvec ≠ 0 →
    (usher t u).inHandler = false → (usher t u).pc = (usher s u).pc → (usher t u).st = .running →
    ∃ r, exec (.trap u) s = .next r ∧ (usher r u).pc = (usher t u).xvec ∧ (usher r u).xpc = (usher s u).pc ∧
      (usher r u).xcause = 0x00090000 ∧ (usher r u).xaddr = sreg t u (fA w) ∧ (usher r u).inHandler = true ∧ (usher r u).st = .running ∧
      getR r .ushExceptions u = (getR t .ushExceptions u + 1) % 2 ^ 32 ∧ (∀ i, getS r u i = getS t u i) ∧
      r = { t with regs := r.regs, ushers := r.ushers, units := r.units }) ∧
  (∀ (s t : State) (u w : Nat), atInsn s u .trap t w → fPG w = 0 → fD w = 0 → fB w = 0 → (usher t u).xvec = 0 → u < 256 →
    (usher t u).pc = (usher s u).pc →
    ∃ r, exec (.trap u) s = .next r ∧ (usher r u).st = .faulted ∧ getR r .ushFaultPc u = (usher s u).pc.toNat ∧
      getR r .ushFaultAddr u = getS t u (fA w) ∧ getR r .ushFaultCause u = 0x00090000) ∧
  (∀ (s t : State) (u w : Nat), atInsn s u .iflush t w → fPG w = 0 → fD w = 0 → fA w = 0 → fB w = 0 →
    exec (.iflush u) s = .next (advanced s (modUsher t u fun x => { x with icache := [] }) u w)))

/-- R142, R143, R147, R179, R341, R343: TILE_ZERO leaves zeros under the tag that it names; TILE_LOAD puts the memory's FP32 words into the
elements row by row; TILE_MOVE reads every source before it writes; TILE_STORE writes the tiles' words to memory and changes no tile; SRF_LOAD
replaces a run of scale entries and names their version; the tiles and entries that none of them names stay. What the manual leaves open in it is
the model's choice: log entry 12. -/
def Obligations.EnginesMoveTiles : Prop :=
  (∀ (s : State) (e id : Nat) (ecc : EngineEcc) (d : Desc), taking s 1 e id 0x21 d →
    let s1 := engineAt s e d ecc
    let g := d.num 16 2
    let n := d.num 18 2
    tileZeroFail s1 e d = none →
    ∃ t, exec (.tileZero e id ecc) s = .next t ∧ (∀ i, i < n → tileOf t e (g + i) = { zeroTile with tag := d.num 20 1 }) ∧
      tilesKept s1 t e ((List.range n).map fun i => g + i) ∧ worked t 1 e id = some (0x0000, 0) ∧
      getR t .colInstr e = (getR s1 .colInstr e + 1) % 2 ^ 64 ∧ t = { s1 with regs := t.regs, engines := t.engines, units := t.units }) ∧
  (∀ (s : State) (e id : Nat) (ecc : EngineEcc) (d : Desc), taking s 1 e id 0x22 d →
    let s1 := engineAt s e d ecc
    let g := d.num 24 2
    let n := d.num 26 2
    let s2 := touchRead s1 (some d.wing) (d.num 16 8) (4096 * n)
    tileLoadFail s1 e d = none → readFail s1 (d.num 16 8) (4096 * n) = none →
    ∃ t, exec (.tileLoad e id ecc) s = .next t ∧ worked t 1 e id = some (0x0000, 0) ∧
      tilesKept s2 t e ((List.range n).map fun i => g + i) ∧
      ∀ i r c, i < n → r < 32 → c < 32 → (tileOf t e (g + i)).tag = d.num 28 1 ∧ (tileOf t e (g + i)).poison = false ∧
        (tileOf t e (g + i)).at r c = numAt (memRead s2 (d.num 16 8 + 4096 * i) 4096) (4 * (32 * r + c)) 4) ∧
  (∀ (s : State) (e id : Nat) (ecc : EngineEcc) (d : Desc), taking s 1 e id 0x23 d →
    let s1 := engineAt s e d ecc
    let g := d.num 24 2
    let n := d.num 26 2
    tileStoreFail s1 e d = none → (∀ i, i < n → (tileOf s1 e (g + i)).poison = false) →
    exec (.tileStore e id ecc) s =
      .next (let r := runWrites s1 d.wing ((List.range n).map fun i => (d.num 16 8 + 4096 * i, tileBytes (tileOf s1 e (g + i))))
             endDesc r.1 1 e id r.2 0)) ∧
  (∀ (s : State) (e id : Nat) (ecc : EngineEcc) (d : Desc), taking s 1 e id 0x24 d →
    let s1 := engineAt s e d ecc
    let src := d.num 16 2
    let dst := d.num 18 2
    let n := d.num 20 2
    tileMoveFail s1 e d = none → (∀ i, i < n → (tileOf s1 e (src + i)).poison = false) →
    ∃ t, exec (.tileMove e id ecc) s = .next t ∧ (∀ i, i < n → tileOf t e (dst + i) = tileOf s1 e (src + i)) ∧
      tilesKept s1 t e ((List.range n).map fun i => dst + i) ∧ worked t 1 e id = some (0x0000, 0)) ∧
  (∀ (s : State) (e id : Nat) (ecc : EngineEcc) (d : Desc), taking s 1 e id 0x26 d →
    let s1 := engineAt s e d ecc
    let base := d.num 24 2
    let n := d.num 26 2
    let s2 := touchRead s1 (some d.wing) (d.num 16 8) (2 * n)
    srfLoadFail s1 e d = none → readFail s1 (d.num 16 8) (2 * n) = none →
    ∃ t, exec (.srfLoad e id ecc) s = .next t ∧ worked t 1 e id = some (0x0000, 0) ∧ getR t .colSrfVer e = d.num 28 4 ∧
      (∀ i, i < n → srfAt t e (base + i) = numAt (memRead s2 (d.num 16 8) (2 * n)) (2 * i) 2 ∧ base + i ∉ (engine t e).srfBad) ∧
      (∀ i, i < base ∨ base + n ≤ i → srfAt t e i = srfAt s2 e i) ∧ (∀ x, x ≠ e → engine t x = engine s2 x) ∧
      t = { s2 with regs := t.regs, engines := t.engines, units := t.units }) ∧
  (∀ (s : State) (e : Nat), e < 32 →
    ∃ t, exec (.qntStatsClr e) s = .next t ∧ getR t .qntStatsClr e = 0 ∧
      (∀ n, n < 16 → getR t .qntCount e n = (if bit (getR s .qntStatsClr e) n then 0 else getR s .qntCount e n) ∧
        getR t .qntSat e n = (if bit (getR s .qntStatsClr e) n then 0 else getR s .qntSat e n) ∧
        getR t .qntCfg e n = (match stagedR s .qntCfg e n with | some v => v % 2 ^ 32 | none => getR s .qntCfg e n)) ∧
      t = { s with regs := t.regs, staged := t.staged })

/-- R139, R141, R145, R149, R150, R340, R342, R167, R168, R169, R170, R173, R175, R178, R344, R345: an integer MMA adds the sum of its products to
the element modulo 2^32, and a floating-point one adds the tree of its rounded products with one rounding; the rows that it does not name keep
their elements, or are zero under INIT; a REDUCE of integers puts the sum, or the sum of squares, of each row modulo 2^32 into column 0 and zeros
beside it. QUANT and DEQUANT that pass their checks run over their rows and end with a status and a count; a Bell-4 row has one code a channel and
at most 16 side entries a block of 256 channels; a wide channel takes its wide value, an escape code its side value, and an escape without one is
zero and counted. What the manual leaves open in it is the model's choice: log entries 12, 51, 52 and 53. -/
def Obligations.EnginesComputeOnTiles : Prop :=
  ((∀ (s : State) (e id : Nat) (ecc : EngineEcc) (d : Desc), taking s 1 e id 0x20 d →
    let s1 := engineAt s e d ecc
    let m := readMma d
    let s2 := touchRanges s1 d m.reads
    mmaFail s1 e d = none → (m.init = false → ∀ g ∈ m.tiles, (tileOf s1 e g).poison = false) →
    (m.bell = true → (engine s1 e).srfBad = []) → rangesFail s1 m.reads = none →
    ∃ t, exec (.mma e id ecc) s = .next t ∧ worked t 1 e id = some (0x0000, 0) ∧ tilesKept s2 t e m.tiles ∧
      (∀ i r c, i < m.ncol / 32 → r < 32 → c < 32 →
        let old := if m.init then 0 else (tileOf s2 e (m.g + i)).at r c
        let arow := memRead s2 (m.a + r * m.aPitch) (rowBytes m.fa m.klen)
        let brow := fun k => memRead s2 (m.b + k * m.bPitch) (rowBytes m.fb m.ncol)
        let new := (tileOf t e (m.g + i)).at r c
        (tileOf t e (m.g + i)).tag = (if m.fa = 0 then 1 else 0) ∧ (m.rows ≤ r → new = old) ∧
        (r < m.rows → m.fa = 0 → Int.emod new (2 ^ 32) =
          Int.emod (old + ((List.range m.klen).map fun k => toSigned 8 (rowElem 0 arow k) * toSigned 8 (rowElem 0 (brow k) (32 * i + c))).sum) (2 ^ 32)) ∧
        (r < m.rows → m.fa ≠ 0 → new = bits32 (add32 (fp32.dec old) (dot32
          ((List.range m.klen).map fun k => operandValue m.fa (rowElem m.fa arow k) (m.scale s2 e k))
          ((List.range m.klen).map fun k => operandValue m.fb (rowElem m.fb (brow k) (32 * i + c)) (m.scale s2 e k)))) % 2 ^ 32))) ∧
  (∀ (s : State) (e id : Nat) (ecc : EngineEcc) (d : Desc), taking s 1 e id 0x25 d →
    let s1 := engineAt s e d ecc
    let x := readReduce d
    let s2 := touchRanges s1 d x.reads
    reduceFail s1 e d = none → x.gallery = false → x.fmt = 0 → x.op < 2 → x.init = true → rangesFail s1 x.reads = none →
    ∃ t, exec (.reduce e id ecc) s = .next t ∧ worked t 1 e id = some (0x0000, 0) ∧ tilesKept s2 t e [x.dst] ∧ (tileOf t e x.dst).tag = 1 ∧
      ∀ r c, r < x.rows → c < 32 → c ≠ 0 → (tileOf t e x.dst).at r c = 0 ∧
        let v := fun k => toSigned 8 (rowElem 0 (memRead s2 (x.src + r * x.pitch) (rowBytes 0 x.len)) k)
        Int.emod ((tileOf t e x.dst).at r 0) (2 ^ 32) =
          Int.emod ((List.range x.len).map fun k => if x.op = 1 then v k * v k else v k).sum (2 ^ 32)) ∧
  (∀ (s : State) (e id : Nat) (ecc : EngineEcc) (d : Desc), taking s 1 e id 0x25 d → reduceFail (engineAt s e d ecc) e d = none →
    let s1 := engineAt s e d ecc
    let x := readReduce d
    x.gallery = true → (∀ g ∈ x.srcTiles, (tileOf s1 e g).poison = false) → (x.init = false → (tileOf s1 e x.dst).poison = false) →
    ∃ t, exec (.reduce e id ecc) s = .next t ∧ worked t 1 e id = some (0x0000, 0) ∧ tilesKept s1 t e [x.dst] ∧
      (tileOf t e x.dst).tag = x.tag s1 e ∧ (tileOf t e x.dst).poison = false)) ∧
  ((∀ (s : State) (e id : Nat) (ecc : EngineEcc) (d : Desc), taking s 1 e id 0x28 d →
    let s1 := engineAt s e d ecc
    let cfg := streamCfg s1 e (readQ d).stream
    quantFail s1 e d = none → rangesFail s1 ((readQ d).quantReads cfg) = none →
    ∃ t st sat, exec (.quant e id ecc) s = .next t ∧ t = runQuant s1 e d (readQ d) cfg ∧ worked t 1 e id = some (st, sat) ∧
      (st = 0x0000 → sat = 0)) ∧
  (∀ (s : State) (e id : Nat) (ecc : EngineEcc) (d : Desc), taking s 1 e id 0x29 d →
    let s1 := engineAt s e d ecc
    let cfg := streamCfg s1 e (readQ d).stream
    dequantFail s1 e d = none → rangesFail s1 ((readQ d).dequantReads cfg) = none →
    ∃ t st orphans, exec (.dequant e id ecc) s = .next t ∧ t = runDequant s1 e d (readQ d) cfg ∧ worked t 1 e id = some (st, orphans)) ∧
  (∀ (cfg : QCfg) (xs cs : List FP) (sup : Nat) (st : QStats), cs.length = xs.length →
    let r := quantRow cfg xs cs sup st
    r.1.codes.length = xs.length ∧ (∀ b, (r.1.side.filter fun x => x.1 / 256 == b).length ≤ 16) ∧
      r.1.wide = cfg.wide.map (fun c => ((xs.getD c (.fin false 0 0)).near bf16).enc bf16) ∧
      (cfg.format ≠ 0 ∨ cfg.escape = false → r.1.side = []) ∧ st.sat ≤ r.2.sat ∧ st.count ≤ r.2.count) ∧
  (∀ (cfg : QCfg) (codes side wide : List Byte) (cs : List FP) (ts : FP) (c i : Nat), cfg.wide.idxOf? c = some i →
    dequantElem cfg codes side wide cs ts c = (bf16.dec (numAt wide (2 * i) 2), false)) ∧
  (∀ (cfg : QCfg) (codes side wide : List Byte) (cs : List FP) (ts : FP) (c : Nat), cfg.wide.idxOf? c = none →
    let k := rowElem 4 codes c
    let scaled := fun v : FP => mul32 (mul32 v (cs.getD c (.fin false 1 0))) ts
    (k ≠ 8 ∨ cfg.escape = false → dequantElem cfg codes side wide cs ts c = (scaled (bellValue k), false)) ∧
    (k = 8 → cfg.escape = true → dequantElem cfg codes side wide cs ts c =
      match sideValue side c with | some v => (scaled (bf16.dec v), false) | none => (.fin false 0 0, true))))

/-- R76, R86, R100, R335, R338, R339, R466: BOARD places its flight in the Landing of its hall, or ends with the status that admission answers;
TREAD_SET lowers the radius of a flight that its issuer boarded; a Turnstile descriptor of the microcode lowers a tread's threshold, frees spill
units, or writes a flight's pool entries out, and a program's is refused. What the manual leaves open in it is the model's choice: log entry 44. -/
def Obligations.HallDescriptorsTakeEffect : Prop :=
  (∀ (s : State) (h id : Nat) (d : Desc) (x : Coll), taking s 0 h id 0x01 d →
    let s1 := acceptDesc s 0 h d
    boardFail s1 h d = none → collOf s (d.num 24 2) = some x →
    let s2 := touchRead s1 (some d.wing) (d.num 40 8) (x.width / 8)
    exec (.board h id) s = .next (match admitQuery (bumpCtx s2) (boardQuery s2 d x.width) with
      | .error st => refuseDesc (countRefused s2 (boardQuery s2 d x.width) st) 0 h id st
      | .ok s3 => settleFlights s3)) ∧
  (∀ (s : State) (h : Nat) (q : Query) (x : Coll), h < 16 → quiet s → collOf s q.coll = some x → maskHalls x.halls = [h] →
    boardingHalls s q.coll = [h] → q.recs = [] → admitFail s q [h] = none → (stair s h).landing.length < 4096 →
    ∃ t, admitQuery s q = .ok t ∧ findQuery t q.ctx = some { q with waiting := 1, halls := 1, admitted := s.now } ∧
      (stair t h).landing.length = (stair s h).landing.length + 1 ∧ (∀ e ∈ (stair s h).landing, e ∈ (stair t h).landing) ∧
      (∀ n, n ≠ h → stair t n = stair s n)) ∧
  (∀ (s : State) (h id : Nat) (d : Desc) (x : Query) (u tok : Nat), taking s 0 h id 0x02 d → d.issuer = .usher u tok →
    let s1 := acceptDesc s 0 h d
    boardedBy s1 u (d.num 16 8) = some x → treadSetFail s1 h d (some x) = none →
    ∃ t, exec (.treadSet h id) s = .next t ∧ worked t 0 h id = some (0x0000, 0) ∧ findQuery t x.ctx = (findQuery s x.ctx).map
      (fun y => { y with radius := d.num 25 2 }) ∧ (∀ c, c ≠ x.ctx → findQuery t c = findQuery s c) ∧
      t = { s with store := t.store, units := t.units }) ∧
  (∀ (s : State) (h id : Nat) (b : List Byte) (x : Tread), present s .hall h = true → numAt b 16 2 < 1024 →
    treadOf (stair s h) (numAt b 16 2) = x → x.state = .aboard → x.ctx % 65536 = numAt b 18 2 →
    ∃ t, exec (.trnThresh h id (some b)) s = .next t ∧
      treadOf (stair t h) (numAt b 16 2) = { x with thresh := min x.thresh (numAt b 20 2) } ∧
      (∀ n, n ≠ numAt b 16 2 → treadOf (stair t h) n = treadOf (stair s h) n) ∧ t = { s with halls := t.halls, units := t.units }) ∧
  (∀ (s : State) (h id : Nat) (b : List Byte), present s .hall h = true →
    (stair s h).spillCons + 256 * numAt b 16 4 ≤ (stair s h).spillProd →
    ∃ t, exec (.trnSpillFree h id (some b)) s = .next t ∧ (stair t h).spillCons = (stair s h).spillCons + 256 * numAt b 16 4 ∧
      (stair t h).spillProd = (stair s h).spillProd ∧ (stair t h).treads = (stair s h).treads) ∧
  (∀ (s : State) (h id : Nat) (b : List Byte) (x : Alighted), present s .hall h = true → numAt b 24 8 % 64 = 0 →
    (stair s h).alighted = [x] → x.ctx % 65536 = numAt b 16 2 → x.cands = [] → x.treads = [] →
    ∃ t, exec (.trnDrain h id (some b)) s = .next t ∧ (stair t h).alighted = [x]) ∧
  (∀ (s : State) (h id : Nat) (b : List Byte) (x : Alighted), present s .hall h = true → numAt b 24 8 % 64 = 0 →
    ((stair s h).alighted.find? fun y => y.ctx % 65536 == numAt b 16 2) = some x →
    let w := runWrites s ((groupWing s h).getD 0) [(numAt b 24 8, padLines (drainBytes (numAt b 16 2) x.treads x.cands))]
    exec (.trnDrain h id (some b)) s = .next (endDesc (modStair w.1 h fun t => { t with alighted := t.alighted.map fun y =>
      if y.ctx == x.ctx then { y with cands := [], treads := [], spill := y.cands ++ y.spill } else y }) 0 h s.nextDesc w.2 x.cands.length)) ∧
  (∀ (s : State) (h id : Nat) (d : Desc), taking s 0 h id 0x10 d → d.queue ≠ 3 →
    ∃ st, exec (.trnThresh h id none) s = .next (refuseDesc (acceptDesc s 0 h d) 0 h id st) ∧ st ≠ 0x0000)

/-- R332, R333, R334, R349, : a DMA copy or fill that passes its checks writes its destination line by line and ends with its status and the lines
that it wrote, all of them when none failed; a completed descriptor leaves its unit, writes its notify word where it asks for one, and gives its
status to the token or the command that it carries. A translation that goes while a BOARD's flight is aboard withdraws it: the flight is gone,
nothing is written, and the descriptor ends with 0x010B; a DMA copy or fill stops after the lines that it has written, whole, and ends with 0x010B
and their number. What the manual leaves open in it is the model's choice: log entries 12 and 54. -/
def Obligations.DescriptorsCompleteOrStop : Prop :=
  ((∀ (s : State) (g id : Nat) (d : Desc), taking s 4 g id 0x50 d →
    let s1 := acceptDesc s 4 g d
    copyFail s1 g d = none →
    ∃ t st k, exec (.dmaCopy g id) s = .next t ∧ t = runDma s1 g d (linesOf (d.num 24 8) (d.num 32 8)) ∧ worked t 4 g id = some (st, k) ∧
      k ≤ (linesOf (d.num 24 8) (d.num 32 8)).length ∧ (st = 0 → k = (linesOf (d.num 24 8) (d.num 32 8)).length)) ∧
  (∀ (s : State) (g id : Nat) (d : Desc), taking s 4 g id 0x51 d →
    let s1 := acceptDesc s 4 g d
    fillFail s1 g d = none →
    ∃ t st k, exec (.dmaFill g id) s = .next t ∧ t = runDma s1 g d (linesOf (d.num 24 8) (d.num 32 8)) ∧ worked t 4 g id = some (st, k) ∧
      k ≤ (linesOf (d.num 24 8) (d.num 32 8)).length ∧ (st = 0 → k = (linesOf (d.num 24 8) (d.num 32 8)).length)) ∧
  (∀ (pat dst n l i : Nat) (s : State), i < (linePart dst n l).2 →
    (fillSource pat dst n s l).1.getD i 0 = BitVec.ofNat 8 (pat / 2 ^ (8 * ((l * 64 + (linePart dst n l).1 - dst + i) % 8)))) ∧
  (∀ (s : State) (cls inst id u tok st n : Nat) (d : Desc), ((unitOf s cls inst).accepted.find? fun x => x.id == id) = some d →
    d.result = some (st, n) → d.notify = false → d.issuer = .usher u tok →
    ∃ t, exec (.descriptorComplete cls inst id) s = .next t ∧ worked t cls inst id = none ∧
      (usher t u).tokens = ((usher s u).tokens.map fun k => if k.value = tok ∧ k.desc = id then { k with status := some st } else k) ∧
      (∀ x, x ≠ u → usher t x = usher s x) ∧ t = { s with units := t.units, ushers := t.ushers }) ∧
  (∀ (s : State) (cls inst id cid st n : Nat) (d : Desc) (c : Cmd), ((unitOf s cls inst).accepted.find? fun x => x.id == id) = some d →
    d.result = some (st, n) → d.notify = false → d.issuer = .command cid → findCmd s cid = some c → c.done = none →
    ∃ t, exec (.descriptorComplete cls inst id) s = .next t ∧ worked t cls inst id = none ∧ ended t cid = some ⟨st, n, 0, 0, 0, 0⟩ ∧
      t = { s with units := t.units, vst := { s.vst with inflight := t.vst.inflight } }) ∧
  (∀ (s : State) (cls inst id st n : Nat) (d : Desc), ((unitOf s cls inst).accepted.find? fun x => x.id == id) = some d →
    d.result = some (st, n) → d.notify = true → d.issuer = .micro →
    ∃ t, exec (.descriptorComplete cls inst id) s = .next t ∧ worked t cls inst id = none ∧
      t = { (memPut s (some d.wing) (d.num 8 8) (bytesOf 2 st ++ bytesOf 1 d.op ++ bytesOf 1 0 ++ bytesOf 4 n)).1 with units := t.units }) ∧
  (∀ (s : State) (cls inst id : Nat) (d : Desc), ((unitOf s cls inst).accepted.find? fun x => x.id == id) = none →
    nextDescOf (unitOf s cls inst) = some d → d.id = id → (classOps cls).contains d.op = false →
    let s1 := acceptDesc s cls inst d
    let st := if unitFaulted s1 cls inst then 0x0402 else 0x0101
    exec (.descriptorComplete cls inst id) s = .next (completeDesc (refuseDesc s1 cls inst id st) cls inst d st 0))) ∧
  ((∀ (s : State) (inst id lines : Nat) (d : Desc) (q : Query),
    (unitOf s 0 inst).accepted.find? (fun x => x.id == id && x.result.isNone) = some d → d.op = 0x01 →
    s.store.queries.find? (fun x => x.source == .board id) = some q →
    ∃ t, exec (.translationInvalidate 0 inst id lines) s = .next t ∧ findQuery t q.ctx = none ∧
      (∀ x ∈ (unitOf t 0 inst).accepted, x.id = id → x.result = some (0x010B, 0)) ∧ t.host = s.host ∧ t.mzn = s.mzn ∧
      (∀ h, h < 16 → ∀ e ∈ (stair t h).treads, e.2.state = .free ∨ e.2.ctx ≠ q.ctx)) ∧
  (∀ (s : State) (g id lines : Nat) (d : Desc), (unitOf s 4 g).accepted.find? (fun x => x.id == id && x.result.isNone) = none →
    taking s 4 g id 0x50 d → copyFail (acceptDesc s 4 g d) g d = none →
    exec (.translationInvalidate 4 g id lines) s =
      .next (descResult (runDma (acceptDesc s 4 g d) g d ((linesOf (d.num 24 8) (d.num 32 8)).take lines)) 4 g id 0x010B lines)) ∧
  (∀ (s : State) (g id lines : Nat) (d : Desc), (unitOf s 4 g).accepted.find? (fun x => x.id == id && x.result.isNone) = none →
    taking s 4 g id 0x51 d → fillFail (acceptDesc s 4 g d) g d = none →
    exec (.translationInvalidate 4 g id lines) s =
      .next (descResult (runDma (acceptDesc s 4 g d) g d ((linesOf (d.num 24 8) (d.num 32 8)).take lines)) 4 g id 0x010B lines)))

/-- R359, R360, R361, R374, R375: an accepted tail doorbell sets the tail, one with a reserved bit is discarded with 0x0102, one of 2ⁿ or more or
to a disabled queue with 0x0103, one that repeats the tail changes nothing, and all stand after the host's own writes; an accepted head doorbell
sets the head and arms the queue again; a function whose turn it is gives the entry at its queue's head, which goes in flight, and the head moves
on. What the manual leaves open in it is the model's choice: log entries 36, 82, 83 and 84. -/
def Obligations.DoorbellsAndFetch : Prop :=
  (∀ (s : State) (f q v : Nat) (ws : List HostWrite), hostReaches s = true → fnExists s f = true → q < 64 → v < 2 ^ 16 →
    bit (getR s .vstSqCfg q 0 f) 31 = true → v < 2 ^ fieldR s .vstSqCfg 0 5 q 0 f →
    (∀ w ∈ ws, ∀ l ∈ linesOf w.addr w.bytes.length, (lineRec s (2 ^ 57 + l)).holders = []) →
    let s1 := ws.foldl (fun t w => hostPut t w.addr w.bytes) s
    ∃ t, exec (.sqDoorbell f q v ws) s = .next t ∧ getR t .vstSqTail q 0 f = v ∧ regsKeptBut s t (regKey f .vstSqTail q 0) ∧
      t = { s1 with regs := t.regs }) ∧
  (∀ (s : State) (f q v : Nat), hostReaches s = true → fnExists s f = true → q < 64 → v < 2 ^ 32 → 2 ^ 16 ≤ v →
    exec (.sqDoorbell f q v []) s =
      .next (postEvent s f 2 0x0102 (if f = 0 then 0x130000 + 4 * q else 0x30000 + 4 * q) v 0 0)) ∧
  (∀ (s : State) (f q v : Nat), hostReaches s = true → fnExists s f = true → q < 64 → v < 2 ^ 16 →
    bit (getR s .vstSqCfg q 0 f) 31 = false ∨ 2 ^ fieldR s .vstSqCfg 0 5 q 0 f ≤ v →
    exec (.sqDoorbell f q v []) s =
      .next (postEvent s f 2 0x0103 (if f = 0 then 0x130000 + 4 * q else 0x30000 + 4 * q) v 0 0)) ∧
  (∀ (s : State) (f q v : Nat), hostReaches s = true → fnExists s f = true → q < 64 → v < 2 ^ 16 →
    bit (getR s .vstSqCfg q 0 f) 31 = true → v < 2 ^ fieldR s .vstSqCfg 0 5 q 0 f → getR s .vstSqTail q 0 f = v →
    ∃ t, exec (.sqDoorbell f q v []) s = .next t ∧ (∀ r i j g, getR t r i j g = getR s r i j g) ∧ t = { s with regs := t.regs }) ∧
  (∀ (s : State) (f e v : Nat), hostReaches s = true → fnExists s f = true → e < 16 → v < 2 ^ 16 → eqEnabled s f e = false →
    exec (.eqDoorbell f e v) s =
      .next (postEvent s f 2 0x0103 (if f = 0 then 0x130100 + 4 * e else 0x30100 + 4 * e) v 0 0)) ∧
  (∀ (s : State) (f e v : Nat), hostReaches s = true → fnExists s f = true → e < 16 → v < 2 ^ 16 → eqEnabled s f e = true →
    v < eqSize s f e → heldOf s f e = [] →
    let n := eqSize s f e
    let head := fieldR s .vstEqHead 0 16 e 0 f
    (v + n - head) % n ≤ (fieldR s .vstEqTail 0 16 e 0 f + n - head) % n →
    ∃ t, exec (.eqDoorbell f e v) s = .next t ∧ getR t .vstEqHead e 0 f = v ∧ fieldR t .vstEqTail 17 1 e 0 f = 1 ∧
      fieldR t .vstEqTail 0 17 e 0 f = fieldR s .vstEqTail 0 17 e 0 f ∧
      (∀ r i j g, regKey g r i j ≠ regKey f .vstEqHead e 0 → regKey g r i j ≠ regKey f .vstEqTail e 0 → getR t r i j g = getR s r i j g) ∧
      t = { s with regs := t.regs }) ∧
  (∀ (s : State) (f q : Nat), mayFetch s f = true → nextQueueOf s f = some q → stagedR s .vstSqCfg q 0 f = none → s.store.power.moving = none →
    hostReadable s (entryAddr s f q) 64 = true → hostPoisoned s (entryAddr s f q) 64 = false → fieldR s .vstSqCfg 0 5 q 0 f ≤ 16 →
    hostOpcodes.contains (hostByte s (entryAddr s f q)).toNat = true →
    ∃ t, exec (.entryFetch f) s = .next t ∧
      t.vst.inflight = s.vst.inflight ++ [newCmd s f q (hostRead s (entryAddr s f q) 64)] ∧ t.vst.nextId = s.vst.nextId + 1 ∧
      getR t .vstSqHead q 0 f = (getR s .vstSqHead q 0 f + 1) % 2 ^ fieldR s .vstSqCfg 0 5 q 0 f ∧
      regsKeptBut s t (regKey f .vstSqHead q 0) ∧ t = { s with regs := t.regs, vst := t.vst, store := { s.store with power := t.store.power } } ∧
      t.store.power.current = s.store.power.current ∧ t.store.power.moving = none) ∧
  (∀ (s : State) (what : ReadFor), exec (.hostReadCompletion what false) s = .next s) ∧
  (∀ (s : State) (id : Nat) (c : Cmd), findCmd s id = some c → mayStart s c = true →
    ∃ t, exec (.hostReadCompletion (.command id) true) s = .next t ∧ ended t id = some (plain 0x0401) ∧
      t = { s with vst := { s.vst with inflight := t.vst.inflight } })

/-- R370, R371, R373, R374, R379, R377, R378: a command that has ended leaves its queue, its function's counters count it, and its record stands at
the tail of its event queue, which moves on; a NOP ends with 0x0000. An enable that its rules accept puts the settings into effect and sets head
and tail to 0, of a submission queue with its FAULT cleared, of an event queue with PHASE and ARMED at 1; a disable clears ENABLE and moves neither
head nor tail. What the manual leaves open in it is the model's choice: log entries 4 and 36. -/
def Obligations.QueuesAndCompletions : Prop :=
  ((∀ (s : State) (id : Nat) (c : Cmd) (d : Done), findCmd s id = some c → c.done = some d → c.eq < 16 → c.sq < 64 →
    let a := getR s .vstEqBase c.eq 0 c.fn + 64 * fieldR s .vstEqTail 0 16 c.eq 0 c.fn
    eqEnabled s c.fn c.eq = true → eqFull s c.fn c.eq = false → heldOf s c.fn c.eq = [] → hostWritable s a 64 = true →
    fieldR s .vstEqCfg 0 5 c.eq 0 c.fn ≤ 16 →
    ∃ t, exec (.commandCompletion id) s = .next t ∧ findCmd t id = none ∧
      hostRead t a 64 = recordBytes (completionRecord c d) (getR s .vstSqHead c.sq 0 c.fn) s.now (fieldR s .vstEqTail 16 1 c.eq 0 c.fn) ∧
      hostKeptOutside s t a 64 ∧ fieldR t .vstEqTail 0 16 c.eq 0 c.fn = (fieldR s .vstEqTail 0 16 c.eq 0 c.fn + 1) % eqSize s c.fn c.eq % 2 ^ 16 ∧
      getR t .vstFnCommands 0 0 c.fn = (getR s .vstFnCommands 0 0 c.fn + 1) % 2 ^ 64 ∧
      getR t .vstFnRefused 0 0 c.fn = (if d.status / 256 = 1 then (getR s .vstFnRefused 0 0 c.fn + 1) % 2 ^ 32 else getR s .vstFnRefused 0 0 c.fn) ∧
      (∀ x ∈ t.vst.inflight, x ∈ s.vst.inflight ∧ x.id ≠ id)) ∧
  (∀ (s : State) (id : Nat) (c : Cmd), ready s id 0x00 c → entryOk (started s id) c .anyone [] →
    ∃ t, exec (.nop id) s = .next t ∧ ended t id = some (plain 0x0000) ∧ t = { s with vst := { s.vst with inflight := t.vst.inflight } })) ∧
  ((∀ (s : State) (f q : Nat) (cfg : W64), hostReaches s = true → fnExists s f = true → q < 64 → sqRunning s f q = false →
    let v := cfg.toNat % 2 ^ 31 + 2 ^ 31
    clearBits v 0x80FF0F1F = 0 → clearBits (getR s .vstSqCfg q 0 f) 0x80FF0F1F = 0 → 4 ≤ bits v 0 5 → bits v 0 5 ≤ 16 → bits v 16 8 ≠ 0 →
    eqEnabled s f (bits v 8 4) = true →
    ∃ t, exec (.sqEnable f q cfg) s = .next t ∧ getR t .vstSqCfg q 0 f = v ∧ getR t .vstSqHead q 0 f = 0 ∧ getR t .vstSqTail q 0 f = 0 ∧
      fieldR t .vstSqStatus 1 1 q 0 f = 0 ∧ t = { s with regs := t.regs, staged := t.staged }) ∧
  (∀ (s : State) (f q : Nat), hostReaches s = true → fnExists s f = true → q < 64 → bit (getR s .vstSqCfg q 0 f) 31 = true →
    ∃ t, exec (.sqDisable f q) s = .next t ∧ bit (getR t .vstSqCfg q 0 f) 31 = false ∧ getR t .vstSqHead q 0 f = getR s .vstSqHead q 0 f ∧
      getR t .vstSqTail q 0 f = getR s .vstSqTail q 0 f ∧ t = { s with regs := t.regs, staged := t.staged }) ∧
  (∀ (s : State) (f e : Nat) (cfg : W64), hostReaches s = true → fnExists s f = true → e < 16 → eqEnabled s f e = false →
    let v := cfg.toNat % 2 ^ 31 + 2 ^ 31
    clearBits v 0x8000011F = 0 → clearBits (getR s .vstEqCfg e 0 f) 0x8000011F = 0 → 4 ≤ bits v 0 5 → bits v 0 5 ≤ 16 →
    ∃ t, exec (.eqEnable f e cfg) s = .next t ∧ getR t .vstEqCfg e 0 f = v ∧ getR t .vstEqHead e 0 f = 0 ∧ getR t .vstEqTail e 0 f = 0x30000 ∧
      t = { s with regs := t.regs }) ∧
  (∀ (s : State) (f e : Nat), hostReaches s = true → fnExists s f = true → e < 16 → eqEnabled s f e = true → eqInUse s f e = false →
    ∃ t, exec (.eqDisable f e) s = .next t ∧ eqEnabled t f e = false ∧ regsKeptBut s t (regKey f .vstEqCfg e 0) ∧ t = { s with regs := t.regs }) ∧
  (∀ (s : State) (f e : Nat), hostReaches s = true → fnExists s f = true → e < 16 → eqEnabled s f e = true → eqInUse s f e = true →
    ∃ v, exec (.eqDisable f e) s = .next (postEvent s f 2 0x0105 (if f = 0 then 0x120008 + 0x40 * e else 0x20008 + 0x40 * e) v 0 0)))

/-- R366, R369, R546: RUN starts an idle program context of the tenant's wing at its entry address with s1 to s4 from the command and the queue's
PASID, and stays in flight; LNT_LOAD, LNT_INJECT, COPY and FILL put the descriptor that they carry at the end of queue 3 of their unit, and stay in
flight; while the queue has no room the command waits. What the manual leaves open in it is the model's choice: log entries 58 and 88. -/
def Obligations.CommandsReachUnits : Prop :=
  (∀ (s : State) (id : Nat) (c : Cmd), ready s id 0x40 c → runFail c (started s id) = none →
    let u := c.num 16 2
    let p := getR s .vstSqPasid c.sq 0 c.fn
    ∃ t, exec (.run id) s = .next t ∧ ended t id = none ∧ (usher t u).st = .running ∧ (usher t u).cmd = some id ∧ (usher t u).icache = [] ∧
      (usher t u).pc.toNat = (if c.num 24 8 = 0 then getR s .ushEntry u else c.num 24 8) ∧
      (∀ i, i < 4 → getS t u (i + 1) = c.num (32 + 8 * i) 8) ∧ (∀ i, 4 < i → getS t u i = getS s u i) ∧
      getR t .ushContext u = (c.tenant + bits p 0 20 * 2 ^ 8 + bits p 31 1 * 2 ^ 31) % 2 ^ 32 ∧ (∀ n, n ≠ u → usher t n = usher s n) ∧
      t = { s with regs := t.regs, ushers := t.ushers, vst := { s.vst with inflight := t.vst.inflight } }) ∧
  (∀ (s : State) (id : Nat) (c : Cmd), ready s id 0x41 c → present s .lantern (c.num 17 1) = true →
    carryFail (started s id) c false = none → groupWing s (c.num 17 1) = some (cmdWing s c) → hasRoom s 2 (c.num 17 1) 3 c.entry = true →
    ∃ t d, exec (.lntLoad id) s = .next t ∧ ended t id = none ∧ d.op = 0x30 ∧ d.queue = 3 ∧ d.issuer = .command id ∧ d.tenant = c.tenant ∧
      (unitOf t 2 (c.num 17 1)).queued = (unitOf s 2 (c.num 17 1)).queued ++ [d] ∧
      t = { s with units := t.units, nextDesc := t.nextDesc, vst := { s.vst with inflight := t.vst.inflight } }) ∧
  (∀ (s : State) (id : Nat) (c : Cmd), ready s id 0x42 c → present s .lantern (c.num 18 1) = true →
    carryFail (started s id) c false = none → groupWing s (c.num 18 1) = some (cmdWing s c) → hasRoom s 2 (c.num 18 1) 3 c.entry = true →
    ∃ t d, exec (.lntInject id) s = .next t ∧ ended t id = none ∧ d.op = 0x31 ∧ d.queue = 3 ∧ d.issuer = .command id ∧ d.tenant = c.tenant ∧
      (unitOf t 2 (c.num 18 1)).queued = (unitOf s 2 (c.num 18 1)).queued ++ [d] ∧
      t = { s with units := t.units, nextDesc := t.nextDesc, vst := { s.vst with inflight := t.vst.inflight } }) ∧
  (∀ (s : State) (id g : Nat) (c : Cmd), ready s id 0x43 c → carryFail (started s id) c false = none → dmaEngine s (cmdWing s c) = some g →
    hasRoom s 4 g 3 c.entry = true → c.entry.length = 64 →
    ∃ t d, exec (.copy id) s = .next t ∧ ended t id = none ∧ d.op = 0x50 ∧ d.queue = 3 ∧ d.issuer = .command id ∧ d.bytes.drop 16 = c.entry.drop 16 ∧
      (unitOf t 4 g).queued = (unitOf s 4 g).queued ++ [d] ∧
      t = { s with units := t.units, nextDesc := t.nextDesc, vst := { s.vst with inflight := t.vst.inflight } }) ∧
  (∀ (s : State) (id g : Nat) (c : Cmd), ready s id 0x44 c → carryFail (started s id) c false = none → dmaEngine s (cmdWing s c) = some g →
    hasRoom s 4 g 3 c.entry = true → c.entry.length = 64 →
    ∃ t d, exec (.fill id) s = .next t ∧ ended t id = none ∧ d.op = 0x51 ∧ d.queue = 3 ∧ d.issuer = .command id ∧ d.bytes.drop 16 = c.entry.drop 16 ∧
      (unitOf t 4 g).queued = (unitOf s 4 g).queued ++ [d] ∧
      t = { s with units := t.units, nextDesc := t.nextDesc, vst := { s.vst with inflight := t.vst.inflight } }) ∧
  (∀ (s : State) (id g : Nat) (c : Cmd), findCmd s id = some c → dmaEngine s (cmdWing s c) = some g → hasRoom s 4 g 3 c.entry = false →
    exec (.copy id) s = .next s ∧ exec (.fill id) s = .next s)

/-- R353, R381, R382, R383, R505, R253, R354, R357, R358, R509, R510, R512: a function-level reset of a VF drops its commands, returns its queue
registers to reset and is counted, and touches no other function's registers; one of the PF resets every function and disables SR-IOV, and so does
the loss of the link, which is counted once and clears the link's register; the link comes up with the rate and width at which it trained; the
enabling of further VFs resets nothing. A poisoned BAR2 write is discarded and reported; a write or a read outside the halls is discarded and
counted, or answers zeros; a whole line of a hall is written through its home; the PF's write of DEV_RESET_CTRL is a cold reset, and from elsewhere
it is refused; a unit reset of an engine leaves it as a reset does, and shows the outcome of its self-test. What the manual leaves open in it is
the model's choice: log entries 12, 38, 86, 87, 88 and 103. -/
def Obligations.FunctionsHostAndResets : Prop :=
  ((∀ (s : State) (f : Nat), hostReaches s = true → fnExists s f = true → f ≠ 0 → quiet s → s.ushers = [] →
    ∃ t, exec (.flr f) s = .next t ∧ (∀ c ∈ t.vst.inflight, c.fn ≠ f) ∧ (∀ c ∈ s.vst.inflight, c.fn ≠ f → c ∈ t.vst.inflight) ∧
      t.vst.numVfs = s.vst.numVfs ∧ t.vst.linkUp = true ∧
      (∀ q, q < 64 → getR t .vstSqCfg q 0 f = 0x10000 ∧ getR t .vstSqHead q 0 f = 0 ∧ stagedR t .vstSqCfg q 0 f = none) ∧
      (∀ e, e < 16 → getR t .vstEqCfg e 0 f = 0 ∧ heldOf t f e = []) ∧ getR t .vstFlrs = (getR s .vstFlrs + 1) % 2 ^ 64 ∧
      (∀ r i j g, regKey g r i j / 2 ^ 32 ≠ f → regKey g r i j ≠ regKey 0 .vstFlrs 0 0 → getR t r i j g = getR s r i j g)) ∧
  (∀ (s : State), hostReaches s = true → quiet s → s.ushers = [] →
    ∃ t, exec (.flr 0) s = .next t ∧ t.vst.numVfs = 0 ∧ (∀ c ∈ t.vst.inflight, s.vst.numVfs < c.fn) ∧
      getR t .vstSqCfg 3 = 0x10000 ∧ t.vst.linkUp = true) ∧
  (∀ (s : State), s.vst.linkUp = true → quiet s → s.ushers = [] →
    ∃ t, exec .linkDown s = .next t ∧ t.vst.linkUp = false ∧ t.vst.numVfs = 0 ∧ getR t .vstLink = 0 ∧
      getR t .vstLinkDowns = (getR s .vstLinkDowns + 1) % 2 ^ 64 ∧ (∀ c ∈ t.vst.inflight, s.vst.numVfs < c.fn) ∧
      (s.fifo.length < 1024 → t.fifo = s.fifo ++ [⟨0x30, [getR s .vstLink]⟩])) ∧
  (∀ (s : State) (rate width : Nat) (flit cxl : Bool), s.vst.linkUp = false → s.oam.powerGood = true → s.oam.perst = false →
    width = 8 ∨ width = 16 → 4 ≤ rate → rate ≤ 6 → (rate = 6 → flit = true) →
    ∃ t, exec (.linkTrained rate width flit cxl) s = .next t ∧ t.vst.linkUp = true ∧ fieldR t .vstLink 0 4 = rate ∧ fieldR t .vstLink 4 6 = width ∧
      bit (getR t .vstLink) 16 = flit ∧ bit (getR t .vstLink) 17 = cxl ∧ regsKeptBut s t (regKey 0 .vstLink 0 0) ∧
      t = { s with regs := t.regs, vst := { s.vst with linkUp := true } }) ∧
  (∀ (s : State) (n : Nat), hostReaches s = true → n ≤ tenantCount s → s.vst.numVfs ≤ n → quiet s →
    exec (.vfEnable n) s = .next { s with vst := { s.vst with numVfs := n } })) ∧
  ((∀ (s : State) (a : Nat) (bs : List Byte), hostReaches s = true → a < 2 ^ 40 →
    exec (.bar2Write a bs true) s = .next { s with vst := { s.vst with aer := s.vst.aer + 1 } }) ∧
  (∀ (s : State) (a : Nat) (bs : List Byte), hostReaches s = true → a < 2 ^ 40 → bs ≠ [] → bs.length ≤ 512 →
    (∀ l ∈ linesOf a bs.length, bar2Reaches s (l * 64) = false) →
    ∃ t, exec (.bar2Write a bs false) s = .next t ∧ getR t .vstBar2Discards = (getR s .vstBar2Discards + 1) % 2 ^ 64 ∧
      regsKeptBut s t (regKey 0 .vstBar2Discards 0 0) ∧ t = { s with regs := t.regs }) ∧
  (∀ (s : State) (l : Nat) (bs : List Byte), hostReaches s = true → l * 64 < 2 ^ 40 → bs.length = 64 → bar2Reaches s (l * 64) = true →
    hostBias s l = false → exec (.bar2Write (l * 64) bs false) s = .next (writeFull s none l bs).1) ∧
  (∀ (s : State) (a n : Nat), hostReaches s = true → a < 2 ^ 40 → n ≤ 4096 → (∀ l ∈ linesOf a n, bar2Reaches s (l * 64) = false) →
    ∃ t, exec (.bar2Read a n) s = .next t ∧ t.mzn.answer = List.replicate n 0 ∧ t.mzn.answerStatus = 0 ∧
      t = { s with mzn := { s.mzn with answer := t.mzn.answer, answerStatus := 0 } }) ∧
  (∀ (s : State) (l : Nat), hostReaches s = true → l * 64 < 2 ^ 40 → bar2Reaches s (l * 64) = true → hostBias s l = false →
    ∃ t, exec (.bar2Read (l * 64) 64) s = .next t ∧ t.mzn.answer = (readNc s none l).2.1.take 64 ∧ t.mzn.answerStatus = (readNc s none l).2.2) ∧
  (∀ (s : State), hostReaches s = true → exec (.cold (.fn 0)) s = .next (coldReset s (some 3))) ∧
  (∀ (s : State) (f : Nat), hostReaches s = true → fnExists s f = true → f ≠ 0 →
    ∃ off, exec (.cold (.fn f)) s = .next (postEvent s f 2 0x0103 off 1 0 0)) ∧
  (∀ (s : State) (e : Nat) (pass : Bool), hostReaches s = true → e < 32 → present s .engine e = true → quiet s → unitOf s 1 e = idleUnit →
    ∃ t, exec (.unitReset (.fn 0) 1 e pass) s = .next t ∧ engine t e = resetEngine ∧ (∀ x, x ≠ e → engine t x = engine s x) ∧
      faulted t .engine e = !pass ∧ getR t .colSrfVer e = 0 ∧ (∀ n, n < 16 → getR t .qntCfg e n = 64) ∧ t.halls = s.halls ∧ t.host = s.host))

/-- R180, R181, R182, R193: NS_CREATE adds the namespace that its descriptor and its scale table give; NS_SET changes a namespace's halls, engines,
quotas and grants, and the scales where it loads them, and no other namespace; NS_INFO writes the namespace's descriptor and no other byte;
NS_DESTROY deletes every block of the namespace and frees it. Each completes with 0x0000. What the manual leaves open in it is the model's choice:
log entry 60. -/
def Obligations.NamespacesAreKept : Prop :=
  (∀ (s : State) (id : Nat) (c : Cmd), ready s id 0x25 c →
    let u := started s id
    let d := hostRead u (hostOf (c.num 24 8)) 128
    let w := wingOf u (numAt d 4 1)
    let len := (readNs w d []).tableLen
    nsCreateFail c u = none → creditsReady u (cmdWing u c) id (128 + 2 * len) →
    ∃ t, exec (.nsCreate id) s = .next t ∧ ended t id = some (plain 0x0000) ∧
      t.cloister.nss = s.cloister.nss ++ [readNs w d (wordsOf 2 len (hostRead u (hostOf (c.num 32 8)) (2 * len)))] ∧
      t = { s with vst := t.vst, store := t.store, cloister := { s.cloister with nss := t.cloister.nss } }) ∧
  (∀ (s : State) (id : Nat) (c : Cmd) (n : Ns), ready s id 0x26 c →
    let u := started s id
    let d := readNs n.wing (hostRead u (hostOf (c.num 24 8)) 128) n.scales
    nsSetFail c u = none → ownNs u c = some n → nsBlocks s n = [] →
    creditsReady u (cmdWing u c) id (128 + if c.num 32 8 ≠ 0 then 2 * n.tableLen else 0) →
    ∃ t, exec (.nsSet id) s = .next t ∧ ended t id = some (plain 0x0000) ∧
      findNs t n.owner n.nsId =
        some { n with halls := d.halls, engines := d.engines, scaleVer := d.scaleVer, hallQuota := d.hallQuota, flashQuota := d.flashQuota
                      grants := d.grants
                      scales := if c.num 32 8 ≠ 0 then wordsOf 2 n.tableLen (hostRead u (hostOf (c.num 32 8)) (2 * n.tableLen)) else n.scales } ∧
      (∀ o k, (o, k) ≠ (n.owner, n.nsId) → findNs t o k = findNs s o k) ∧
      t = { s with vst := t.vst, store := t.store, cloister := { s.cloister with nss := t.cloister.nss } }) ∧
  (∀ (s : State) (id : Nat) (c : Cmd) (n : Ns), ready s id 0x27 c →
    let u := started s id
    nsInfoFail c u = none → nsFor u c.tenant (cmdWing u c) (c.num 16 1) (c.num 20 4) = some n →
    ∃ t, exec (.nsInfo id) s = .next t ∧ ended t id = some (plain 0x0000) ∧
      hostRead t (hostOf (c.num 24 8)) (nsDescriptor s n).length = nsDescriptor s n ∧
      hostKeptOutside s t (hostOf (c.num 24 8)) (nsDescriptor s n).length ∧ t = { s with host := t.host, vst := t.vst }) ∧
  (∀ (s : State) (id : Nat) (c : Cmd) (n : Ns), ready s id 0x28 c →
    let u := started s id
    nsDestroyFail c u = none → ownNs u c = some n → creditsReady u (cmdWing u c) id 128 →
    ∃ t, exec (.nsDestroy id) s = .next t ∧ ended t id = some (plain 0x0000) ∧ findNs t n.owner n.nsId = none ∧ nsBlocks t n = [] ∧
      (∀ o k, (o, k) ≠ (n.owner, n.nsId) → findNs t o k = findNs s o k) ∧
      (∀ b ∈ s.cloister.blocks, (b.owner, b.nsId) ≠ (n.owner, n.nsId) → b ∈ t.cloister.blocks) ∧
      t = { s with vst := t.vst, store := t.store, cloister := t.cloister, regs := t.regs })

/-- R91, R276, R401, R402, R403: POWER_STATE begins a move, or answers at once where the state is the one it names; once quiet is reached the halls
park and P1 is entered; a move to P2 first pauses fetching and commits every wing, and is entered when no commit runs, its halls in self-refresh; a
move whose limit passes is abandoned; a move to a lower-numbered state ends in it. What the manual leaves open in it is the model's choice: log
entry 61. -/
def Obligations.PowerStatesChange : Prop :=
  (∀ (s : State) (id : Nat) (c : Cmd), ready s id 0x60 c → powerStateFail c (started s id) = none →
    let target := numAt (argBytes s c) 0 1
    let cur := s.store.power.current
    (target ≠ cur →
      ∃ t, exec (.powerState id) s = .next t ∧ ended t id = none ∧
        t.store.power = { s.store.power with moving := some (id, target, numAt (argBytes s c) 8 8, s.now), during := 0, paused := false } ∧
        t = { s with vst := t.vst, store := { s.store with power := t.store.power } }) ∧
    (target = cur →
      ∃ t, exec (.powerState id) s = .next t ∧ ended t id = some ⟨0x0000, 0, 0, cur, 0, 0⟩ ∧
        hostRead t (hostOf (c.num 24 8)) 64 = powerOut cur cur 0 0 0 ∧ hostKeptOutside s t (hostOf (c.num 24 8)) 64 ∧
        t = { s with vst := t.vst, host := t.host })) ∧
  (∀ (s : State) (id limit acc : Nat) (c : Cmd), s.store.power.moving = some (id, 1, limit, acc) → s.store.power.current = 0 →
    powerQuiet s id = true → findCmd s id = some c → c.done = none →
    ∃ t, exec .powerStateQuiet s = .next t ∧ ended t id = some ⟨0x0000, 0, 0, 1, s.now - acc, 0⟩ ∧ t.store.power.current = 1 ∧
      t.store.power.moving = none ∧ (∀ h, h < 16 → present s .hall h = true → stair t h = { stair s h with parking := true }) ∧
      hostRead t (hostOf (c.num 24 8)) 64 = powerOut 1 0 (s.now - acc) s.store.power.during s.now ∧
      hostKeptOutside s t (hostOf (c.num 24 8)) 64 ∧
      t = { s with vst := t.vst, host := t.host, halls := t.halls, store := { s.store with power := t.store.power } }) ∧
  (∀ (s : State) (id limit acc : Nat), s.store.power.moving = some (id, 2, limit, acc) → s.store.power.current < 2 →
    powerQuiet s id = true → s.store.power.paused = false →
    ∃ t, exec .powerStateQuiet s = .next t ∧ t.store.power = { s.store.power with paused := true } ∧
      (hasUndercroft s = true → health s < 2 → ∀ w, w < wingCount s → (journal t w).running = true)) ∧
  (∀ (s : State) (id limit acc : Nat) (c : Cmd), s.store.power.moving = some (id, 2, limit, acc) → s.store.power.current < 2 →
    powerQuiet s id = true → s.store.power.paused = true → (∀ w ∈ committingWings s, (journal s w).running = false) →
    findCmd s id = some c → c.done = none →
    ∃ t, exec .powerStateQuiet s = .next t ∧ ended t id = some ⟨0x0000, 0, 0, 2, s.now - acc, 0⟩ ∧ t.store.power.current = 2 ∧
      (∀ h, h < 16 → present s .hall h = true → bit (getR t .halStatus h) 5 = true ∧ (stair t h).parking = true)) ∧
  (∀ (s : State) (id target limit acc : Nat) (c : Cmd), s.store.power.moving = some (id, target, limit, acc) → s.store.power.current < target →
    limit ≠ 0 → s.store.power.paused = false → findCmd s id = some c → c.done = none →
    ∃ t, exec .powerStateTimeout s = .next t ∧ ended t id = some ⟨0x0000, 0, 0, s.store.power.current, max s.now (acc + limit) - acc, 0⟩ ∧
      t.store.power = { s.store.power with moving := none } ∧ t.now = max s.now (acc + limit) ∧
      t = { s with now := t.now, vst := t.vst, host := t.host, store := { s.store with power := t.store.power } }) ∧
  (∀ (s : State) (id limit acc : Nat) (c : Cmd), s.store.power.moving = some (id, 0, limit, acc) → s.store.power.current = 1 →
    findCmd s id = some c → c.done = none →
    ∃ t, exec .powerStateExit s = .next t ∧ ended t id = some ⟨0x0000, 0, 0, 0, s.now - acc, 0⟩ ∧ t.store.power.current = 0 ∧
      t.store.power.moving = none ∧ (∀ h, h < 16 → present s .hall h = true → stair t h = { stair s h with parking := false })) ∧
  (∀ (s : State) (id target limit acc : Nat), s.store.power.moving = some (id, target, limit, acc) → s.store.power.current = 2 → target < 2 →
    ∃ t, exec .powerStateExit s = .next t ∧ t.store.power.current = target ∧ t.store.power.moving = none)

/-- R441, R444: MAP_PREPARE holds a new image of a map and answers its epoch and digest, or deletes the map; MAP_COMMIT schedules the switch and
ends when it happens; MAP_ABORT discards a prepared image and the collection changes prepared for it; at T the new image and the prepared
parameters become current, and MAP_COMMIT completes; at G the old ones are released. No other map changes. What the manual leaves open in it is the
model's choice: log entry 81. -/
def Obligations.ShardMapsSwitch : Prop :=
  (∀ (s : State) (id : Nat) (c : Cmd), ready s id 0x61 c → mapPrepareFail c (started s id) = none →
    let a := argBytes s c
    let n := numAt a 0 1
    let i := readImage (hostRead s (hostOf (numAt a 8 8)) (numAt a 16 4))
    ∃ t, exec (.mapPrepare id) s = .next t ∧ ended t id = some (plain 0x0000) ∧
      mapOf t n = (if bit (numAt a 1 1) 0 then noMap else { mapOf s n with state := .prepared, next := some i }) ∧
      (∀ k, k ≠ n → mapOf t k = mapOf s k) ∧
      (bit (numAt a 1 1) 0 = false → hostRead t (hostOf (c.num 24 8)) 24 = bytesOf 4 (mapOf s n).epoch ++ bytesOf 4 i.epoch ++ bytesOf 16 i.digest) ∧
      hostKeptOutside s t (hostOf (c.num 24 8)) 64 ∧ t = { s with vst := t.vst, host := t.host, maps := t.maps }) ∧
  (∀ (s : State) (id : Nat) (c : Cmd), ready s id 0x62 c → mapCommitFail c (started s id) = none →
    let a := argBytes s c
    let n := numAt a 0 1
    ∃ t, exec (.mapCommit id) s = .next t ∧ ended t id = none ∧
      mapOf t n =
        { mapOf s n with state := .committed, t := numAt a 24 8, g := numAt a 24 8 + numAt a 32 4 * 1000, cmd := some id, outAddr := hostOf (c.num 24 8) } ∧
      (∀ k, k ≠ n → mapOf t k = mapOf s k) ∧ t = { s with vst := t.vst, maps := t.maps }) ∧
  (∀ (s : State) (id : Nat) (c : Cmd), ready s id 0x63 c → mapAbortFail c (started s id) = none →
    let n := numAt (argBytes s c) 0 1
    ∃ t, exec (.mapAbort id) s = .next t ∧ ended t id = some (plain 0x0000) ∧
      mapOf t n = { mapOf s n with state := if (mapOf s n).cur.isSome then .active else .none, next := none } ∧
      (∀ k, k ≠ n → mapOf t k = mapOf s k) ∧
      (∀ k, collOf t k = (collOf s k).map fun x => if x.mapId = some n then { x with change := none } else x) ∧
      hostRead t (hostOf (c.num 24 8)) 4 = bytesOf 4 (mapOf s n).epoch ∧ hostKeptOutside s t (hostOf (c.num 24 8)) 64 ∧
      t = { s with vst := t.vst, host := t.host, maps := t.maps, store := { s.store with colls := t.store.colls } }) ∧
  (∀ (s : State) (n id : Nat) (c : Cmd) (i : MapImage), (mapOf s n).state = .committed → (mapOf s n).next = some i → (mapOf s n).cmd = some id →
    findCmd s id = some c → c.done = none →
    ∃ t, exec (.mapActivation n) s = .next t ∧ ended t id = some (plain 0x0000) ∧ t.now = max s.now (mapOf s n).t ∧
      mapOf t n = { mapOf s n with state := .grace, cur := some i, next := none, old := (mapOf s n).cur, cmd := none } ∧
      (∀ k, k ≠ n → mapOf t k = mapOf s k) ∧
      (∀ k, collOf t k = (collOf s k).map fun x => if x.mapId = some n then applyCollChange true x else x) ∧
      hostRead t (mapOf s n).outAddr 16 = bytesOf 4 i.epoch ++ bytesOf 4 0 ++ bytesOf 8 (mapOf s n).t ∧
      hostKeptOutside s t (mapOf s n).outAddr 64 ∧
      t = { s with now := t.now, vst := t.vst, host := t.host, maps := t.maps, store := { s.store with colls := t.store.colls } }) ∧
  (∀ (s : State) (n : Nat), (mapOf s n).state = .grace →
    ∃ t, exec (.graceEnd n) s = .next t ∧ t.now = max s.now (mapOf s n).g ∧ mapOf t n = { mapOf s n with state := .active, old := none } ∧
      (∀ k, k ≠ n → mapOf t k = mapOf s k) ∧
      (∀ k, collOf t k = (collOf s k).map fun x => if x.mapId = some n then { x with old := none } else x) ∧
      t = { s with now := t.now, maps := t.maps, store := { s.store with colls := t.store.colls } })

/-- R446: COLL_CHANGE_PREPARE holds a change of GRID_ID, SCALE_VER or both for a collection, with the new channel scales; COLL_CHANGE_COMMIT
applies it to a collection that no map binds. Each writes a zeroed OUT and changes no other collection. What the manual leaves open in it is the
model's choice: log entry 81. -/
def Obligations.CollectionParametersChange : Prop :=
  (∀ (s : State) (id : Nat) (c : Cmd) (x : Coll), ready s id 0x64 c → collChangePrepareFail c (started s id) = none →
    let a := argBytes s c
    let f := numAt a 2 1
    openColl s (numAt a 0 2) = some x →
    ∃ t, exec (.collChangePrepare id) s = .next t ∧ ended t id = some (plain 0x0000) ∧
      collOf t (numAt a 0 2) =
        some { x with change := some (CollChange.mk (numAt a 4 4) (if bit f 0 then some (numAt a 8 4) else none)
          (if bit f 1 then some (numAt a 12 4) else none)
          (if bit f 1 = true ∧ x.denseDim ≠ 0 then wordsOf 2 x.denseDim (hostRead s (hostOf (numAt a 16 8)) (2 * x.denseDim)) else x.scales)) } ∧
      (∀ k, k ≠ numAt a 0 2 → collOf t k = collOf s k) ∧
      hostRead t (hostOf (c.num 24 8)) 64 = List.replicate 64 0 ∧ hostKeptOutside s t (hostOf (c.num 24 8)) 64 ∧
      t = { s with vst := t.vst, host := t.host, store := { s.store with colls := t.store.colls } }) ∧
  (∀ (s : State) (id : Nat) (c : Cmd) (x : Coll) (k : CollChange), ready s id 0x65 c → collChangeCommitFail c (started s id) = none →
    let n := numAt (argBytes s c) 0 2
    openColl s n = some x → x.change = some k →
    ∃ t, exec (.collChangeCommit id) s = .next t ∧ ended t id = some (plain 0x0000) ∧
      collOf t n = some { x with grid := k.grid.getD x.grid, scaleVer := k.scaleVer.getD x.scaleVer
                                 scales := if k.scaleVer.isSome then k.scales else x.scales, change := none } ∧
      (∀ m, m ≠ n → collOf t m = collOf s m) ∧
      hostRead t (hostOf (c.num 24 8)) 64 = List.replicate 64 0 ∧ hostKeptOutside s t (hostOf (c.num 24 8)) 64 ∧
      t = { s with vst := t.vst, host := t.host, store := { s.store with colls := t.store.colls } })

/-- R459, R460, R462, R464, R473: WING_SET gives a wing its hall groups, takes the others from it, and sets its Undercroft quota and its peer
account where FLAGS select them; TENANT_SET gives a tenant its wing and its shares. Each completes with 0x0000. What the manual leaves open in it
is the model's choice: log entry 89. -/
def Obligations.WingsAndTenantsAreSet : Prop :=
  (∀ (s : State) (id : Nat) (c : Cmd), ready s id 0x66 c → wingSetFail c (started s id) = none →
    let a := argBytes s c
    let w := numAt a 0 1
    let f := numAt a 1 1
    let gs := numAt a 2 2
    ∃ t, exec (.wingSet id) s = .next t ∧ ended t id = some (plain 0x0000) ∧
      (bit f 0 = true → (∀ g, g < 16 → getR t .wngGroup g = if bit gs g then 16 + w else if ownsGroup s w g then 0 else getR s .wngGroup g) ∧
        fieldR t .wngW 0 16 w = gs) ∧
      (bit f 0 = false → ∀ g, g < 16 → getR t .wngGroup g = getR s .wngGroup g) ∧
      getR t .wngWQuota w = (if bit f 1 then numAt a 8 8 else getR s .wngWQuota w) ∧
      (bit f 2 = true → fieldR t .wngW 16 2 w = numAt a 16 1 ∧ fieldR t .wngW 24 8 w = numAt a 17 1 ∧ fieldR t .wngW 32 11 w = numAt a 18 2 ∧
        fieldR t .wngTCfg 4 2 (128 + w) = numAt a 16 1) ∧
      t.store.colls = s.store.colls ∧ t.cloister.nss = s.cloister.nss ∧ t.halls = s.halls ∧ t.ushers = s.ushers) ∧
  (∀ (s : State) (id : Nat) (c : Cmd), ready s id 0x67 c → tenantSetFail c (started s id) = none →
    let a := argBytes s c
    let n := numAt a 0 1
    let f := numAt a 1 1
    ∃ t, exec (.tenantSet id) s = .next t ∧ ended t id = some (plain 0x0000) ∧ wingOf t n = (if bit f 0 then numAt a 2 1 else wingOf s n) ∧
      (bit f 1 = true → fieldR t .wngTCfg 4 2 n = numAt a 3 1 ∧ fieldR t .wngTCfg 8 8 n = numAt a 4 1 ∧ fieldR t .wngTCfg 16 8 n = numAt a 5 1 ∧
        fieldR t .wngTCfg 24 11 n = numAt a 6 2 ∧ getR t .wngTDelay n = numAt a 8 4) ∧
      (bit f 1 = false → getR t .wngTDelay n = getR s .wngTDelay n) ∧ (∀ m, m < 144 → m ≠ n → getR t .wngTCfg m = getR s .wngTCfg m) ∧
      t.store.colls = s.store.colls ∧ t.cloister.nss = s.cloister.nss ∧ t.halls = s.halls ∧ t.ushers = s.ushers)

/-- R448, R449, R450, R452: every 100 µs a probe is due on each port; a request is answered with its own T1 and the time of its arrival; a response
gives the link's delay, and the follower of that port its offset, which it absorbs, or jumps when it is more than 10 µs behind; without a valid
measurement for 40 ms the device is unsynchronised; the timekeeper alone sets time, and never backwards. What the manual leaves open in it is the
model's choice: log entries 72 and 73. -/
def Obligations.SharedTimeIsKept : Prop :=
  (∀ (s : State) (p : Nat), portActive s p = true →
    ∃ t, exec (.timeProbeSend p) s = .next t ∧ t.now = max s.now (portOf s p).probeDue ∧
      (portOf t p).waitingOn 1 = (portOf s p).waitingOn 1 ++ [probeBytes 1 (portOf s p).nextProbe 0 0 (probeFlags s)] ∧
      (portOf t p).probeDue = t.now + 100000 ∧ (portOf t p).nextProbe = ((portOf s p).nextProbe + 1) % 2 ^ 16 ∧
      (∀ q, q ≠ p → portOf t q = portOf s q) ∧ t = { s with now := t.now, ports := t.ports }) ∧
  (∀ (s : State) (p : Nat) (b : List Byte), portActive s p = true → rxFront s p 1 = some b → numAt b 0 1 = 1 →
    ∃ t, exec (.timeProbeRequest p) s = .next t ∧
      (portOf t p).waitingOn 1 = (portOf s p).waitingOn 1 ++ [probeBytes 2 (numAt b 2 2) (numAt b 8 8) (numAt b 48 8) (probeFlags s)] ∧
      tget (fun _ => []) (portOf t p).rxBuf 1 = (tget (fun _ => []) (portOf s p).rxBuf 1).tail ∧
      (∀ q, q ≠ p → portOf t q = portOf s q) ∧ t = { s with ports := t.ports }) ∧
  (∀ (s : State) (p id t1 : Nat) (b : List Byte), rxFront s p 1 = some b → numAt b 0 1 = 2 → (portOf s p).probe = some (id, t1) → numAt b 2 2 = id →
    let t2 : Int := numAt b 16 8
    let t3 : Int := numAt b 24 8
    let t4 : Int := numAt b 48 8
    let d := ((t4 - t1) - (t3 - t2)) / 2
    let o := ((t2 - t1) + (t3 - t4)) / 2
    (upstream s ≠ some p →
      ∃ t, exec (.timeProbeResponse p) s = .next t ∧ getR t .mrqPDelayNs p = min d.toNat (2 ^ 32 - 1) ∧ (portOf t p).probe = none ∧
        regsKeptBut s t (regKey 0 .mrqPDelayNs p 0) ∧ t = { s with regs := t.regs, ports := t.ports }) ∧
    (upstream s = some p → bit (numAt b 32 1) 0 = true → synced s = true → o.natAbs ≤ 2000 →
      ∃ t, exec (.timeProbeResponse p) s = .next t ∧ getR t .mrqPDelayNs p = min d.toNat (2 ^ 32 - 1) ∧ (portOf t p).probe = none ∧
        getR t .timOffsetNs = saturate32 o ∧ fieldR t .timStatus 1 3 = min 7 (bits (numAt b 32 1) 1 3 + 1) ∧ synced t = true ∧
        t.tim.slew = o ∧ t.tim.lastValid = s.now ∧ t = { s with regs := t.regs, ports := t.ports, tim := t.tim }) ∧
    (upstream s = some p → bit (numAt b 32 1) 0 = true → 10000 < o →
      ∃ t, exec (.timeProbeResponse p) s = .next t ∧ t.now = s.now + o.toNat ∧ t.tim.slew = 0 ∧ synced t = false)) ∧
  (∀ (s : State), timekeeper s = false → synced s = true →
    ∃ t, exec .syncTimeout s = .next t ∧ synced t = false ∧ t.now = max s.now (s.tim.lastValid + 40000000) ∧ t.tim.since = t.now ∧
      bit (getR t .timEvents) 0 = true) ∧
  (∀ (s : State) (who : Requester) (v : W64), timekeeper s = true → s.now ≤ v.toNat →
    ∃ t, exec (.timSet who v) s = .next t ∧ t.now = v.toNat ∧ t = { s with now := t.now, porter := t.porter }) ∧
  (∀ (s : State) (who : Requester) (v : W64), timekeeper s = false ∨ v.toNat < s.now →
    exec (.timSet who v) s = .next (discardWrite s who (regOff .timSet 0 0) v.toNat 0x0103))

/-- R47, R203, R204, R205, R212: an event that arrives at a core enters its input buffer, or is dropped and counted by its class; a core that
handles an event applies each synapse: the neuron leaks to the event's time and takes the weight; below its threshold it keeps its potential, and
at or above it the neuron spikes: its potential is reset, the spike is counted in its group's bank and sent to each core that it names. What the
manual leaves open in it is the model's choice: log entries 56 and 57. -/
def Obligations.LanternHandlesEvents : Prop :=
  (∀ (s : State) (c sender : Nat) (e : Nat × LEvent), (lcore s c).net.find? (fun x => x.1 == sender) = some e → wouldDrop s c = false →
    ∃ t, exec (.lanternEventArrival c sender) s = .next t ∧
      lcore t c = { lcore s c with buffer := (lcore s c).buffer ++ [e.2], net := (lcore s c).net.erase e } ∧
      (∀ k, k ≠ c → lcore t k = lcore s k) ∧ t = { s with cores := t.cores }) ∧
  (∀ (s : State) (c sender : Nat) (e : Nat × LEvent), present s .lantern c = true → (lcore s c).net.find? (fun x => x.1 == sender) = some e →
    wouldDrop s c = true →
    ∃ t, exec (.lanternEventArrival c sender) s = .next t ∧ lcore t c = { lcore s c with net := (lcore s c).net.erase e } ∧
      (∀ k, k ≠ c → lcore t k = lcore s k) ∧ bit (getR t .lntEvents c) 0 = true ∧
      getR t (dropReg (srcClass e.2.src)) c = (getR s (dropReg (srcClass e.2.src)) c + 1) % 2 ^ 64) ∧
  (∀ (s : State) (c : Nat) (e : LEvent), coreOn s c = true → lanternFrozen s = false →
    let u := coreLanding s c
    dueEvent u c = some (e, false) → synapsesOf u c e LntBad.none = [] →
    ∃ t, exec (.lanternEvent c LntBad.none) s = .next t ∧
      lcore t c = { lcore s c with buffer := (lcore s c).buffer.erase e, last := e.time } ∧ (∀ k, k ≠ c → lcore t k = lcore s k) ∧
      getR t .lntInEvents c = (getR s .lntInEvents c + 1) % 2 ^ 64 ∧ regsKeptBut u t (regKey 0 .lntInEvents c 0) ∧
      t = { u with regs := t.regs, cores := t.cores }) ∧
  (∀ (s : State) (c i : Nat) (w : Int) (e : LEvent), coreOn s c = true → lanternFrozen s = false →
    let u := coreLanding s c
    let n := leakTo u c (neuronOf (lcore s c) i) e.time
    let pot := sat16 (potOf n + w)
    let th := bits n 16 15
    dueEvent u c = some (e, false) → synapsesOf u c e LntBad.none = [(i, w)] →
    (th = 0 ∨ pot < (th : Int) →
      ∃ t, exec (.lanternEvent c LntBad.none) s = .next t ∧ neuronOf (lcore t c) i = withPot n pot (bits n 64 64) % 2 ^ 128 ∧
        (∀ j, j ≠ i → neuronOf (lcore t c) j = neuronOf (lcore s c) j) ∧ (lcore t c).spiked = (lcore s c).spiked ∧
        getR t .lntSynops c = (getR s .lntSynops c + 1) % 2 ^ 64 ∧ getR t .lntSpikes c = getR s .lntSpikes c ∧
        (∀ k, k ≠ c → lcore t k = lcore s k) ∧ t = { u with regs := t.regs, cores := t.cores }) ∧
    (th ≠ 0 → (th : Int) ≤ pot →
      ∃ t, exec (.lanternEvent c LntBad.none) s = .next t ∧
        neuronOf (lcore t c) i = withPot n (if bit n 31 then sat16 (pot - th) else 0) (bits n 64 64) % 2 ^ 128 ∧
        (∀ j, j ≠ i → neuronOf (lcore t c) j = neuronOf (lcore s c) j) ∧ i ∈ (lcore t c).spiked ∧
        getR t .lntSynops c = (getR s .lntSynops c + 1) % 2 ^ 64 ∧ getR t .lntSpikes c = (getR s .lntSpikes c + 1) % 2 ^ 64 ∧
        (let g := bits (neuronOf (lcore t c) i) 40 8
         tget (fun _ => 0) (lcore t c).active g = min (tget (fun _ => 0) (lcore s c).active g + 1) 0xFFFFFFFF) ∧
        (∀ k ∈ maskHalls (bits (neuronOf (lcore t c) i) 48 16), present s .lantern k = true → (c, ⟨c * 65536 + i, e.time + 1⟩) ∈ (lcore t k).net)))

/-- R213, R217, R218, R219, R346, R347: a window closes at its end: the group counts and its end show, and the next one begins with empty banks; a
table load takes effect at once on a stopped core, and at a Landing, whole, on a running one; an injection puts its HOST events into the input
buffer in order. What the manual leaves open in it is the model's choice: log entries 57 and 58. -/
def Obligations.LanternWindowsAndTables : Prop :=
  (∀ (s : State) (c : Nat) (bad : LntBad), coreOn s c = true → lanternFrozen s = false → windowBusy s c = false →
    ((lcore s c).actions.any fun e => decide (bits e.2.toNat 4 4 ≠ 0)) = false →
    ∃ t, exec (.windowClose c bad) s = .next t ∧ t.now = max s.now (windowEnd s c + if timed s c then getR s .lntHorizonNs c else 0) ∧
      lcore t c = { lcore s c with active := [], window := (lcore s c).window + 1, spiked := [] } ∧ (∀ k, k ≠ c → lcore t k = lcore s k) ∧
      (∀ g, g < 256 → getR t .lntCount c g = tget (fun _ => 0) (lcore s c).active g % 2 ^ 32) ∧
      getR t .lntWindowEnd c = windowEnd s c % 2 ^ 64 ∧ getR t .lntWindowSeq c = (getR s .lntWindowSeq c + 1) % 2 ^ 64 ∧
      bit (getR t .lntEvents c) 3 = true) ∧
  (∀ (s : State) (c id : Nat) (d : Desc), taking s 2 c id 0x30 d → lanternIdle s c = true →
    let s1 := acceptDesc s 2 c d
    let n := d.num 24 4 * (tableShape (d.num 16 1)).1
    let es := loadEntries (tableShape (d.num 16 1)).1 (d.num 24 4) (memRead s1 (d.num 28 8) n)
    let r := touchRead s1 (some d.wing) (d.num 28 8) n
    loadFail s1 c d = none →
    (coreOn r c = false →
      ∃ t, exec (.lntLoadDesc c id) s = .next t ∧ lcore t c = applyLoad (lcore r c) (d.num 16 1) (d.num 20 4) es ∧
        (∀ x ∈ (unitOf t 2 c).accepted, x.id = id → x.result = some (0x0000, 0)) ∧ t = { r with cores := t.cores, units := t.units }) ∧
    (coreOn r c = true →
      ∃ t, exec (.lntLoadDesc c id) s = .next t ∧
        lcore t c = { lcore r c with loads := (lcore r c).loads ++ [⟨id, d.num 16 1, d.num 20 4, es⟩] } ∧ t = { r with cores := t.cores })) ∧
  (∀ (s : State) (c : Nat) (l : LLoad) (ls : List LLoad), (lcore s c).loads = l :: ls →
    ∃ t, exec (.lntLoadApply c) s = .next t ∧ lcore t c = applyLoad { lcore s c with loads := ls } l.kind l.first l.entries ∧
      (∀ k, k ≠ c → lcore t k = lcore s k) ∧ (∀ x ∈ (unitOf t 2 c).accepted, x.id = l.desc → x.result = some (0x0000, 0)) ∧
      t = { coreLanding s c with cores := t.cores, units := t.units }) ∧
  (∀ (s : State) (c id : Nat) (d : Desc), taking s 2 c id 0x31 d → lanternIdle s c = true →
    let s1 := acceptDesc s 2 c d
    let r := touchRead s1 (some d.wing) (d.num 24 8) (16 * d.num 16 2)
    injectFail s1 c d = none → coreOn r c = true → lanternFrozen r = false → (lcore r c).buffer.length + d.num 16 2 ≤ 4096 →
    ∃ t, exec (.lntInjectDesc c id) s = .next t ∧
      lcore t c = { lcore r c with buffer := (lcore r c).buffer ++ injectEvents s.now (injectEntries s1 d) } ∧
      (∀ x ∈ (unitOf t 2 c).accepted, x.id = id → x.result = some (0x0000, 0)) ∧ t = { r with cores := t.cores, units := t.units })

/-- R188, R348, R373, R193, R196, R197, R215, R217: a probe, from the host or in a descriptor, that passes its checks writes how long a run of its
key chain is present and how much of it in hall memory, and the host's completion gives both; the run's keys are the first ones asked for. The
oldest queued action of a core leaves its queue and reaches the present blocks of its four handles: UNPIN clears their Lantern pin, and DEMOTE
marks them; a demotion's flash copy that completes releases the hall copy, and a promotion that completes leaves a hall copy beside the flash copy.
What the manual leaves open in it is the model's choice: log entries 14 and 110. -/
def Obligations.BlocksAreProbedAndMoved : Prop :=
  ((∀ (s : State) (id : Nat) (c : Cmd), ready s id 0x20 c →
    let u := started s id
    let k := hostCls u c
    ((entryFail u c .tenant (probeChecks u k)).or (probeBuffers u k)) = none →
    exec (.prefixProbe id) s = .next (finish (runProbe u k).state id (runProbe u k).status (runProbe u k).a (runProbe u k).b)) ∧
  (∀ (s : State) (g id : Nat) (d : Desc), taking s 3 g id 0x40 d →
    let u := acceptDesc s 3 g d
    let k := descCls d
    ((descFail u 3 g d (probeChecks u k)).or (probeBuffers u k)) = none →
    exec (.clsProbe g id) s = .next (endDesc (runProbe u k).state 3 g id (runProbe u k).status 0)) ∧
  (∀ (u : State) (k : ClsCmd) (n : Ns), k.ns u = some n →
    let keys := keysAt u (k.num 24 8) (k.num 18 2 + 1)
    let tokens := if bit (k.num 17 1) 0 then some (wordsOf 4 (256 * k.num 18 2) (memRead u (k.num 32 8) (1024 * k.num 18 2))) else none
    let l := runOf u n tokens (keys.headD 0) keys.tail
    let v := touchRead u (some k.wing) (k.num 24 8) (16 * (k.num 18 2 + 1))
    let w := if bit (k.num 17 1) 1 then v else l.foldl probeHit v
    let p := memPut w (some k.wing) (k.num 40 8) (bytesOf 2 l.length ++ bytesOf 2 (l.filter Block.hallCopy).length ++ bytesOf 60 0)
    (runProbe u k).a = l.length ∧ (runProbe u k).b = (l.filter Block.hallCopy).length ∧ (runProbe u k).state = p.1 ∧
      (runProbe u k).status = p.2 ∧ l.map Block.key = keys.tail.take l.length ∧
      (∀ b ∈ l, b ∈ u.cloister.blocks ∧ b.owner = n.owner ∧ b.nsId = n.nsId))) ∧
  ((∀ (s : State) (c i : Nat) (rest : List (Nat × Nat)), (lcore s c).queue = (3, i) :: rest →
    ∃ t, exec (.lanternAction c) s = .next t ∧ (lcore t c).queue = rest ∧
      (∀ k b, k < 4 → blockAt s (2 ^ 18 * c + 4 * i + k) = some b → blockAt t (2 ^ 18 * c + 4 * i + k) = some { b with pinLantern := false }) ∧
      t = { s with cores := t.cores, cloister := t.cloister }) ∧
  (∀ (s : State) (c i : Nat) (rest : List (Nat × Nat)), (lcore s c).queue = (4, i) :: rest →
    ∃ t, exec (.lanternAction c) s = .next t ∧ (lcore t c).queue = rest ∧
      (∀ k b, k < 4 → blockAt s (2 ^ 18 * c + 4 * i + k) = some b →
        ∃ m, s.cloister.marks ≤ m ∧ blockAt t (2 ^ 18 * c + 4 * i + k) = some { b with mark := some m }) ∧
      t = { s with cores := t.cores, cloister := t.cloister }) ∧
  (∀ (s : State) (o n key : Nat) (b : Block) (x : Ns), findBlock s o n key = some b → b.st = .copying → findNs s o n = some x → x.wing < 16 →
    ∃ t, exec (.flashCopyComplete o n key) s = .next t ∧ findBlock t o n key = some { b with st := .flash, flash := true } ∧
      findNs t o n = some { x with demotions := x.demotions + 1 } ∧
      getR t .ucrWUsed x.wing = (if b.flash then getR s .ucrWUsed x.wing else (getR s .ucrWUsed x.wing + x.blockBytes + blockRecord) % 2 ^ 64) ∧
      (∀ o' n' key', (o', n', key') ≠ (o, n, key) → findBlock t o' n' key' = findBlock s o' n' key')) ∧
  (∀ (s : State) (o n key : Nat) (b : Block), findBlock s o n key = some b → b.st = .promoting →
    ∃ t, exec (.promotionComplete o n key) s = .next t ∧ findBlock t o n key = some { b with st := .hall } ∧
      (∀ o' n' key', (o', n', key') ≠ (o, n, key) → findBlock t o' n' key' = findBlock s o' n' key') ∧
      t = { s with cloister := { s.cloister with blocks := t.cloister.blocks } }))

/-- R191, R192, R348, R373: a get, from the host or in a descriptor, that passes its checks delivers the present keys and reports them; the keys
that are not present are missing, and it ends with 0x0305; one present key puts its segments at the destination and is counted. What the manual
leaves open in it is the model's choice: log entry 16. -/
def Obligations.CloisterGets : Prop :=
  (∀ (s : State) (id : Nat) (bad : List Nat) (c : Cmd) (n : Ns), ready s id 0x21 c →
    let u := started s id
    let k := hostCls u c
    ((entryFail u c .tenant (getChecks u k)).or (readFail u (k.num 32 8) (16 * k.num 24 2))) = none → k.ns u = some n →
    exec (.prefixGet id bad) s =
      .next (finish (runGet u k n bad).state id (runGet u k n bad).status (runGet u k n bad).a (runGet u k n bad).b)) ∧
  (∀ (s : State) (g id : Nat) (bad : List Nat) (d : Desc) (n : Ns), taking s 3 g id 0x41 d →
    let u := acceptDesc s 3 g d
    let k := descCls d
    ((descFail u 3 g d (getChecks u k)).or (readFail u (k.num 32 8) (16 * k.num 24 2))) = none → k.ns u = some n →
    exec (.clsGet g id bad) s = .next (endDesc (runGet u k n bad).state 3 g id (runGet u k n bad).status (runGet u k n bad).a)) ∧
  (∀ (u : State) (k : ClsCmd) (n : Ns) (bad : List Nat), 0 < k.num 24 2 → bit (k.num 17 1) 0 = false →
    let v := touchRead u (some k.wing) (k.num 32 8) (16 * k.num 24 2)
    (∀ key ∈ keysAt u (k.num 32 8) (k.num 24 2), findBlock v n.owner n.nsId key = none) →
    let p := memPut v (some k.wing) (k.num 56 8) (bytesOf 8 0 ++ bytesOf 8 0 ++ bytesOf 48 0 ++ bytesOf 32 (2 ^ k.num 24 2 - 1) ++ bytesOf 32 0)
    (runGet u k n bad).a = 0 ∧ (runGet u k n bad).b = 0 ∧ (runGet u k n bad).state = p.1 ∧
      (runGet u k n bad).status = if p.2 ≠ 0 then p.2 else 0x0305) ∧
  (∀ (u : State) (k : ClsCmd) (n : Ns) (b : Block), k.num 24 2 = 1 → bit (k.num 17 1) 0 = false → k.num 18 1 = 0 →
    let v := touchRead u (some k.wing) (k.num 32 8) 16
    let out := ((List.range (k.num 28 2)).map fun l => b.segs.getD (k.num 26 2 + l) []).flatten
    let p := memPut v (some k.wing) (k.num 40 8) out
    let report := bytesOf 2 1 ++ bytesOf 2 (b2n (!b.hallCopy)) ++ bytesOf 4 0 ++ bytesOf 8 out.length ++ bytesOf 48 0 ++ bytesOf 64 0
    let q := memPut (touchBlock p.1 b) (some k.wing) (k.num 56 8) report
    (∀ key ∈ keysAt u (k.num 32 8) 1, findBlock v n.owner n.nsId key = some b) → nsHalted v n = false → p.2 = 0 →
    (runGet u k n []).a = 1 ∧ (runGet u k n []).b = out.length ∧ (runGet u k n []).state = q.1 ∧ (runGet u k n []).status = q.2)

/-- R189, R190, R193, R197, R278, R348: a put, from the host or in a descriptor, that passes its checks stores the blocks that are not present,
once room is made for them, and reports those that were; it is refused without room and fails while a hall of the namespace is halted; a pin sets
or clears the HOST pin of the listed blocks; a drop deletes them. What the manual leaves open in it is the model's choice: log entries 14, 15, 16
and 59. -/
def Obligations.CloisterPuts : Prop :=
  (∀ (s : State) (id : Nat) (c : Cmd) (n : Ns), ready s id 0x22 c →
    let u := started s id
    let k := hostCls u c
    ((entryFail u c .tenant (putChecks u k)).or (putFail u k)) = none → k.ns u = some n →
    exec (.prefixPut id) s = .next (finish (runPut u k n).state id (runPut u k n).status (runPut u k n).a (runPut u k n).b)) ∧
  (∀ (s : State) (g id : Nat) (d : Desc) (n : Ns), taking s 3 g id 0x42 d →
    let u := acceptDesc s 3 g d
    let k := descCls d
    ((descFail u 3 g d (putChecks u k)).or (putFail u k)) = none → k.ns u = some n →
    exec (.clsPut g id) s = .next (endDesc (runPut u k n).state 3 g id (runPut u k n).status (runPut u k n).a)) ∧
  (∀ (u : State) (k : ClsCmd) (n : Ns),
    let j := k.num 18 1
    let tokens := wordsOf 4 (256 * j) (memRead u (k.num 32 8) (1024 * j))
    let given := (List.range j).zip (putGiven (keysAt u (k.num 24 8) (j + 1)) tokens)
    let new := given.filter fun x => (findBlock u n.owner n.nsId x.2.1).isNone
    let m := (new.length + 3) / 4 * 4
    let already := bitmapOf ((given.filter fun x => (findBlock u n.owner n.nsId x.2.1).isSome).map Prod.fst)
    (new ≠ [] → nsHalted u n = true → runPut u k n = ⟨u, 0x0402, 0, 0⟩) ∧
    (new ≠ [] → nsHalted u n = false → makeRoom n new.length new.length u (nsBlocks u n).length = none → runPut u k n = ⟨u, 0x0206, 0, 0⟩) ∧
    (∀ (v : State) (a : Nat), new ≠ [] → nsHalted u n = false → makeRoom n new.length new.length u (nsBlocks u n).length = some v →
      v.cloister.blocks.length + new.length ≤ 2 ^ 22 → putHandles v n m = some a →
      let w := storeBlocks v k n a m new
      (runPut u k n).a = new.length ∧ (runPut u k n).b = already ∧
        (runPut u k n).state = (memPut w.1 (some k.wing) (k.num 48 8) (bytesOf 2 already ++ bytesOf 62 0)).1 ∧
        ∀ x ∈ new, (findBlock w.1 n.owner n.nsId x.2.1).isSome = true)) ∧
  (∀ (s : State) (id : Nat) (c : Cmd) (n : Ns), ready s id 0x23 c →
    let u := started s id
    let k := hostCls u c
    ((entryFail u c .tenant (listChecks u k true)).or (listFail u k)) = none → k.ns u = some n →
    exec (.prefixPin id) s = .next (finish (runPin u k n).state id (runPin u k n).status (runPin u k n).a (runPin u k n).b)) ∧
  (∀ (s : State) (g id : Nat) (d : Desc) (n : Ns), taking s 3 g id 0x43 d →
    let u := acceptDesc s 3 g d
    let k := descCls d
    ((descFail u 3 g d (listChecks u k true)).or (listFail u k)) = none → k.ns u = some n →
    exec (.clsPin g id) s = .next (endDesc (runPin u k n).state 3 g id (runPin u k n).status (runPin u k n).a)) ∧
  (∀ (u : State) (k : ClsCmd) (n : Ns), (runPin u k n).status = 0x0000 →
    let v := touchRead u (some k.wing) (k.num 24 8) (16 * k.num 18 2)
    v.cloister = u.cloister ∧ ∀ key ∈ keysAt u (k.num 24 8) (k.num 18 2), ∀ b, findBlock u n.owner n.nsId key = some b →
      findBlock (runPin u k n).state n.owner n.nsId key = some { b with pinHost := bit (k.num 17 1) 0 }) ∧
  (∀ (s : State) (id : Nat) (c : Cmd) (n : Ns), ready s id 0x24 c →
    let u := started s id
    let k := hostCls u c
    ((entryFail u c .tenant (listChecks u k false)).or (listFail u k)) = none → k.ns u = some n →
    exec (.prefixDrop id) s = .next (finish (runDrop u k n).state id 0x0000 (runDrop u k n).a 0)) ∧
  (∀ (s : State) (g id : Nat) (d : Desc) (n : Ns), taking s 3 g id 0x44 d →
    let u := acceptDesc s 3 g d
    let k := descCls d
    ((descFail u 3 g d (listChecks u k false)).or (listFail u k)) = none → k.ns u = some n →
    exec (.clsDrop g id) s = .next (endDesc (runDrop u k n).state 3 g id 0x0000 (runDrop u k n).a)) ∧
  (∀ (u : State) (k : ClsCmd) (n : Ns),
    (runDrop u k n).a = (listedBlocks u n (keysAt u (k.num 24 8) (k.num 18 2))).length ∧
      ∀ key ∈ keysAt u (k.num 24 8) (k.num 18 2), findBlock (runDrop u k n).state n.owner n.nsId key = none)

/-- R230, R234, R235, R238, R239: an agent that holds nothing of a free line reads it to share, and gets it in E when no other holds it; the owner
is pulled when one does; a read for ownership invalidates every holder, and gets the line in M when none is left; the only sharer is upgraded
without data; a dirty eviction writes the memory copy through the writeback buffer; a clean one leaves no holder. What the manual leaves open in it
is the model's choice: log entries 9 and 11. -/
def Obligations.HomesServeAgents : Prop :=
  (∀ (s : State) (a l : Nat) (x : ArrLine), agentPresent s a = true → cacheable s l = true → agentBusy s a l = false →
    cacheLine s a l = none → lineFree s l [] → inArray s l x →
    ∃ t, exec (.rdS a l MemErr.none) s = .next t ∧ t.mzn.msgs = s.mzn.msgs ++ [.gdat (.agent a) l (some .e) x.data 0] ∧
      (lineRec t l).holders = [(a, .x)] ∧ (∃ n, (lineRec t l).txn = some n ∧ n.granted = true ∧ n.req.agent = some a) ∧
      t.mzn.caches = s.mzn.caches ∧ t = { s with regs := t.regs, mzn := t.mzn }) ∧
  (∀ (s : State) (a b l : Nat) (k : Hold), agentPresent s a = true → cacheable s l = true → agentBusy s a l = false → cacheLine s a l = none →
    hostLine l = false → b ≠ a → k ≠ .s → lineFree s l [(b, k)] →
    ∃ t, exec (.rdS a l MemErr.none) s = .next t ∧ t.mzn.msgs = s.mzn.msgs ++ [.snp b l .pull] ∧
      (∃ n, (lineRec t l).txn = some n ∧ n.awaiting = [b] ∧ n.granted = false) ∧ (lineRec t l).holders = [(b, k)] ∧
      t = { s with regs := t.regs, mzn := t.mzn }) ∧
  (∀ (s : State) (a l : Nat) (hs : List (Nat × Hold)), agentPresent s a = true → cacheable s l = true → agentBusy s a l = false →
    cacheLine s a l = none → hostLine l = false → hs ≠ [] → (∀ e ∈ hs, e.1 ≠ a) → lineFree s l hs →
    ∃ t, exec (.rdU a l MemErr.none) s = .next t ∧
      t.mzn.msgs = s.mzn.msgs ++ hs.map (fun e => .snp e.1 l (if e.2 == .s then .inv else .invd)) ∧
      (∃ n, (lineRec t l).txn = some n ∧ n.awaiting = hs.map Prod.fst) ∧ t = { s with regs := t.regs, mzn := t.mzn }) ∧
  (∀ (s : State) (a l : Nat) (x : ArrLine), agentPresent s a = true → cacheable s l = true → agentBusy s a l = false →
    cacheLine s a l = none → lineFree s l [] → inArray s l x →
    ∃ t, exec (.rdU a l MemErr.none) s = .next t ∧ t.mzn.msgs = s.mzn.msgs ++ [.gdat (.agent a) l (some .m) x.data 0] ∧
      (lineRec t l).holders = [(a, .x)] ∧ t = { s with regs := t.regs, mzn := t.mzn }) ∧
  (∀ (s : State) (a l : Nat) (c : CLine) (k : Hold), cacheLine s a l = some c → c.st = .s ∨ c.st = .o → agentBusy s a l = false →
    hostLine l = false → lineFree s l [(a, k)] →
    ∃ t, exec (.upgr a l MemErr.none) s = .next t ∧ t.mzn.msgs = s.mzn.msgs ++ [.cmp (.agent a) l .upgr] ∧
      (lineRec t l).holders = [(a, .x)] ∧ t = { s with regs := t.regs, mzn := t.mzn }) ∧
  (∀ (s : State) (a l : Nat) (c : CLine) (x : ArrLine), cacheLine s a l = some c → c.st = .m → c.poison = false → agentBusy s a l = false →
    lineFree s l [(a, .x)] → inArray s l x →
    ∃ t, exec (.wb a l) s = .next t ∧ cacheLine t a l = none ∧ wbLine t a l = some ⟨some .m, c.data, false⟩ ∧ arrayWritten t l x c.data ∧
      (lineRec t l).holders = [] ∧ (lineRec t l).txn = none ∧ t.mzn.msgs = s.mzn.msgs ++ [.cmp (.agent a) l .wb] ∧
      t = { s with regs := t.regs, mzn := t.mzn, halls := t.halls }) ∧
  (∀ (s : State) (a l : Nat) (c : CLine) (k : Hold), cacheLine s a l = some c → c.st = .e ∨ c.st = .s → agentBusy s a l = false →
    hostLine l = false → lineFree s l [(a, k)] →
    ∃ t, exec (.evc a l) s = .next t ∧ cacheLine t a l = none ∧ (lineRec t l).holders = [] ∧ (lineRec t l).txn = none ∧
      t.mzn.msgs = s.mzn.msgs ∧ t = { s with regs := t.regs, mzn := t.mzn })

/-- R234, R239, R256, R257: a holder answers SNP_PULL and SNP_PEEK with its data, keeping a shared or owned copy after the first and its state
after the second; SNP_INVD takes its copy with its data, and SNP_INV without; a flush of a set evicts its lines and reports the filter error. What
the manual leaves open in it is the model's choice: log entry 11. -/
def Obligations.HoldersAnswerSnoops : Prop :=
  (∀ (s : State) (a l : Nat) (bad : Bool) (c : CLine), Msg.snp a l .pull ∈ s.mzn.msgs → cacheLine s a l = some c →
    let dirty := c.st == .m || c.st == .o
    ∃ t, exec (.snpPull a l bad) s = .next t ∧ cacheLine t a l = some { c with st := if dirty then .o else .s } ∧
      t.mzn.msgs = corridor s (.snp a l .pull) [.sdat a l c.data dirty (c.poison || bad)] ∧ t = { s with mzn := t.mzn }) ∧
  (∀ (s : State) (a l : Nat) (bad : Bool) (c : CLine), Msg.snp a l .peek ∈ s.mzn.msgs → cacheLine s a l = some c →
    exec (.snpPeek a l bad) s =
      .next { s with mzn := { s.mzn with msgs := corridor s (.snp a l .peek) [.sdat a l c.data (c.st == .m || c.st == .o) (c.poison || bad)] } }) ∧
  (∀ (s : State) (a l : Nat) (c : CLine), Msg.snp a l .inv ∈ s.mzn.msgs → cacheLine s a l = some c →
    ∃ t, exec (.snpInv a l) s = .next t ∧ cacheLine t a l = none ∧ t.mzn.msgs = corridor s (.snp a l .inv) [.srsp a l] ∧
      t = { s with mzn := t.mzn }) ∧
  (∀ (s : State) (a l : Nat) (bad : Bool) (c : CLine), Msg.snp a l .invd ∈ s.mzn.msgs → cacheLine s a l = some c →
    ∃ t, exec (.snpInvd a l bad) s = .next t ∧ cacheLine t a l = none ∧
      t.mzn.msgs = corridor s (.snp a l .invd) [.sdat a l c.data (c.st == .m || c.st == .o) (c.poison || bad)] ∧ t = { s with mzn := t.mzn }) ∧
  (∀ (s : State) (a l : Nat) (k : SnpKind) (w : WbLine), Msg.snp a l k ∈ s.mzn.msgs → cacheLine s a l = none → wbLine s a l = some w →
    ∃ t, receiveFirst s (fun m => m == .snp a l k) false = t ∧
      (k = .pull ∨ k = .peek ∨ k = .invd → t.mzn.msgs = corridor s (.snp a l k) [.sdat a l w.data true w.poison]) ∧
      (k = .inv ∨ k = .invd → wbLine t a l = some { w with st := none }) ∧ (k = .pull → wbLine t a l = some { w with st := some .o })) ∧
  (∀ (s : State) (a set i l : Nat) (c : CLine), agentPresent s a = true → present s .slice i = true → agentSet s a set = [(l, c)] →
    cacheLine s a l = some c → c.st = .e ∨ c.st = .s → hostLine l = false → lineFree s l [(a, .x)] →
    ∃ t, exec (.flushSet a set i) s = .next t ∧ cacheLine t a l = none ∧ (lineRec t l).holders = [] ∧ bit (getR t .mznEvents i) 2 = true) ∧
  (∀ (s : State) (a set i : Nat), agentPresent s a = true → present s .slice i = true → agentSet s a set = [] →
    exec (.flushSet a set i) s = .next (setSticky s .mznEvents .mznEventEn 4 i))

/-- R231, R235, R237, R239, R274: a home that still awaits another snoop's answer waits; with the last, a pulled owner's data goes on to the
reader, and the owner is recorded O if it was dirty and S otherwise; a granted line enters the requester's cache, and an upgraded one becomes M,
with an ACK to the home, which frees the line; the completion of a writeback frees its buffer, and of a write its writer. What the manual leaves
open in it is the model's choice: log entry 9. -/
def Obligations.MessagesMoveLines : Prop :=
  (∀ (s : State) (a l : Nat) (x : Txn), Msg.srsp a l ∈ s.mzn.msgs → (lineRec s l).txn = some x → a ∈ x.awaiting →
    x.awaiting.filter (fun y => y != a) ≠ [] →
    ∃ t, exec (.srsp a l) s = .next t ∧ (lineRec t l).txn = some { x with awaiting := x.awaiting.filter fun y => y != a } ∧
      t.mzn.msgs = corridor s (.srsp a l) [] ∧ t = { s with mzn := t.mzn }) ∧
  (∀ (s : State) (a b l : Nat) (x : Txn), Msg.srsp a l ∈ s.mzn.msgs → lineOf s l x → x.awaiting = [a] → x.host = none → x.granted = false →
    x.req.kind = .upgr → x.req.asker = .agent b → (heldAs (lineRec s l) b).isSome = true →
    ∃ t, exec (.srsp a l) s = .next t ∧ (lineRec t l).holders = [(b, .x)] ∧
      t.mzn.msgs = corridor s (.srsp a l) [.cmp (.agent b) l .upgr] ∧ t = { s with mzn := t.mzn }) ∧
  (∀ (s : State) (a b l : Nat) (x : Txn) (d : List Byte) (dirty : Bool),
    s.mzn.msgs.find? (fun m => match m with | .sdat a' l' _ _ _ => a' == a && l' == l | _ => false) = some (.sdat a l d dirty false) →
    lineOf s l x → x.awaiting = [a] → x.host = none → x.granted = false → x.poison = false → x.req.kind = .rdS → x.req.asker = .agent b → a ≠ b →
    ∃ t, exec (.sdat a l) s = .next t ∧ heldAs (lineRec t l) a = some (if dirty then .o else .s) ∧ heldAs (lineRec t l) b = some .s ∧
      t.mzn.msgs = corridor s (.sdat a l d dirty false) [.gdat (.agent b) l (some .s) d 0] ∧
      (dirty = true → getR t .mznOwnedPulls (homeSlice s l) = (getR s .mznOwnedPulls (homeSlice s l) + 1) % 2 ^ 64) ∧
      t = { s with regs := t.regs, mzn := t.mzn }) ∧
  (∀ (s : State) (a l : Nat) (st : LineSt) (d : List Byte),
    s.mzn.msgs.find? (fun m => match m with | .gdat _ l' _ _ _ => l' == l | _ => false) = some (.gdat (.agent a) l (some st) d 0) →
    victimOf s a l = none →
    ∃ t, exec (.gdat l) s = .next t ∧ cacheLine t a l = some ⟨st, d, false, s.mzn.tick⟩ ∧ t.mzn.answer = d ∧ t.mzn.answerStatus = 0 ∧
      t.mzn.msgs = corridor s (.gdat (.agent a) l (some st) d 0) [.ack a l] ∧ t = { s with mzn := t.mzn }) ∧
  (∀ (s : State) (l status : Nat) (d : List Byte),
    s.mzn.msgs.find? (fun m => match m with | .gdat _ l' _ _ _ => l' == l | _ => false) = some (.gdat .unit l none d status) →
    exec (.gdat l) s =
      .next { s with mzn := { s.mzn with msgs := corridor s (.gdat .unit l none d status) [], answer := d, answerStatus := status } }) ∧
  (∀ (s : State) (a l : Nat) (c : CLine),
    s.mzn.msgs.find? (fun m => match m with | .cmp dest l' _ => dest == .agent a && l' == l | _ => false) = some (.cmp (.agent a) l .upgr) →
    cacheLine s a l = some c →
    ∃ t, exec (.cmp a l) s = .next t ∧ cacheLine t a l = some { c with st := .m, used := s.mzn.tick } ∧
      t.mzn.msgs = corridor s (.cmp (.agent a) l .upgr) [.ack a l] ∧ t = { s with mzn := t.mzn }) ∧
  (∀ (s : State) (a l : Nat),
    s.mzn.msgs.find? (fun m => match m with | .cmp dest l' _ => dest == .agent a && l' == l | _ => false) = some (.cmp (.agent a) l .wb) →
    ∃ t, exec (.cmp a l) s = .next t ∧ wbLine t a l = none ∧ t.mzn.msgs = corridor s (.cmp (.agent a) l .wb) [] ∧ t = { s with mzn := t.mzn }) ∧
  (∀ (s : State) (l status : Nat),
    s.mzn.msgs.find? (fun m => match m with | .wcmp _ l' _ => l' == l | _ => false) = some (.wcmp .unit l status) →
    exec (.wcmp l) s =
      .next { s with mzn := { s.mzn with msgs := corridor s (.wcmp .unit l status) [], answer := [], answerStatus := status } }) ∧
  (∀ (s : State) (h l : Nat) (e : WcbEntry),
    s.mzn.msgs.find? (fun m => match m with | .wcmp _ l' _ => l' == l | _ => false) = some (.wcmp (.buffer h) l 0) →
    (ctl s h).wcb.find? (fun x => x.line == l && x.closed) = some e → e.writers = [.host] → (ctl s h).wcbWaiting = [] →
    ∃ t, exec (.wcmp l) s = .next t ∧ (ctl t h).wcb = (ctl s h).wcb.erase e ∧ t.mzn.msgs = corridor s (.wcmp (.buffer h) l 0) [] ∧
      t = { s with mzn := t.mzn, halls := t.halls }) ∧
  (∀ (s : State) (a l : Nat) (x : Txn), Msg.ack a l ∈ s.mzn.msgs → lineOf s l x → x.granted = true → x.req.agent = some a →
    ∃ t, exec (.ack a l) s = .next t ∧ (lineRec t l).txn = none ∧ (lineRec t l).holders = (lineRec s l).holders ∧
      t.mzn.msgs = corridor s (.ack a l) [] ∧ t = { s with mzn := t.mzn })

/-- R234, R236, R241, R242, R243: a read without caching answers with the memory copy, or peeks the owner; a full-line write invalidates every
holder and writes the memory copy; a merge changes the masked bytes alone; an Usher's atomic at the home answers the old line and writes the
result. None leaves a holder that it recorded. What the manual leaves open in it is the model's choice: log entry 12. -/
def Obligations.HomesServeOthers : Prop :=
  (∀ (s : State) (l w : Nat) (x : ArrLine), lineFree s l [] → inArray s l x →
    ∃ t, exec (.rdNc l w MemErr.none) s = .next t ∧ t.mzn.msgs = s.mzn.msgs ++ [.gdat .unit l none x.data 0] ∧ (lineRec t l).holders = [] ∧
      (lineRec t l).txn = none ∧ t = { s with regs := t.regs, mzn := t.mzn }) ∧
  (∀ (s : State) (l w o : Nat) (k : Hold), hostLine l = false → hostBias s l = false → k ≠ .s → lineFree s l [(o, k)] →
    ∃ t, exec (.rdNc l w MemErr.none) s = .next t ∧ t.mzn.msgs = s.mzn.msgs ++ [.snp o l .peek] ∧ (lineRec t l).holders = [(o, k)] ∧
      t = { s with regs := t.regs, mzn := t.mzn }) ∧
  (∀ (s : State) (l w : Nat) (d : List Byte) (x : ArrLine), d.length = 64 → lineFree s l [] → inArray s l x →
    ∃ t, exec (.wrFull l w d) s = .next t ∧ arrayWritten t l x d ∧ t.mzn.msgs = s.mzn.msgs ++ [.wcmp .unit l 0] ∧ (lineRec t l).txn = none ∧
      t = { s with regs := t.regs, mzn := t.mzn, halls := t.halls }) ∧
  (∀ (s : State) (l w : Nat) (d : List Byte) (hs : List (Nat × Hold)), hostLine l = false → hostBias s l = false → hs ≠ [] → lineFree s l hs →
    ∃ t, exec (.wrFull l w d) s = .next t ∧ t.mzn.msgs = s.mzn.msgs ++ hs.map (fun e => .snp e.1 l .inv) ∧
      (∃ n, (lineRec t l).txn = some n ∧ n.awaiting = hs.map Prod.fst) ∧ t = { s with regs := t.regs, mzn := t.mzn }) ∧
  (∀ (s : State) (l : Nat) (q : HomeReq) (x : ArrLine),
    s.mzn.msgs.find? (fun m => match m with | .req q => q.line == l && q.kind == .wrMerge | _ => false) = some (.req q) →
    lineFree s l [] → inArray s l x → q.mask < 2 ^ 64 - 1 →
    ∃ t, exec (.wrMerge l MemErr.none) s = .next t ∧ arrayWritten t l x (mergeMask q.mask x.data q.data) ∧
      t.mzn.msgs = corridor s (.req q) [.wcmp q.asker l 0] ∧ (lineRec t l).txn = none ∧ t = { s with regs := t.regs, mzn := t.mzn, halls := t.halls }) ∧
  (∀ (s : State) (u l off op size : Nat) (arg cmp : W64), present s .usher u = true → isStream l = true → hostBias s l = false →
    lineFree s l [] → arrayLine s l = none → halted s (lineHall l) = false → lineHeld s (lineHall l) (.phys (lineOff l)) = false →
    off < 64 →
    let old := hallRead s (lineHall l) (lineOff l * 64) 64
    let v := atomResult ⟨op, size, arg.toNat, cmp.toNat⟩ (numAt old off size)
    ∃ t, exec (.atomH u l off op size arg cmp MemErr.none) s = .next t ∧
      (off + size ≤ 64 → hallRead t (lineHall l) (lineOff l * 64) 64 = overlay old off (bytesOf size v)) ∧
      t.mzn.msgs = s.mzn.msgs ++ [.gdat (.agent u) l none old 0] ∧ (lineRec t l).txn = none ∧
      t = { s with regs := t.regs, mzn := t.mzn, halls := t.halls })

/-- R247, R248, R249, R274, R428: a peer's read, whole-line write or atomic that finds its line free is served as the device's own, with its port
and tag; a partial write goes into the write-combining buffer; one that finds its line busy is answered NACK with its count, and holds its credit;
a read of a query window whose collection does not exist is answered 0x0702; a reservation whose retry does not come lapses, and its count starts
anew. What the manual leaves open in it is the model's choice: log entry 48. -/
def Obligations.PeersAreServed : Prop :=
  (∀ (s : State) (p tag k : Nat) (v : Served) (x : ArrLine), servedOf s p tag = some v → v.op = 1 → v.vec = none → v.credit = some k →
    lineFree s (v.addr / 64) [] → inArray s (v.addr / 64) x →
    ∃ t, exec (.rrd p tag MemErr.none) s = .next t ∧ t.mzn.msgs = s.mzn.msgs ++ [.gdat (.peer p tag) (v.addr / 64) none x.data 0] ∧
      t = { s with regs := t.regs, mzn := t.mzn }) ∧
  (∀ (s : State) (p tag k : Nat) (v : Served) (x : ArrLine), servedOf s p tag = some v → v.op = 2 → v.vec = none → v.credit = some k →
    v.size = 64 → lineFree s (v.addr / 64) [] → inArray s (v.addr / 64) x →
    ∃ t, exec (.rwr p tag MemErr.none) s = .next t ∧ arrayWritten t (v.addr / 64) x v.data ∧
      t.mzn.msgs = s.mzn.msgs ++ [.wcmp (.peer p tag) (v.addr / 64) 0] ∧ t = { s with regs := t.regs, mzn := t.mzn, halls := t.halls }) ∧
  (∀ (s : State) (p tag k : Nat) (v : Served), servedOf s p tag = some v → v.op = 2 → v.vec = none → v.credit = some k → v.size ≠ 64 →
    lineFree s (v.addr / 64) [] →
    exec (.rwr p tag MemErr.none) s =
      .next (wcbWrite s (v.addr / 64) (spanMask (v.addr % 64) v.size) (bytesOf (v.addr % 64) 0 ++ v.data.take v.size) (.peer p tag))) ∧
  (∀ (s : State) (p tag k : Nat) (v : Served) (x : ArrLine), servedOf s p tag = some v → v.op = 3 → v.vec = none → v.credit = some k →
    lineFree s (v.addr / 64) [] → inArray s (v.addr / 64) x → v.addr % 64 + 8 ≤ 64 → v.aop ≤ 2 →
    let old := numAt x.data (v.addr % 64) 8
    let new := match v.aop with | 0 => (old + numAt v.data 0 8) % 2 ^ 64 | 1 => if old = numAt v.data 8 8 then numAt v.data 0 8 else old | _ => numAt v.data 0 8
    ∃ t, exec (.ratom p tag MemErr.none) s = .next t ∧ arrayWritten t (v.addr / 64) x (overlay x.data (v.addr % 64) (bytesOf 8 new)) ∧
      t.mzn.msgs = s.mzn.msgs ++ [.gdat (.peer p tag) (v.addr / 64) none x.data 0] ∧ t = { s with regs := t.regs, mzn := t.mzn, halls := t.halls }) ∧
  (∀ (s : State) (p tag k : Nat) (v : Served) (y : Txn) (cr : Credit), servedOf s p tag = some v → v.op = 1 → v.vec = none → v.credit = some k →
    (lineRec s (v.addr / 64)).txn = some y → k ∉ (lineRec s (v.addr / 64)).reserved → tget (fun _ => none) s.mzn.credits k = some cr →
    cr.nacks + 1 ≠ 8 →
    ∃ t, exec (.rrd p tag MemErr.none) s = .next t ∧ servedOf t p tag = none ∧
      (portOf t p).waitingOn 6 = (portOf s p).waitingOn 6 ++ [responseBytes 1 1 0 (cr.nacks + 1) 0 (k % 1024) tag none] ∧
      tget (fun _ => none) t.mzn.credits k = some ⟨p, tag, v.addr / 64, cr.nacks + 1⟩ ∧
      getR t .mznNacks v.slice = (getR s .mznNacks v.slice + 1) % 2 ^ 64 ∧ t = { s with regs := t.regs, mzn := t.mzn, ports := t.ports }) ∧
  (∀ (s : State) (p tag c h : Nat) (v : Served), servedOf s p tag = some v → v.op = 1 → v.vec = some (c, h) → collOf s c = none →
    exec (.rrd p tag MemErr.none) s = .next (peerDone s p tag [] 0x0702)) ∧
  (∀ (s : State) (l k : Nat) (cr : Credit), (lineRec s l).reserved = [k] → (lineRec s l).txn = none → (lineRec s l).held = [] →
    (lineRec s l).waiting = [] → (lineRec s l).hostWaiting = [] → tget (fun _ => none) s.mzn.credits k = some cr →
    ∃ t, exec (.reservationLapse l) s = .next t ∧ (lineRec t l).reserved = [] ∧ tget (fun _ => none) t.mzn.credits k = some { cr with nacks := 0 } ∧
      t.now = max s.now ((lineRec s l).freeSince + getR s .mznResHoldNs) ∧
      getR t .mznResLapsed (homeSlice s l) = (getR s .mznResLapsed (homeSlice s l) + 1) % 2 ^ 64 ∧ bit (getR t .mznEvents (homeSlice s l)) 3 = true)

/-- R250, R251, R252, R253, R357: the host's snoops of a line of its memory that the device owns are served with SNP_PULL, SNP_INVD and SNP_PEEK;
the host's answer lets the home go on, with its data in memory; a CXL.mem access is served under its page's bias, outside the halls it reads zeros
and is discarded and counted; BIAS_SET gives every page of its range the bias that it names. What the manual leaves open in it is the model's
choice: log entry 12. -/
def Obligations.HostIsServed : Prop :=
  (∀ (s : State) (l o : Nat) (k : Hold), hostLine l = true → k ≠ .s → lineFree s l [(o, k)] →
    (∃ t, exec (.snpdata l) s = .next t ∧ t.mzn.msgs = s.mzn.msgs ++ [.snp o l .pull] ∧ t = { s with regs := t.regs, mzn := t.mzn }) ∧
    (∃ t, exec (.snpinv l) s = .next t ∧ t.mzn.msgs = s.mzn.msgs ++ [.snp o l .invd] ∧ t = { s with regs := t.regs, mzn := t.mzn }) ∧
    (∃ t, exec (.snpcur l) s = .next t ∧ t.mzn.msgs = s.mzn.msgs ++ [.snp o l .peek] ∧ t = { s with regs := t.regs, mzn := t.mzn })) ∧
  (∀ (s : State) (l : Nat) (d : List Byte) (x : Txn) (k : D2h), hostLine l = true → d.length = 64 → (lineRec s l).txn = some x → x.host = some k →
    x.awaiting ≠ [] →
    ∃ t, exec (.hostD2hResponse l (some d)) s = .next t ∧ hostRead t (l % 2 ^ 57 * 64) 64 = d ∧ hostKeptOutside s t (l % 2 ^ 57 * 64) 64 ∧
      (lineRec t l).txn = some { x with host := none } ∧ (k = .rdShared → (lineRec t l).host = .s) ∧ (k = .rdOwn → (lineRec t l).host = .e) ∧
      t = { s with host := t.host, mzn := t.mzn }) ∧
  (∀ (s : State) (a : Nat), bar2Reaches s a = false →
    exec (.cxlMemRead a MemErr.none) s = .next { s with mzn := { s.mzn with answer := List.replicate 64 0, answerStatus := 0 } }) ∧
  (∀ (s : State) (a : Nat) (x : ArrLine), bar2Reaches s a = true → lineFree s (a / 64) [] → inArray s (a / 64) x →
    ∃ t, exec (.cxlMemRead a MemErr.none) s = .next t ∧ t.mzn.msgs = s.mzn.msgs ++ [.gdat .host (a / 64) none x.data 0] ∧
      t = { s with regs := t.regs, mzn := t.mzn }) ∧
  (∀ (s : State) (a : Nat) (x : ArrLine), bar2Reaches s a = true → hostBias s (a / 64) = true → arrayLine s (a / 64) = some x → x.poison = false →
    ∃ t, exec (.cxlMemRead a MemErr.none) s = .next t ∧ t.mzn.answer = x.data ∧ t.mzn.answerStatus = 0 ∧ t.mzn.msgs = s.mzn.msgs ∧
      t = { s with regs := t.regs, mzn := t.mzn }) ∧
  (∀ (s : State) (a m : Nat) (d : List Byte), bar2Reaches s a = false →
    ∃ t, exec (.cxlMemWrite a m d) s = .next t ∧ getR t .vstBar2Discards = (getR s .vstBar2Discards + 1) % 2 ^ 64 ∧
      regsKeptBut s t (regKey 0 .vstBar2Discards 0 0) ∧ t = { s with regs := t.regs }) ∧
  (∀ (s : State) (a : Nat) (d : List Byte) (x : ArrLine), bar2Reaches s a = true → d.length = 64 → lineFree s (a / 64) [] → inArray s (a / 64) x →
    ∃ t, exec (.cxlMemWrite a (2 ^ 64 - 1) d) s = .next t ∧ arrayWritten t (a / 64) x d ∧ t.mzn.msgs = s.mzn.msgs ++ [.wcmp .host (a / 64) 0] ∧
      t = { s with regs := t.regs, mzn := t.mzn, halls := t.halls }) ∧
  (∀ (s : State) (a : Nat) (d : List Byte) (x : ArrLine), bar2Reaches s a = true → d.length = 64 → hostBias s (a / 64) = true →
    arrayLine s (a / 64) = some x →
    ∃ t, exec (.cxlMemWrite a (2 ^ 64 - 1) d) s = .next t ∧ arrayWritten t (a / 64) x d ∧ t.mzn.msgs = s.mzn.msgs) ∧
  (∀ (s : State) (a m : Nat) (d : List Byte), bar2Reaches s a = true → d.length = 64 → hostBias s (a / 64) = false → m ≠ 2 ^ 64 - 1 →
    exec (.cxlMemWrite a m d) s = .next (wcbWrite s (a / 64) m d .host)) ∧
  (∀ (s : State) (id : Nat) (c : Cmd), ready s id 0x68 c → biasSetFail c (started s id) = none → c.num 36 1 = 0 →
    ∃ t, exec (.biasSet id) s = .next t ∧ ended t id = some (plain 0x0000) ∧ (∀ p ∈ biasPages c, p ∉ t.mzn.bias) ∧
      (∀ p, p ∉ biasPages c → (p ∈ t.mzn.bias ↔ p ∈ s.mzn.bias)) ∧ t = { s with vst := t.vst, regs := t.regs, mzn := { s.mzn with bias := t.mzn.bias } }) ∧
  (∀ (s : State) (id : Nat) (c : Cmd), ready s id 0x68 c → biasSetFail c (started s id) = none → c.num 36 1 = 1 →
    (∀ e ∈ s.mzn.recs, e.1 / 64 ∉ biasPages c) → (∀ e ∈ s.mzn.array, e.1 / 64 ∉ biasPages c) →
    ∃ t, exec (.biasSet id) s = .next t ∧ ended t id = some (plain 0x0000) ∧ (∀ p ∈ biasPages c, p ∈ t.mzn.bias) ∧
      (∀ p, p ∉ biasPages c → (p ∈ t.mzn.bias ↔ p ∈ s.mzn.bias)) ∧ t = { s with vst := t.vst, regs := t.regs, mzn := { s.mzn with bias := t.mzn.bias } }) ∧
  (∀ (s : State) (id : Nat) (c : Cmd), ready s id 0x68 c → biasSetFail c (started s id) = none → c.num 36 1 = 1 →
    exec (.biasSet id) s = .next (finish ((biasPages c).foldl pageToHost (started s id)) id 0x0000))

/-- R104, R117, R128, R136, R137, R157, R158, R368, R466: a SEARCH that fails a check or is not admitted ends with that status; an admitted one of
an unsharded collection becomes a query of this device with a flight; its hall records are merged in the order of R97, and the root decides when no
shard is left; the deadline makes it decide; a rerank keeps at most RERANK_K of the merged candidates; the result block is written before the
command completes with the result's status, and the query is gone. What the manual leaves open in it is the model's choice: log entries 44, 45, 78
and 79. -/
def Obligations.SearchesRunAtTheRoot : Prop :=
  (∀ (s : State) (id st : Nat) (c : Cmd), ready s id 0x30 c → searchFail (started s id) c (readSearch (started s id) c) = some st →
    exec (.search id) s = .next (finish (started s id) id st)) ∧
  (∀ (s : State) (id : Nat) (c : Cmd) (x : Coll), ready s id 0x30 c →
    let u := started s id
    let o := readSearch u c
    let q := { rootQuery u c o x with ctx := some s.store.nextCtx }
    let f := newelFlight u q c.tenant c.prio (rootLimit u o x.wing)
    searchFail u c o = none → o.coll = some x → o.map = none →
    (∀ st, admitQuery (bumpCtx u) f = .error st → exec (.search id) s = .next (finish (countRefused u f st) id st)) ∧
    (∀ v, admitQuery (bumpCtx u) f = .ok v →
      exec (.search id) s =
        .next (settleFlights (addR { v with store := { v.store with newel := v.store.newel ++ [q], rootSeq := s.store.rootSeq + 1 } } .nwlRooted 1)))) ∧
  (∀ (s : State) (id tree sh : Nat) (q : NewelQuery) (x : Query), findNewel s id tree = some q → ownRecords s q = some x → q.ownShard = some sh →
    bit q.covered sh = false → q.isRoot = true → q.decided = false →
    (∀ i ∈ bitmapShards q.shardCount q.subtree, i = sh ∨ (q.shard i).isCovered = true) →
    ∃ t, exec (.localMerge id tree) s = .next t ∧
      findNewel t id tree = some { takeContribution q (localMerged sh q.k x.recs) (2 ^ sh) with decided := true }) ∧
  (∀ (s : State) (id : Nat) (q : NewelQuery), findRoot s id = some q → q.decided = false → q.deadline ≠ 0 →
    ∃ t, exec (.searchDeadline id) s = .next t ∧ t.now = max s.now q.deadline ∧ findRoot t id = some { q with decided := true } ∧
      t = { s with now := t.now, store := { s.store with newel := t.store.newel } }) ∧
  (∀ (s : State) (id : Nat) (vecs : List VecRead) (q : NewelQuery), findRoot s id = some q → q.decided = true → q.rerankK ≠ 0 → q.reranked = none →
    ∃ t l, exec (.rerank id vecs []) s = .next t ∧ (findRoot t id).map NewelQuery.reranked = some (some l) ∧
      l.length = min q.rerankK q.merged.entries.length ∧ (∀ e ∈ l, e.2 ∈ q.merged.entries) ∧
      (vecs = [] → l = (q.merged.entries.take q.rerankK).map fun e => (0x7FC00000, e))) ∧
  (∀ (s : State) (id : Nat) (q : NewelQuery) (c : Cmd), findRoot s id = some q → q.decided = true → q.rerankK = 0 ∨ q.reranked.isSome = true →
    findCmd s q.cmd = some c → c.done = none →
    ∃ t, exec (.searchResultWrite id) s = .next t ∧ ended t q.cmd = some ⟨searchStatus q, q.resultAddr, q.merged.examined, 0, 0, 0⟩ ∧
      hostRead t q.resultAddr (searchBlock q).length = searchBlock q ∧ findRoot t id = none ∧ (∀ k, findNewel t id k = none))

/-- R118, R123, R124, R126, R128, R129, R131 to R135: a malformed message is discarded and counted; a sound QUERY is refused upwards, or admitted
and its leaf's flight begins; a RESULT is merged once, counted, and the root decides when every shard is covered; a LOST notice and a REFUSAL mark
their shards; a DISCARD is counted; a member sends at its limit, and forgets the query at its deadline. What the manual leaves open in it is the
model's choice: log entries 74, 75, 76 and 77. -/
def Obligations.SearchesMergeAcrossDevices : Prop :=
  (∀ (s s1 : State) (p : Nat) (b : List Byte), wellFormedMsg b = false →
    (takeMsg s p 2 1 = some (b, s1) → exec (.query p) s = .next (countMalformed s1 p)) ∧
    (takeMsg s p 3 2 = some (b, s1) → exec (.result p) s = .next (countMalformed s1 p)) ∧
    (takeMsg s p 4 3 = some (b, s1) → exec (.notice p) s = .next (countMalformed s1 p)) ∧
    (takeMsg s p 4 4 = some (b, s1) → exec (.refusal p) s = .next (countMalformed s1 p)) ∧
    (takeMsg s p 4 5 = some (b, s1) → exec (.discard p) s = .next (countMalformed s1 p))) ∧
  (∀ (s s1 : State) (p : Nat) (b : List Byte), wellFormedMsg b = true → takeMsg s p 2 1 = some (b, s1) →
    let h := readHead b
    (∀ st, msgFail s1 p h = some st → exec (.query p) s = .next (refuseMsg (countMsg s1 st) p b h st)) ∧
    (∀ (t : Tree) (m : Member), msgFail s1 p h = none → msgTree s1 h = some t → t.member (deviceIndex s1) = some m →
      t.children (deviceIndex s1) = [] → findNewel s1 h.queryId h.tree = none →
      let q := { memberQuery s1 p b h m t with ctx := if (memberQuery s1 p b h m t).ownShard.isSome then some s1.store.nextCtx else none }
      let f := newelFlight s1 q 128 (peerPrio s1 q.coll) (some (sendLimitOf q))
      ∀ v, admitOwn (if q.ownShard.isSome then bumpCtx s1 else s1) f q.ownShard.isSome = .ok v →
        exec (.query p) s = .next (settleFlights (memberCheck (addNewel v q) q.queryId q.tree)))) ∧
  (∀ (s s1 : State) (p : Nat) (b : List Byte) (q : NewelQuery), wellFormedMsg b = true → takeMsg s p 3 2 = some (b, s1) →
    let h := readHead b
    let cover := bitmapAt b 128 h.lines
    msgFail s1 p h = none → recordFor s1 h = some q → findNewel s1 q.queryId q.tree = some q → q.isRoot = true → q.decided = false → s1.now ≤ q.deadline →
    (cover &&& q.covered ≠ 0 →
      ∃ t, exec (.result p) s = .next t ∧ getR t .nwlDuplicates = (getR s1 .nwlDuplicates + 1) % 2 ^ 64 ∧ t = { s1 with regs := t.regs }) ∧
    (cover &&& q.covered = 0 → (∀ i ∈ bitmapShards q.shardCount q.subtree, bit cover i = true ∨ (q.shard i).isCovered = true) →
      ∃ t, exec (.result p) s = .next t ∧ getR t .nwlMerged = (getR s1 .nwlMerged + 1) % 2 ^ 64 ∧
        findNewel t q.queryId q.tree = some { takeContribution q (readMerged b h.lines) cover with decided := true })) ∧
  (∀ (s s1 : State) (p : Nat) (b : List Byte), wellFormedMsg b = true → takeMsg s p 3 2 = some (b, s1) →
    let h := readHead b
    msgFail s1 p h = none → recordFor s1 h = none → h.queryId % 4096 = deviceIndex s1 → s1.store.abandoned.contains h.queryId = false →
    exec (.result p) s = .next (discardMsg (addR s1 .nwlLateReceived 1) p h 0x0505)) ∧
  (∀ (s s1 : State) (p : Nat) (b : List Byte) (q : NewelQuery), wellFormedMsg b = true → takeMsg s p 4 3 = some (b, s1) →
    let h := readHead b
    let sh := clearBits (bitmapAt b 128 h.lines) q.covered
    msgFail s1 p h = none → recordFor s1 h = some q → findNewel s1 q.queryId q.tree = some q → q.isRoot = true → q.decided = false → q.rerouted = 0 →
    (∀ tr, newelTree s1 q = some tr → tr.fallback = 0xFF) → numAt b 64 1 = 2 → sh ≠ 0 →
    ∃ t r, exec (.notice p) s = .next t ∧ findNewel t q.queryId q.tree = some r ∧ r.merged = q.merged ∧
      ∀ i, i < q.shardCount → bit sh i = true → (q.shard i).isCovered = true ∨ r.shard i = .lost) ∧
  (∀ (s s1 : State) (p : Nat) (b : List Byte) (q : NewelQuery), wellFormedMsg b = true → takeMsg s p 4 4 = some (b, s1) →
    let h := readHead b
    let sh := bitmapAt b 64 h.lines
    msgFail s1 p h = none → recordFor s1 h = some q → findNewel s1 q.queryId q.tree = some q → findRoot s1 q.queryId = some q → q.isRoot = true →
    q.decided = false → q.rerouted = 0 → (∀ tr, newelTree s1 q = some tr → tr.fallback = 0xFF) → sh ≠ 0 → clearBits sh q.covered ≠ 0 →
    ∃ t r, exec (.refusal p) s = .next t ∧ findNewel t q.queryId q.tree = some r ∧ r.merged = q.merged ∧
      ∀ i, i < q.shardCount → bit sh i = true → (q.shard i).isCovered = true ∨ r.shard i = .refused h.status) ∧
  (∀ (s s1 : State) (p : Nat) (b : List Byte), wellFormedMsg b = true → takeMsg s p 4 5 = some (b, s1) →
    exec (.discard p) s = .next (if (readHead b).status = 0x0505 then addR s1 .nwlLateTold 1 else s1)) ∧
  (∀ (s : State) (id tree : Nat) (q : NewelQuery) (tr : Tree), findNewel s id tree = some q → q.isRoot = false → q.sent = false →
    q.parentPort ≠ 255 → newelTree s q = some tr → tr.children (deviceIndex s) ≠ [] → carries s q.parentPort q.level = true →
    ∃ t, exec (.sendLimit id tree) s = .next t ∧ t.now = max s.now (sendLimitOf q) ∧ findNewel t id tree = some { q with sent := true } ∧
      getR t .nwlResultsSent = (getR s .nwlResultsSent + 1) % 2 ^ 64 ∧
      (portOf t q.parentPort).waitingOn 3 = (portOf s q.parentPort).waitingOn 3 ++
        [headBytes (newelHead s q 2 (4 * b2n (decide (q.rerankK ≠ 0))) 0) 0 ++
          resultBody q q.merged (q.bitmap ShardState.isCovered) (q.bitmap fun x => match x with | .late _ => true | _ => false)]) ∧
  (∀ (s : State) (id tree : Nat) (q : NewelQuery), findNewel s id tree = some q → q.isRoot = false → q.ctx = none →
    ∃ t, exec (.deadlineAtShard id tree) s = .next t ∧ t.now = max s.now (q.deadline + 1) ∧ findNewel t id tree = none ∧
      t = { s with now := t.now, store := { s.store with newel := t.store.newel } })

/-- R413, R416, R418, R419, R422: at a sector boundary a port sends a due CONTROL sector, else a retransmission, else a new DATA sector of a
virtual channel with data and credit, else IDLE; each sector is counted and takes a new TXCOUNT. HELLOs, heartbeats, acknowledgements, credits and
NAKs fall due by their times, and the oldest unacknowledged sector is sent again after MRQ_P_RETX_NS. What the manual leaves open in it is the
model's choice: log entries 64 and 67. -/
def Obligations.SectorsAreSent : Prop :=
  (∀ (s : State) (p : Nat), portState s p < 2 → exec (.sectorSend p) s = .next s) ∧
  (∀ (s : State) (p : Nat), p < 64 → portState s p = 4 ∨ portState s p = 5 → (portOf s p).control ≠ [] →
    ∃ t, exec (.sectorSend p) s = .next t ∧
      sectorLeft s t p 1 0 0 (pad16 (((portOf s p).control.take 255).map fun r => if numAt r 0 1 = 4 then overlay r 8 (bytesOf 8 s.now) else r).flatten) ∧
      (portOf t p).control = (portOf s p).control.drop 255 ∧ (portOf t p).unacked = (portOf s p).unacked ∧
      t = { s with regs := t.regs, staged := t.staged, ports := t.ports }) ∧
  (∀ (s : State) (p : Nat) (u : TxSector), p < 64 → portState s p = 4 ∨ portState s p = 5 → (portOf s p).control = [] →
    (portOf s p).retx.findSome? (fun q => (portOf s p).unacked.find? fun t => t.seq == q) = some u → u.sends < 8 →
    ∃ t, exec (.sectorSend p) s = .next t ∧ sectorLeft s t p 2 u.vc u.seq (pad16 u.bytes) ∧
      (∃ o, (portOf t p).out = some o ∧ bit (numAt o.header 1 1) 1 = true) ∧ (portOf t p).retx = (portOf s p).retx.erase u.seq ∧
      (portOf t p).unacked = (portOf s p).unacked.map (fun w => if w.seq = u.seq then { w with sends := w.sends + 1, lastSent := s.now } else w) ∧
      getR t .mrqPRetx p = (getR s .mrqPRetx p + 1) % 2 ^ 64 ∧ t = { s with regs := t.regs, staged := t.staged, ports := t.ports }) ∧
  (∀ (s : State) (p v : Nat) (b : List Byte) (rest : List (List Byte)), p < 64 → portState s p = 5 → (portOf s p).control = [] →
    (portOf s p).retx = [] → (vcOrder (portOf s p).turn).find? (fun v => !((portOf s p).waitingOn v).isEmpty && (portOf s p).hasCredit v) = some v →
    (portOf s p).unacked.length < 512 → (portOf s p).waitingOn v = b :: rest → v ≠ 5 → v ≠ 6 →
    let body := pad16 (stampPayload s v b)
    ∃ t, exec (.sectorSend p) s = .next t ∧ sectorLeft s t p 2 v (portOf s p).txNext (pad16 body) ∧
      (portOf t p).unacked = (portOf s p).unacked ++ [⟨(portOf s p).txNext, v, body, 1, s.now⟩] ∧ (portOf t p).waitingOn v = rest ∧
      (portOf t p).txNext = ((portOf s p).txNext + 1) % 2 ^ 16 ∧ (portOf t p).turn = v ∧ t = { s with regs := t.regs, staged := t.staged, ports := t.ports }) ∧
  (∀ (s : State) (p : Nat), p < 64 → 2 ≤ portState s p →
    (portState s p ≠ 4 ∧ portState s p ≠ 5) ∨ ((portOf s p).control = [] ∧ (portOf s p).retx = [] ∧ ∀ v, (portOf s p).waitingOn v = []) →
    ∃ t, exec (.sectorSend p) s = .next t ∧ sectorLeft s t p 0 0 0 [] ∧ (portOf t p).unacked = (portOf s p).unacked ∧
      t = { s with regs := t.regs, staged := t.staged, ports := t.ports }) ∧
  (∀ (s : State) (p : Nat), p < 64 → portState s p = 3 →
    ∃ t, exec (.helloSend p) s = .next t ∧ t.now = max s.now (portOf s p).helloDue ∧ sectorLeft s t p 3 0 0 (pad16 (helloBytes s p 0)) ∧
      (portOf t p).helloDue = t.now + 10000 ∧ t = { s with now := t.now, regs := t.regs, ports := t.ports }) ∧
  (∀ (s : State) (p : Nat) (u : TxSector) (us : List TxSector), (portOf s p).unacked = u :: us →
    (u.sends < 8 →
      ∃ t, exec (.retransmitTimeout p) s = .next t ∧ t.now = max s.now (u.lastSent + getR s .mrqPRetxNs p) ∧ u.seq ∈ (portOf t p).retx ∧
        (portOf t p).unacked = (portOf s p).unacked ∧ t = { s with now := t.now, ports := t.ports }) ∧
    (8 ≤ u.sends → exec (.retransmitTimeout p) s = .next (partnerLost { s with now := max s.now (u.lastSent + getR s .mrqPRetxNs p) } p))) ∧
  (∀ (s : State) (p : Nat), missingSeqs (portOf s p) ≠ [] →
    ∃ t, exec (.nakTimeout p) s = .next t ∧ t.now = max s.now ((portOf s p).nakAt + getR s .mrqPRetxNs p) ∧
      (portOf t p).control = (portOf s p).control ++ ((seqRuns (missingSeqs (portOf s p))).map fun r =>
        controlRecord (bytesOf 1 2 ++ bytesOf 1 0 ++ bytesOf 2 r.1 ++ bytesOf 2 r.2)) ∧
      getR t .mrqPNaksSent p = (getR s .mrqPNaksSent p + (seqRuns (missingSeqs (portOf s p))).length) % 2 ^ 64 ∧
      t = { s with now := t.now, regs := t.regs, ports := t.ports }) ∧
  (∀ (s : State) (p : Nat), portState s p = 4 ∨ portState s p = 5 →
    (∃ t, exec (.controlRecordDue p 0) s = .next t ∧
      (portOf t p).control = (portOf s p).control ++ [controlRecord (bytesOf 1 1 ++ bytesOf 1 0 ++ bytesOf 2 (portOf s p).rxNext)] ∧
      t = { s with ports := t.ports }) ∧
    ∀ v, 1 ≤ v → v < 8 → ∃ t, exec (.controlRecordDue p v) s = .next t ∧
      (portOf t p).control = (portOf s p).control ++
        [controlRecord (bytesOf 1 3 ++ bytesOf 1 v ++ bytesOf 2 0 ++ bytesOf 2 (tget (fun _ => 0) (portOf s p).freed v))] ∧ t = { s with ports := t.ports }) ∧
  (∀ (s : State) (p : Nat), portState s p = 5 →
    ∃ t, exec (.heartbeatSend p) s = .next t ∧ t.now = max s.now (portOf s p).beatDue ∧ (portOf t p).beatDue = t.now + 10000 ∧
      (portOf t p).control = (portOf s p).control ++ [controlRecord (bytesOf 1 4)] ∧ t = { s with now := t.now, ports := t.ports })

/-- R408 to R418, R422, R423, R425, R426, R432, R434: a receiver that meets a broken mark or header hunts; a malformed header, a broken trailer and
a tag that fails are counted, and nothing is delivered. A sound sector in session acknowledges, applies its control records, or delivers its data
once and in order: one ahead of its turn waits and its gap is named, one behind is a duplicate. A HELLO is judged, or tells of a reset. What the
manual leaves open in it is the model's choice: log entries 2, 63, 64 and 65. -/
def Obligations.SectorsAreReceived : Prop :=
  (∀ (s : State) (p : Nat) (x : Sector), p < 64 → 2 ≤ portState s p → rxLocked s p = true → 4 < x.markBits ∨ secHeaderOk x = false →
    ∀ i ∈ [Instr.idleSector p x, .controlSector p x, .dataSector p x, .helloSector p x],
      ∃ t, exec i s = .next t ∧ rxLocked t p = false ∧ portState t p = portState s p ∧
        getR t .mrqPHunts p = (getR s .mrqPHunts p + 1) % 2 ^ 64 ∧ t = { s with regs := t.regs }) ∧
  (∀ (s : State) (p : Nat) (x : Sector), p < 64 → 2 ≤ portState s p → rxLocked s p = true → x.markBits ≤ 4 → secHeaderOk x = true →
    let s0 := addR (addR s .mrqPFecCorrected x.fecCorrected p) .mrqPFecUncorrected x.fecLost p
    let i := if secKind x = 1 then Instr.controlSector p x else if secKind x = 2 then .dataSector p x else if secKind x = 3 then .helloSector p x else .idleSector p x
    (headerMalformed s p x = true → exec i s = .next (countMalformed s0 p)) ∧
    (headerMalformed s p x = false → secTrailerOk x = false →
      ∃ t, exec i s = .next t ∧ getR t .mrqPPcrcFail p = (getR s .mrqPPcrcFail p + 1) % 2 ^ 64 ∧ t = { s with regs := t.regs }) ∧
    (headerMalformed s p x = false → secTrailerOk x = true → portState s p = 5 → secKind x ≠ 3 → hd x 8 4 = (portOf s p).partnerSession →
      tagAccepted (portOf s p) x = false →
      exec i s = .next (countAuth (modPort (addR s0 .mrqPRxSectors 1 p) p fun y => { y with rxCount := y.rxCount + 1 }) p))) ∧
  (∀ (s : State) (p : Nat) (x : Sector), sound s p 0 x → ofSession s p x →
    ∃ t, exec (.idleSector p x) s = .next t ∧ getR t .mrqPRxSectors p = (getR s .mrqPRxSectors p + 1) % 2 ^ 64 ∧
      (∀ v, rxFront t p v = rxFront s p v) ∧ (bit (hd x 1 1) 2 = false → (portOf t p).unacked = (portOf s p).unacked) ∧
      (bit (hd x 1 1) 2 = true → ∀ u ∈ (portOf t p).unacked, u ∈ (portOf s p).unacked ∧
        ((hd x 4 2 + 2 ^ 16 - u.seq) % 2 ^ 16 = 0 ∨ 512 < (hd x 4 2 + 2 ^ 16 - u.seq) % 2 ^ 16)) ∧
      t = { s with regs := t.regs, ports := t.ports }) ∧
  (∀ (s : State) (p : Nat) (x : Sector) (r : List Byte), sound s p 1 x → ofSession s p x → bit (hd x 1 1) 2 = false → secBody x = r → r.length = 16 →
    (recordMalformed s p r = true →
      exec (.controlSector p x) s = .next (countMalformed (modPort (addR (addR (addR s .mrqPFecCorrected x.fecCorrected p) .mrqPFecUncorrected x.fecLost p)
        .mrqPRxSectors 1 p) p fun y => { y with rxCount := y.rxCount + 1 }) p)) ∧
    (recordMalformed s p r = false →
      ∃ t, exec (.controlSector p x) s = .next t ∧ getR t .mrqPRxSectors p = (getR s .mrqPRxSectors p + 1) % 2 ^ 64 ∧
        (numAt r 0 1 = 2 → ∀ u ∈ (portOf s p).unacked, (∃ i, i < numAt r 4 2 ∧ u.seq = (numAt r 2 2 + i) % 2 ^ 16) → u.seq ∈ (portOf t p).retx) ∧
        (numAt r 0 1 = 3 → tget (fun _ => 0) (portOf t p).returned (numAt r 1 1) = numAt r 4 2 ∧
          (tget (fun _ => 0) (portOf s p).returned (numAt r 1 1) ≠ numAt r 4 2 → bit (getR t .mrqPState p) 5 = false)) ∧
        (numAt r 0 1 = 4 → (portOf t p).lastBeat = s.now) ∧
        (numAt r 0 1 = 5 → (portOf t p).rxEpoch = numAt r 1 1 ∧ (portOf t p).oldKey = true ∧ (portOf t p).oldUntil = s.now + 1000000) ∧
        (numAt r 0 1 = 6 → (portOf t p).requests = []) ∧
        (numAt r 0 1 ≠ 6 → t = { s with regs := t.regs, ports := t.ports }))) ∧
  (∀ (s : State) (p : Nat) (x : Sector), sound s p 2 x → ofSession s p x → bit (hd x 1 1) 2 = false → hd x 0 1 % 8 ≠ 1 →
    let y := portOf s p
    let v := hd x 0 1 % 8
    let q := hd x 2 2
    (q = y.rxNext → y.reorder = [] →
      ∃ t, exec (.dataSector p x) s = .next t ∧ tget (fun _ => []) (portOf t p).rxBuf v = tget (fun _ => []) y.rxBuf v ++ [secBody x] ∧
        (portOf t p).rxNext = (q + 1) % 2 ^ 16 ∧ t = { s with regs := t.regs, ports := t.ports }) ∧
    (0 < seqAhead y q → seqAhead y q < 512 → (∀ e ∈ y.reorder, e.1 ≠ q) →
      ∃ t, exec (.dataSector p x) s = .next t ∧ (portOf t p).rxBuf = y.rxBuf ∧ (portOf t p).rxNext = y.rxNext ∧
        (portOf t p).reorder = y.reorder ++ [(q, v, secBody x)] ∧ (∀ m ∈ missingSeqs (portOf t p), m ∈ (portOf t p).nakSent) ∧
        t = { s with regs := t.regs, ports := t.ports }) ∧
    (512 ≤ seqAhead y q ∨ (∃ e ∈ y.reorder, e.1 = q) →
      ∃ t, exec (.dataSector p x) s = .next t ∧ (portOf t p).rxBuf = y.rxBuf ∧ (portOf t p).rxNext = y.rxNext ∧ (portOf t p).reorder = y.reorder ∧
        getR t .mrqPDuplicates p = (getR s .mrqPDuplicates p + 1) % 2 ^ 64 ∧ t = { s with regs := t.regs, ports := t.ports })) ∧
  (∀ (s : State) (p : Nat) (x : Sector), sound s p 3 x → portState s p = 3 →
    let b := secBody x ++ bytesOf 16 0
    (numAt b 8 2 = 0 → helloRefusal s p b = none →
      ∃ t, exec (.helloSector p x) s = .next t ∧ portState t p = 4 ∧ linkLevel t p = min (fieldR s .devLevels 0 8) (numAt b 3 1) ∧
        linkFloor t p = max (max (getR s .mrqLevelFloor % 256) (numAt b 4 1)) (max (fieldR s .devLevels 8 8) (numAt b 2 1)) ∧
        getR t .mrqPPartner p = numAt b 0 2 % 4096 + 2 ^ 31 ∧ (portOf t p).partnerSession = hd x 8 4 ∧ t = { s with regs := t.regs, ports := t.ports }) ∧
    (∀ st, numAt b 8 2 = 0 → helloRefusal s p b = some st →
      ∃ t, exec (.helloSector p x) s = .next t ∧ portState t p = 6 ∧ getR t .mrqPRefusal p = st ∧ bit (getR t .mrqPEvents p) 3 = true ∧
        sectorLeft s t p 3 0 0 (pad16 (helloBytes s p st))) ∧
    (numAt b 8 2 ≠ 0 → ∃ t, exec (.helloSector p x) s = .next t ∧ portState t p = 6 ∧ getR t .mrqPRefusal p = numAt b 8 2)) ∧
  (∀ (s : State) (p : Nat) (x : Sector), sound s p 3 x → portState s p = 5 →
    ∃ t, exec (.helloSector p x) s = .next t ∧ portState t p = 3 ∧ bit (getR t .mrqPEvents p) 1 = true ∧ (portOf t p).requests = [] ∧
      (portOf t p).unacked = [] ∧ (portOf t p).reorder = [])

/-- R419, R420, R421, R422, R424, R426, R431, R433, R434: what each event of a link does to its port: training, authentication and its failure, key
updates, slowness, loss, quarantine and its window, and the writes of ENABLE, RETRAIN and RELEASE. A port that leaves ACTIVE holds no request and
no sector of its session. What the manual leaves open in it is the model's choice: log entries 40, 66, 68 and 69. -/
def Obligations.LinksChangeState : Prop :=
  (∀ (s : State) (p : Nat), p < 64 → portState s p = 5 → ∀ i ∈ [Instr.heartbeatTimeout p, .lossOfSignal p, .retrain p],
    ∃ t, exec i s = .next t ∧ portState t p = 1 ∧ bit (getR t .mrqPEvents p) 0 = true ∧ rxLocked t p = false ∧ (portOf t p).requests = [] ∧
      (portOf t p).unacked = [] ∧ (portOf t p).reorder = [] ∧ t.now = if i = .heartbeatTimeout p then max s.now ((portOf s p).lastBeat + 31000) else s.now) ∧
  (∀ (s : State) (p : Nat), p < 64 → portState s p ∈ [1, 2, 3, 4] → ∀ i ∈ [Instr.lossOfSignal p, .retrain p],
    ∃ t, exec i s = .next t ∧ portState t p = 1 ∧ rxLocked t p = false ∧ (portOf t p).trainSince = s.now ∧ t = { s with regs := t.regs, ports := t.ports }) ∧
  (∀ (s : State) (p : Nat), portState s p = 0 ∨ portState s p = 7 → exec (.lossOfSignal p) s = .next s) ∧
  (∀ (s : State) (p : Nat), p < 64 → portState s p = 5 → (∃ v, v < 8 ∧ (tget (fun _ => none) (portOf (noteWaits s p) p).waitSince v).isSome = true) →
    ∃ t, exec (.slowTimeout p) s = .next t ∧ bit (getR t .mrqPState p) 5 = true ∧ bit (getR t .mrqPEvents p) 4 = true ∧ portState t p = 5) ∧
  (∀ (s : State) (p : Nat), (∀ v, v < 8 → tget (fun _ => none) (portOf (noteWaits s p) p).waitSince v = none) →
    exec (.slowTimeout p) s = .next (noteWaits s p)) ∧
  (∀ (s : State) (p : Nat), p < 64 → portState s p = 1 →
    (∃ t, exec (.trainingComplete p) s = .next t ∧ portState t p = 2 ∧ rxLocked t p = false ∧
      getR t .mrqPHunts p = (getR s .mrqPHunts p + 1) % 2 ^ 64 ∧ t = { s with regs := t.regs }) ∧
    (∃ t, exec (.trainingTimeout p) s = .next t ∧ portState t p = 1 ∧ t.now = max s.now ((portOf s p).trainSince + 500000000) ∧
      (portOf t p).trainSince = t.now ∧ t = { s with now := t.now, regs := t.regs, ports := t.ports })) ∧
  (∀ (s : State) (p : Nat) (cs : List Nat), p < 64 → portState s p = 4 → (portOf s p).authWait = none → s.porter.state = .running →
    ∃ t, exec (.authComplete p cs) s = .next t ∧ portState t p = 5 ∧ bit (getR t .mrqPEvents p) 6 = true ∧ (portOf t p).keySince = s.now ∧
      (portOf t p).lastBeat = s.now ∧ (portOf t p).beatDue = s.now ∧
      (∀ v, 1 ≤ v → v < 8 → v ≤ cs.length → (portOf t p).advertisedOn v = cs.getD (v - 1) 0)) ∧
  (∀ (s : State) (p : Nat), p < 64 → portState s p = 4 → (portOf s p).authWait = none →
    fieldR s .mrqPQuar 24 8 p = 0 ∨ (portOf s p).authFails + 1 < fieldR s .mrqPQuar 24 8 p →
    ∃ t, exec (.spdmFailure p) s = .next t ∧ portState t p = 4 ∧ (portOf t p).authWait = some s.now ∧ getR t .mrqPRefusal p = 0x0701 ∧
      getR t .mrqPAuthFail p = (getR s .mrqPAuthFail p + 1) % 2 ^ 64 ∧ bit (getR t .mrqPEvents p) 5 = true) ∧
  (∀ (s : State) (p w : Nat), p < 64 → portState s p = 4 → (portOf s p).authWait = some w →
    ∃ t, exec (.authRetry p) s = .next t ∧ portState t p = 3 ∧ t.now = max s.now (w + 10000000) ∧ 0 < (portOf t p).session ∧
      (portOf t p).session < 2 ^ 32 ∧ (portOf t p).txNext = 0 ∧ (portOf t p).txCount = 1 ∧ (portOf t p).helloDue = t.now + 10000 ∧
      t = { s with now := t.now, free := t.free, regs := t.regs, ports := t.ports }) ∧
  (∀ (s : State) (p : Nat), p < 64 → portState s p = 5 → s.porter.state = .running →
    ((portOf s p).keyUpdate = false →
      ∃ t, exec (.keyUpdateDue p false) s = .next t ∧ (portOf t p).keyUpdate = true ∧ (portOf t p).updateSince = t.now ∧
        t = { s with now := t.now, ports := t.ports }) ∧
    ((portOf s p).keyUpdate = true →
      ∃ t, exec (.keyUpdateDue p true) s = .next t ∧ (portOf t p).keyUpdate = false ∧ (portOf t p).newKey = true ∧
        (portOf t p).control = (portOf s p).control ++ [controlRecord (bytesOf 1 5 ++ bytesOf 1 (fieldR s .mrqPState 24 8 p + 1))] ∧
        t = { s with ports := t.ports }) ∧
    ((portOf s p).keyUpdate = true → fieldR s .mrqPQuar 24 8 p = 0 ∨ (portOf s p).authFails + 1 < fieldR s .mrqPQuar 24 8 p →
      ∃ t, exec (.keyUpdateTimeout p) s = .next t ∧ portState t p = 3 ∧ getR t .mrqPRefusal p = 0x0701 ∧
        getR t .mrqPAuthFail p = (getR s .mrqPAuthFail p + 1) % 2 ^ 64 ∧ (portOf t p).requests = [] ∧ (portOf t p).unacked = [])) ∧
  (∀ (s : State) (p : Nat), (portOf s p).oldKey = true →
    ∃ t, exec (.keySwitchWindowEnd p) s = .next t ∧ t.now = max s.now (portOf s p).oldUntil ∧ (portOf t p).oldKey = false ∧
      t = { s with now := t.now, ports := t.ports }) ∧
  (∀ (s : State) (p : Nat),
    ∃ t, exec (.quarantineWindow p) s = .next t ∧ t.now = max s.now (((portOf s p).window / 1000000000 + 1) * 1000000000) ∧
      (portOf t p).malformed = 0 ∧ (portOf t p).violations = 0 ∧ (portOf t p).authFails = 0 ∧ (portOf t p).window = t.now ∧
      t = { s with now := t.now, ports := t.ports }) ∧
  (∀ (s : State) (p : Nat) (x : Sector), p < 64 → 2 ≤ portState s p → portState s p ≠ 7 → rxLocked s p = true → x.markBits ≤ 4 →
    secHeaderOk x = true → secKind x = 0 → headerMalformed s p x = true → fieldR s .mrqPQuar 0 12 p ≠ 0 →
    fieldR s .mrqPQuar 0 12 p ≤ (portOf s p).malformed + 1 →
    ∃ t, exec (.idleSector p x) s = .next t ∧ portState t p = 7 ∧ bit (getR t .mrqPEvents p) 2 = true ∧ (portOf t p).requests = [] ∧
      (∃ o, (portOf t p).out = some o ∧ numAt o.header 0 1 = 8 ∧ o.payload = controlRecord (bytesOf 1 6 ++ bytesOf 1 0 ++ bytesOf 2 0x0703))) ∧
  (∀ (s : State) (p : Nat), p < 64 → portHere s p = true → portState s p = 0 →
    ∃ t, exec (.portEnable p) s = .next t ∧ bit (getR t .mrqPCtrl p) 0 = true ∧
      portState t p = (if bit (getR s .mrqDeviceIndex) 31 then 1 else 0) ∧ t = { s with regs := t.regs, ports := t.ports }) ∧
  (∀ (s : State) (p : Nat), p < 64 → portHere s p = true →
    ∃ t, exec (.portDisable p) s = .next t ∧ bit (getR t .mrqPCtrl p) 0 = false ∧ portState t p = 0 ∧
      (portState s p ≠ 0 → (portOf t p).requests = []) ∧ (portOf t p).unacked = []) ∧
  (∀ (s : State) (p : Nat), portState s p = 0 → exec (.retrain p) s = .next s) ∧
  (∀ (s : State) (p : Nat), p < 64 → portState s p = 6 →
    ∃ t, exec (.retrain p) s = .next t ∧ portState t p = 3 ∧ 0 < (portOf t p).session ∧ (portOf t p).txNext = 0 ∧
      t = { s with free := t.free, regs := t.regs, ports := t.ports }) ∧
  (∀ (s : State) (p : Nat), portState s p ≠ 7 → exec (.release p) s = .next s) ∧
  (∀ (s : State) (p : Nat), p < 64 → portState s p = 7 →
    (∃ t, exec (.release p) s = .next t ∧ portState t p = 1 ∧ t = { s with regs := t.regs, ports := t.ports }) ∧
    ∃ t, exec (.retrain p) s = .next t ∧ portState t p = 7 ∧ t.ports = s.ports ∧ t = { s with regs := t.regs })

/-- R427, R519: a window's commit word is checked with the words held for the window, whole: a good one puts all three into effect, a refused one
discards them and is reported, and an index beyond 255 names no window. What the manual leaves open in it is the model's choice: log entry 70. -/
def Obligations.WindowsCommitWhole : Prop :=
  (∀ (s : State) (who : Requester) (i : Nat) (v : W64), 256 ≤ i → exec (.windowCommit who i v) s = .next s) ∧
  (∀ (s : State) (who : Requester) (i : Nat) (v : W64), i < 256 →
    let base := (stagedR s .mrqWinBase i).getD (getR s .mrqWinBase i)
    let size := (stagedR s .mrqWinSize i).getD (getR s .mrqWinSize i)
    clearBits v.toNat 0xFF870FFF = 0 →
    bit v.toNat 23 = false ∨ (bits v.toNat 24 8 < wingCount s ∧ windowGranted s base size (bits v.toNat 24 8) = true) →
    ∃ t, exec (.windowCommit who i v) s = .next t ∧ getR t .mrqWinBase i = base ∧ getR t .mrqWinSize i = size ∧ getR t .mrqWinCommit i = v.toNat ∧
      stagedR t .mrqWinBase i = none ∧ stagedR t .mrqWinSize i = none ∧
      (∀ r a b f, regKey f r a b ≠ regKey 0 .mrqWinBase i 0 → regKey f r a b ≠ regKey 0 .mrqWinSize i 0 → regKey f r a b ≠ regKey 0 .mrqWinCommit i 0 →
        getR t r a b f = getR s r a b f) ∧ t = { s with regs := t.regs, staged := t.staged }) ∧
  (∀ (s : State) (who : Requester) (i : Nat) (v : W64), i < 256 →
    let base := (stagedR s .mrqWinBase i).getD (getR s .mrqWinBase i)
    let size := (stagedR s .mrqWinSize i).getD (getR s .mrqWinSize i)
    let u := { s with staged := terase (terase s.staged (regKey 0 .mrqWinBase i 0)) (regKey 0 .mrqWinSize i 0) }
    (clearBits v.toNat 0xFF870FFF ≠ 0 → exec (.windowCommit who i v) s = .next (discardWrite u who (regOff .mrqWinCommit i 0) v.toNat 0x0102)) ∧
    (clearBits v.toNat 0xFF870FFF = 0 → bit v.toNat 23 = true →
      wingCount s ≤ bits v.toNat 24 8 ∨ base % 4096 ≠ 0 ∨ size % 4096 ≠ 0 ∨ (size ≠ 0 ∧ grantedTo s (bits v.toNat 24 8) base size = false) →
      exec (.windowCommit who i v) s = .next (discardWrite u who (regOff .mrqWinCommit i 0) v.toNat 0x0103)))

/-- R247, R248, R429, R430: a request of the partner that fails a check is refused and counted, else it goes to its home with a credit, or is
answered NACK when the slice has none. A submission is refused, completes at once, or is sent; a NACK is retried after its backoff, or at once when
RESERVED; a response writes line 2 with the data it brings, and line 3. What the manual leaves open in it is the model's choice: log entry 71. -/
def Obligations.RemoteRequestsTravel : Prop :=
  (∀ (s : State) (p : Nat) (b : List Byte), rxFront s p 5 = some b → portState s p = 5 → (portOf s p).raTime ≠ s.now / 1000 → 0 < getR s .mrqPRaRate p →
    let n := if numAt b 0 1 = 2 ∨ numAt b 0 1 = 3 then 128 else 64
    let u := modPort (setRxFront s p 5 (b.drop n)) p fun y => { y with raTime := s.now / 1000, raCount := 1 }
    let r := (b ++ bytesOf 64 0).take 64
    let data := (b.drop 64 ++ bytesOf 64 0).take 64
    (requestValid s p r = false → exec (.remoteRequest p) s = .next (countMalformed (refuseRequest u p r 0x0103) p)) ∧
    (requestValid s p r = true → windowOf s p (numAt r 8 4) = none → exec (.remoteRequest p) s = .next (countViolation (refuseRequest u p r 0x0702) p)) ∧
    (∀ w, requestValid s p r = true → windowOf s p (numAt r 8 4) = some w →
      (match numAt r 0 1 with | 1 => w.read | 2 => w.write | _ => w.atomic) = false ∨ w.size < numAt r 16 8 + numAt r 1 1 →
      exec (.remoteRequest p) s = .next (countViolation (refuseRequest u p r 0x0702) p)) ∧
    (∀ w, requestValid s p r = true → windowOf s p (numAt r 8 4) = some w →
      (match numAt r 0 1 with | 1 => w.read | 2 => w.write | _ => w.atomic) = true → numAt r 16 8 + numAt r 1 1 ≤ w.size →
      let a := w.base + numAt r 16 8
      let sl := homeSlice s (a / 64)
      let v : Served := ⟨numAt r 24 8, numAt r 0 1, 0, none, w.vec, a, numAt r 1 1, numAt r 2 1, data⟩
      (w.vec.isSome = true →
        ∃ t, exec (.remoteRequest p) s = .next t ∧ (portOf t p).served = (portOf s p).served ++ [v] ∧ t = { s with ports := t.ports }) ∧
      (∀ k, w.vec = none → numAt r 4 2 = 0xFFFF → freeCredit s sl = some k →
        ∃ t, exec (.remoteRequest p) s = .next t ∧ (portOf t p).served = (portOf s p).served ++ [{ v with slice := sl, credit := some k }] ∧
          tget (fun _ => none) t.mzn.credits k = some ⟨p, numAt r 24 8, a / 64, 0⟩ ∧ t = { s with ports := t.ports, mzn := { s.mzn with credits := t.mzn.credits } }) ∧
      (w.vec = none → numAt r 4 2 = 0xFFFF → freeCredit s sl = none →
        ∃ t, exec (.remoteRequest p) s = .next t ∧ (portOf t p).served = (portOf s p).served ∧
          (portOf t p).waitingOn 6 = (portOf s p).waitingOn 6 ++ [responseBytes (numAt r 0 1) 1 0 0 0 0xFFFF (numAt r 24 8) none] ∧
          t = { s with ports := t.ports }))) ∧
  (∀ (s : State) (p : Nat) (b : List Byte), rxFront s p 5 = some b → portState s p = 5 → (portOf s p).raTime = s.now / 1000 →
    getR s .mrqPRaRate p ≤ (portOf s p).raCount → exec (.remoteRequest p) s = .next s) ∧
  (∀ (s : State) (p : Nat) (b : List Byte) (q : RaReq), rxFront s p 6 = some b → numAt b 5 1 < 2 →
    (portOf s p).requests.find? (fun r => decide (r.tag = numAt b 24 8) && decide (r.op = numAt b 0 1) && r.due.isNone) = some q →
    let withData := decide (numAt b 1 1 = 0) && decide (numAt b 0 1 ≠ 2)
    let u := setRxFront s p 6 (b.drop (if withData then 128 else 64))
    let u1 := modPort u p fun x => { x with requests := x.requests.erase q }
    (numAt b 1 1 = 0 → numAt b 0 1 ≠ 2 →
      exec (.remoteResponse p) s =
        .next (completeBlock (writeFull u1 (portWing s p) ((q.block + 128) / 64) ((b.drop 64 ++ bytesOf 64 0).take 64)).1 p q.block 0 (numAt b 4 1))) ∧
    (numAt b 1 1 = 0 → numAt b 0 1 = 2 → exec (.remoteResponse p) s = .next (completeBlock u1 p q.block 0 (numAt b 4 1))) ∧
    (numAt b 1 1 = 2 → exec (.remoteResponse p) s = .next (completeBlock u1 p q.block (numAt b 2 2) (numAt b 4 1))) ∧
    (numAt b 1 1 = 1 → numAt b 5 1 = 0 →
      ∃ t, exec (.nack p) s = .next t ∧
        (portOf t p).requests = (portOf s p).requests.map (fun y => if y.tag = q.tag then
          { y with record := overlay q.record 4 (bytesOf 2 (numAt b 6 2))
                   due := some (s.now + if numAt b 4 1 = 0 then 250 else min (250 * 2 ^ (numAt b 4 1 - 1)) 4000) } else y) ∧
        t = { s with ports := t.ports }) ∧
    (numAt b 1 1 = 1 → numAt b 5 1 = 1 →
      ∃ t, exec (.nack p) s = .next t ∧
        (portOf t p).waitingOn 5 = (portOf s p).waitingOn 5 ++
          [overlay q.record 4 (bytesOf 2 (numAt b 6 2)) ++ if q.op = 1 then [] else q.data] ∧ t = { s with ports := t.ports })) ∧
  (∀ (s : State) (p : Nat) (b : List Byte), rxFront s p 6 = some b →
    ((portOf s p).requests.all fun r => decide (r.tag ≠ numAt b 24 8) || decide (r.op ≠ numAt b 0 1) || r.due.isSome) = true →
    exec (.remoteResponse p) s = .next (countMalformed (setRxFront s p 6 (b.drop (if numAt b 1 1 = 0 ∧ numAt b 0 1 ≠ 2 then 128 else 64))) p)) ∧
  (∀ (s : State) (p tag d : Nat) (q : RaReq), (portOf s p).requests.find? (fun r => decide (r.tag = tag) && r.due.isSome) = some q → q.due = some d →
    ∃ t, exec (.nackRetry p tag) s = .next t ∧ t.now = max s.now d ∧ (∀ r ∈ (portOf t p).requests, r.tag = tag → r.due = none) ∧
      (portOf t p).waitingOn 5 = (portOf s p).waitingOn 5 ++ [q.record ++ if q.op = 1 then [] else q.data] ∧ t = { s with now := t.now, ports := t.ports }) ∧
  (∀ (s : State) (who : Requester) (p : Nat) (a : W64), portHere s p = true →
    (a.toNat % 256 ≠ 0 ∨ isHostAddr a.toNat = true ∨ isStream (a.toNat / 64) = true ∨ mayUsePort s p who = false →
      ∃ t, exec (.raSubmit who p a) s = .next t ∧ getR t .mrqPRaRefused p = (getR s .mrqPRaRefused p + 1) % 2 ^ 64 ∧
        regsKeptBut s t (regKey 0 .mrqPRaRefused p 0) ∧ t = { s with regs := t.regs }) ∧
    (∀ w, a.toNat % 256 = 0 → isHostAddr a.toNat = false → isStream (a.toNat / 64) = false → mayUsePort s p who = true → portWing s p = some w →
      grantedTo s w a.toNat 256 = true →
      (64 ≤ (portOf s p).requests.length → exec (.raSubmit who p a) s = .next (completeBlock s p a.toNat 0x0203 0)) ∧
      ((portOf s p).requests.length < 64 → portState s p = 7 → exec (.raSubmit who p a) s = .next (completeBlock s p a.toNat 0x0703 0)) ∧
      ((portOf s p).requests.length < 64 → portState s p ≠ 7 → portState s p ≠ 5 → exec (.raSubmit who p a) s = .next (completeBlock s p a.toNat 0x0503 0)) ∧
      (∀ s1 r, (portOf s p).requests.length < 64 → portState s p = 5 → readNc s (some w) (a.toNat / 64) = (s1, r, 0) → numAt r 0 1 = 1 →
        let q : RaReq := ⟨numAt r 24 8, a.toNat, 1, overlay r 4 (bytesOf 2 0xFFFF), [], none⟩
        ∃ t, exec (.raSubmit who p a) s = .next t ∧ (portOf t p).requests = (portOf s1 p).requests ++ [q] ∧
          (portOf t p).waitingOn 5 = (portOf s1 p).waitingOn 5 ++ [q.record] ∧ t = { s1 with ports := t.ports }) ∧
      (∀ s1 r s2 d, (portOf s p).requests.length < 64 → portState s p = 5 → readNc s (some w) (a.toNat / 64) = (s1, r, 0) → numAt r 0 1 ≠ 1 →
        readNc s1 (some w) (a.toNat / 64 + 1) = (s2, d, 0) →
        let q : RaReq := ⟨numAt r 24 8, a.toNat, numAt r 0 1, overlay r 4 (bytesOf 2 0xFFFF), d, none⟩
        ∃ t, exec (.raSubmit who p a) s = .next t ∧ (portOf t p).requests = (portOf s2 p).requests ++ [q] ∧
          (portOf t p).waitingOn 5 = (portOf s2 p).waitingOn 5 ++ [q.record ++ d] ∧ t = { s2 with ports := t.ports })))

/-- R267, R477, R484 to R487, R491 to R493, R498: a Porter start boots the slot that the table of R492 chooses, or stays in recovery with the rails
down; the watchdog and the SRAM restart it; a trial that has run for 600 s is committed and its counter advances; unit events are logged in order,
a pin mark enters the table, and the mirror takes what it lacks; the bus owner assigns the endpoint ID. What the manual leaves open in it is the
model's choice: log entries 23, 93 and 95. -/
def Obligations.PorterStartsAndLogs : Prop :=
  (∀ (s : State), s.porter.state = .rom ∨ s.porter.state = .restarting →
    let f := s.porter.vipol
    let a := f.active
    (slotValid s 2 0 = true ∨ slotValid s 2 1 = true ∨ s.oam.rails ≠ 0 →
      (f.trial = true → f.tries < 3 → slotValid s 1 a = true →
        ∃ t, exec .porterBoot s = .next t ∧ t.porter.state = .running ∧ t.porter.runSince = porterNow s ∧
          t.porter.vipol = { f with tries := f.tries + 1, running := a, onTrial := true } ∧ getR t .prtBoots = (getR s .prtBoots + 1) % 2 ^ 64) ∧
      (f.trial = false → slotValid s 1 a = true →
        ∃ t, exec .porterBoot s = .next t ∧ t.porter.state = .running ∧ t.porter.runSince = porterNow s ∧
          t.porter.vipol = { f with running := a, onTrial := false } ∧ getR t .prtBoots = (getR s .prtBoots + 1) % 2 ^ 64) ∧
      (f.trial = true → 3 ≤ f.tries ∨ slotValid s 1 a = false → slotValid s 1 (1 - a) = true →
        ∃ t, exec .porterBoot s = .next t ∧ t.porter.state = .running ∧ bit (getR t .prtEvents) 5 = true ∧
          t.porter.vipol = { f with trial := false, onTrial := false, active := 1 - a, running := 1 - a }) ∧
      (f.trial = false → slotValid s 1 a = false → slotValid s 1 (1 - a) = true →
        ∃ t, exec .porterBoot s = .next t ∧ t.porter.state = .running ∧ bit (getR t .prtEvents) 5 = true ∧
          t.porter.vipol = { f with active := 1 - a, running := 1 - a, onTrial := false })) ∧
    (f.trial = false → slotValid s 1 a = false → slotValid s 1 (1 - a) = false →
      ∃ t, exec .porterBoot s = .next t ∧ t.porter.state = .recovery ∧ t.oam.rails = 0 ∧ t.oam.powerGood = false ∧ t.porter.vipol = f)) ∧
  (∀ (s : State), s.porter.state ≠ .rom → s.porter.state ≠ .restarting → exec .porterBoot s = .next s) ∧
  (∀ (s : State) (pc : W64), s.porter.state = .running →
    ∃ t, exec (.watchdogExpiry pc) s = .next t ∧ t.porter.state = .restarting ∧ t.porter.cause = .watchdog ∧
      t.porter.wdtNote = some (s.porter.wdtMs, pc.toNat) ∧ getR t .prtWdtFires = (getR s .prtWdtFires + 1) % 2 ^ 64 ∧ bit (getR t .prtEvents) 3 = true ∧
      t.oam = s.oam ∧ t.porter.sessions = s.porter.sessions) ∧
  (∀ (s : State), s.porter.state = .running →
    ∃ t, exec .porterSramUncorrectable s = .next t ∧ t.porter.state = .restarting ∧ t.porter.cause = .sram ∧ t.porter.sessions = s.porter.sessions ∧
      t.porter.log = s.porter.log ∧ t = { s with porter := t.porter }) ∧
  (∀ (s : State) (c : Nat), c = 1 ∨ c = 2 → trialRuns s c = true →
    let v := slotNum s c (firmware s c).running 6 1
    ∃ t, exec (.trialCommit c) s = .next t ∧ (firmware t c).trial = false ∧ (firmware t c).onTrial = false ∧ (firmware t c).running = (firmware s c).running ∧
      t.now = max s.now (((if c = 1 then s.porter.runSince else s.porter.upSince) + 600000000000 : Nat) - s.porter.localBase).toNat ∧
      (v ≤ secCounter (firmware s c) → (firmware t c).fuses = (firmware s c).fuses ∧ t = { s with now := t.now, porter := t.porter }) ∧
      (secCounter (firmware s c) < v → v ≤ 64 → (∀ i, i < v → bit (firmware t c).fuses.toNat i = true) ∧
        t = { s with now := t.now, porter := t.porter, regs := t.regs })) ∧
  (∀ (s : State) (e : UnitEvt) (es : List UnitEvt), s.porter.state = .running → s.fifoLost = 0 → s.fifo = e :: es →
    (e.type ≠ 0x20 →
      ∃ t r, exec .porterEvent s = .next t ∧ t.fifo = es ∧ t.porter.log.getLast? = some r ∧ r.seq = getR s .prtLogSeq ∧ r.type = e.type ∧ r.fields = e.fields ∧
        r.boot = getR s .prtBoots ∧ getR t .prtLogSeq = (getR s .prtLogSeq + 1) % 2 ^ 64 ∧ t = { s with fifo := es, regs := t.regs, porter := t.porter }) ∧
    (e.type = 0x20 → bit (e.fields.getD 1 0) 2 = true →
      ∃ t, exec .porterEvent s = .next t ∧ t.fifo = es ∧
        tget (fun _ => 0) t.porter.pinMarks (64 * e.fields.getD 0 0 + e.fields.getD 4 0) = e.fields.getD 5 0 + 1 ∧
        t = { s with fifo := es, regs := t.regs, porter := t.porter })) ∧
  (∀ (s : State), s.porter.state = .running → s.fifoLost ≠ 0 →
    ∃ t, exec .porterEvent s = .next t ∧ t.fifoLost = 0 ∧ bit (getR t .prtEvents) 6 = true) ∧
  (∀ (s : State), mayMirror s = false → exec .logMirrorCommit s = .next s) ∧
  (∀ (s : State) (l : LogRec), mayMirror s = true → s.porter.mirror.getLast? = some l →
    s.porter.mirror.length + (s.porter.log.filter fun r => decide (l.seq < r.seq)).length ≤ 4194304 →
    ∃ t, exec .logMirrorCommit s = .next t ∧ t.porter.mirror = s.porter.mirror ++ s.porter.log.filter (fun r => decide (l.seq < r.seq)) ∧
      t.porter.log = s.porter.log) ∧
  (∀ (s : State) (via : Transport) (e : Nat), s.porter.state = .running ∨ s.porter.state = .recovery → mctpReaches s via = true → e ≠ 0 → e ≠ 255 →
    (∃ t, exec (.mctpControlMessage via (.setEndpointId e)) s = .next t ∧ t.porter.eid = e ∧ t = { s with porter := t.porter }) ∧
    (∃ t, exec (.mctpControlMessage via .getEndpointId) s = .next t ∧ t.porter.reply.map Reply.nums = some [s.porter.eid] ∧ t = { s with porter := t.porter }) ∧
    (∃ t, exec (.mctpControlMessage via .getMessageTypes) s = .next t ∧ t.porter.reply.map Reply.nums = some [0x00, 0x01, 0x05, 0x7E] ∧
      t = { s with porter := t.porter }))

/-- R479 to R482: the cap setting falls by 10 mV above the cap and rises by 10 mV after ten milliseconds below it less 50 W; the fast limit takes
both dies to 0.68 V; the thermal limits follow the hottest sensors; a voltage moves by at most 10 mV at a sample and never falls below 0.68 V; at
110 °C for a millisecond the trip drops the rails. What the manual leaves open in it is the model's choice: log entries 94 and 97. -/
def Obligations.PorterHoldsPower : Prop :=
  (∀ (s : State) (avg : Nat), s.porter.state = .running → s.oam.powerGood = true → s.porter.policy.capW ≤ 1600 →
    let p := s.porter.policy
    ∃ t, exec (.powerCapTick avg) s = .next t ∧ fieldR t .prtPower 0 16 = min avg 0xFFFF ∧ fieldR t .prtPower 16 16 = p.capW ∧
      (10 * p.capW < avg → t.porter.policy.capMv = max 680 (p.capMv - 10) ∧ t.porter.policy.below = 0) ∧
      (10 * (p.capW - 50) ≤ avg → avg ≤ 10 * p.capW → t.porter.policy.capMv = p.capMv ∧ t.porter.policy.below = 0) ∧
      (avg < 10 * (p.capW - 50) → p.below < 9 → t.porter.policy.capMv = p.capMv ∧ t.porter.policy.below = p.below + 1) ∧
      (avg < 10 * (p.capW - 50) → 9 ≤ p.below → t.porter.policy.capMv = min (modeTarget p.vmode) (p.capMv + 10)) ∧
      (t.porter.policy.capMv < modeTarget p.vmode → bit (getR t .prtEvents) 2 = true ∧ t.porter.policy.episode = true) ∧
      t.porter.policy.voltE = p.voltE ∧ t.porter.policy.voltW = p.voltW ∧ t.oam = s.oam) ∧
  (∀ (s : State) (peak : Nat), s.oam.powerGood = true →
    ∃ t, exec (.fastPowerLimit peak) s = .next t ∧ t.porter.policy.voltE = 680 ∧ t.porter.policy.voltW = 680 ∧ t.porter.policy.capMv = 680 ∧
      t.porter.policy.below = 0 ∧ t.porter.state = s.porter.state ∧ t.oam = s.oam) ∧
  (∀ (s : State) (peak avg : Nat), s.oam.powerGood = false →
    exec (.fastPowerLimit peak) s = .next s ∧ exec (.powerCapTick avg) s = .next s) ∧
  (∀ (s : State) (xs : List SensorSample), s.porter.state = .running → s.oam.powerGood = true → s.oam.trip = false → s.oam.rails ≠ 0 →
    let u := (xs.filter fun x => sensorHere s x.sensor && (standbySensor x.sensor || deviceUp s)).foldl (fun t x => noteSample t x.sensor x.milli) s
    let e := hottest u 0
    let w := hottest u 32
    let p := s.porter.policy
    ((e < 110000 ∧ w < 110000) ∨ p.trip < 9 →
      ∃ t, exec (.dieSensorSample xs) s = .next t ∧ t.oam = s.oam ∧
        (105000 ≤ e → t.porter.policy.limitE = 680) ∧ (105000 ≤ w → t.porter.policy.limitW = 680) ∧
        (95000 ≤ e → e < 105000 → 9 ≤ p.tick → t.porter.policy.limitE = max 680 (p.limitE - 10)) ∧
        (92000 ≤ e → e < 95000 → t.porter.policy.limitE = p.limitE) ∧
        (e < 105000 → p.tick < 9 → t.porter.policy.limitE = p.limitE) ∧
        (e < 92000 → 9 ≤ p.tick → t.porter.policy.limitE = min (modeTarget p.vmode) (p.limitE + 10)) ∧
        (105000 ≤ e → p.hotE = false → bit (getR t .prtEvents) 1 = true) ∧ (105000 ≤ w → p.hotW = false → bit (getR t .prtEvents) 1 = true) ∧
        t.porter.policy.voltE ≤ p.voltE + 10 ∧ p.voltE ≤ t.porter.policy.voltE + 10 ∧ t.porter.policy.voltW ≤ p.voltW + 10 ∧
        p.voltW ≤ t.porter.policy.voltW + 10 ∧ (680 ≤ p.voltE → 680 ≤ t.porter.policy.voltE) ∧ (680 ≤ p.voltW → 680 ≤ t.porter.policy.voltW) ∧
        (e < 110000 → w < 110000 → t.porter.policy.trip = 0)) ∧
    (110000 ≤ e ∨ 110000 ≤ w → 9 ≤ p.trip →
      ∃ t, exec (.dieSensorSample xs) s = .next t ∧ t.oam.trip = true ∧ t.oam.rails = 0 ∧ t.oam.powerGood = false))

/-- R479, R480, R485, R486, R491, R493, R497, R498, R500, R501: each mailbox command, from the mailbox or as a message, answers with its status and
data; one whose fields are out of range answers 0x0103 and changes nothing else; the Porter's restart by command drops its volatile state. What the
manual leaves open in it is the model's choice: log entries 39 and 96. -/
def Obligations.MailboxCommandsAnswer : Prop :=
  (∀ (s : State) (m : MbxFrom) (q : List Byte), mbxRequest s 1 m = some q →
    (numAt q 2 2 = 0 ∨ 256 < numAt q 2 2 → ∃ t, exec (.sensorRead m) s = .next t ∧ mbxAnswered t 1 m 0x0103 [] ∧ t.porter.samples = s.porter.samples) ∧
    (1 ≤ numAt q 2 2 → numAt q 2 2 ≤ 256 →
      ∃ t, exec (.sensorRead m) s = .next t ∧ mbxAnswered t 1 m 0 ((List.range (numAt q 2 2)).flatMap fun k => sensorBytes s (numAt q 0 2 + k)) ∧
        t.porter.samples = s.porter.samples)) ∧
  (∀ (s : State) (m : MbxFrom) (q : List Byte), mbxRequest s 2 m = some q →
    (numAt q 8 1 = 0 ∨ 63 < numAt q 8 1 → ∃ t, exec (.logRead m) s = .next t ∧ mbxAnswered t 2 m 0x0103 [] ∧ t.porter.log = s.porter.log) ∧
    (∀ r rs, 1 ≤ numAt q 8 1 → numAt q 8 1 ≤ 63 → ((heldRecords s).filter fun r => decide (numAt q 0 8 ≤ r.seq)).take (numAt q 8 1) = r :: rs →
      ∃ t, exec (.logRead m) s = .next t ∧ t.porter.log = s.porter.log ∧
        mbxAnswered t 2 m 0 (bytesOf 8 r.seq ++ bytesOf 1 (rs.length + 1) ++ bytesOf 55 0 ++ (r :: rs).flatMap logBytes))) ∧
  (∀ (s : State) (m : MbxFrom) (q : List Byte), mbxRequest s 3 m = some q →
    let v := numAt q 0 1
    let w := numAt q 2 2
    (3 < v ∨ w < 1250 ∨ 1600 < w → ∃ t, exec (.powerSet m) s = .next t ∧ mbxAnswered t 3 m 0x0103 [] ∧ t.porter.policy = s.porter.policy) ∧
    (v ≤ 3 → 1250 ≤ w → w ≤ 1600 →
      ∃ t, exec (.powerSet m) s = .next t ∧ t.porter.policy.vmode = v ∧ t.porter.policy.capW = w ∧ fieldR t .prtPower 16 16 = w ∧
        t.porter.policy.capMv ≤ max s.porter.policy.capMv (modeTarget v) ∧
        mbxAnswered t 3 m 0 (bytesOf 1 v ++ bytesOf 1 0 ++ bytesOf 2 w ++ bytesOf 2 s.porter.policy.voltE ++ bytesOf 2 s.porter.policy.voltW))) ∧
  (∀ (s : State) (m : MbxFrom) (q : List Byte), mbxRequest s 4 m = some q →
    let h := numAt q 0 1
    let pc := numAt q 1 1
    (15 < h ∨ 63 < pc → ∃ t, exec (.pinMarkClear m) s = .next t ∧ mbxAnswered t 4 m 0x0103 []) ∧
    (h ≤ 15 → pc ≤ 63 → present s .hall h = false → ∃ t, exec (.pinMarkClear m) s = .next t ∧ mbxAnswered t 4 m 0x0107 []) ∧
    (h ≤ 15 → pc ≤ 63 → present s .hall h = true → tget (fun _ => 0) s.porter.pinMarks (64 * h + pc) = 0 → bit (getR s .halPcCe h pc) 30 = false →
      ∃ t, exec (.pinMarkClear m) s = .next t ∧ mbxAnswered t 4 m 0x0106 []) ∧
    (h ≤ 15 → pc ≤ 63 → present s .hall h = true → tget (fun _ => 0) s.porter.pinMarks (64 * h + pc) ≠ 0 ∨ bit (getR s .halPcCe h pc) 30 = true →
      ∃ t, exec (.pinMarkClear m) s = .next t ∧ mbxAnswered t 4 m 0 [] ∧ tget (fun _ => 0) t.porter.pinMarks (64 * h + pc) = 0 ∧
        bit (getR t .halPcCe h pc) 30 = false ∧ getR t .prtLogSeq = (getR s .prtLogSeq + 1) % 2 ^ 64)) ∧
  (∀ (s : State) (m : MbxFrom) (q : List Byte), mbxRequest s 5 m = some q →
    let n := numAt q 0 1
    (n = 0 ∨ 8 < n → ∃ t, exec (.trustSet m) s = .next t ∧ mbxAnswered t 5 m 0x0103 [] ∧ t.porter.trust = s.porter.trust) ∧
    (1 ≤ n → n ≤ 8 → 512 ≤ q.length →
      ∃ t x, exec (.trustSet m) s = .next t ∧ mbxAnswered t 5 m 0 [] ∧ t.porter.trust = some x ∧ x.minVipol = numAt q 1 1 ∧ x.minMicro = numAt q 2 1 ∧
        x.roots = (List.range n).map fun i => (q.drop (64 + 48 * i)).take 48)) ∧
  (∀ (s : State) (m : MbxFrom) (q : List Byte), mbxRequest s 6 m = some q →
    let c := numAt q 0 1
    (c ≠ 1 → c ≠ 2 → ∃ t, exec (.fwCommit m) s = .next t ∧ mbxAnswered t 6 m 0x0103 []) ∧
    (c = 1 ∨ c = 2 → trialRuns s c = false → ∃ t, exec (.fwCommit m) s = .next t ∧ mbxAnswered t 6 m 0x0106 [] ∧ firmware t c = firmware s c) ∧
    (c = 1 ∨ c = 2 → trialRuns s c = true →
      ∃ t, exec (.fwCommit m) s = .next t ∧ mbxAnswered t 6 m 0 (bytesOf 1 (secCounter (firmware t c))) ∧ (firmware t c).trial = false)) ∧
  (∀ (s : State) (m : MbxFrom) (q : List Byte), mbxRequest s 7 m = some q →
    (numAt q 0 2 < 100 ∨ 10000 < numAt q 0 2 → ∃ t, exec (.wdtSet m) s = .next t ∧ mbxAnswered t 7 m 0x0103 [] ∧ t.porter.wdtMs = s.porter.wdtMs) ∧
    (100 ≤ numAt q 0 2 → numAt q 0 2 ≤ 10000 → ∃ t, exec (.wdtSet m) s = .next t ∧ mbxAnswered t 7 m 0 [] ∧ t.porter.wdtMs = numAt q 0 2)) ∧
  (∀ (s : State) (q : List Byte), mbxRequest s 8 .mailbox = some q →
    ∃ t, exec .porterRestart s = .next t ∧ t.porter.state = .restarting ∧ t.porter.cause = .command ∧ t.porter.eid = 0 ∧ t.porter.update = none ∧
      t.porter.log = s.porter.log ∧ t.porter.sessions = s.porter.sessions ∧ t = { s with porter := t.porter }) ∧
  (∀ (s : State), s.porter.state ≠ .running → exec .porterRestart s = .next s)

/-- R477, R488, R494, R495, R503: a running Porter that the binding reaches answers the PLDM requests for monitoring with what its repository,
sensors and settings hold, and stores what they set; update mode serves one agent, writes the inactive slot alone, reports the checks of its image,
and activates what is staged; a Porter that does not run answers no monitoring. What the manual leaves open in it is the model's choice: log
entries 22, 98 and 100. -/
def Obligations.PldmIsServed : Prop :=
  (∀ (s : State) (m : Mgmt) (n k : Nat) (a b : Bool) (vs : List Int) (r : Option Nat), s.porter.state ≠ .running ∨ mctpReaches s m.via = false →
    ∀ i ∈ [Instr.getPdr m n, .getPdrRepositoryInfo m, .getSensorReading m n, .getStateSensorReadings m n, .setNumericSensorEnable m n a b,
      .getSensorThresholds m n, .setSensorThresholds m n vs, .setEventReceiver m r, .pollForPlatformEventMessage m, .eventMessageSupported m,
      .setNumericEffecterValue m n k, .setStateEffecterStates m n k], exec i s = .next s) ∧
  (∀ (s : State) (m : Mgmt), s.porter.state = .running → mctpReaches s m.via = true →
    (∀ n, (pdrs s)[n - 1]? = none → 1 ≤ n → ∃ t, exec (.getPdr m n) s = .next t ∧ replied t 0x251 0x82 [] ∧ t = { s with porter := t.porter }) ∧
    (∀ n x, (pdrs s)[n]? = some x → ∀ h, h = n + 1 ∨ (n = 0 ∧ h = 0) →
      ∃ t, exec (.getPdr m h) s = .next t ∧ replied t 0x251 0 [n + 1, if n + 1 < (pdrs s).length then n + 2 else 0, x] ∧
        t = { s with porter := t.porter }) ∧
    (∃ t, exec (.getPdrRepositoryInfo m) s = .next t ∧ replied t 0x250 0 [(pdrs s).length] ∧ t = { s with porter := t.porter }) ∧
    (∀ n, ∃ t, exec (.getSensorReading m n) s = .next t ∧ t = { s with porter := t.porter } ∧
      (163 ≤ n → replied t 0x211 0x80 []) ∧ (n < 163 → (pldmSensor s n).enabled = false → replied t 0x211 0 [3]) ∧
      (n < 163 → (pldmSensor s n).enabled = true → replied t 0x211 0 [(sensorNow s n).1, ofSigned 32 (sensorNow s n).2.1])) ∧
    (∀ n, ∃ t, exec (.getStateSensorReadings m n) s = .next t ∧ t = { s with porter := t.porter } ∧
      (stateSensorHere s n = false → replied t 0x221 0x80 []) ∧ (stateSensorHere s n = true → replied t 0x221 0 (stateReading s n))) ∧
    (∀ n a b, n < 163 → ∃ t, exec (.setNumericSensorEnable m n a b) s = .next t ∧ replied t 0x210 0 [] ∧ (pldmSensor t n).enabled = a ∧
      (pldmSensor t n).events = b ∧ (pldmSensor t n).level = (pldmSensor s n).level ∧ (∀ k, k ≠ n → pldmSensor t k = pldmSensor s k) ∧
      t = { s with porter := t.porter }) ∧
    (∀ n, n < 163 → ∃ t, exec (.getSensorThresholds m n) s = .next t ∧ replied t 0x212 0 ((thresholdsOf s n).map (ofSigned 32)) ∧
      t = { s with porter := t.porter }) ∧
    (∀ n vs, n < 163 → vs.length ≤ 3 → ∃ t, exec (.setSensorThresholds m n vs) s = .next t ∧ replied t 0x213 0 [] ∧ thresholdsOf t n = vs ∧
      (∀ k, k ≠ n → thresholdsOf t k = thresholdsOf s k) ∧ t = { s with porter := t.porter }) ∧
    (∀ n vs a b, 163 ≤ n → (∃ t, exec (.setSensorThresholds m n vs) s = .next t ∧ replied t 0x213 0x80 [] ∧ t.porter.thresholds = s.porter.thresholds) ∧
      (∃ t, exec (.setNumericSensorEnable m n a b) s = .next t ∧ replied t 0x210 0x80 [] ∧ t.porter.sensors = s.porter.sensors) ∧
      ∃ t, exec (.getSensorThresholds m n) s = .next t ∧ replied t 0x212 0x80 []) ∧
    (∀ r, ∃ t, exec (.setEventReceiver m r) s = .next t ∧ replied t 0x204 0 [] ∧ t.porter.receiver = r ∧ t = { s with porter := t.porter }) ∧
    (∀ e es, s.porter.pldmQueue = e :: es → ∃ t, exec (.pollForPlatformEventMessage m) s = .next t ∧
      replied t 0x20B 0 [e.sensor, e.before, e.after, ofSigned 32 e.milli] ∧ t.porter.pldmQueue = es ∧ t = { s with porter := t.porter }) ∧
    (s.porter.pldmQueue = [] → ∃ t, exec (.pollForPlatformEventMessage m) s = .next t ∧ replied t 0x20B 0 [] ∧ t = { s with porter := t.porter }) ∧
    (∃ t, exec (.eventMessageSupported m) s = .next t ∧ replied t 0x20C 0 [0] ∧ t = { s with porter := t.porter }) ∧
    (∀ w, 1250 ≤ w → w ≤ 1600 → ∃ t, exec (.setNumericEffecterValue m 0x200 w) s = .next t ∧ replied t 0x231 0 [] ∧ t.porter.policy.capW = w ∧
      t.porter.policy.vmode = s.porter.policy.vmode ∧ fieldR t .prtPower 16 16 = w ∧ t = { s with regs := t.regs, porter := t.porter }) ∧
    (∀ n w, n ≠ 0x200 ∨ w < 1250 ∨ 1600 < w → ∃ t, exec (.setNumericEffecterValue m n w) s = .next t ∧
      replied t 0x231 (if n ≠ 0x200 then 0x80 else 2) [] ∧ t.porter.policy = s.porter.policy) ∧
    (∀ v, v ≤ 3 → ∃ t, exec (.setStateEffecterStates m 0x201 v) s = .next t ∧ replied t 0x239 0 [] ∧ t.porter.policy.vmode = v ∧
      t.porter.policy.capW = s.porter.policy.capW ∧ t = { s with regs := t.regs, porter := t.porter }) ∧
    (∀ n v, n ≠ 0x201 ∨ 3 < v → ∃ t, exec (.setStateEffecterStates m n v) s = .next t ∧
      replied t 0x239 (if n ≠ 0x201 then 0x80 else 2) [] ∧ t.porter.policy = s.porter.policy)) ∧
  (∀ (s : State) (m : Mgmt), s.porter.state = .running ∨ s.porter.state = .recovery → mctpReaches s m.via = true →
    (∃ t, exec (.queryDeviceIdentifiers m) s = .next t ∧ replied t 0x501 0 [0x1F3E, match s.variant with | .d1600 => 0xD160 | .d1600n => 0xD16E | .d1200 => 0xD120] ∧
      t = { s with porter := t.porter }) ∧
    (∃ t a b, exec (.getFirmwareParameters m) s = .next t ∧ t = { s with porter := t.porter } ∧
      replied t 0x502 0 [1, slotNum s 1 s.porter.vipol.running 8 4, a, 2, slotNum s 2 s.porter.micro.running 8 4, b]) ∧
    (∀ c, s.porter.update = none → (bit c 0 = true → s.porter.vipol.trial = false) → (bit c 1 = true → s.porter.micro.trial = false) →
      ∃ t, exec (.requestUpdate m c) s = .next t ∧ replied t 0x510 0 [] ∧ t.porter.update = some ⟨m, .learn, 0, 0, [], 0⟩ ∧ t = { s with porter := t.porter }) ∧
    (∀ c u, s.porter.update = some u → ∃ t, exec (.requestUpdate m c) s = .next t ∧ replied t 0x510 0x81 [] ∧ t.porter.update = some u ∧
      t = { s with porter := t.porter }) ∧
    (∀ c, s.porter.update = none → (bit c 0 = true ∧ s.porter.vipol.trial = true) ∨ (bit c 1 = true ∧ s.porter.micro.trial = true) →
      ∃ t, exec (.requestUpdate m c) s = .next t ∧ replied t 0x510 0x80 [] ∧ t.porter.update = none ∧ t = { s with porter := t.porter }) ∧
    (∀ u c, s.porter.update = some u → u.agent = m → u.stage = .learn →
      ∃ t, exec (.passComponentTable m c true) s = .next t ∧ t.porter.update = some { u with stage := .ready } ∧ t = { s with porter := t.porter }) ∧
    (∀ u c n, s.porter.update = some u → u.agent = m → u.stage = .ready ∨ u.stage = .applied → c = 1 ∨ c = 2 → n ≠ 0 → n ≤ slotBytes c →
      (firmware s c).trial = false →
      ∃ t, exec (.updateComponent m c n) s = .next t ∧ slotOf (firmware t c) (1 - (firmware s c).running) = .invalid ∧
        ((firmware s c).running ≤ 1 → slotOf (firmware t c) (firmware s c).running = slotOf (firmware s c) (firmware s c).running) ∧
        t.porter.update = some ⟨u.agent, .download, c, n, [], 0⟩ ∧ t = { s with porter := t.porter }) ∧
    (∀ u bs, s.porter.update = some u → u.agent = m → u.stage = .download → u.component = 1 ∨ u.component = 2 →
      bs.length = min (transferMax m.via) (u.size - u.data.length) →
      ((u.data ++ bs).length < u.size →
        ∃ t, exec (.requestFirmwareData bs) s = .next t ∧ t.porter.update = some { u with data := u.data ++ bs } ∧ t = { s with porter := t.porter }) ∧
      (u.size ≤ (u.data ++ bs).length →
        let slot := 1 - (firmware s u.component).running
        let v := imageCheck (modFirmware s u.component fun f => putSlot f slot (.image (u.data ++ bs))) u.component slot
        ∃ t, exec (.requestFirmwareData bs) s = .next t ∧ t.porter.update = some { u with stage := .applied, data := [], verify := v } ∧
          replied t 0x517 v [u.component] ∧
          slotOf (firmware t u.component) slot = (if v = 0 then .image (u.data ++ bs) else slotOf (firmware s u.component) slot) ∧
          (firmware t u.component).staged = (decide (v = 0) || (firmware s u.component).staged))) ∧
    (∀ u, s.porter.update = some u → u.agent = m → u.stage = .applied → s.porter.vipol.staged = true →
      ∃ t, exec (.activateFirmware m) s = .next t ∧ t.porter.state = .restarting ∧ t.porter.cause = .activation ∧ t.porter.vipol.trial = true ∧
        t.porter.vipol.active = 1 - s.porter.vipol.running ∧ t.porter.vipol.tries = 0 ∧ t.porter.update = none ∧ t.porter.log = s.porter.log) ∧
    (∀ u, s.porter.update = some u → u.agent = m → u.stage = .applied → s.porter.vipol.staged = false → s.porter.micro.staged = true →
      ∃ t, exec (.activateFirmware m) s = .next t ∧ t.porter.state = s.porter.state ∧ t.porter.micro.trial = true ∧
        t.porter.micro.active = 1 - s.porter.micro.running ∧ t.porter.micro.running = s.porter.micro.running ∧ t.porter.vipol = s.porter.vipol ∧
        t.porter.update = none ∧ t = { s with porter := t.porter }) ∧
    (∃ t, exec (.getStatus m) s = .next t ∧ t.porter.reply.map Reply.code = some 0x51B ∧ t.porter.update = s.porter.update ∧ t = { s with porter := t.porter }) ∧
    (∀ u, s.porter.update = some u → u.agent = m → u.stage = .download →
      ∃ t, exec (.cancelUpdateComponent m) s = .next t ∧ t.porter.update = some { u with stage := .ready, data := [] } ∧ t.porter.vipol = s.porter.vipol ∧
        t.porter.micro = s.porter.micro ∧ t = { s with porter := t.porter }) ∧
    (∀ u, s.porter.update = some u → u.agent = m →
      ∃ t, exec (.cancelUpdate m) s = .next t ∧ t.porter.update = none ∧ t.porter.vipol = s.porter.vipol ∧ t.porter.micro = s.porter.micro ∧
        t = { s with porter := t.porter }) ∧
    (∀ u n k b, s.porter.update = some u → u.agent ≠ m →
      ∀ i ∈ [Instr.passComponentTable m n b, .updateComponent m n k, .activateFirmware m, .cancelUpdateComponent m, .cancelUpdate m],
        ∃ t, exec i s = .next t ∧ t.porter.reply.map Reply.result = some 0x80 ∧ t.porter.update = some u ∧ t.porter.vipol = s.porter.vipol ∧
          t.porter.micro = s.porter.micro))

/-- R496, R497: a running Porter that the way reaches answers the SPDM requests in the order of the handshake; a request before its time is an
ERROR; a key exchange opens a session while there is room, FINISH establishes it or ends it, and the requests of a session keep, renew or end it. A
Porter that does not run answers nothing. What the manual leaves open in it is the model's choice: log entries 2, 22 and 101. -/
def Obligations.SpdmIsServed : Prop :=
  (∀ (s : State) (via : SpdmVia) (n k l : Nat) (b : Bool), spdmReaches s via = false →
    ∀ i ∈ [Instr.getVersion via, .getCapabilities via, .negotiateAlgorithms via b, .getDigests via, .getCertificate via n k l, .challenge via n,
      .getMeasurements via n, .keyExchange via n k, .finish via n b, .keyUpdate via n, .heartbeat via n, .endSession via n], exec i s = .next s) ∧
  (∀ (s : State) (via : SpdmVia) (n k l : Nat) (b : Bool), spdmReaches s via = true →
    (∀ i ∈ [Instr.getDigests via, .getCertificate via n k l, .challenge via n, .getMeasurements via n, .keyExchange via n k], spdmStage s via < 3 →
      ∃ t, exec i s = .next t ∧ t.porter.reply = some ⟨5, 0x7F, 4, [], []⟩ ∧ t.porter.sessions = s.porter.sessions ∧ t = { s with porter := t.porter }) ∧
    (spdmStage s via < 1 → ∃ t, exec (.getCapabilities via) s = .next t ∧ t.porter.reply = some ⟨5, 0x7F, 4, [], []⟩ ∧ t.porter.spdm = s.porter.spdm) ∧
    (spdmStage s via < 2 → ∃ t, exec (.negotiateAlgorithms via b) s = .next t ∧ t.porter.reply = some ⟨5, 0x7F, 4, [], []⟩ ∧ t.porter.spdm = s.porter.spdm)) ∧
  (∀ (s : State) (via : SpdmVia), spdmReaches s via = true →
    (∃ t, exec (.getVersion via) s = .next t ∧ spdmReplied t 0x84 [0x13] ∧ spdmStage t via = 1 ∧ t = { s with porter := t.porter }) ∧
    (1 ≤ spdmStage s via → ∃ t, exec (.getCapabilities via) s = .next t ∧ spdmReplied t 0xE1 [match via with | .link _ => 1 | _ => 0] ∧
      spdmStage t via = 2 ∧ t = { s with porter := t.porter }) ∧
    (2 ≤ spdmStage s via →
      (∃ t, exec (.negotiateAlgorithms via true) s = .next t ∧ spdmReplied t 0xE3 [384, 384, 384, 256] ∧ spdmStage t via = 3 ∧
        t = { s with porter := t.porter }) ∧
      ∃ t, exec (.negotiateAlgorithms via false) s = .next t ∧ t.porter.reply = some ⟨5, 0x7F, 1, [], []⟩ ∧ t.porter.spdm = s.porter.spdm) ∧
    (3 ≤ spdmStage s via →
      (∃ t, exec (.getDigests via) s = .next t ∧ spdmReplied t 0x81 [3] ∧ t = { s with free := t.free, porter := t.porter }) ∧
      (∀ slot off len, slot ≤ 1 → ∃ t, exec (.getCertificate via slot off len) s = .next t ∧ spdmReplied t 0x82 [slot, off] ∧
        (∀ r, t.porter.reply = some r → r.bytes.length = min len 4096) ∧ t = { s with free := t.free, porter := t.porter }) ∧
      (∀ slot, slot ≤ 1 → ∃ t, exec (.challenge via slot) s = .next t ∧ spdmReplied t 0x83 [slot] ∧ t = { s with free := t.free, porter := t.porter }) ∧
      (∀ slot k l, 1 < slot → ∀ i ∈ [Instr.getCertificate via slot k l, .challenge via slot, .keyExchange via slot k],
        ∃ t, exec i s = .next t ∧ t.porter.reply = some ⟨5, 0x7F, 1, [], []⟩ ∧ t.porter.sessions = s.porter.sessions) ∧
      (∃ t, exec (.getMeasurements via 0) s = .next t ∧ spdmReplied t 0xE0 [6] ∧ t = { s with porter := t.porter }) ∧
      (∃ t, exec (.getMeasurements via 2) s = .next t ∧
        t.porter.reply = some ⟨5, 0x60, 0, [1], shaBytes (headerOf 1 s.porter.vipol.running (slotOf s.porter.vipol s.porter.vipol.running))⟩) ∧
      (fieldR s .devBoot 0 4 < 2 → ∃ t, exec (.getMeasurements via 3) s = .next t ∧ t.porter.reply = some ⟨5, 0x60, 0, [1], bytesOf 48 0⟩) ∧
      (∀ slot req, slot ≤ 1 → sessionRoom s via = true →
        ∃ t, exec (.keyExchange via slot req) s = .next t ∧ spdmReplied t 0xE4 [s.porter.nextSession, req] ∧
          t.porter.sessions = s.porter.sessions ++ [⟨s.porter.nextSession, via, false, 0⟩] ∧ t.porter.nextSession = s.porter.nextSession + 1 ∧
          t = { s with free := t.free, porter := t.porter }) ∧
      (∀ slot req, slot ≤ 1 → sessionRoom s via = false →
        ∃ t, exec (.keyExchange via slot req) s = .next t ∧ t.porter.reply = some ⟨5, 0x7F, 0x0A, [], []⟩ ∧ t.porter.sessions = s.porter.sessions)) ∧
    (∀ id b, s.porter.sessions.find? (fun x => x.id == id && decide (x.via = via)) = none →
      ∀ i ∈ [Instr.finish via id b, .keyUpdate via id, .heartbeat via id, .endSession via id],
        ∃ t, exec i s = .next t ∧ t.porter.reply = some ⟨5, 0x7F, 0x0B, [], []⟩ ∧ t.porter.sessions = s.porter.sessions) ∧
    (∀ id x, s.porter.sessions.find? (fun x => x.id == id && decide (x.via = via)) = some x → x.established = false →
      (∃ t, exec (.finish via id true) s = .next t ∧ spdmReplied t 0xE5 [] ∧
        t.porter.sessions = s.porter.sessions.map (fun y => if y.id = id then { y with established := true } else y) ∧ t = { s with porter := t.porter }) ∧
      (∃ t, exec (.finish via id false) s = .next t ∧ t.porter.reply = some ⟨5, 0x7F, 6, [], []⟩ ∧ (∀ y ∈ t.porter.sessions, y.id ≠ id) ∧
        getR t .prtLogSeq = (getR s .prtLogSeq + 1) % 2 ^ 64)) ∧
    (∀ id x, s.porter.sessions.find? (fun x => x.id == id && decide (x.via = via)) = some x → x.established = true →
      (∃ t, exec (.keyUpdate via id) s = .next t ∧ spdmReplied t 0xE9 [] ∧
        t.porter.sessions = s.porter.sessions.map (fun y => if y.id = id then { y with keys := y.keys + 1 } else y) ∧ t = { s with porter := t.porter }) ∧
      (∃ t, exec (.heartbeat via id) s = .next t ∧ spdmReplied t 0xE8 [] ∧ t.porter.sessions = s.porter.sessions ∧ t = { s with porter := t.porter }) ∧
      (∃ t, exec (.endSession via id) s = .next t ∧ spdmReplied t 0xEC [] ∧ t.porter.sessions = s.porter.sessions.filter (fun y => y.id ≠ id) ∧
        t = { s with porter := t.porter })))

/-- R394, R499, R502, R503, R509, R512, R513, R534 to R536, R541: what each event of the supplies and the control pins does: standby power, the
enable input, the rails one by one, their fault and its one retry, power failure, the resets of each cause, the power brake and the thermal trip.
What the manual leaves open in it is the model's choice: log entries 90, 91, 102 and 105. -/
def Obligations.ModuleFollowsItsPower : Prop :=
  (∀ (s : State) (a : Nat), s.oam.standby = true → exec (.standbyPowerOn a) s = .next s) ∧
  (∀ (s : State) (a : Nat), s.oam.standby = false →
    ∃ t, exec (.standbyPowerOn a) s = .next t ∧ t.oam.standby = true ∧ t.oam.rails = 0 ∧ t.oam.powerGood = false ∧ t.porter.state = .rom ∧
      t.porter.address = 0x40 + a % 8 ∧ t.porter.log = s.porter.log ∧ t.porter.trust = s.porter.trust ∧ t.porter.pinMarks = s.porter.pinMarks ∧
      t.porter.sessions = [] ∧ getR t .devResetCause = 1 ∧ t.fifo = []) ∧
  (∀ (s : State), s.oam.standby = true →
    ∃ t, exec .standbyPowerLoss s = .next t ∧ t.oam.standby = false ∧ t.oam.rails = 0 ∧ t.oam.powerGood = false ∧ t.oam.trip = false ∧
      t.porter.state = .off ∧ t.porter.log = s.porter.log ∧ t.porter.trust = s.porter.trust ∧ t.porter.sessions = [] ∧ t.fifo = []) ∧
  (∀ (s : State), s.oam.standby = true → s.porter.state = .running → s.oam.trip = false → s.oam.retryFailed = false → s.oam.railFailed = false →
    s.oam.rails = 0 → s.oam.rising = false → slotValid s 2 0 = true ∨ slotValid s 2 1 = true →
    (s.oam.inputOk = true → ∃ t, exec .pwrEnAssert s = .next t ∧ t.oam = { s.oam with pwrEn := true, rising := true } ∧ t = { s with oam := t.oam }) ∧
    (s.oam.pwrEn = true → ∃ t, exec .inputRestored s = .next t ∧ t.oam = { s.oam with inputOk := true, rising := true } ∧ t = { s with oam := t.oam })) ∧
  (∀ (s : State), s.oam.standby = false ∨ s.porter.state ≠ .running ∨ s.oam.trip = true ∨ s.oam.retryFailed = true ∨ s.oam.rails ≠ 0 →
    (∃ t, exec .pwrEnAssert s = .next t ∧ t = { s with oam := { s.oam with pwrEn := true } }) ∧
    ∃ t, exec .inputRestored s = .next t ∧ t = { s with oam := { s.oam with inputOk := true } }) ∧
  (∀ (s : State), s.oam.pwrEn = false → exec .pwrEnDeassert s = .next s) ∧
  (∀ (s : State), s.oam.pwrEn = true →
    ∃ t, exec .pwrEnDeassert s = .next t ∧ t.oam.pwrEn = false ∧ t.oam.rails = 0 ∧ t.oam.powerGood = false ∧ t.oam.railFailed = false ∧
      t.oam.retryFailed = false ∧ t.porter.state = s.porter.state ∧ (s.oam.powerGood = true → getR t .devResetCause = 4)) ∧
  (∀ (s : State), s.oam.rising = false → exec .railRegulated s = .next s ∧ exec .railFault s = .next s) ∧
  (∀ (s : State), s.oam.rising = true →
    let n := s.oam.rails + 1
    (n < railTotal s → ∃ t, exec .railRegulated s = .next t ∧ t.oam = { s.oam with rails := n } ∧
      (n = 3 → t.porter.policy.voltE = (if s.oam.brake then 680 else modeTarget s.porter.policy.vmode) ∧ t.porter.policy.voltW = t.porter.policy.voltE) ∧
      t = { s with oam := t.oam, porter := t.porter }) ∧
    (railTotal s ≤ n → ∃ t, exec .railRegulated s = .next t ∧ t.oam.rails = n ∧ t.oam.rising = false ∧ t.oam.powerGood = true ∧ t.oam.railFailed = false ∧
      getR t .devBoot = 0 ∧ t.porter.state = s.porter.state) ∧
    ∃ t, exec .railFault s = .next t ∧ t.oam.rails = 0 ∧ t.oam.rising = false ∧ t.oam.railFailed = true ∧ t.oam.retryFailed = s.oam.railFailed ∧
      t.oam.since = porterNow s ∧ t = { s with oam := t.oam }) ∧
  (∀ (s : State), s.oam.railFailed = true → s.oam.retryFailed = false → s.oam.rising = false → s.oam.rails = 0 → s.oam.standby = true →
    s.porter.state = .running → s.oam.pwrEn = true → s.oam.inputOk = true → s.oam.trip = false → slotValid s 2 0 = true ∨ slotValid s 2 1 = true →
    ∃ t, exec .railRetry s = .next t ∧ t.oam = { s.oam with rising := true } ∧
      t.now = max s.now (((s.oam.since + 1000000000 : Nat) : Int) - s.porter.localBase).toNat ∧ t = { s with now := t.now, oam := t.oam }) ∧
  (∀ (s : State), s.oam.railFailed = false ∨ s.oam.retryFailed = true → exec .railRetry s = .next s) ∧
  (∀ (s : State), ∃ t, exec .powerFail s = .next t ∧ t.oam.inputOk = false ∧ t.oam.rails = 0 ∧ t.oam.powerGood = false ∧
    t.porter.state = s.porter.state ∧ (s.oam.powerGood = true → getR t .devResetCause = 4)) ∧
  (∀ (s : State), s.oam.powerGood = true →
    (∀ c, c ≠ .railsLost → c ≠ .thermalTrip → ∃ t, exec (.coldReset c) s = .next t ∧ getR t .devResetCause = causeCode c ∧ getR t .devBoot = 0 ∧
      t.oam.powerGood = true ∧ t.oam.rails = s.oam.rails ∧ t.vst.linkUp = false ∧ t.vst.inflight = [] ∧ t.host = s.host ∧
      t.porter.log = s.porter.log ∧ t.porter.state = s.porter.state ∧ t.mzn = State.reset.mzn ∧ t.halls = State.reset.halls ∧ t.pending = s.pending) ∧
    (∀ c, c = .railsLost ∨ c = .thermalTrip → ∃ t, exec (.coldReset c) s = .next t ∧ getR t .devResetCause = causeCode c ∧ t.oam.rails = 0 ∧
      t.oam.powerGood = false ∧ t.vst.inflight = []) ∧
    (s.oam.perst = false → ∃ t, exec .perstAssert s = .next t ∧ t.oam.perst = true ∧ getR t .devResetCause = 2 ∧ getR t .devBoot = 0 ∧
      t.vst.linkUp = false ∧ t.porter.state = s.porter.state)) ∧
  (∀ (s : State) (c : ResetCause), s.oam.powerGood = false → exec (.coldReset c) s = .next s) ∧
  (∀ (s : State), s.oam.perst = true → exec .perstAssert s = .next s) ∧
  (∀ (s : State), ∃ t, exec .perstDeassert s = .next t ∧ t.oam = { s.oam with perst := false } ∧ t = { s with oam := t.oam }) ∧
  (∀ (s : State), ∃ t, exec .pwrbrkAssert s = .next t ∧ t.oam = { s.oam with brake := true } ∧
    (s.oam.powerGood = true → t.porter.policy.voltE = 680 ∧ t.porter.policy.voltW = 680) ∧ t = { s with oam := t.oam, porter := t.porter }) ∧
  (∀ (s : State), ∃ t, exec .pwrbrkRelease s = .next t ∧ t.oam = { s.oam with brake := false } ∧ t = { s with oam := t.oam }) ∧
  (∀ (s : State) (i : Nat), s.oam.standby = true → s.oam.trip = false → s.oam.rails ≠ 0 → s.oam.powerGood = true →
    (i = 161 ∨ i = 162 → ∃ t, exec (.thermalTrip true i) s = .next t ∧ t.oam.trip = true ∧ t.oam.rails = 0 ∧ t.oam.powerGood = false ∧
      getR t .devResetCause = 5 ∧ t.porter.tripNote.map Prod.fst = some i) ∧
    (∀ v n, i < 64 → s.porter.state = .running → tget (fun _ => none) s.porter.samples i = some (v, n) → 110000 ≤ v →
      ∃ t, exec (.thermalTrip false i) s = .next t ∧ t.oam.trip = true ∧ t.oam.rails = 0 ∧ t.oam.powerGood = false ∧ getR t .devResetCause = 5 ∧
        getR t .prtLogSeq = (getR s .prtLogSeq + 1) % 2 ^ 64)) ∧
  (∀ (s : State), s.oam.trip = true → s.oam.pwrEn = false → diodeCool s 161 = true → diodeCool s 162 = true →
    ∃ t, exec .tripRelease s = .next t ∧ t.oam = { s.oam with trip := false } ∧
      t.now = max s.now (((s.oam.since + 1000000000 : Nat) : Int) - s.porter.localBase).toNat ∧ t = { s with now := t.now, oam := t.oam }) ∧
  (∀ (s : State), s.oam.trip = false ∨ s.oam.pwrEn = true ∨ diodeCool s 161 = false ∨ diodeCool s 162 = false → exec .tripRelease s = .next s)

/-- R261, R267, R492, R504 to R508, R511: bring-up tests the dies and fails in stage 1 or 2, or loads the microcode and goes on; each stack trains
or its hall is absent, with its pin marks applied again; the last step fixes which units are present and sets READY. What the manual leaves open in
it is the model's choice: log entries 24, 92 and 95. -/
def Obligations.BringupRuns : Prop :=
  (∀ (s : State) (d : DieTests), s.oam.powerGood = false ∨ s.porter.state ≠ .running ∨ getR s .devBoot ≠ 0 → exec (.mainBringup d) s = .next s) ∧
  (∀ (s : State) (d : DieTests), s.oam.powerGood = true → s.porter.state = .running → getR s .devBoot = 0 →
    (d.core = false → ∃ t, exec (.mainBringup d) s = .next t ∧ bootStage t = 1 ∧ fieldR t .devBoot 4 4 = 1 ∧ bit (getR t .devBoot) 9 = true ∧
      bit (getR t .devBoot) 8 = false ∧ t = { s with regs := t.regs }) ∧
    (d.core = true → s.porter.micro.trial = false → slotValid s 2 s.porter.micro.active = true →
      (d.failedUshers = [] → present s .usher 0 = true →
        ∃ t, exec (.mainBringup d) s = .next t ∧ bootStage t = 3 ∧ t.porter.micro.running = s.porter.micro.active ∧ t.porter.micro.onTrial = false ∧
          getR t .devLevels = slotNum s 2 s.porter.micro.active 12 2 ∧ t = { s with regs := t.regs, porter := t.porter }) ∧
      ((∀ u, u < 256 → present s .usher u = true → u ∈ d.failedUshers) →
        ∃ t, exec (.mainBringup d) s = .next t ∧ bootStage t = 2 ∧ fieldR t .devBoot 4 4 = 2 ∧ bit (getR t .devBoot) 9 = true ∧
          bit (getR t .devBoot) 8 = false ∧ ∀ u, u < 256 → present t .usher u = false)) ∧
    (d.core = true → s.porter.micro.trial = false → slotValid s 2 s.porter.micro.active = false → slotValid s 2 (1 - s.porter.micro.active) = false →
      ∃ t, exec (.mainBringup d) s = .next t ∧ t.porter.state = .recovery ∧ t.oam.rails = 0 ∧ t.oam.powerGood = false)) ∧
  (∀ (s : State) (h : Nat), bootStage s = 3 → h < 16 → bit (fuseWord s.variant 0) h = true → h ∉ s.oam.trained →
    (∃ t, exec (.stackTraining h true) s = .next t ∧ t.oam.trained = s.oam.trained ++ [h] ∧ t.failed = s.failed ∧
      (∀ pc pin, pc < 64 → pin < 64 → tget (fun _ => 0) s.porter.pinMarks (64 * h + pc) = pin + 1 →
        bit (getR t .halPcCe h pc) 30 = true ∧ fieldR t .halPcCe 24 6 h pc = pin) ∧ t = { s with oam := t.oam, regs := t.regs }) ∧
    (∃ t, exec (.stackTraining h false) s = .next t ∧ t.oam.trained = s.oam.trained ++ [h] ∧ present t .hall h = false ∧
      t = { s with oam := t.oam, failed := t.failed, regs := t.regs }) ∧
    (∀ b, (∀ x, x < 16 → bit (fuseWord s.variant 0) x = true → x = h ∨ x ∈ s.oam.trained) →
      ∃ t, exec (.stackTraining h b) s = .next t ∧ bootStage t = 4)) ∧
  (∀ (s : State) (h : Nat) (b : Bool), bootStage s ≠ 3 ∨ h ∈ s.oam.trained → exec (.stackTraining h b) s = .next s) ∧
  (∀ (s : State) (l : List TestedUnit), bootStage s = 4 → bit (getR s .devBoot) 8 = false → s.oam.powerGood = true →
    ∃ t, exec (.bringupReady l) s = .next t ∧ bootStage t = 5 ∧ bit (getR t .devBoot) 8 = true ∧ t.porter.upSince = porterNow s ∧
      (∀ p, TestedUnit.port p ∈ l → present t .port p = false) ∧ (∀ e, TestedUnit.engine e ∈ l → present t .engine e = false) ∧
      (∀ c, TestedUnit.lantern c ∈ l → present t .lantern c = false) ∧ (∀ i, TestedUnit.slice i ∈ l → present t .slice i = false) ∧
      t = { s with failed := t.failed, regs := t.regs, porter := { s.porter with upSince := t.porter.upSince } }) ∧
  (∀ (s : State) (l : List TestedUnit), bootStage s ≠ 4 → exec (.bringupReady l) s = .next s)
end

