-- ==== Sys2Proof/Laws/State.lean ====
section
/-! SUPPORT. Each named update of the state, field by field: every field but the one that the update changes stays. -/

namespace Sys2Proof.Machine

variable (s : State)

@[simp] theorem setR_pending (r : Reg) (v i j f : Nat) : (setR s r v i j f).pending = s.pending := rfl
@[simp] theorem setR_free (r : Reg) (v i j f : Nat) : (setR s r v i j f).free = s.free := rfl
@[simp] theorem setR_variant (r : Reg) (v i j f : Nat) : (setR s r v i j f).variant = s.variant := rfl
@[simp] theorem setR_now (r : Reg) (v i j f : Nat) : (setR s r v i j f).now = s.now := rfl
@[simp] theorem setR_staged (r : Reg) (v i j f : Nat) : (setR s r v i j f).staged = s.staged := rfl
@[simp] theorem setR_latch (r : Reg) (v i j f : Nat) : (setR s r v i j f).latch = s.latch := rfl
@[simp] theorem setR_readData (r : Reg) (v i j f : Nat) : (setR s r v i j f).readData = s.readData := rfl
@[simp] theorem setR_paceArmed (r : Reg) (v i j f : Nat) : (setR s r v i j f).paceArmed = s.paceArmed := rfl
@[simp] theorem setR_failed (r : Reg) (v i j f : Nat) : (setR s r v i j f).failed = s.failed := rfl
@[simp] theorem setR_fifo (r : Reg) (v i j f : Nat) : (setR s r v i j f).fifo = s.fifo := rfl
@[simp] theorem setR_fifoLost (r : Reg) (v i j f : Nat) : (setR s r v i j f).fifoLost = s.fifoLost := rfl
@[simp] theorem setR_host (r : Reg) (v i j f : Nat) : (setR s r v i j f).host = s.host := rfl
@[simp] theorem setR_vst (r : Reg) (v i j f : Nat) : (setR s r v i j f).vst = s.vst := rfl
@[simp] theorem setR_store (r : Reg) (v i j f : Nat) : (setR s r v i j f).store = s.store := rfl
@[simp] theorem setR_halls (r : Reg) (v i j f : Nat) : (setR s r v i j f).halls = s.halls := rfl
@[simp] theorem setR_maps (r : Reg) (v i j f : Nat) : (setR s r v i j f).maps = s.maps := rfl
@[simp] theorem setR_ports (r : Reg) (v i j f : Nat) : (setR s r v i j f).ports = s.ports := rfl
@[simp] theorem setR_tim (r : Reg) (v i j f : Nat) : (setR s r v i j f).tim = s.tim := rfl
@[simp] theorem setR_mzn (r : Reg) (v i j f : Nat) : (setR s r v i j f).mzn = s.mzn := rfl
@[simp] theorem setR_ushers (r : Reg) (v i j f : Nat) : (setR s r v i j f).ushers = s.ushers := rfl
@[simp] theorem setR_engines (r : Reg) (v i j f : Nat) : (setR s r v i j f).engines = s.engines := rfl
@[simp] theorem setR_units (r : Reg) (v i j f : Nat) : (setR s r v i j f).units = s.units := rfl
@[simp] theorem setR_nextDesc (r : Reg) (v i j f : Nat) : (setR s r v i j f).nextDesc = s.nextDesc := rfl
@[simp] theorem setR_cores (r : Reg) (v i j f : Nat) : (setR s r v i j f).cores = s.cores := rfl
@[simp] theorem setR_cloister (r : Reg) (v i j f : Nat) : (setR s r v i j f).cloister = s.cloister := rfl
@[simp] theorem setR_porter (r : Reg) (v i j f : Nat) : (setR s r v i j f).porter = s.porter := rfl
@[simp] theorem setR_oam (r : Reg) (v i j f : Nat) : (setR s r v i j f).oam = s.oam := rfl
@[simp] theorem setR_wingRecord (r : Reg) (v i j f : Nat) : (setR s r v i j f).wingRecord = s.wingRecord := rfl

@[simp] theorem addR_pending (r : Reg) (n i j f : Nat) : (addR s r n i j f).pending = s.pending := rfl
@[simp] theorem addR_free (r : Reg) (n i j f : Nat) : (addR s r n i j f).free = s.free := rfl
@[simp] theorem addR_variant (r : Reg) (n i j f : Nat) : (addR s r n i j f).variant = s.variant := rfl
@[simp] theorem addR_now (r : Reg) (n i j f : Nat) : (addR s r n i j f).now = s.now := rfl
@[simp] theorem addR_staged (r : Reg) (n i j f : Nat) : (addR s r n i j f).staged = s.staged := rfl
@[simp] theorem addR_latch (r : Reg) (n i j f : Nat) : (addR s r n i j f).latch = s.latch := rfl
@[simp] theorem addR_readData (r : Reg) (n i j f : Nat) : (addR s r n i j f).readData = s.readData := rfl
@[simp] theorem addR_paceArmed (r : Reg) (n i j f : Nat) : (addR s r n i j f).paceArmed = s.paceArmed := rfl
@[simp] theorem addR_failed (r : Reg) (n i j f : Nat) : (addR s r n i j f).failed = s.failed := rfl
@[simp] theorem addR_fifo (r : Reg) (n i j f : Nat) : (addR s r n i j f).fifo = s.fifo := rfl
@[simp] theorem addR_fifoLost (r : Reg) (n i j f : Nat) : (addR s r n i j f).fifoLost = s.fifoLost := rfl
@[simp] theorem addR_host (r : Reg) (n i j f : Nat) : (addR s r n i j f).host = s.host := rfl
@[simp] theorem addR_vst (r : Reg) (n i j f : Nat) : (addR s r n i j f).vst = s.vst := rfl
@[simp] theorem addR_store (r : Reg) (n i j f : Nat) : (addR s r n i j f).store = s.store := rfl
@[simp] theorem addR_halls (r : Reg) (n i j f : Nat) : (addR s r n i j f).halls = s.halls := rfl
@[simp] theorem addR_maps (r : Reg) (n i j f : Nat) : (addR s r n i j f).maps = s.maps := rfl
@[simp] theorem addR_ports (r : Reg) (n i j f : Nat) : (addR s r n i j f).ports = s.ports := rfl
@[simp] theorem addR_tim (r : Reg) (n i j f : Nat) : (addR s r n i j f).tim = s.tim := rfl
@[simp] theorem addR_mzn (r : Reg) (n i j f : Nat) : (addR s r n i j f).mzn = s.mzn := rfl
@[simp] theorem addR_ushers (r : Reg) (n i j f : Nat) : (addR s r n i j f).ushers = s.ushers := rfl
@[simp] theorem addR_engines (r : Reg) (n i j f : Nat) : (addR s r n i j f).engines = s.engines := rfl
@[simp] theorem addR_units (r : Reg) (n i j f : Nat) : (addR s r n i j f).units = s.units := rfl
@[simp] theorem addR_nextDesc (r : Reg) (n i j f : Nat) : (addR s r n i j f).nextDesc = s.nextDesc := rfl
@[simp] theorem addR_cores (r : Reg) (n i j f : Nat) : (addR s r n i j f).cores = s.cores := rfl
@[simp] theorem addR_cloister (r : Reg) (n i j f : Nat) : (addR s r n i j f).cloister = s.cloister := rfl
@[simp] theorem addR_porter (r : Reg) (n i j f : Nat) : (addR s r n i j f).porter = s.porter := rfl
@[simp] theorem addR_oam (r : Reg) (n i j f : Nat) : (addR s r n i j f).oam = s.oam := rfl
@[simp] theorem addR_wingRecord (r : Reg) (n i j f : Nat) : (addR s r n i j f).wingRecord = s.wingRecord := rfl

@[simp] theorem addSat_pending (r : Reg) (n i j f : Nat) : (addSat s r n i j f).pending = s.pending := rfl
@[simp] theorem addSat_free (r : Reg) (n i j f : Nat) : (addSat s r n i j f).free = s.free := rfl
@[simp] theorem addSat_variant (r : Reg) (n i j f : Nat) : (addSat s r n i j f).variant = s.variant := rfl
@[simp] theorem addSat_now (r : Reg) (n i j f : Nat) : (addSat s r n i j f).now = s.now := rfl
@[simp] theorem addSat_staged (r : Reg) (n i j f : Nat) : (addSat s r n i j f).staged = s.staged := rfl
@[simp] theorem addSat_latch (r : Reg) (n i j f : Nat) : (addSat s r n i j f).latch = s.latch := rfl
@[simp] theorem addSat_readData (r : Reg) (n i j f : Nat) : (addSat s r n i j f).readData = s.readData := rfl
@[simp] theorem addSat_paceArmed (r : Reg) (n i j f : Nat) : (addSat s r n i j f).paceArmed = s.paceArmed := rfl
@[simp] theorem addSat_failed (r : Reg) (n i j f : Nat) : (addSat s r n i j f).failed = s.failed := rfl
@[simp] theorem addSat_fifo (r : Reg) (n i j f : Nat) : (addSat s r n i j f).fifo = s.fifo := rfl
@[simp] theorem addSat_fifoLost (r : Reg) (n i j f : Nat) : (addSat s r n i j f).fifoLost = s.fifoLost := rfl
@[simp] theorem addSat_host (r : Reg) (n i j f : Nat) : (addSat s r n i j f).host = s.host := rfl
@[simp] theorem addSat_vst (r : Reg) (n i j f : Nat) : (addSat s r n i j f).vst = s.vst := rfl
@[simp] theorem addSat_store (r : Reg) (n i j f : Nat) : (addSat s r n i j f).store = s.store := rfl
@[simp] theorem addSat_halls (r : Reg) (n i j f : Nat) : (addSat s r n i j f).halls = s.halls := rfl
@[simp] theorem addSat_maps (r : Reg) (n i j f : Nat) : (addSat s r n i j f).maps = s.maps := rfl
@[simp] theorem addSat_ports (r : Reg) (n i j f : Nat) : (addSat s r n i j f).ports = s.ports := rfl
@[simp] theorem addSat_tim (r : Reg) (n i j f : Nat) : (addSat s r n i j f).tim = s.tim := rfl
@[simp] theorem addSat_mzn (r : Reg) (n i j f : Nat) : (addSat s r n i j f).mzn = s.mzn := rfl
@[simp] theorem addSat_ushers (r : Reg) (n i j f : Nat) : (addSat s r n i j f).ushers = s.ushers := rfl
@[simp] theorem addSat_engines (r : Reg) (n i j f : Nat) : (addSat s r n i j f).engines = s.engines := rfl
@[simp] theorem addSat_units (r : Reg) (n i j f : Nat) : (addSat s r n i j f).units = s.units := rfl
@[simp] theorem addSat_nextDesc (r : Reg) (n i j f : Nat) : (addSat s r n i j f).nextDesc = s.nextDesc := rfl
@[simp] theorem addSat_cores (r : Reg) (n i j f : Nat) : (addSat s r n i j f).cores = s.cores := rfl
@[simp] theorem addSat_cloister (r : Reg) (n i j f : Nat) : (addSat s r n i j f).cloister = s.cloister := rfl
@[simp] theorem addSat_porter (r : Reg) (n i j f : Nat) : (addSat s r n i j f).porter = s.porter := rfl
@[simp] theorem addSat_oam (r : Reg) (n i j f : Nat) : (addSat s r n i j f).oam = s.oam := rfl
@[simp] theorem addSat_wingRecord (r : Reg) (n i j f : Nat) : (addSat s r n i j f).wingRecord = s.wingRecord := rfl

@[simp] theorem setField_pending (r : Reg) (lo w v i j f : Nat) : (setField s r lo w v i j f).pending = s.pending := rfl
@[simp] theorem setField_free (r : Reg) (lo w v i j f : Nat) : (setField s r lo w v i j f).free = s.free := rfl
@[simp] theorem setField_variant (r : Reg) (lo w v i j f : Nat) : (setField s r lo w v i j f).variant = s.variant := rfl
@[simp] theorem setField_now (r : Reg) (lo w v i j f : Nat) : (setField s r lo w v i j f).now = s.now := rfl
@[simp] theorem setField_staged (r : Reg) (lo w v i j f : Nat) : (setField s r lo w v i j f).staged = s.staged := rfl
@[simp] theorem setField_latch (r : Reg) (lo w v i j f : Nat) : (setField s r lo w v i j f).latch = s.latch := rfl
@[simp] theorem setField_readData (r : Reg) (lo w v i j f : Nat) : (setField s r lo w v i j f).readData = s.readData := rfl
@[simp] theorem setField_paceArmed (r : Reg) (lo w v i j f : Nat) : (setField s r lo w v i j f).paceArmed = s.paceArmed := rfl
@[simp] theorem setField_failed (r : Reg) (lo w v i j f : Nat) : (setField s r lo w v i j f).failed = s.failed := rfl
@[simp] theorem setField_fifo (r : Reg) (lo w v i j f : Nat) : (setField s r lo w v i j f).fifo = s.fifo := rfl
@[simp] theorem setField_fifoLost (r : Reg) (lo w v i j f : Nat) : (setField s r lo w v i j f).fifoLost = s.fifoLost := rfl
@[simp] theorem setField_host (r : Reg) (lo w v i j f : Nat) : (setField s r lo w v i j f).host = s.host := rfl
@[simp] theorem setField_vst (r : Reg) (lo w v i j f : Nat) : (setField s r lo w v i j f).vst = s.vst := rfl
@[simp] theorem setField_store (r : Reg) (lo w v i j f : Nat) : (setField s r lo w v i j f).store = s.store := rfl
@[simp] theorem setField_halls (r : Reg) (lo w v i j f : Nat) : (setField s r lo w v i j f).halls = s.halls := rfl
@[simp] theorem setField_maps (r : Reg) (lo w v i j f : Nat) : (setField s r lo w v i j f).maps = s.maps := rfl
@[simp] theorem setField_ports (r : Reg) (lo w v i j f : Nat) : (setField s r lo w v i j f).ports = s.ports := rfl
@[simp] theorem setField_tim (r : Reg) (lo w v i j f : Nat) : (setField s r lo w v i j f).tim = s.tim := rfl
@[simp] theorem setField_mzn (r : Reg) (lo w v i j f : Nat) : (setField s r lo w v i j f).mzn = s.mzn := rfl
@[simp] theorem setField_ushers (r : Reg) (lo w v i j f : Nat) : (setField s r lo w v i j f).ushers = s.ushers := rfl
@[simp] theorem setField_engines (r : Reg) (lo w v i j f : Nat) : (setField s r lo w v i j f).engines = s.engines := rfl
@[simp] theorem setField_units (r : Reg) (lo w v i j f : Nat) : (setField s r lo w v i j f).units = s.units := rfl
@[simp] theorem setField_nextDesc (r : Reg) (lo w v i j f : Nat) : (setField s r lo w v i j f).nextDesc = s.nextDesc := rfl
@[simp] theorem setField_cores (r : Reg) (lo w v i j f : Nat) : (setField s r lo w v i j f).cores = s.cores := rfl
@[simp] theorem setField_cloister (r : Reg) (lo w v i j f : Nat) : (setField s r lo w v i j f).cloister = s.cloister := rfl
@[simp] theorem setField_porter (r : Reg) (lo w v i j f : Nat) : (setField s r lo w v i j f).porter = s.porter := rfl
@[simp] theorem setField_oam (r : Reg) (lo w v i j f : Nat) : (setField s r lo w v i j f).oam = s.oam := rfl
@[simp] theorem setField_wingRecord (r : Reg) (lo w v i j f : Nat) : (setField s r lo w v i j f).wingRecord = s.wingRecord := rfl

@[simp] theorem stageR_pending (r : Reg) (v i j f : Nat) : (stageR s r v i j f).pending = s.pending := rfl
@[simp] theorem stageR_free (r : Reg) (v i j f : Nat) : (stageR s r v i j f).free = s.free := rfl
@[simp] theorem stageR_variant (r : Reg) (v i j f : Nat) : (stageR s r v i j f).variant = s.variant := rfl
@[simp] theorem stageR_now (r : Reg) (v i j f : Nat) : (stageR s r v i j f).now = s.now := rfl
@[simp] theorem stageR_regs (r : Reg) (v i j f : Nat) : (stageR s r v i j f).regs = s.regs := rfl
@[simp] theorem stageR_latch (r : Reg) (v i j f : Nat) : (stageR s r v i j f).latch = s.latch := rfl
@[simp] theorem stageR_readData (r : Reg) (v i j f : Nat) : (stageR s r v i j f).readData = s.readData := rfl
@[simp] theorem stageR_paceArmed (r : Reg) (v i j f : Nat) : (stageR s r v i j f).paceArmed = s.paceArmed := rfl
@[simp] theorem stageR_failed (r : Reg) (v i j f : Nat) : (stageR s r v i j f).failed = s.failed := rfl
@[simp] theorem stageR_fifo (r : Reg) (v i j f : Nat) : (stageR s r v i j f).fifo = s.fifo := rfl
@[simp] theorem stageR_fifoLost (r : Reg) (v i j f : Nat) : (stageR s r v i j f).fifoLost = s.fifoLost := rfl
@[simp] theorem stageR_host (r : Reg) (v i j f : Nat) : (stageR s r v i j f).host = s.host := rfl
@[simp] theorem stageR_vst (r : Reg) (v i j f : Nat) : (stageR s r v i j f).vst = s.vst := rfl
@[simp] theorem stageR_store (r : Reg) (v i j f : Nat) : (stageR s r v i j f).store = s.store := rfl
@[simp] theorem stageR_halls (r : Reg) (v i j f : Nat) : (stageR s r v i j f).halls = s.halls := rfl
@[simp] theorem stageR_maps (r : Reg) (v i j f : Nat) : (stageR s r v i j f).maps = s.maps := rfl
@[simp] theorem stageR_ports (r : Reg) (v i j f : Nat) : (stageR s r v i j f).ports = s.ports := rfl
@[simp] theorem stageR_tim (r : Reg) (v i j f : Nat) : (stageR s r v i j f).tim = s.tim := rfl
@[simp] theorem stageR_mzn (r : Reg) (v i j f : Nat) : (stageR s r v i j f).mzn = s.mzn := rfl
@[simp] theorem stageR_ushers (r : Reg) (v i j f : Nat) : (stageR s r v i j f).ushers = s.ushers := rfl
@[simp] theorem stageR_engines (r : Reg) (v i j f : Nat) : (stageR s r v i j f).engines = s.engines := rfl
@[simp] theorem stageR_units (r : Reg) (v i j f : Nat) : (stageR s r v i j f).units = s.units := rfl
@[simp] theorem stageR_nextDesc (r : Reg) (v i j f : Nat) : (stageR s r v i j f).nextDesc = s.nextDesc := rfl
@[simp] theorem stageR_cores (r : Reg) (v i j f : Nat) : (stageR s r v i j f).cores = s.cores := rfl
@[simp] theorem stageR_cloister (r : Reg) (v i j f : Nat) : (stageR s r v i j f).cloister = s.cloister := rfl
@[simp] theorem stageR_porter (r : Reg) (v i j f : Nat) : (stageR s r v i j f).porter = s.porter := rfl
@[simp] theorem stageR_oam (r : Reg) (v i j f : Nat) : (stageR s r v i j f).oam = s.oam := rfl
@[simp] theorem stageR_wingRecord (r : Reg) (v i j f : Nat) : (stageR s r v i j f).wingRecord = s.wingRecord := rfl

@[simp] theorem setLatch_pending (who : Requester) (r : Reg) (i j v : Nat) : (setLatch s who r i j v).pending = s.pending := rfl
@[simp] theorem setLatch_free (who : Requester) (r : Reg) (i j v : Nat) : (setLatch s who r i j v).free = s.free := rfl
@[simp] theorem setLatch_variant (who : Requester) (r : Reg) (i j v : Nat) : (setLatch s who r i j v).variant = s.variant := rfl
@[simp] theorem setLatch_now (who : Requester) (r : Reg) (i j v : Nat) : (setLatch s who r i j v).now = s.now := rfl
@[simp] theorem setLatch_regs (who : Requester) (r : Reg) (i j v : Nat) : (setLatch s who r i j v).regs = s.regs := rfl
@[simp] theorem setLatch_staged (who : Requester) (r : Reg) (i j v : Nat) : (setLatch s who r i j v).staged = s.staged := rfl
@[simp] theorem setLatch_readData (who : Requester) (r : Reg) (i j v : Nat) : (setLatch s who r i j v).readData = s.readData := rfl
@[simp] theorem setLatch_paceArmed (who : Requester) (r : Reg) (i j v : Nat) : (setLatch s who r i j v).paceArmed = s.paceArmed := rfl
@[simp] theorem setLatch_failed (who : Requester) (r : Reg) (i j v : Nat) : (setLatch s who r i j v).failed = s.failed := rfl
@[simp] theorem setLatch_fifo (who : Requester) (r : Reg) (i j v : Nat) : (setLatch s who r i j v).fifo = s.fifo := rfl
@[simp] theorem setLatch_fifoLost (who : Requester) (r : Reg) (i j v : Nat) : (setLatch s who r i j v).fifoLost = s.fifoLost := rfl
@[simp] theorem setLatch_host (who : Requester) (r : Reg) (i j v : Nat) : (setLatch s who r i j v).host = s.host := rfl
@[simp] theorem setLatch_vst (who : Requester) (r : Reg) (i j v : Nat) : (setLatch s who r i j v).vst = s.vst := rfl
@[simp] theorem setLatch_store (who : Requester) (r : Reg) (i j v : Nat) : (setLatch s who r i j v).store = s.store := rfl
@[simp] theorem setLatch_halls (who : Requester) (r : Reg) (i j v : Nat) : (setLatch s who r i j v).halls = s.halls := rfl
@[simp] theorem setLatch_maps (who : Requester) (r : Reg) (i j v : Nat) : (setLatch s who r i j v).maps = s.maps := rfl
@[simp] theorem setLatch_ports (who : Requester) (r : Reg) (i j v : Nat) : (setLatch s who r i j v).ports = s.ports := rfl
@[simp] theorem setLatch_tim (who : Requester) (r : Reg) (i j v : Nat) : (setLatch s who r i j v).tim = s.tim := rfl
@[simp] theorem setLatch_mzn (who : Requester) (r : Reg) (i j v : Nat) : (setLatch s who r i j v).mzn = s.mzn := rfl
@[simp] theorem setLatch_ushers (who : Requester) (r : Reg) (i j v : Nat) : (setLatch s who r i j v).ushers = s.ushers := rfl
@[simp] theorem setLatch_engines (who : Requester) (r : Reg) (i j v : Nat) : (setLatch s who r i j v).engines = s.engines := rfl
@[simp] theorem setLatch_units (who : Requester) (r : Reg) (i j v : Nat) : (setLatch s who r i j v).units = s.units := rfl
@[simp] theorem setLatch_nextDesc (who : Requester) (r : Reg) (i j v : Nat) : (setLatch s who r i j v).nextDesc = s.nextDesc := rfl
@[simp] theorem setLatch_cores (who : Requester) (r : Reg) (i j v : Nat) : (setLatch s who r i j v).cores = s.cores := rfl
@[simp] theorem setLatch_cloister (who : Requester) (r : Reg) (i j v : Nat) : (setLatch s who r i j v).cloister = s.cloister := rfl
@[simp] theorem setLatch_porter (who : Requester) (r : Reg) (i j v : Nat) : (setLatch s who r i j v).porter = s.porter := rfl
@[simp] theorem setLatch_oam (who : Requester) (r : Reg) (i j v : Nat) : (setLatch s who r i j v).oam = s.oam := rfl
@[simp] theorem setLatch_wingRecord (who : Requester) (r : Reg) (i j v : Nat) : (setLatch s who r i j v).wingRecord = s.wingRecord := rfl

@[simp] theorem drawFree_pending : (drawFree s).pending = s.pending := rfl
@[simp] theorem drawFree_variant : (drawFree s).variant = s.variant := rfl
@[simp] theorem drawFree_now : (drawFree s).now = s.now := rfl
@[simp] theorem drawFree_regs : (drawFree s).regs = s.regs := rfl
@[simp] theorem drawFree_staged : (drawFree s).staged = s.staged := rfl
@[simp] theorem drawFree_latch : (drawFree s).latch = s.latch := rfl
@[simp] theorem drawFree_readData : (drawFree s).readData = s.readData := rfl
@[simp] theorem drawFree_paceArmed : (drawFree s).paceArmed = s.paceArmed := rfl
@[simp] theorem drawFree_failed : (drawFree s).failed = s.failed := rfl
@[simp] theorem drawFree_fifo : (drawFree s).fifo = s.fifo := rfl
@[simp] theorem drawFree_fifoLost : (drawFree s).fifoLost = s.fifoLost := rfl
@[simp] theorem drawFree_host : (drawFree s).host = s.host := rfl
@[simp] theorem drawFree_vst : (drawFree s).vst = s.vst := rfl
@[simp] theorem drawFree_store : (drawFree s).store = s.store := rfl
@[simp] theorem drawFree_halls : (drawFree s).halls = s.halls := rfl
@[simp] theorem drawFree_maps : (drawFree s).maps = s.maps := rfl
@[simp] theorem drawFree_ports : (drawFree s).ports = s.ports := rfl
@[simp] theorem drawFree_tim : (drawFree s).tim = s.tim := rfl
@[simp] theorem drawFree_mzn : (drawFree s).mzn = s.mzn := rfl
@[simp] theorem drawFree_ushers : (drawFree s).ushers = s.ushers := rfl
@[simp] theorem drawFree_engines : (drawFree s).engines = s.engines := rfl
@[simp] theorem drawFree_units : (drawFree s).units = s.units := rfl
@[simp] theorem drawFree_nextDesc : (drawFree s).nextDesc = s.nextDesc := rfl
@[simp] theorem drawFree_cores : (drawFree s).cores = s.cores := rfl
@[simp] theorem drawFree_cloister : (drawFree s).cloister = s.cloister := rfl
@[simp] theorem drawFree_porter : (drawFree s).porter = s.porter := rfl
@[simp] theorem drawFree_oam : (drawFree s).oam = s.oam := rfl
@[simp] theorem drawFree_wingRecord : (drawFree s).wingRecord = s.wingRecord := rfl

@[simp] theorem notBefore_pending (t : Nat) : (notBefore s t).pending = s.pending := rfl
@[simp] theorem notBefore_free (t : Nat) : (notBefore s t).free = s.free := rfl
@[simp] theorem notBefore_variant (t : Nat) : (notBefore s t).variant = s.variant := rfl
@[simp] theorem notBefore_regs (t : Nat) : (notBefore s t).regs = s.regs := rfl
@[simp] theorem notBefore_staged (t : Nat) : (notBefore s t).staged = s.staged := rfl
@[simp] theorem notBefore_latch (t : Nat) : (notBefore s t).latch = s.latch := rfl
@[simp] theorem notBefore_readData (t : Nat) : (notBefore s t).readData = s.readData := rfl
@[simp] theorem notBefore_paceArmed (t : Nat) : (notBefore s t).paceArmed = s.paceArmed := rfl
@[simp] theorem notBefore_failed (t : Nat) : (notBefore s t).failed = s.failed := rfl
@[simp] theorem notBefore_fifo (t : Nat) : (notBefore s t).fifo = s.fifo := rfl
@[simp] theorem notBefore_fifoLost (t : Nat) : (notBefore s t).fifoLost = s.fifoLost := rfl
@[simp] theorem notBefore_host (t : Nat) : (notBefore s t).host = s.host := rfl
@[simp] theorem notBefore_vst (t : Nat) : (notBefore s t).vst = s.vst := rfl
@[simp] theorem notBefore_store (t : Nat) : (notBefore s t).store = s.store := rfl
@[simp] theorem notBefore_halls (t : Nat) : (notBefore s t).halls = s.halls := rfl
@[simp] theorem notBefore_maps (t : Nat) : (notBefore s t).maps = s.maps := rfl
@[simp] theorem notBefore_ports (t : Nat) : (notBefore s t).ports = s.ports := rfl
@[simp] theorem notBefore_tim (t : Nat) : (notBefore s t).tim = s.tim := rfl
@[simp] theorem notBefore_mzn (t : Nat) : (notBefore s t).mzn = s.mzn := rfl
@[simp] theorem notBefore_ushers (t : Nat) : (notBefore s t).ushers = s.ushers := rfl
@[simp] theorem notBefore_engines (t : Nat) : (notBefore s t).engines = s.engines := rfl
@[simp] theorem notBefore_units (t : Nat) : (notBefore s t).units = s.units := rfl
@[simp] theorem notBefore_nextDesc (t : Nat) : (notBefore s t).nextDesc = s.nextDesc := rfl
@[simp] theorem notBefore_cores (t : Nat) : (notBefore s t).cores = s.cores := rfl
@[simp] theorem notBefore_cloister (t : Nat) : (notBefore s t).cloister = s.cloister := rfl
@[simp] theorem notBefore_porter (t : Nat) : (notBefore s t).porter = s.porter := rfl
@[simp] theorem notBefore_oam (t : Nat) : (notBefore s t).oam = s.oam := rfl
@[simp] theorem notBefore_wingRecord (t : Nat) : (notBefore s t).wingRecord = s.wingRecord := rfl

@[simp] theorem hostPut_pending (a : Nat) (bs : List Byte) : (hostPut s a bs).pending = s.pending := rfl
@[simp] theorem hostPut_free (a : Nat) (bs : List Byte) : (hostPut s a bs).free = s.free := rfl
@[simp] theorem hostPut_variant (a : Nat) (bs : List Byte) : (hostPut s a bs).variant = s.variant := rfl
@[simp] theorem hostPut_now (a : Nat) (bs : List Byte) : (hostPut s a bs).now = s.now := rfl
@[simp] theorem hostPut_regs (a : Nat) (bs : List Byte) : (hostPut s a bs).regs = s.regs := rfl
@[simp] theorem hostPut_staged (a : Nat) (bs : List Byte) : (hostPut s a bs).staged = s.staged := rfl
@[simp] theorem hostPut_latch (a : Nat) (bs : List Byte) : (hostPut s a bs).latch = s.latch := rfl
@[simp] theorem hostPut_readData (a : Nat) (bs : List Byte) : (hostPut s a bs).readData = s.readData := rfl
@[simp] theorem hostPut_paceArmed (a : Nat) (bs : List Byte) : (hostPut s a bs).paceArmed = s.paceArmed := rfl
@[simp] theorem hostPut_failed (a : Nat) (bs : List Byte) : (hostPut s a bs).failed = s.failed := rfl
@[simp] theorem hostPut_fifo (a : Nat) (bs : List Byte) : (hostPut s a bs).fifo = s.fifo := rfl
@[simp] theorem hostPut_fifoLost (a : Nat) (bs : List Byte) : (hostPut s a bs).fifoLost = s.fifoLost := rfl
@[simp] theorem hostPut_vst (a : Nat) (bs : List Byte) : (hostPut s a bs).vst = s.vst := rfl
@[simp] theorem hostPut_store (a : Nat) (bs : List Byte) : (hostPut s a bs).store = s.store := rfl
@[simp] theorem hostPut_halls (a : Nat) (bs : List Byte) : (hostPut s a bs).halls = s.halls := rfl
@[simp] theorem hostPut_maps (a : Nat) (bs : List Byte) : (hostPut s a bs).maps = s.maps := rfl
@[simp] theorem hostPut_ports (a : Nat) (bs : List Byte) : (hostPut s a bs).ports = s.ports := rfl
@[simp] theorem hostPut_tim (a : Nat) (bs : List Byte) : (hostPut s a bs).tim = s.tim := rfl
@[simp] theorem hostPut_mzn (a : Nat) (bs : List Byte) : (hostPut s a bs).mzn = s.mzn := rfl
@[simp] theorem hostPut_ushers (a : Nat) (bs : List Byte) : (hostPut s a bs).ushers = s.ushers := rfl
@[simp] theorem hostPut_engines (a : Nat) (bs : List Byte) : (hostPut s a bs).engines = s.engines := rfl
@[simp] theorem hostPut_units (a : Nat) (bs : List Byte) : (hostPut s a bs).units = s.units := rfl
@[simp] theorem hostPut_nextDesc (a : Nat) (bs : List Byte) : (hostPut s a bs).nextDesc = s.nextDesc := rfl
@[simp] theorem hostPut_cores (a : Nat) (bs : List Byte) : (hostPut s a bs).cores = s.cores := rfl
@[simp] theorem hostPut_cloister (a : Nat) (bs : List Byte) : (hostPut s a bs).cloister = s.cloister := rfl
@[simp] theorem hostPut_porter (a : Nat) (bs : List Byte) : (hostPut s a bs).porter = s.porter := rfl
@[simp] theorem hostPut_oam (a : Nat) (bs : List Byte) : (hostPut s a bs).oam = s.oam := rfl
@[simp] theorem hostPut_wingRecord (a : Nat) (bs : List Byte) : (hostPut s a bs).wingRecord = s.wingRecord := rfl

@[simp] theorem setHeld_pending (f e : Nat) (l : List EventRec) : (setHeld s f e l).pending = s.pending := rfl
@[simp] theorem setHeld_free (f e : Nat) (l : List EventRec) : (setHeld s f e l).free = s.free := rfl
@[simp] theorem setHeld_variant (f e : Nat) (l : List EventRec) : (setHeld s f e l).variant = s.variant := rfl
@[simp] theorem setHeld_now (f e : Nat) (l : List EventRec) : (setHeld s f e l).now = s.now := rfl
@[simp] theorem setHeld_regs (f e : Nat) (l : List EventRec) : (setHeld s f e l).regs = s.regs := rfl
@[simp] theorem setHeld_staged (f e : Nat) (l : List EventRec) : (setHeld s f e l).staged = s.staged := rfl
@[simp] theorem setHeld_latch (f e : Nat) (l : List EventRec) : (setHeld s f e l).latch = s.latch := rfl
@[simp] theorem setHeld_readData (f e : Nat) (l : List EventRec) : (setHeld s f e l).readData = s.readData := rfl
@[simp] theorem setHeld_paceArmed (f e : Nat) (l : List EventRec) : (setHeld s f e l).paceArmed = s.paceArmed := rfl
@[simp] theorem setHeld_failed (f e : Nat) (l : List EventRec) : (setHeld s f e l).failed = s.failed := rfl
@[simp] theorem setHeld_fifo (f e : Nat) (l : List EventRec) : (setHeld s f e l).fifo = s.fifo := rfl
@[simp] theorem setHeld_fifoLost (f e : Nat) (l : List EventRec) : (setHeld s f e l).fifoLost = s.fifoLost := rfl
@[simp] theorem setHeld_host (f e : Nat) (l : List EventRec) : (setHeld s f e l).host = s.host := rfl
@[simp] theorem setHeld_store (f e : Nat) (l : List EventRec) : (setHeld s f e l).store = s.store := rfl
@[simp] theorem setHeld_halls (f e : Nat) (l : List EventRec) : (setHeld s f e l).halls = s.halls := rfl
@[simp] theorem setHeld_maps (f e : Nat) (l : List EventRec) : (setHeld s f e l).maps = s.maps := rfl
@[simp] theorem setHeld_ports (f e : Nat) (l : List EventRec) : (setHeld s f e l).ports = s.ports := rfl
@[simp] theorem setHeld_tim (f e : Nat) (l : List EventRec) : (setHeld s f e l).tim = s.tim := rfl
@[simp] theorem setHeld_mzn (f e : Nat) (l : List EventRec) : (setHeld s f e l).mzn = s.mzn := rfl
@[simp] theorem setHeld_ushers (f e : Nat) (l : List EventRec) : (setHeld s f e l).ushers = s.ushers := rfl
@[simp] theorem setHeld_engines (f e : Nat) (l : List EventRec) : (setHeld s f e l).engines = s.engines := rfl
@[simp] theorem setHeld_units (f e : Nat) (l : List EventRec) : (setHeld s f e l).units = s.units := rfl
@[simp] theorem setHeld_nextDesc (f e : Nat) (l : List EventRec) : (setHeld s f e l).nextDesc = s.nextDesc := rfl
@[simp] theorem setHeld_cores (f e : Nat) (l : List EventRec) : (setHeld s f e l).cores = s.cores := rfl
@[simp] theorem setHeld_cloister (f e : Nat) (l : List EventRec) : (setHeld s f e l).cloister = s.cloister := rfl
@[simp] theorem setHeld_porter (f e : Nat) (l : List EventRec) : (setHeld s f e l).porter = s.porter := rfl
@[simp] theorem setHeld_oam (f e : Nat) (l : List EventRec) : (setHeld s f e l).oam = s.oam := rfl
@[simp] theorem setHeld_wingRecord (f e : Nat) (l : List EventRec) : (setHeld s f e l).wingRecord = s.wingRecord := rfl

@[simp] theorem modCmd_pending (id : Nat) (g : Cmd → Cmd) : (modCmd s id g).pending = s.pending := rfl
@[simp] theorem modCmd_free (id : Nat) (g : Cmd → Cmd) : (modCmd s id g).free = s.free := rfl
@[simp] theorem modCmd_variant (id : Nat) (g : Cmd → Cmd) : (modCmd s id g).variant = s.variant := rfl
@[simp] theorem modCmd_now (id : Nat) (g : Cmd → Cmd) : (modCmd s id g).now = s.now := rfl
@[simp] theorem modCmd_regs (id : Nat) (g : Cmd → Cmd) : (modCmd s id g).regs = s.regs := rfl
@[simp] theorem modCmd_staged (id : Nat) (g : Cmd → Cmd) : (modCmd s id g).staged = s.staged := rfl
@[simp] theorem modCmd_latch (id : Nat) (g : Cmd → Cmd) : (modCmd s id g).latch = s.latch := rfl
@[simp] theorem modCmd_readData (id : Nat) (g : Cmd → Cmd) : (modCmd s id g).readData = s.readData := rfl
@[simp] theorem modCmd_paceArmed (id : Nat) (g : Cmd → Cmd) : (modCmd s id g).paceArmed = s.paceArmed := rfl
@[simp] theorem modCmd_failed (id : Nat) (g : Cmd → Cmd) : (modCmd s id g).failed = s.failed := rfl
@[simp] theorem modCmd_fifo (id : Nat) (g : Cmd → Cmd) : (modCmd s id g).fifo = s.fifo := rfl
@[simp] theorem modCmd_fifoLost (id : Nat) (g : Cmd → Cmd) : (modCmd s id g).fifoLost = s.fifoLost := rfl
@[simp] theorem modCmd_host (id : Nat) (g : Cmd → Cmd) : (modCmd s id g).host = s.host := rfl
@[simp] theorem modCmd_store (id : Nat) (g : Cmd → Cmd) : (modCmd s id g).store = s.store := rfl
@[simp] theorem modCmd_halls (id : Nat) (g : Cmd → Cmd) : (modCmd s id g).halls = s.halls := rfl
@[simp] theorem modCmd_maps (id : Nat) (g : Cmd → Cmd) : (modCmd s id g).maps = s.maps := rfl
@[simp] theorem modCmd_ports (id : Nat) (g : Cmd → Cmd) : (modCmd s id g).ports = s.ports := rfl
@[simp] theorem modCmd_tim (id : Nat) (g : Cmd → Cmd) : (modCmd s id g).tim = s.tim := rfl
@[simp] theorem modCmd_mzn (id : Nat) (g : Cmd → Cmd) : (modCmd s id g).mzn = s.mzn := rfl
@[simp] theorem modCmd_ushers (id : Nat) (g : Cmd → Cmd) : (modCmd s id g).ushers = s.ushers := rfl
@[simp] theorem modCmd_engines (id : Nat) (g : Cmd → Cmd) : (modCmd s id g).engines = s.engines := rfl
@[simp] theorem modCmd_units (id : Nat) (g : Cmd → Cmd) : (modCmd s id g).units = s.units := rfl
@[simp] theorem modCmd_nextDesc (id : Nat) (g : Cmd → Cmd) : (modCmd s id g).nextDesc = s.nextDesc := rfl
@[simp] theorem modCmd_cores (id : Nat) (g : Cmd → Cmd) : (modCmd s id g).cores = s.cores := rfl
@[simp] theorem modCmd_cloister (id : Nat) (g : Cmd → Cmd) : (modCmd s id g).cloister = s.cloister := rfl
@[simp] theorem modCmd_porter (id : Nat) (g : Cmd → Cmd) : (modCmd s id g).porter = s.porter := rfl
@[simp] theorem modCmd_oam (id : Nat) (g : Cmd → Cmd) : (modCmd s id g).oam = s.oam := rfl
@[simp] theorem modCmd_wingRecord (id : Nat) (g : Cmd → Cmd) : (modCmd s id g).wingRecord = s.wingRecord := rfl

@[simp] theorem finish_pending (id st a b c d p : Nat) : (finish s id st a b c d p).pending = s.pending := rfl
@[simp] theorem finish_free (id st a b c d p : Nat) : (finish s id st a b c d p).free = s.free := rfl
@[simp] theorem finish_variant (id st a b c d p : Nat) : (finish s id st a b c d p).variant = s.variant := rfl
@[simp] theorem finish_now (id st a b c d p : Nat) : (finish s id st a b c d p).now = s.now := rfl
@[simp] theorem finish_regs (id st a b c d p : Nat) : (finish s id st a b c d p).regs = s.regs := rfl
@[simp] theorem finish_staged (id st a b c d p : Nat) : (finish s id st a b c d p).staged = s.staged := rfl
@[simp] theorem finish_latch (id st a b c d p : Nat) : (finish s id st a b c d p).latch = s.latch := rfl
@[simp] theorem finish_readData (id st a b c d p : Nat) : (finish s id st a b c d p).readData = s.readData := rfl
@[simp] theorem finish_paceArmed (id st a b c d p : Nat) : (finish s id st a b c d p).paceArmed = s.paceArmed := rfl
@[simp] theorem finish_failed (id st a b c d p : Nat) : (finish s id st a b c d p).failed = s.failed := rfl
@[simp] theorem finish_fifo (id st a b c d p : Nat) : (finish s id st a b c d p).fifo = s.fifo := rfl
@[simp] theorem finish_fifoLost (id st a b c d p : Nat) : (finish s id st a b c d p).fifoLost = s.fifoLost := rfl
@[simp] theorem finish_host (id st a b c d p : Nat) : (finish s id st a b c d p).host = s.host := rfl
@[simp] theorem finish_store (id st a b c d p : Nat) : (finish s id st a b c d p).store = s.store := rfl
@[simp] theorem finish_halls (id st a b c d p : Nat) : (finish s id st a b c d p).halls = s.halls := rfl
@[simp] theorem finish_maps (id st a b c d p : Nat) : (finish s id st a b c d p).maps = s.maps := rfl
@[simp] theorem finish_ports (id st a b c d p : Nat) : (finish s id st a b c d p).ports = s.ports := rfl
@[simp] theorem finish_tim (id st a b c d p : Nat) : (finish s id st a b c d p).tim = s.tim := rfl
@[simp] theorem finish_mzn (id st a b c d p : Nat) : (finish s id st a b c d p).mzn = s.mzn := rfl
@[simp] theorem finish_ushers (id st a b c d p : Nat) : (finish s id st a b c d p).ushers = s.ushers := rfl
@[simp] theorem finish_engines (id st a b c d p : Nat) : (finish s id st a b c d p).engines = s.engines := rfl
@[simp] theorem finish_units (id st a b c d p : Nat) : (finish s id st a b c d p).units = s.units := rfl
@[simp] theorem finish_nextDesc (id st a b c d p : Nat) : (finish s id st a b c d p).nextDesc = s.nextDesc := rfl
@[simp] theorem finish_cores (id st a b c d p : Nat) : (finish s id st a b c d p).cores = s.cores := rfl
@[simp] theorem finish_cloister (id st a b c d p : Nat) : (finish s id st a b c d p).cloister = s.cloister := rfl
@[simp] theorem finish_porter (id st a b c d p : Nat) : (finish s id st a b c d p).porter = s.porter := rfl
@[simp] theorem finish_oam (id st a b c d p : Nat) : (finish s id st a b c d p).oam = s.oam := rfl
@[simp] theorem finish_wingRecord (id st a b c d p : Nat) : (finish s id st a b c d p).wingRecord = s.wingRecord := rfl

@[simp] theorem modStair_pending (h : Nat) (g : Stair → Stair) : (modStair s h g).pending = s.pending := rfl
@[simp] theorem modStair_free (h : Nat) (g : Stair → Stair) : (modStair s h g).free = s.free := rfl
@[simp] theorem modStair_variant (h : Nat) (g : Stair → Stair) : (modStair s h g).variant = s.variant := rfl
@[simp] theorem modStair_now (h : Nat) (g : Stair → Stair) : (modStair s h g).now = s.now := rfl
@[simp] theorem modStair_regs (h : Nat) (g : Stair → Stair) : (modStair s h g).regs = s.regs := rfl
@[simp] theorem modStair_staged (h : Nat) (g : Stair → Stair) : (modStair s h g).staged = s.staged := rfl
@[simp] theorem modStair_latch (h : Nat) (g : Stair → Stair) : (modStair s h g).latch = s.latch := rfl
@[simp] theorem modStair_readData (h : Nat) (g : Stair → Stair) : (modStair s h g).readData = s.readData := rfl
@[simp] theorem modStair_paceArmed (h : Nat) (g : Stair → Stair) : (modStair s h g).paceArmed = s.paceArmed := rfl
@[simp] theorem modStair_failed (h : Nat) (g : Stair → Stair) : (modStair s h g).failed = s.failed := rfl
@[simp] theorem modStair_fifo (h : Nat) (g : Stair → Stair) : (modStair s h g).fifo = s.fifo := rfl
@[simp] theorem modStair_fifoLost (h : Nat) (g : Stair → Stair) : (modStair s h g).fifoLost = s.fifoLost := rfl
@[simp] theorem modStair_host (h : Nat) (g : Stair → Stair) : (modStair s h g).host = s.host := rfl
@[simp] theorem modStair_vst (h : Nat) (g : Stair → Stair) : (modStair s h g).vst = s.vst := rfl
@[simp] theorem modStair_store (h : Nat) (g : Stair → Stair) : (modStair s h g).store = s.store := rfl
@[simp] theorem modStair_maps (h : Nat) (g : Stair → Stair) : (modStair s h g).maps = s.maps := rfl
@[simp] theorem modStair_ports (h : Nat) (g : Stair → Stair) : (modStair s h g).ports = s.ports := rfl
@[simp] theorem modStair_tim (h : Nat) (g : Stair → Stair) : (modStair s h g).tim = s.tim := rfl
@[simp] theorem modStair_mzn (h : Nat) (g : Stair → Stair) : (modStair s h g).mzn = s.mzn := rfl
@[simp] theorem modStair_ushers (h : Nat) (g : Stair → Stair) : (modStair s h g).ushers = s.ushers := rfl
@[simp] theorem modStair_engines (h : Nat) (g : Stair → Stair) : (modStair s h g).engines = s.engines := rfl
@[simp] theorem modStair_units (h : Nat) (g : Stair → Stair) : (modStair s h g).units = s.units := rfl
@[simp] theorem modStair_nextDesc (h : Nat) (g : Stair → Stair) : (modStair s h g).nextDesc = s.nextDesc := rfl
@[simp] theorem modStair_cores (h : Nat) (g : Stair → Stair) : (modStair s h g).cores = s.cores := rfl
@[simp] theorem modStair_cloister (h : Nat) (g : Stair → Stair) : (modStair s h g).cloister = s.cloister := rfl
@[simp] theorem modStair_porter (h : Nat) (g : Stair → Stair) : (modStair s h g).porter = s.porter := rfl
@[simp] theorem modStair_oam (h : Nat) (g : Stair → Stair) : (modStair s h g).oam = s.oam := rfl
@[simp] theorem modStair_wingRecord (h : Nat) (g : Stair → Stair) : (modStair s h g).wingRecord = s.wingRecord := rfl

@[simp] theorem modCtl_pending (h : Nat) (g : HallCtl → HallCtl) : (modCtl s h g).pending = s.pending := rfl
@[simp] theorem modCtl_free (h : Nat) (g : HallCtl → HallCtl) : (modCtl s h g).free = s.free := rfl
@[simp] theorem modCtl_variant (h : Nat) (g : HallCtl → HallCtl) : (modCtl s h g).variant = s.variant := rfl
@[simp] theorem modCtl_now (h : Nat) (g : HallCtl → HallCtl) : (modCtl s h g).now = s.now := rfl
@[simp] theorem modCtl_regs (h : Nat) (g : HallCtl → HallCtl) : (modCtl s h g).regs = s.regs := rfl
@[simp] theorem modCtl_staged (h : Nat) (g : HallCtl → HallCtl) : (modCtl s h g).staged = s.staged := rfl
@[simp] theorem modCtl_latch (h : Nat) (g : HallCtl → HallCtl) : (modCtl s h g).latch = s.latch := rfl
@[simp] theorem modCtl_readData (h : Nat) (g : HallCtl → HallCtl) : (modCtl s h g).readData = s.readData := rfl
@[simp] theorem modCtl_paceArmed (h : Nat) (g : HallCtl → HallCtl) : (modCtl s h g).paceArmed = s.paceArmed := rfl
@[simp] theorem modCtl_failed (h : Nat) (g : HallCtl → HallCtl) : (modCtl s h g).failed = s.failed := rfl
@[simp] theorem modCtl_fifo (h : Nat) (g : HallCtl → HallCtl) : (modCtl s h g).fifo = s.fifo := rfl
@[simp] theorem modCtl_fifoLost (h : Nat) (g : HallCtl → HallCtl) : (modCtl s h g).fifoLost = s.fifoLost := rfl
@[simp] theorem modCtl_host (h : Nat) (g : HallCtl → HallCtl) : (modCtl s h g).host = s.host := rfl
@[simp] theorem modCtl_vst (h : Nat) (g : HallCtl → HallCtl) : (modCtl s h g).vst = s.vst := rfl
@[simp] theorem modCtl_store (h : Nat) (g : HallCtl → HallCtl) : (modCtl s h g).store = s.store := rfl
@[simp] theorem modCtl_maps (h : Nat) (g : HallCtl → HallCtl) : (modCtl s h g).maps = s.maps := rfl
@[simp] theorem modCtl_ports (h : Nat) (g : HallCtl → HallCtl) : (modCtl s h g).ports = s.ports := rfl
@[simp] theorem modCtl_tim (h : Nat) (g : HallCtl → HallCtl) : (modCtl s h g).tim = s.tim := rfl
@[simp] theorem modCtl_mzn (h : Nat) (g : HallCtl → HallCtl) : (modCtl s h g).mzn = s.mzn := rfl
@[simp] theorem modCtl_ushers (h : Nat) (g : HallCtl → HallCtl) : (modCtl s h g).ushers = s.ushers := rfl
@[simp] theorem modCtl_engines (h : Nat) (g : HallCtl → HallCtl) : (modCtl s h g).engines = s.engines := rfl
@[simp] theorem modCtl_units (h : Nat) (g : HallCtl → HallCtl) : (modCtl s h g).units = s.units := rfl
@[simp] theorem modCtl_nextDesc (h : Nat) (g : HallCtl → HallCtl) : (modCtl s h g).nextDesc = s.nextDesc := rfl
@[simp] theorem modCtl_cores (h : Nat) (g : HallCtl → HallCtl) : (modCtl s h g).cores = s.cores := rfl
@[simp] theorem modCtl_cloister (h : Nat) (g : HallCtl → HallCtl) : (modCtl s h g).cloister = s.cloister := rfl
@[simp] theorem modCtl_porter (h : Nat) (g : HallCtl → HallCtl) : (modCtl s h g).porter = s.porter := rfl
@[simp] theorem modCtl_oam (h : Nat) (g : HallCtl → HallCtl) : (modCtl s h g).oam = s.oam := rfl
@[simp] theorem modCtl_wingRecord (h : Nat) (g : HallCtl → HallCtl) : (modCtl s h g).wingRecord = s.wingRecord := rfl

@[simp] theorem setColl_pending (c : Nat) (x : Option Coll) : (setColl s c x).pending = s.pending := rfl
@[simp] theorem setColl_free (c : Nat) (x : Option Coll) : (setColl s c x).free = s.free := rfl
@[simp] theorem setColl_variant (c : Nat) (x : Option Coll) : (setColl s c x).variant = s.variant := rfl
@[simp] theorem setColl_now (c : Nat) (x : Option Coll) : (setColl s c x).now = s.now := rfl
@[simp] theorem setColl_regs (c : Nat) (x : Option Coll) : (setColl s c x).regs = s.regs := rfl
@[simp] theorem setColl_staged (c : Nat) (x : Option Coll) : (setColl s c x).staged = s.staged := rfl
@[simp] theorem setColl_latch (c : Nat) (x : Option Coll) : (setColl s c x).latch = s.latch := rfl
@[simp] theorem setColl_readData (c : Nat) (x : Option Coll) : (setColl s c x).readData = s.readData := rfl
@[simp] theorem setColl_paceArmed (c : Nat) (x : Option Coll) : (setColl s c x).paceArmed = s.paceArmed := rfl
@[simp] theorem setColl_failed (c : Nat) (x : Option Coll) : (setColl s c x).failed = s.failed := rfl
@[simp] theorem setColl_fifo (c : Nat) (x : Option Coll) : (setColl s c x).fifo = s.fifo := rfl
@[simp] theorem setColl_fifoLost (c : Nat) (x : Option Coll) : (setColl s c x).fifoLost = s.fifoLost := rfl
@[simp] theorem setColl_host (c : Nat) (x : Option Coll) : (setColl s c x).host = s.host := rfl
@[simp] theorem setColl_vst (c : Nat) (x : Option Coll) : (setColl s c x).vst = s.vst := rfl
@[simp] theorem setColl_halls (c : Nat) (x : Option Coll) : (setColl s c x).halls = s.halls := rfl
@[simp] theorem setColl_maps (c : Nat) (x : Option Coll) : (setColl s c x).maps = s.maps := rfl
@[simp] theorem setColl_ports (c : Nat) (x : Option Coll) : (setColl s c x).ports = s.ports := rfl
@[simp] theorem setColl_tim (c : Nat) (x : Option Coll) : (setColl s c x).tim = s.tim := rfl
@[simp] theorem setColl_mzn (c : Nat) (x : Option Coll) : (setColl s c x).mzn = s.mzn := rfl
@[simp] theorem setColl_ushers (c : Nat) (x : Option Coll) : (setColl s c x).ushers = s.ushers := rfl
@[simp] theorem setColl_engines (c : Nat) (x : Option Coll) : (setColl s c x).engines = s.engines := rfl
@[simp] theorem setColl_units (c : Nat) (x : Option Coll) : (setColl s c x).units = s.units := rfl
@[simp] theorem setColl_nextDesc (c : Nat) (x : Option Coll) : (setColl s c x).nextDesc = s.nextDesc := rfl
@[simp] theorem setColl_cores (c : Nat) (x : Option Coll) : (setColl s c x).cores = s.cores := rfl
@[simp] theorem setColl_cloister (c : Nat) (x : Option Coll) : (setColl s c x).cloister = s.cloister := rfl
@[simp] theorem setColl_porter (c : Nat) (x : Option Coll) : (setColl s c x).porter = s.porter := rfl
@[simp] theorem setColl_oam (c : Nat) (x : Option Coll) : (setColl s c x).oam = s.oam := rfl
@[simp] theorem setColl_wingRecord (c : Nat) (x : Option Coll) : (setColl s c x).wingRecord = s.wingRecord := rfl

@[simp] theorem modJournal_pending (w : Nat) (g : Journal → Journal) : (modJournal s w g).pending = s.pending := rfl
@[simp] theorem modJournal_free (w : Nat) (g : Journal → Journal) : (modJournal s w g).free = s.free := rfl
@[simp] theorem modJournal_variant (w : Nat) (g : Journal → Journal) : (modJournal s w g).variant = s.variant := rfl
@[simp] theorem modJournal_now (w : Nat) (g : Journal → Journal) : (modJournal s w g).now = s.now := rfl
@[simp] theorem modJournal_regs (w : Nat) (g : Journal → Journal) : (modJournal s w g).regs = s.regs := rfl
@[simp] theorem modJournal_staged (w : Nat) (g : Journal → Journal) : (modJournal s w g).staged = s.staged := rfl
@[simp] theorem modJournal_latch (w : Nat) (g : Journal → Journal) : (modJournal s w g).latch = s.latch := rfl
@[simp] theorem modJournal_readData (w : Nat) (g : Journal → Journal) : (modJournal s w g).readData = s.readData := rfl
@[simp] theorem modJournal_paceArmed (w : Nat) (g : Journal → Journal) : (modJournal s w g).paceArmed = s.paceArmed := rfl
@[simp] theorem modJournal_failed (w : Nat) (g : Journal → Journal) : (modJournal s w g).failed = s.failed := rfl
@[simp] theorem modJournal_fifo (w : Nat) (g : Journal → Journal) : (modJournal s w g).fifo = s.fifo := rfl
@[simp] theorem modJournal_fifoLost (w : Nat) (g : Journal → Journal) : (modJournal s w g).fifoLost = s.fifoLost := rfl
@[simp] theorem modJournal_host (w : Nat) (g : Journal → Journal) : (modJournal s w g).host = s.host := rfl
@[simp] theorem modJournal_vst (w : Nat) (g : Journal → Journal) : (modJournal s w g).vst = s.vst := rfl
@[simp] theorem modJournal_halls (w : Nat) (g : Journal → Journal) : (modJournal s w g).halls = s.halls := rfl
@[simp] theorem modJournal_maps (w : Nat) (g : Journal → Journal) : (modJournal s w g).maps = s.maps := rfl
@[simp] theorem modJournal_ports (w : Nat) (g : Journal → Journal) : (modJournal s w g).ports = s.ports := rfl
@[simp] theorem modJournal_tim (w : Nat) (g : Journal → Journal) : (modJournal s w g).tim = s.tim := rfl
@[simp] theorem modJournal_mzn (w : Nat) (g : Journal → Journal) : (modJournal s w g).mzn = s.mzn := rfl
@[simp] theorem modJournal_ushers (w : Nat) (g : Journal → Journal) : (modJournal s w g).ushers = s.ushers := rfl
@[simp] theorem modJournal_engines (w : Nat) (g : Journal → Journal) : (modJournal s w g).engines = s.engines := rfl
@[simp] theorem modJournal_units (w : Nat) (g : Journal → Journal) : (modJournal s w g).units = s.units := rfl
@[simp] theorem modJournal_nextDesc (w : Nat) (g : Journal → Journal) : (modJournal s w g).nextDesc = s.nextDesc := rfl
@[simp] theorem modJournal_cores (w : Nat) (g : Journal → Journal) : (modJournal s w g).cores = s.cores := rfl
@[simp] theorem modJournal_cloister (w : Nat) (g : Journal → Journal) : (modJournal s w g).cloister = s.cloister := rfl
@[simp] theorem modJournal_porter (w : Nat) (g : Journal → Journal) : (modJournal s w g).porter = s.porter := rfl
@[simp] theorem modJournal_oam (w : Nat) (g : Journal → Journal) : (modJournal s w g).oam = s.oam := rfl
@[simp] theorem modJournal_wingRecord (w : Nat) (g : Journal → Journal) : (modJournal s w g).wingRecord = s.wingRecord := rfl

@[simp] theorem modQuery_pending (x : Nat) (g : Query → Query) : (modQuery s x g).pending = s.pending := rfl
@[simp] theorem modQuery_free (x : Nat) (g : Query → Query) : (modQuery s x g).free = s.free := rfl
@[simp] theorem modQuery_variant (x : Nat) (g : Query → Query) : (modQuery s x g).variant = s.variant := rfl
@[simp] theorem modQuery_now (x : Nat) (g : Query → Query) : (modQuery s x g).now = s.now := rfl
@[simp] theorem modQuery_regs (x : Nat) (g : Query → Query) : (modQuery s x g).regs = s.regs := rfl
@[simp] theorem modQuery_staged (x : Nat) (g : Query → Query) : (modQuery s x g).staged = s.staged := rfl
@[simp] theorem modQuery_latch (x : Nat) (g : Query → Query) : (modQuery s x g).latch = s.latch := rfl
@[simp] theorem modQuery_readData (x : Nat) (g : Query → Query) : (modQuery s x g).readData = s.readData := rfl
@[simp] theorem modQuery_paceArmed (x : Nat) (g : Query → Query) : (modQuery s x g).paceArmed = s.paceArmed := rfl
@[simp] theorem modQuery_failed (x : Nat) (g : Query → Query) : (modQuery s x g).failed = s.failed := rfl
@[simp] theorem modQuery_fifo (x : Nat) (g : Query → Query) : (modQuery s x g).fifo = s.fifo := rfl
@[simp] theorem modQuery_fifoLost (x : Nat) (g : Query → Query) : (modQuery s x g).fifoLost = s.fifoLost := rfl
@[simp] theorem modQuery_host (x : Nat) (g : Query → Query) : (modQuery s x g).host = s.host := rfl
@[simp] theorem modQuery_vst (x : Nat) (g : Query → Query) : (modQuery s x g).vst = s.vst := rfl
@[simp] theorem modQuery_halls (x : Nat) (g : Query → Query) : (modQuery s x g).halls = s.halls := rfl
@[simp] theorem modQuery_maps (x : Nat) (g : Query → Query) : (modQuery s x g).maps = s.maps := rfl
@[simp] theorem modQuery_ports (x : Nat) (g : Query → Query) : (modQuery s x g).ports = s.ports := rfl
@[simp] theorem modQuery_tim (x : Nat) (g : Query → Query) : (modQuery s x g).tim = s.tim := rfl
@[simp] theorem modQuery_mzn (x : Nat) (g : Query → Query) : (modQuery s x g).mzn = s.mzn := rfl
@[simp] theorem modQuery_ushers (x : Nat) (g : Query → Query) : (modQuery s x g).ushers = s.ushers := rfl
@[simp] theorem modQuery_engines (x : Nat) (g : Query → Query) : (modQuery s x g).engines = s.engines := rfl
@[simp] theorem modQuery_units (x : Nat) (g : Query → Query) : (modQuery s x g).units = s.units := rfl
@[simp] theorem modQuery_nextDesc (x : Nat) (g : Query → Query) : (modQuery s x g).nextDesc = s.nextDesc := rfl
@[simp] theorem modQuery_cores (x : Nat) (g : Query → Query) : (modQuery s x g).cores = s.cores := rfl
@[simp] theorem modQuery_cloister (x : Nat) (g : Query → Query) : (modQuery s x g).cloister = s.cloister := rfl
@[simp] theorem modQuery_porter (x : Nat) (g : Query → Query) : (modQuery s x g).porter = s.porter := rfl
@[simp] theorem modQuery_oam (x : Nat) (g : Query → Query) : (modQuery s x g).oam = s.oam := rfl
@[simp] theorem modQuery_wingRecord (x : Nat) (g : Query → Query) : (modQuery s x g).wingRecord = s.wingRecord := rfl

@[simp] theorem modNewel_pending (x t : Nat) (g : NewelQuery → NewelQuery) : (modNewel s x t g).pending = s.pending := rfl
@[simp] theorem modNewel_free (x t : Nat) (g : NewelQuery → NewelQuery) : (modNewel s x t g).free = s.free := rfl
@[simp] theorem modNewel_variant (x t : Nat) (g : NewelQuery → NewelQuery) : (modNewel s x t g).variant = s.variant := rfl
@[simp] theorem modNewel_now (x t : Nat) (g : NewelQuery → NewelQuery) : (modNewel s x t g).now = s.now := rfl
@[simp] theorem modNewel_regs (x t : Nat) (g : NewelQuery → NewelQuery) : (modNewel s x t g).regs = s.regs := rfl
@[simp] theorem modNewel_staged (x t : Nat) (g : NewelQuery → NewelQuery) : (modNewel s x t g).staged = s.staged := rfl
@[simp] theorem modNewel_latch (x t : Nat) (g : NewelQuery → NewelQuery) : (modNewel s x t g).latch = s.latch := rfl
@[simp] theorem modNewel_readData (x t : Nat) (g : NewelQuery → NewelQuery) : (modNewel s x t g).readData = s.readData := rfl
@[simp] theorem modNewel_paceArmed (x t : Nat) (g : NewelQuery → NewelQuery) : (modNewel s x t g).paceArmed = s.paceArmed := rfl
@[simp] theorem modNewel_failed (x t : Nat) (g : NewelQuery → NewelQuery) : (modNewel s x t g).failed = s.failed := rfl
@[simp] theorem modNewel_fifo (x t : Nat) (g : NewelQuery → NewelQuery) : (modNewel s x t g).fifo = s.fifo := rfl
@[simp] theorem modNewel_fifoLost (x t : Nat) (g : NewelQuery → NewelQuery) : (modNewel s x t g).fifoLost = s.fifoLost := rfl
@[simp] theorem modNewel_host (x t : Nat) (g : NewelQuery → NewelQuery) : (modNewel s x t g).host = s.host := rfl
@[simp] theorem modNewel_vst (x t : Nat) (g : NewelQuery → NewelQuery) : (modNewel s x t g).vst = s.vst := rfl
@[simp] theorem modNewel_halls (x t : Nat) (g : NewelQuery → NewelQuery) : (modNewel s x t g).halls = s.halls := rfl
@[simp] theorem modNewel_maps (x t : Nat) (g : NewelQuery → NewelQuery) : (modNewel s x t g).maps = s.maps := rfl
@[simp] theorem modNewel_ports (x t : Nat) (g : NewelQuery → NewelQuery) : (modNewel s x t g).ports = s.ports := rfl
@[simp] theorem modNewel_tim (x t : Nat) (g : NewelQuery → NewelQuery) : (modNewel s x t g).tim = s.tim := rfl
@[simp] theorem modNewel_mzn (x t : Nat) (g : NewelQuery → NewelQuery) : (modNewel s x t g).mzn = s.mzn := rfl
@[simp] theorem modNewel_ushers (x t : Nat) (g : NewelQuery → NewelQuery) : (modNewel s x t g).ushers = s.ushers := rfl
@[simp] theorem modNewel_engines (x t : Nat) (g : NewelQuery → NewelQuery) : (modNewel s x t g).engines = s.engines := rfl
@[simp] theorem modNewel_units (x t : Nat) (g : NewelQuery → NewelQuery) : (modNewel s x t g).units = s.units := rfl
@[simp] theorem modNewel_nextDesc (x t : Nat) (g : NewelQuery → NewelQuery) : (modNewel s x t g).nextDesc = s.nextDesc := rfl
@[simp] theorem modNewel_cores (x t : Nat) (g : NewelQuery → NewelQuery) : (modNewel s x t g).cores = s.cores := rfl
@[simp] theorem modNewel_cloister (x t : Nat) (g : NewelQuery → NewelQuery) : (modNewel s x t g).cloister = s.cloister := rfl
@[simp] theorem modNewel_porter (x t : Nat) (g : NewelQuery → NewelQuery) : (modNewel s x t g).porter = s.porter := rfl
@[simp] theorem modNewel_oam (x t : Nat) (g : NewelQuery → NewelQuery) : (modNewel s x t g).oam = s.oam := rfl
@[simp] theorem modNewel_wingRecord (x t : Nat) (g : NewelQuery → NewelQuery) : (modNewel s x t g).wingRecord = s.wingRecord := rfl

@[simp] theorem modPower_pending (g : PowerState → PowerState) : (modPower s g).pending = s.pending := rfl
@[simp] theorem modPower_free (g : PowerState → PowerState) : (modPower s g).free = s.free := rfl
@[simp] theorem modPower_variant (g : PowerState → PowerState) : (modPower s g).variant = s.variant := rfl
@[simp] theorem modPower_now (g : PowerState → PowerState) : (modPower s g).now = s.now := rfl
@[simp] theorem modPower_regs (g : PowerState → PowerState) : (modPower s g).regs = s.regs := rfl
@[simp] theorem modPower_staged (g : PowerState → PowerState) : (modPower s g).staged = s.staged := rfl
@[simp] theorem modPower_latch (g : PowerState → PowerState) : (modPower s g).latch = s.latch := rfl
@[simp] theorem modPower_readData (g : PowerState → PowerState) : (modPower s g).readData = s.readData := rfl
@[simp] theorem modPower_paceArmed (g : PowerState → PowerState) : (modPower s g).paceArmed = s.paceArmed := rfl
@[simp] theorem modPower_failed (g : PowerState → PowerState) : (modPower s g).failed = s.failed := rfl
@[simp] theorem modPower_fifo (g : PowerState → PowerState) : (modPower s g).fifo = s.fifo := rfl
@[simp] theorem modPower_fifoLost (g : PowerState → PowerState) : (modPower s g).fifoLost = s.fifoLost := rfl
@[simp] theorem modPower_host (g : PowerState → PowerState) : (modPower s g).host = s.host := rfl
@[simp] theorem modPower_vst (g : PowerState → PowerState) : (modPower s g).vst = s.vst := rfl
@[simp] theorem modPower_halls (g : PowerState → PowerState) : (modPower s g).halls = s.halls := rfl
@[simp] theorem modPower_maps (g : PowerState → PowerState) : (modPower s g).maps = s.maps := rfl
@[simp] theorem modPower_ports (g : PowerState → PowerState) : (modPower s g).ports = s.ports := rfl
@[simp] theorem modPower_tim (g : PowerState → PowerState) : (modPower s g).tim = s.tim := rfl
@[simp] theorem modPower_mzn (g : PowerState → PowerState) : (modPower s g).mzn = s.mzn := rfl
@[simp] theorem modPower_ushers (g : PowerState → PowerState) : (modPower s g).ushers = s.ushers := rfl
@[simp] theorem modPower_engines (g : PowerState → PowerState) : (modPower s g).engines = s.engines := rfl
@[simp] theorem modPower_units (g : PowerState → PowerState) : (modPower s g).units = s.units := rfl
@[simp] theorem modPower_nextDesc (g : PowerState → PowerState) : (modPower s g).nextDesc = s.nextDesc := rfl
@[simp] theorem modPower_cores (g : PowerState → PowerState) : (modPower s g).cores = s.cores := rfl
@[simp] theorem modPower_cloister (g : PowerState → PowerState) : (modPower s g).cloister = s.cloister := rfl
@[simp] theorem modPower_porter (g : PowerState → PowerState) : (modPower s g).porter = s.porter := rfl
@[simp] theorem modPower_oam (g : PowerState → PowerState) : (modPower s g).oam = s.oam := rfl
@[simp] theorem modPower_wingRecord (g : PowerState → PowerState) : (modPower s g).wingRecord = s.wingRecord := rfl

@[simp] theorem setMap_pending (n : Nat) (m : MapEnt) : (setMap s n m).pending = s.pending := rfl
@[simp] theorem setMap_free (n : Nat) (m : MapEnt) : (setMap s n m).free = s.free := rfl
@[simp] theorem setMap_variant (n : Nat) (m : MapEnt) : (setMap s n m).variant = s.variant := rfl
@[simp] theorem setMap_now (n : Nat) (m : MapEnt) : (setMap s n m).now = s.now := rfl
@[simp] theorem setMap_regs (n : Nat) (m : MapEnt) : (setMap s n m).regs = s.regs := rfl
@[simp] theorem setMap_staged (n : Nat) (m : MapEnt) : (setMap s n m).staged = s.staged := rfl
@[simp] theorem setMap_latch (n : Nat) (m : MapEnt) : (setMap s n m).latch = s.latch := rfl
@[simp] theorem setMap_readData (n : Nat) (m : MapEnt) : (setMap s n m).readData = s.readData := rfl
@[simp] theorem setMap_paceArmed (n : Nat) (m : MapEnt) : (setMap s n m).paceArmed = s.paceArmed := rfl
@[simp] theorem setMap_failed (n : Nat) (m : MapEnt) : (setMap s n m).failed = s.failed := rfl
@[simp] theorem setMap_fifo (n : Nat) (m : MapEnt) : (setMap s n m).fifo = s.fifo := rfl
@[simp] theorem setMap_fifoLost (n : Nat) (m : MapEnt) : (setMap s n m).fifoLost = s.fifoLost := rfl
@[simp] theorem setMap_host (n : Nat) (m : MapEnt) : (setMap s n m).host = s.host := rfl
@[simp] theorem setMap_vst (n : Nat) (m : MapEnt) : (setMap s n m).vst = s.vst := rfl
@[simp] theorem setMap_store (n : Nat) (m : MapEnt) : (setMap s n m).store = s.store := rfl
@[simp] theorem setMap_halls (n : Nat) (m : MapEnt) : (setMap s n m).halls = s.halls := rfl
@[simp] theorem setMap_ports (n : Nat) (m : MapEnt) : (setMap s n m).ports = s.ports := rfl
@[simp] theorem setMap_tim (n : Nat) (m : MapEnt) : (setMap s n m).tim = s.tim := rfl
@[simp] theorem setMap_mzn (n : Nat) (m : MapEnt) : (setMap s n m).mzn = s.mzn := rfl
@[simp] theorem setMap_ushers (n : Nat) (m : MapEnt) : (setMap s n m).ushers = s.ushers := rfl
@[simp] theorem setMap_engines (n : Nat) (m : MapEnt) : (setMap s n m).engines = s.engines := rfl
@[simp] theorem setMap_units (n : Nat) (m : MapEnt) : (setMap s n m).units = s.units := rfl
@[simp] theorem setMap_nextDesc (n : Nat) (m : MapEnt) : (setMap s n m).nextDesc = s.nextDesc := rfl
@[simp] theorem setMap_cores (n : Nat) (m : MapEnt) : (setMap s n m).cores = s.cores := rfl
@[simp] theorem setMap_cloister (n : Nat) (m : MapEnt) : (setMap s n m).cloister = s.cloister := rfl
@[simp] theorem setMap_porter (n : Nat) (m : MapEnt) : (setMap s n m).porter = s.porter := rfl
@[simp] theorem setMap_oam (n : Nat) (m : MapEnt) : (setMap s n m).oam = s.oam := rfl
@[simp] theorem setMap_wingRecord (n : Nat) (m : MapEnt) : (setMap s n m).wingRecord = s.wingRecord := rfl

@[simp] theorem modPort_pending (p : Nat) (g : Port → Port) : (modPort s p g).pending = s.pending := rfl
@[simp] theorem modPort_free (p : Nat) (g : Port → Port) : (modPort s p g).free = s.free := rfl
@[simp] theorem modPort_variant (p : Nat) (g : Port → Port) : (modPort s p g).variant = s.variant := rfl
@[simp] theorem modPort_now (p : Nat) (g : Port → Port) : (modPort s p g).now = s.now := rfl
@[simp] theorem modPort_regs (p : Nat) (g : Port → Port) : (modPort s p g).regs = s.regs := rfl
@[simp] theorem modPort_staged (p : Nat) (g : Port → Port) : (modPort s p g).staged = s.staged := rfl
@[simp] theorem modPort_latch (p : Nat) (g : Port → Port) : (modPort s p g).latch = s.latch := rfl
@[simp] theorem modPort_readData (p : Nat) (g : Port → Port) : (modPort s p g).readData = s.readData := rfl
@[simp] theorem modPort_paceArmed (p : Nat) (g : Port → Port) : (modPort s p g).paceArmed = s.paceArmed := rfl
@[simp] theorem modPort_failed (p : Nat) (g : Port → Port) : (modPort s p g).failed = s.failed := rfl
@[simp] theorem modPort_fifo (p : Nat) (g : Port → Port) : (modPort s p g).fifo = s.fifo := rfl
@[simp] theorem modPort_fifoLost (p : Nat) (g : Port → Port) : (modPort s p g).fifoLost = s.fifoLost := rfl
@[simp] theorem modPort_host (p : Nat) (g : Port → Port) : (modPort s p g).host = s.host := rfl
@[simp] theorem modPort_vst (p : Nat) (g : Port → Port) : (modPort s p g).vst = s.vst := rfl
@[simp] theorem modPort_store (p : Nat) (g : Port → Port) : (modPort s p g).store = s.store := rfl
@[simp] theorem modPort_halls (p : Nat) (g : Port → Port) : (modPort s p g).halls = s.halls := rfl
@[simp] theorem modPort_maps (p : Nat) (g : Port → Port) : (modPort s p g).maps = s.maps := rfl
@[simp] theorem modPort_tim (p : Nat) (g : Port → Port) : (modPort s p g).tim = s.tim := rfl
@[simp] theorem modPort_mzn (p : Nat) (g : Port → Port) : (modPort s p g).mzn = s.mzn := rfl
@[simp] theorem modPort_ushers (p : Nat) (g : Port → Port) : (modPort s p g).ushers = s.ushers := rfl
@[simp] theorem modPort_engines (p : Nat) (g : Port → Port) : (modPort s p g).engines = s.engines := rfl
@[simp] theorem modPort_units (p : Nat) (g : Port → Port) : (modPort s p g).units = s.units := rfl
@[simp] theorem modPort_nextDesc (p : Nat) (g : Port → Port) : (modPort s p g).nextDesc = s.nextDesc := rfl
@[simp] theorem modPort_cores (p : Nat) (g : Port → Port) : (modPort s p g).cores = s.cores := rfl
@[simp] theorem modPort_cloister (p : Nat) (g : Port → Port) : (modPort s p g).cloister = s.cloister := rfl
@[simp] theorem modPort_porter (p : Nat) (g : Port → Port) : (modPort s p g).porter = s.porter := rfl
@[simp] theorem modPort_oam (p : Nat) (g : Port → Port) : (modPort s p g).oam = s.oam := rfl
@[simp] theorem modPort_wingRecord (p : Nat) (g : Port → Port) : (modPort s p g).wingRecord = s.wingRecord := rfl

@[simp] theorem modMzn_pending (g : Mezz → Mezz) : (modMzn s g).pending = s.pending := rfl
@[simp] theorem modMzn_free (g : Mezz → Mezz) : (modMzn s g).free = s.free := rfl
@[simp] theorem modMzn_variant (g : Mezz → Mezz) : (modMzn s g).variant = s.variant := rfl
@[simp] theorem modMzn_now (g : Mezz → Mezz) : (modMzn s g).now = s.now := rfl
@[simp] theorem modMzn_regs (g : Mezz → Mezz) : (modMzn s g).regs = s.regs := rfl
@[simp] theorem modMzn_staged (g : Mezz → Mezz) : (modMzn s g).staged = s.staged := rfl
@[simp] theorem modMzn_latch (g : Mezz → Mezz) : (modMzn s g).latch = s.latch := rfl
@[simp] theorem modMzn_readData (g : Mezz → Mezz) : (modMzn s g).readData = s.readData := rfl
@[simp] theorem modMzn_paceArmed (g : Mezz → Mezz) : (modMzn s g).paceArmed = s.paceArmed := rfl
@[simp] theorem modMzn_failed (g : Mezz → Mezz) : (modMzn s g).failed = s.failed := rfl
@[simp] theorem modMzn_fifo (g : Mezz → Mezz) : (modMzn s g).fifo = s.fifo := rfl
@[simp] theorem modMzn_fifoLost (g : Mezz → Mezz) : (modMzn s g).fifoLost = s.fifoLost := rfl
@[simp] theorem modMzn_host (g : Mezz → Mezz) : (modMzn s g).host = s.host := rfl
@[simp] theorem modMzn_vst (g : Mezz → Mezz) : (modMzn s g).vst = s.vst := rfl
@[simp] theorem modMzn_store (g : Mezz → Mezz) : (modMzn s g).store = s.store := rfl
@[simp] theorem modMzn_halls (g : Mezz → Mezz) : (modMzn s g).halls = s.halls := rfl
@[simp] theorem modMzn_maps (g : Mezz → Mezz) : (modMzn s g).maps = s.maps := rfl
@[simp] theorem modMzn_ports (g : Mezz → Mezz) : (modMzn s g).ports = s.ports := rfl
@[simp] theorem modMzn_tim (g : Mezz → Mezz) : (modMzn s g).tim = s.tim := rfl
@[simp] theorem modMzn_ushers (g : Mezz → Mezz) : (modMzn s g).ushers = s.ushers := rfl
@[simp] theorem modMzn_engines (g : Mezz → Mezz) : (modMzn s g).engines = s.engines := rfl
@[simp] theorem modMzn_units (g : Mezz → Mezz) : (modMzn s g).units = s.units := rfl
@[simp] theorem modMzn_nextDesc (g : Mezz → Mezz) : (modMzn s g).nextDesc = s.nextDesc := rfl
@[simp] theorem modMzn_cores (g : Mezz → Mezz) : (modMzn s g).cores = s.cores := rfl
@[simp] theorem modMzn_cloister (g : Mezz → Mezz) : (modMzn s g).cloister = s.cloister := rfl
@[simp] theorem modMzn_porter (g : Mezz → Mezz) : (modMzn s g).porter = s.porter := rfl
@[simp] theorem modMzn_oam (g : Mezz → Mezz) : (modMzn s g).oam = s.oam := rfl
@[simp] theorem modMzn_wingRecord (g : Mezz → Mezz) : (modMzn s g).wingRecord = s.wingRecord := rfl

@[simp] theorem modUsher_pending (u : Nat) (g : Usher → Usher) : (modUsher s u g).pending = s.pending := rfl
@[simp] theorem modUsher_free (u : Nat) (g : Usher → Usher) : (modUsher s u g).free = s.free := rfl
@[simp] theorem modUsher_variant (u : Nat) (g : Usher → Usher) : (modUsher s u g).variant = s.variant := rfl
@[simp] theorem modUsher_now (u : Nat) (g : Usher → Usher) : (modUsher s u g).now = s.now := rfl
@[simp] theorem modUsher_regs (u : Nat) (g : Usher → Usher) : (modUsher s u g).regs = s.regs := rfl
@[simp] theorem modUsher_staged (u : Nat) (g : Usher → Usher) : (modUsher s u g).staged = s.staged := rfl
@[simp] theorem modUsher_latch (u : Nat) (g : Usher → Usher) : (modUsher s u g).latch = s.latch := rfl
@[simp] theorem modUsher_readData (u : Nat) (g : Usher → Usher) : (modUsher s u g).readData = s.readData := rfl
@[simp] theorem modUsher_paceArmed (u : Nat) (g : Usher → Usher) : (modUsher s u g).paceArmed = s.paceArmed := rfl
@[simp] theorem modUsher_failed (u : Nat) (g : Usher → Usher) : (modUsher s u g).failed = s.failed := rfl
@[simp] theorem modUsher_fifo (u : Nat) (g : Usher → Usher) : (modUsher s u g).fifo = s.fifo := rfl
@[simp] theorem modUsher_fifoLost (u : Nat) (g : Usher → Usher) : (modUsher s u g).fifoLost = s.fifoLost := rfl
@[simp] theorem modUsher_host (u : Nat) (g : Usher → Usher) : (modUsher s u g).host = s.host := rfl
@[simp] theorem modUsher_vst (u : Nat) (g : Usher → Usher) : (modUsher s u g).vst = s.vst := rfl
@[simp] theorem modUsher_store (u : Nat) (g : Usher → Usher) : (modUsher s u g).store = s.store := rfl
@[simp] theorem modUsher_halls (u : Nat) (g : Usher → Usher) : (modUsher s u g).halls = s.halls := rfl
@[simp] theorem modUsher_maps (u : Nat) (g : Usher → Usher) : (modUsher s u g).maps = s.maps := rfl
@[simp] theorem modUsher_ports (u : Nat) (g : Usher → Usher) : (modUsher s u g).ports = s.ports := rfl
@[simp] theorem modUsher_tim (u : Nat) (g : Usher → Usher) : (modUsher s u g).tim = s.tim := rfl
@[simp] theorem modUsher_mzn (u : Nat) (g : Usher → Usher) : (modUsher s u g).mzn = s.mzn := rfl
@[simp] theorem modUsher_engines (u : Nat) (g : Usher → Usher) : (modUsher s u g).engines = s.engines := rfl
@[simp] theorem modUsher_units (u : Nat) (g : Usher → Usher) : (modUsher s u g).units = s.units := rfl
@[simp] theorem modUsher_nextDesc (u : Nat) (g : Usher → Usher) : (modUsher s u g).nextDesc = s.nextDesc := rfl
@[simp] theorem modUsher_cores (u : Nat) (g : Usher → Usher) : (modUsher s u g).cores = s.cores := rfl
@[simp] theorem modUsher_cloister (u : Nat) (g : Usher → Usher) : (modUsher s u g).cloister = s.cloister := rfl
@[simp] theorem modUsher_porter (u : Nat) (g : Usher → Usher) : (modUsher s u g).porter = s.porter := rfl
@[simp] theorem modUsher_oam (u : Nat) (g : Usher → Usher) : (modUsher s u g).oam = s.oam := rfl
@[simp] theorem modUsher_wingRecord (u : Nat) (g : Usher → Usher) : (modUsher s u g).wingRecord = s.wingRecord := rfl

@[simp] theorem modEngine_pending (e : Nat) (g : Engine → Engine) : (modEngine s e g).pending = s.pending := rfl
@[simp] theorem modEngine_free (e : Nat) (g : Engine → Engine) : (modEngine s e g).free = s.free := rfl
@[simp] theorem modEngine_variant (e : Nat) (g : Engine → Engine) : (modEngine s e g).variant = s.variant := rfl
@[simp] theorem modEngine_now (e : Nat) (g : Engine → Engine) : (modEngine s e g).now = s.now := rfl
@[simp] theorem modEngine_regs (e : Nat) (g : Engine → Engine) : (modEngine s e g).regs = s.regs := rfl
@[simp] theorem modEngine_staged (e : Nat) (g : Engine → Engine) : (modEngine s e g).staged = s.staged := rfl
@[simp] theorem modEngine_latch (e : Nat) (g : Engine → Engine) : (modEngine s e g).latch = s.latch := rfl
@[simp] theorem modEngine_readData (e : Nat) (g : Engine → Engine) : (modEngine s e g).readData = s.readData := rfl
@[simp] theorem modEngine_paceArmed (e : Nat) (g : Engine → Engine) : (modEngine s e g).paceArmed = s.paceArmed := rfl
@[simp] theorem modEngine_failed (e : Nat) (g : Engine → Engine) : (modEngine s e g).failed = s.failed := rfl
@[simp] theorem modEngine_fifo (e : Nat) (g : Engine → Engine) : (modEngine s e g).fifo = s.fifo := rfl
@[simp] theorem modEngine_fifoLost (e : Nat) (g : Engine → Engine) : (modEngine s e g).fifoLost = s.fifoLost := rfl
@[simp] theorem modEngine_host (e : Nat) (g : Engine → Engine) : (modEngine s e g).host = s.host := rfl
@[simp] theorem modEngine_vst (e : Nat) (g : Engine → Engine) : (modEngine s e g).vst = s.vst := rfl
@[simp] theorem modEngine_store (e : Nat) (g : Engine → Engine) : (modEngine s e g).store = s.store := rfl
@[simp] theorem modEngine_halls (e : Nat) (g : Engine → Engine) : (modEngine s e g).halls = s.halls := rfl
@[simp] theorem modEngine_maps (e : Nat) (g : Engine → Engine) : (modEngine s e g).maps = s.maps := rfl
@[simp] theorem modEngine_ports (e : Nat) (g : Engine → Engine) : (modEngine s e g).ports = s.ports := rfl
@[simp] theorem modEngine_tim (e : Nat) (g : Engine → Engine) : (modEngine s e g).tim = s.tim := rfl
@[simp] theorem modEngine_mzn (e : Nat) (g : Engine → Engine) : (modEngine s e g).mzn = s.mzn := rfl
@[simp] theorem modEngine_ushers (e : Nat) (g : Engine → Engine) : (modEngine s e g).ushers = s.ushers := rfl
@[simp] theorem modEngine_units (e : Nat) (g : Engine → Engine) : (modEngine s e g).units = s.units := rfl
@[simp] theorem modEngine_nextDesc (e : Nat) (g : Engine → Engine) : (modEngine s e g).nextDesc = s.nextDesc := rfl
@[simp] theorem modEngine_cores (e : Nat) (g : Engine → Engine) : (modEngine s e g).cores = s.cores := rfl
@[simp] theorem modEngine_cloister (e : Nat) (g : Engine → Engine) : (modEngine s e g).cloister = s.cloister := rfl
@[simp] theorem modEngine_porter (e : Nat) (g : Engine → Engine) : (modEngine s e g).porter = s.porter := rfl
@[simp] theorem modEngine_oam (e : Nat) (g : Engine → Engine) : (modEngine s e g).oam = s.oam := rfl
@[simp] theorem modEngine_wingRecord (e : Nat) (g : Engine → Engine) : (modEngine s e g).wingRecord = s.wingRecord := rfl

@[simp] theorem modUnit_pending (c i : Nat) (g : UnitQ → UnitQ) : (modUnit s c i g).pending = s.pending := rfl
@[simp] theorem modUnit_free (c i : Nat) (g : UnitQ → UnitQ) : (modUnit s c i g).free = s.free := rfl
@[simp] theorem modUnit_variant (c i : Nat) (g : UnitQ → UnitQ) : (modUnit s c i g).variant = s.variant := rfl
@[simp] theorem modUnit_now (c i : Nat) (g : UnitQ → UnitQ) : (modUnit s c i g).now = s.now := rfl
@[simp] theorem modUnit_regs (c i : Nat) (g : UnitQ → UnitQ) : (modUnit s c i g).regs = s.regs := rfl
@[simp] theorem modUnit_staged (c i : Nat) (g : UnitQ → UnitQ) : (modUnit s c i g).staged = s.staged := rfl
@[simp] theorem modUnit_latch (c i : Nat) (g : UnitQ → UnitQ) : (modUnit s c i g).latch = s.latch := rfl
@[simp] theorem modUnit_readData (c i : Nat) (g : UnitQ → UnitQ) : (modUnit s c i g).readData = s.readData := rfl
@[simp] theorem modUnit_paceArmed (c i : Nat) (g : UnitQ → UnitQ) : (modUnit s c i g).paceArmed = s.paceArmed := rfl
@[simp] theorem modUnit_failed (c i : Nat) (g : UnitQ → UnitQ) : (modUnit s c i g).failed = s.failed := rfl
@[simp] theorem modUnit_fifo (c i : Nat) (g : UnitQ → UnitQ) : (modUnit s c i g).fifo = s.fifo := rfl
@[simp] theorem modUnit_fifoLost (c i : Nat) (g : UnitQ → UnitQ) : (modUnit s c i g).fifoLost = s.fifoLost := rfl
@[simp] theorem modUnit_host (c i : Nat) (g : UnitQ → UnitQ) : (modUnit s c i g).host = s.host := rfl
@[simp] theorem modUnit_vst (c i : Nat) (g : UnitQ → UnitQ) : (modUnit s c i g).vst = s.vst := rfl
@[simp] theorem modUnit_store (c i : Nat) (g : UnitQ → UnitQ) : (modUnit s c i g).store = s.store := rfl
@[simp] theorem modUnit_halls (c i : Nat) (g : UnitQ → UnitQ) : (modUnit s c i g).halls = s.halls := rfl
@[simp] theorem modUnit_maps (c i : Nat) (g : UnitQ → UnitQ) : (modUnit s c i g).maps = s.maps := rfl
@[simp] theorem modUnit_ports (c i : Nat) (g : UnitQ → UnitQ) : (modUnit s c i g).ports = s.ports := rfl
@[simp] theorem modUnit_tim (c i : Nat) (g : UnitQ → UnitQ) : (modUnit s c i g).tim = s.tim := rfl
@[simp] theorem modUnit_mzn (c i : Nat) (g : UnitQ → UnitQ) : (modUnit s c i g).mzn = s.mzn := rfl
@[simp] theorem modUnit_ushers (c i : Nat) (g : UnitQ → UnitQ) : (modUnit s c i g).ushers = s.ushers := rfl
@[simp] theorem modUnit_engines (c i : Nat) (g : UnitQ → UnitQ) : (modUnit s c i g).engines = s.engines := rfl
@[simp] theorem modUnit_nextDesc (c i : Nat) (g : UnitQ → UnitQ) : (modUnit s c i g).nextDesc = s.nextDesc := rfl
@[simp] theorem modUnit_cores (c i : Nat) (g : UnitQ → UnitQ) : (modUnit s c i g).cores = s.cores := rfl
@[simp] theorem modUnit_cloister (c i : Nat) (g : UnitQ → UnitQ) : (modUnit s c i g).cloister = s.cloister := rfl
@[simp] theorem modUnit_porter (c i : Nat) (g : UnitQ → UnitQ) : (modUnit s c i g).porter = s.porter := rfl
@[simp] theorem modUnit_oam (c i : Nat) (g : UnitQ → UnitQ) : (modUnit s c i g).oam = s.oam := rfl
@[simp] theorem modUnit_wingRecord (c i : Nat) (g : UnitQ → UnitQ) : (modUnit s c i g).wingRecord = s.wingRecord := rfl

@[simp] theorem modCore_pending (c : Nat) (g : LCore → LCore) : (modCore s c g).pending = s.pending := rfl
@[simp] theorem modCore_free (c : Nat) (g : LCore → LCore) : (modCore s c g).free = s.free := rfl
@[simp] theorem modCore_variant (c : Nat) (g : LCore → LCore) : (modCore s c g).variant = s.variant := rfl
@[simp] theorem modCore_now (c : Nat) (g : LCore → LCore) : (modCore s c g).now = s.now := rfl
@[simp] theorem modCore_regs (c : Nat) (g : LCore → LCore) : (modCore s c g).regs = s.regs := rfl
@[simp] theorem modCore_staged (c : Nat) (g : LCore → LCore) : (modCore s c g).staged = s.staged := rfl
@[simp] theorem modCore_latch (c : Nat) (g : LCore → LCore) : (modCore s c g).latch = s.latch := rfl
@[simp] theorem modCore_readData (c : Nat) (g : LCore → LCore) : (modCore s c g).readData = s.readData := rfl
@[simp] theorem modCore_paceArmed (c : Nat) (g : LCore → LCore) : (modCore s c g).paceArmed = s.paceArmed := rfl
@[simp] theorem modCore_failed (c : Nat) (g : LCore → LCore) : (modCore s c g).failed = s.failed := rfl
@[simp] theorem modCore_fifo (c : Nat) (g : LCore → LCore) : (modCore s c g).fifo = s.fifo := rfl
@[simp] theorem modCore_fifoLost (c : Nat) (g : LCore → LCore) : (modCore s c g).fifoLost = s.fifoLost := rfl
@[simp] theorem modCore_host (c : Nat) (g : LCore → LCore) : (modCore s c g).host = s.host := rfl
@[simp] theorem modCore_vst (c : Nat) (g : LCore → LCore) : (modCore s c g).vst = s.vst := rfl
@[simp] theorem modCore_store (c : Nat) (g : LCore → LCore) : (modCore s c g).store = s.store := rfl
@[simp] theorem modCore_halls (c : Nat) (g : LCore → LCore) : (modCore s c g).halls = s.halls := rfl
@[simp] theorem modCore_maps (c : Nat) (g : LCore → LCore) : (modCore s c g).maps = s.maps := rfl
@[simp] theorem modCore_ports (c : Nat) (g : LCore → LCore) : (modCore s c g).ports = s.ports := rfl
@[simp] theorem modCore_tim (c : Nat) (g : LCore → LCore) : (modCore s c g).tim = s.tim := rfl
@[simp] theorem modCore_mzn (c : Nat) (g : LCore → LCore) : (modCore s c g).mzn = s.mzn := rfl
@[simp] theorem modCore_ushers (c : Nat) (g : LCore → LCore) : (modCore s c g).ushers = s.ushers := rfl
@[simp] theorem modCore_engines (c : Nat) (g : LCore → LCore) : (modCore s c g).engines = s.engines := rfl
@[simp] theorem modCore_units (c : Nat) (g : LCore → LCore) : (modCore s c g).units = s.units := rfl
@[simp] theorem modCore_nextDesc (c : Nat) (g : LCore → LCore) : (modCore s c g).nextDesc = s.nextDesc := rfl
@[simp] theorem modCore_cloister (c : Nat) (g : LCore → LCore) : (modCore s c g).cloister = s.cloister := rfl
@[simp] theorem modCore_porter (c : Nat) (g : LCore → LCore) : (modCore s c g).porter = s.porter := rfl
@[simp] theorem modCore_oam (c : Nat) (g : LCore → LCore) : (modCore s c g).oam = s.oam := rfl
@[simp] theorem modCore_wingRecord (c : Nat) (g : LCore → LCore) : (modCore s c g).wingRecord = s.wingRecord := rfl

@[simp] theorem modCloister_pending (g : Cloister → Cloister) : (modCloister s g).pending = s.pending := rfl
@[simp] theorem modCloister_free (g : Cloister → Cloister) : (modCloister s g).free = s.free := rfl
@[simp] theorem modCloister_variant (g : Cloister → Cloister) : (modCloister s g).variant = s.variant := rfl
@[simp] theorem modCloister_now (g : Cloister → Cloister) : (modCloister s g).now = s.now := rfl
@[simp] theorem modCloister_regs (g : Cloister → Cloister) : (modCloister s g).regs = s.regs := rfl
@[simp] theorem modCloister_staged (g : Cloister → Cloister) : (modCloister s g).staged = s.staged := rfl
@[simp] theorem modCloister_latch (g : Cloister → Cloister) : (modCloister s g).latch = s.latch := rfl
@[simp] theorem modCloister_readData (g : Cloister → Cloister) : (modCloister s g).readData = s.readData := rfl
@[simp] theorem modCloister_paceArmed (g : Cloister → Cloister) : (modCloister s g).paceArmed = s.paceArmed := rfl
@[simp] theorem modCloister_failed (g : Cloister → Cloister) : (modCloister s g).failed = s.failed := rfl
@[simp] theorem modCloister_fifo (g : Cloister → Cloister) : (modCloister s g).fifo = s.fifo := rfl
@[simp] theorem modCloister_fifoLost (g : Cloister → Cloister) : (modCloister s g).fifoLost = s.fifoLost := rfl
@[simp] theorem modCloister_host (g : Cloister → Cloister) : (modCloister s g).host = s.host := rfl
@[simp] theorem modCloister_vst (g : Cloister → Cloister) : (modCloister s g).vst = s.vst := rfl
@[simp] theorem modCloister_store (g : Cloister → Cloister) : (modCloister s g).store = s.store := rfl
@[simp] theorem modCloister_halls (g : Cloister → Cloister) : (modCloister s g).halls = s.halls := rfl
@[simp] theorem modCloister_maps (g : Cloister → Cloister) : (modCloister s g).maps = s.maps := rfl
@[simp] theorem modCloister_ports (g : Cloister → Cloister) : (modCloister s g).ports = s.ports := rfl
@[simp] theorem modCloister_tim (g : Cloister → Cloister) : (modCloister s g).tim = s.tim := rfl
@[simp] theorem modCloister_mzn (g : Cloister → Cloister) : (modCloister s g).mzn = s.mzn := rfl
@[simp] theorem modCloister_ushers (g : Cloister → Cloister) : (modCloister s g).ushers = s.ushers := rfl
@[simp] theorem modCloister_engines (g : Cloister → Cloister) : (modCloister s g).engines = s.engines := rfl
@[simp] theorem modCloister_units (g : Cloister → Cloister) : (modCloister s g).units = s.units := rfl
@[simp] theorem modCloister_nextDesc (g : Cloister → Cloister) : (modCloister s g).nextDesc = s.nextDesc := rfl
@[simp] theorem modCloister_cores (g : Cloister → Cloister) : (modCloister s g).cores = s.cores := rfl
@[simp] theorem modCloister_porter (g : Cloister → Cloister) : (modCloister s g).porter = s.porter := rfl
@[simp] theorem modCloister_oam (g : Cloister → Cloister) : (modCloister s g).oam = s.oam := rfl
@[simp] theorem modCloister_wingRecord (g : Cloister → Cloister) : (modCloister s g).wingRecord = s.wingRecord := rfl

@[simp] theorem modPorter_pending (g : Porter → Porter) : (modPorter s g).pending = s.pending := rfl
@[simp] theorem modPorter_free (g : Porter → Porter) : (modPorter s g).free = s.free := rfl
@[simp] theorem modPorter_variant (g : Porter → Porter) : (modPorter s g).variant = s.variant := rfl
@[simp] theorem modPorter_now (g : Porter → Porter) : (modPorter s g).now = s.now := rfl
@[simp] theorem modPorter_regs (g : Porter → Porter) : (modPorter s g).regs = s.regs := rfl
@[simp] theorem modPorter_staged (g : Porter → Porter) : (modPorter s g).staged = s.staged := rfl
@[simp] theorem modPorter_latch (g : Porter → Porter) : (modPorter s g).latch = s.latch := rfl
@[simp] theorem modPorter_readData (g : Porter → Porter) : (modPorter s g).readData = s.readData := rfl
@[simp] theorem modPorter_paceArmed (g : Porter → Porter) : (modPorter s g).paceArmed = s.paceArmed := rfl
@[simp] theorem modPorter_failed (g : Porter → Porter) : (modPorter s g).failed = s.failed := rfl
@[simp] theorem modPorter_fifo (g : Porter → Porter) : (modPorter s g).fifo = s.fifo := rfl
@[simp] theorem modPorter_fifoLost (g : Porter → Porter) : (modPorter s g).fifoLost = s.fifoLost := rfl
@[simp] theorem modPorter_host (g : Porter → Porter) : (modPorter s g).host = s.host := rfl
@[simp] theorem modPorter_vst (g : Porter → Porter) : (modPorter s g).vst = s.vst := rfl
@[simp] theorem modPorter_store (g : Porter → Porter) : (modPorter s g).store = s.store := rfl
@[simp] theorem modPorter_halls (g : Porter → Porter) : (modPorter s g).halls = s.halls := rfl
@[simp] theorem modPorter_maps (g : Porter → Porter) : (modPorter s g).maps = s.maps := rfl
@[simp] theorem modPorter_ports (g : Porter → Porter) : (modPorter s g).ports = s.ports := rfl
@[simp] theorem modPorter_tim (g : Porter → Porter) : (modPorter s g).tim = s.tim := rfl
@[simp] theorem modPorter_mzn (g : Porter → Porter) : (modPorter s g).mzn = s.mzn := rfl
@[simp] theorem modPorter_ushers (g : Porter → Porter) : (modPorter s g).ushers = s.ushers := rfl
@[simp] theorem modPorter_engines (g : Porter → Porter) : (modPorter s g).engines = s.engines := rfl
@[simp] theorem modPorter_units (g : Porter → Porter) : (modPorter s g).units = s.units := rfl
@[simp] theorem modPorter_nextDesc (g : Porter → Porter) : (modPorter s g).nextDesc = s.nextDesc := rfl
@[simp] theorem modPorter_cores (g : Porter → Porter) : (modPorter s g).cores = s.cores := rfl
@[simp] theorem modPorter_cloister (g : Porter → Porter) : (modPorter s g).cloister = s.cloister := rfl
@[simp] theorem modPorter_oam (g : Porter → Porter) : (modPorter s g).oam = s.oam := rfl
@[simp] theorem modPorter_wingRecord (g : Porter → Porter) : (modPorter s g).wingRecord = s.wingRecord := rfl

@[simp] theorem modOam_pending (g : Module → Module) : (modOam s g).pending = s.pending := rfl
@[simp] theorem modOam_free (g : Module → Module) : (modOam s g).free = s.free := rfl
@[simp] theorem modOam_variant (g : Module → Module) : (modOam s g).variant = s.variant := rfl
@[simp] theorem modOam_now (g : Module → Module) : (modOam s g).now = s.now := rfl
@[simp] theorem modOam_regs (g : Module → Module) : (modOam s g).regs = s.regs := rfl
@[simp] theorem modOam_staged (g : Module → Module) : (modOam s g).staged = s.staged := rfl
@[simp] theorem modOam_latch (g : Module → Module) : (modOam s g).latch = s.latch := rfl
@[simp] theorem modOam_readData (g : Module → Module) : (modOam s g).readData = s.readData := rfl
@[simp] theorem modOam_paceArmed (g : Module → Module) : (modOam s g).paceArmed = s.paceArmed := rfl
@[simp] theorem modOam_failed (g : Module → Module) : (modOam s g).failed = s.failed := rfl
@[simp] theorem modOam_fifo (g : Module → Module) : (modOam s g).fifo = s.fifo := rfl
@[simp] theorem modOam_fifoLost (g : Module → Module) : (modOam s g).fifoLost = s.fifoLost := rfl
@[simp] theorem modOam_host (g : Module → Module) : (modOam s g).host = s.host := rfl
@[simp] theorem modOam_vst (g : Module → Module) : (modOam s g).vst = s.vst := rfl
@[simp] theorem modOam_store (g : Module → Module) : (modOam s g).store = s.store := rfl
@[simp] theorem modOam_halls (g : Module → Module) : (modOam s g).halls = s.halls := rfl
@[simp] theorem modOam_maps (g : Module → Module) : (modOam s g).maps = s.maps := rfl
@[simp] theorem modOam_ports (g : Module → Module) : (modOam s g).ports = s.ports := rfl
@[simp] theorem modOam_tim (g : Module → Module) : (modOam s g).tim = s.tim := rfl
@[simp] theorem modOam_mzn (g : Module → Module) : (modOam s g).mzn = s.mzn := rfl
@[simp] theorem modOam_ushers (g : Module → Module) : (modOam s g).ushers = s.ushers := rfl
@[simp] theorem modOam_engines (g : Module → Module) : (modOam s g).engines = s.engines := rfl
@[simp] theorem modOam_units (g : Module → Module) : (modOam s g).units = s.units := rfl
@[simp] theorem modOam_nextDesc (g : Module → Module) : (modOam s g).nextDesc = s.nextDesc := rfl
@[simp] theorem modOam_cores (g : Module → Module) : (modOam s g).cores = s.cores := rfl
@[simp] theorem modOam_cloister (g : Module → Module) : (modOam s g).cloister = s.cloister := rfl
@[simp] theorem modOam_porter (g : Module → Module) : (modOam s g).porter = s.porter := rfl
@[simp] theorem modOam_wingRecord (g : Module → Module) : (modOam s g).wingRecord = s.wingRecord := rfl

end Sys2Proof.Machine
end

