-- ==== Sys2Proof/Laws/Table.lean ====
section
/-! SUPPORT. Laws of sparse tables and of the byte memories held in them: reading after writing, and the canonical form. -/

namespace Sys2Proof.Machine

variable {α : Type}

/-- A key below every key of a table reads as an unlisted key does. -/
theorem tget_of_above (d : Nat → α) (t : Tbl α) (k : Nat) (h : tabove k t = true) : tget d t k = d k := by
  induction t with
  | nil => rfl
  | cons e t ih =>
    simp only [tabove, Bool.and_eq_true, decide_eq_true_eq] at h
    have hk : k ≠ e.1 := by omega
    simpa only [tget, hk, if_false] using ih h.2

/-- A bound below the keys of a table may be lowered. -/
theorem tabove_mono (t : Tbl α) (j k : Nat) (hjk : j ≤ k) (h : tabove k t = true) : tabove j t = true := by
  induction t with
  | nil => rfl
  | cons e t ih =>
    simp only [tabove, Bool.and_eq_true, decide_eq_true_eq] at h ⊢
    exact ⟨by omega, ih h.2⟩

/-- Putting an entry at a key makes the key read as its value. -/
@[simp] theorem tget_tput_same (d : Nat → α) (t : Tbl α) (k : Nat) (v : α) : tget d (tput t k v) k = v := by
  induction t with
  | nil => simp [tput, tget]
  | cons e t ih =>
    simp only [tput]
    split
    · simp [tget]
    · split
      · simp [tget]
      · rename_i h _; simpa only [tget, h, if_false] using ih

/-- Putting an entry at a key leaves every other key as it read. -/
theorem tget_tput_other (d : Nat → α) (t : Tbl α) (k j : Nat) (v : α) (h : j ≠ k) : tget d (tput t k v) j = tget d t j := by
  induction t with
  | nil => simp [tput, tget, h]
  | cons e t ih =>
    simp only [tput]
    split
    · rename_i hk; subst hk; simp [tget, h]
    · split
      · simp [tget, h]
      · simp only [tget]; split
        · rfl
        · exact ih

/-- An entry put into a table lies above what its key and the table lie above. -/
theorem tabove_tput (t : Tbl α) (j k : Nat) (v : α) (hk : j < k) (h : tabove j t = true) : tabove j (tput t k v) = true := by
  induction t with
  | nil => simp [tput, tabove, hk]
  | cons e t ih =>
    simp only [tabove, Bool.and_eq_true, decide_eq_true_eq] at h
    simp only [tput]
    split
    · simp [tabove, hk, h.2]
    · split
      · simp [tabove, hk, h.1, h.2]
      · simp [tabove, h.1, ih h.2]

/-- Putting an entry keeps the keys rising. -/
theorem tsorted_tput (t : Tbl α) (k : Nat) (v : α) (h : tsorted t = true) : tsorted (tput t k v) = true := by
  induction t with
  | nil => simp [tput, tsorted, tabove]
  | cons e t ih =>
    simp only [tsorted, Bool.and_eq_true] at h
    simp only [tput]
    split
    · rename_i hk; subst hk; simp [tsorted, h.1, h.2]
    · split
      · rename_i hlt
        simp [tsorted, tabove, hlt, h.1, h.2, tabove_mono t k e.1 (Nat.le_of_lt hlt) h.1]
      · have hlt : e.1 < k := by omega
        simp [tsorted, ih h.2, tabove_tput t e.1 k v hlt h.1]

/-- Erasing an entry leaves bounds below the keys. -/
theorem tabove_terase (t : Tbl α) (j k : Nat) (h : tabove j t = true) : tabove j (terase t k) = true := by
  induction t with
  | nil => rfl
  | cons e t ih =>
    simp only [tabove, Bool.and_eq_true, decide_eq_true_eq] at h
    simp only [terase]
    split
    · exact ih h.2
    · simp [tabove, h.1, ih h.2]

/-- Erasing an entry keeps the keys rising. -/
theorem tsorted_terase (t : Tbl α) (k : Nat) (h : tsorted t = true) : tsorted (terase t k) = true := by
  induction t with
  | nil => rfl
  | cons e t ih =>
    simp only [tsorted, Bool.and_eq_true] at h
    simp only [terase]
    split
    · exact ih h.2
    · simp [tsorted, ih h.2, tabove_terase t e.1 k h.1]

/-- Erasing a key makes it read as an unlisted one. -/
theorem tget_terase_same (d : Nat → α) (t : Tbl α) (k : Nat) : tget d (terase t k) k = d k := by
  induction t with
  | nil => rfl
  | cons e t ih =>
    simp only [terase]
    split
    · exact ih
    · rename_i hne; simpa only [tget, hne, if_false] using ih

/-- Erasing a key leaves every other key as it read. -/
theorem tget_terase_other (d : Nat → α) (t : Tbl α) (k j : Nat) (h : j ≠ k) : tget d (terase t k) j = tget d t j := by
  induction t with
  | nil => rfl
  | cons e t ih =>
    simp only [terase]
    split
    · rename_i hk; subst hk; simpa [tget, h] using ih
    · simp only [tget]; split
      · rfl
      · exact ih

variable [DecidableEq α]

/-- A table in canonical form has rising keys. -/
theorem tsorted_of_twf (d : Nat → α) (t : Tbl α) (h : twf d t = true) : tsorted t = true := by
  simp only [twf, Bool.and_eq_true] at h; exact h.1

/-- Putting a value that differs from what an unlisted key reads as keeps the canonical form. -/
theorem twf_tput (d : Nat → α) (t : Tbl α) (k : Nat) (v : α) (hv : v ≠ d k) (h : twf d t = true) : twf d (tput t k v) = true := by
  simp only [twf, Bool.and_eq_true] at h ⊢
  refine ⟨tsorted_tput t k v h.1, ?_⟩
  have := h.2; clear h
  induction t with
  | nil => simp [tput, hv]
  | cons e t ih =>
    simp only [List.all_cons, Bool.and_eq_true] at this
    simp only [tput]
    split
    · simp only [List.all_cons, this.2, Bool.and_true, decide_eq_true_eq]; exact hv
    · split
      · simp only [List.all_cons, this.1, this.2, Bool.and_true, decide_eq_true_eq]; exact hv
      · simp only [List.all_cons, this.1, ih this.2, Bool.and_true]

/-- Erasing an entry keeps the canonical form. -/
theorem twf_terase (d : Nat → α) (t : Tbl α) (k : Nat) (h : twf d t = true) : twf d (terase t k) = true := by
  simp only [twf, Bool.and_eq_true] at h ⊢
  refine ⟨tsorted_terase t k h.1, ?_⟩
  have := h.2; clear h
  induction t with
  | nil => rfl
  | cons e t ih =>
    simp only [List.all_cons, Bool.and_eq_true] at this
    simp only [terase]
    split
    · exact ih this.2
    · simp only [List.all_cons, this.1, ih this.2, Bool.and_true]

/-- A write keeps the canonical form. -/
theorem twf_tset (d : Nat → α) (t : Tbl α) (k : Nat) (v : α) (h : twf d t = true) : twf d (tset d t k v) = true := by
  unfold tset
  split
  · exact twf_terase d t k h
  · rename_i hv; exact twf_tput d t k v hv h

/-- A read after a write to the same key gives the value written. -/
@[simp] theorem tget_tset_same (d : Nat → α) (t : Tbl α) (k : Nat) (v : α) : tget d (tset d t k v) k = v := by
  unfold tset
  split
  · rename_i hv; rw [tget_terase_same d t k, hv]
  · exact tget_tput_same d t k v

/-- A write leaves every other key as it read. -/
theorem tget_tset_other (d : Nat → α) (t : Tbl α) (k j : Nat) (v : α) (h : j ≠ k) : tget d (tset d t k v) j = tget d t j := by
  unfold tset
  split
  · exact tget_terase_other d t k j h
  · exact tget_tput_other d t k j v h

/-- Changing an entry by a function keeps the canonical form. -/
theorem twf_tmod (d : Nat → α) (t : Tbl α) (k : Nat) (f : α → α) (h : twf d t = true) : twf d (tmod d t k f) = true :=
  twf_tset d t k _ h

/-- Writing bytes keeps a byte memory's canonical form. -/
theorem twf_putBytes (m : Tbl Byte) (a : Nat) (bs : List Byte) (h : twf (fun _ => 0) m = true) :
    twf (fun _ => 0) (putBytes m a bs) = true := by
  induction bs generalizing m a with
  | nil => exact h
  | cons b bs ih => exact ih _ _ (twf_tset _ m a b h)

/-- Writing bytes leaves every byte outside them as it read. -/
theorem tget_putBytes_outside (m : Tbl Byte) (a x : Nat) (bs : List Byte) (h : x < a ∨ a + bs.length ≤ x) :
    tget (fun _ => 0) (putBytes m a bs) x = tget (fun _ => 0) m x := by
  induction bs generalizing m a with
  | nil => rfl
  | cons b bs ih =>
    simp only [List.length_cons] at h
    simp only [putBytes]
    rw [ih _ _ (by omega), tget_tset_other _ _ _ _ _ (by omega)]

/-- Bytes written read back. -/
theorem tget_putBytes_inside (m : Tbl Byte) (a n : Nat) (bs : List Byte) (h : n < bs.length) :
    tget (fun _ => 0) (putBytes m a bs) (a + n) = bs[n] := by
  induction bs generalizing m a n with
  | nil => simp at h
  | cons b bs ih =>
    simp only [putBytes]
    cases n with
    | zero =>
      rw [tget_putBytes_outside _ _ _ _ (by omega)]
      simp
    | succ n =>
      have := ih (tset (fun _ => 0) m a b) (a + 1) n (by simpa using h)
      rw [show a + (n + 1) = a + 1 + n by omega, this]
      simp

end Sys2Proof.Machine
end

