-- ==== Sys2Proof/Laws/Ops.lean ====
section
/-! SUPPORT. Laws of the named operations: registers read back, every operation that writes no register leaves all of them, and what
posting a record can change. -/

namespace Sys2Proof.Machine

/-- A register holds at most eight bytes. -/
theorem regSpec_bytes_le (r : Reg) : (regSpec r).bytes ≤ 8 := by cases r <;> decide

/-- A register that was set reads as the value in its width. -/
theorem getR_setR_same (s : State) (r : Reg) (v i j f : Nat) :
    getR (setR s r v i j f) r i j f = v % 2 ^ (8 * (regSpec r).bytes) := by
  have h : 2 ^ (8 * (regSpec r).bytes) ≤ 2 ^ 64 := Nat.pow_le_pow_right (by decide) (by have := regSpec_bytes_le r; omega)
  have hp : 0 < 2 ^ (8 * (regSpec r).bytes) := Nat.two_pow_pos _
  simp only [getR, setR, tget_tput_same, BitVec.toNat_ofNat]
  exact Nat.mod_eq_of_lt (Nat.lt_of_lt_of_le (Nat.mod_lt _ hp) h)

/-- Setting a register leaves every other register. -/
theorem getR_setR_other (s : State) (r q : Reg) (v i j f a b g : Nat) (h : regKey g q a b ≠ regKey f r i j) :
    getR (setR s r v i j f) q a b g = getR s q a b g := by
  simp only [getR, setR, tget_tput_other _ _ _ _ _ h]

/-- Adding to a counter adds modulo its width. -/
theorem getR_addR_same (s : State) (r : Reg) (n i j f : Nat) :
    getR (addR s r n i j f) r i j f = (getR s r i j f + n) % 2 ^ (8 * (regSpec r).bytes) := getR_setR_same ..

/-- Adding to a counter leaves every other register. -/
theorem getR_addR_other (s : State) (r q : Reg) (n i j f a b g : Nat) (h : regKey g q a b ≠ regKey f r i j) :
    getR (addR s r n i j f) q a b g = getR s q a b g := getR_setR_other _ _ _ _ _ _ _ _ _ _ h

/-- Setting a field leaves every other register. -/
theorem getR_setField_other (s : State) (r q : Reg) (lo w v i j f a b g : Nat) (h : regKey g q a b ≠ regKey f r i j) :
    getR (setField s r lo w v i j f) q a b g = getR s q a b g := getR_setR_other _ _ _ _ _ _ _ _ _ _ h

@[simp] theorem getR_stageR (s : State) (r : Reg) (v i j f : Nat) (q : Reg) (x1 x2 x3 : Nat) : getR (stageR s r v i j f) q x1 x2 x3 = getR s q x1 x2 x3 := rfl
@[simp] theorem getR_setLatch (s : State) (who : Requester) (r : Reg) (i j v : Nat) (q : Reg) (x1 x2 x3 : Nat) : getR (setLatch s who r i j v) q x1 x2 x3 = getR s q x1 x2 x3 := rfl
@[simp] theorem getR_drawFree (s : State) (q : Reg) (x1 x2 x3 : Nat) : getR (drawFree s) q x1 x2 x3 = getR s q x1 x2 x3 := rfl
@[simp] theorem getR_notBefore (s : State) (t : Nat) (q : Reg) (x1 x2 x3 : Nat) : getR (notBefore s t) q x1 x2 x3 = getR s q x1 x2 x3 := rfl
@[simp] theorem getR_hostPut (s : State) (a : Nat) (bs : List Byte) (q : Reg) (x1 x2 x3 : Nat) : getR (hostPut s a bs) q x1 x2 x3 = getR s q x1 x2 x3 := rfl
@[simp] theorem getR_setHeld (s : State) (f e : Nat) (l : List EventRec) (q : Reg) (x1 x2 x3 : Nat) : getR (setHeld s f e l) q x1 x2 x3 = getR s q x1 x2 x3 := rfl
@[simp] theorem getR_modCmd (s : State) (id : Nat) (g : Cmd → Cmd) (q : Reg) (x1 x2 x3 : Nat) : getR (modCmd s id g) q x1 x2 x3 = getR s q x1 x2 x3 := rfl
@[simp] theorem getR_finish (s : State) (id st a b c d p : Nat) (q : Reg) (x1 x2 x3 : Nat) : getR (finish s id st a b c d p) q x1 x2 x3 = getR s q x1 x2 x3 := rfl
@[simp] theorem getR_modStair (s : State) (h : Nat) (g : Stair → Stair) (q : Reg) (x1 x2 x3 : Nat) : getR (modStair s h g) q x1 x2 x3 = getR s q x1 x2 x3 := rfl
@[simp] theorem getR_modCtl (s : State) (h : Nat) (g : HallCtl → HallCtl) (q : Reg) (x1 x2 x3 : Nat) : getR (modCtl s h g) q x1 x2 x3 = getR s q x1 x2 x3 := rfl
@[simp] theorem getR_setColl (s : State) (c : Nat) (x : Option Coll) (q : Reg) (x1 x2 x3 : Nat) : getR (setColl s c x) q x1 x2 x3 = getR s q x1 x2 x3 := rfl
@[simp] theorem getR_modJournal (s : State) (w : Nat) (g : Journal → Journal) (q : Reg) (x1 x2 x3 : Nat) : getR (modJournal s w g) q x1 x2 x3 = getR s q x1 x2 x3 := rfl
@[simp] theorem getR_modQuery (s : State) (x : Nat) (g : Query → Query) (q : Reg) (x1 x2 x3 : Nat) : getR (modQuery s x g) q x1 x2 x3 = getR s q x1 x2 x3 := rfl
@[simp] theorem getR_modNewel (s : State) (x t : Nat) (g : NewelQuery → NewelQuery) (q : Reg) (x1 x2 x3 : Nat) : getR (modNewel s x t g) q x1 x2 x3 = getR s q x1 x2 x3 := rfl
@[simp] theorem getR_modPower (s : State) (g : PowerState → PowerState) (q : Reg) (x1 x2 x3 : Nat) : getR (modPower s g) q x1 x2 x3 = getR s q x1 x2 x3 := rfl
@[simp] theorem getR_setMap (s : State) (n : Nat) (m : MapEnt) (q : Reg) (x1 x2 x3 : Nat) : getR (setMap s n m) q x1 x2 x3 = getR s q x1 x2 x3 := rfl
@[simp] theorem getR_modPort (s : State) (p : Nat) (g : Port → Port) (q : Reg) (x1 x2 x3 : Nat) : getR (modPort s p g) q x1 x2 x3 = getR s q x1 x2 x3 := rfl
@[simp] theorem getR_modMzn (s : State) (g : Mezz → Mezz) (q : Reg) (x1 x2 x3 : Nat) : getR (modMzn s g) q x1 x2 x3 = getR s q x1 x2 x3 := rfl
@[simp] theorem getR_modUsher (s : State) (u : Nat) (g : Usher → Usher) (q : Reg) (x1 x2 x3 : Nat) : getR (modUsher s u g) q x1 x2 x3 = getR s q x1 x2 x3 := rfl
@[simp] theorem getR_modEngine (s : State) (e : Nat) (g : Engine → Engine) (q : Reg) (x1 x2 x3 : Nat) : getR (modEngine s e g) q x1 x2 x3 = getR s q x1 x2 x3 := rfl
@[simp] theorem getR_modUnit (s : State) (c i : Nat) (g : UnitQ → UnitQ) (q : Reg) (x1 x2 x3 : Nat) : getR (modUnit s c i g) q x1 x2 x3 = getR s q x1 x2 x3 := rfl
@[simp] theorem getR_modCore (s : State) (c : Nat) (g : LCore → LCore) (q : Reg) (x1 x2 x3 : Nat) : getR (modCore s c g) q x1 x2 x3 = getR s q x1 x2 x3 := rfl
@[simp] theorem getR_modCloister (s : State) (g : Cloister → Cloister) (q : Reg) (x1 x2 x3 : Nat) : getR (modCloister s g) q x1 x2 x3 = getR s q x1 x2 x3 := rfl
@[simp] theorem getR_modPorter (s : State) (g : Porter → Porter) (q : Reg) (x1 x2 x3 : Nat) : getR (modPorter s g) q x1 x2 x3 = getR s q x1 x2 x3 := rfl
@[simp] theorem getR_modOam (s : State) (g : Module → Module) (q : Reg) (x1 x2 x3 : Nat) : getR (modOam s g) q x1 x2 x3 = getR s q x1 x2 x3 := rfl

@[simp] theorem nudge_pending (s : State) (f e : Nat) : (nudge s f e).pending = s.pending := by 
  unfold nudge; split
  · simp only []; split <;> simp
  · rfl
@[simp] theorem nudge_free (s : State) (f e : Nat) : (nudge s f e).free = s.free := by 
  unfold nudge; split
  · simp only []; split <;> simp
  · rfl
@[simp] theorem nudge_variant (s : State) (f e : Nat) : (nudge s f e).variant = s.variant := by 
  unfold nudge; split
  · simp only []; split <;> simp
  · rfl
@[simp] theorem nudge_now (s : State) (f e : Nat) : (nudge s f e).now = s.now := by 
  unfold nudge; split
  · simp only []; split <;> simp
  · rfl
@[simp] theorem nudge_staged (s : State) (f e : Nat) : (nudge s f e).staged = s.staged := by 
  unfold nudge; split
  · simp only []; split <;> simp
  · rfl
@[simp] theorem nudge_latch (s : State) (f e : Nat) : (nudge s f e).latch = s.latch := by 
  unfold nudge; split
  · simp only []; split <;> simp
  · rfl
@[simp] theorem nudge_readData (s : State) (f e : Nat) : (nudge s f e).readData = s.readData := by 
  unfold nudge; split
  · simp only []; split <;> simp
  · rfl
@[simp] theorem nudge_paceArmed (s : State) (f e : Nat) : (nudge s f e).paceArmed = s.paceArmed := by 
  unfold nudge; split
  · simp only []; split <;> simp
  · rfl
@[simp] theorem nudge_failed (s : State) (f e : Nat) : (nudge s f e).failed = s.failed := by 
  unfold nudge; split
  · simp only []; split <;> simp
  · rfl
@[simp] theorem nudge_fifo (s : State) (f e : Nat) : (nudge s f e).fifo = s.fifo := by 
  unfold nudge; split
  · simp only []; split <;> simp
  · rfl
@[simp] theorem nudge_fifoLost (s : State) (f e : Nat) : (nudge s f e).fifoLost = s.fifoLost := by 
  unfold nudge; split
  · simp only []; split <;> simp
  · rfl
@[simp] theorem nudge_host (s : State) (f e : Nat) : (nudge s f e).host = s.host := by 
  unfold nudge; split
  · simp only []; split <;> simp
  · rfl
@[simp] theorem nudge_store (s : State) (f e : Nat) : (nudge s f e).store = s.store := by 
  unfold nudge; split
  · simp only []; split <;> simp
  · rfl
@[simp] theorem nudge_halls (s : State) (f e : Nat) : (nudge s f e).halls = s.halls := by 
  unfold nudge; split
  · simp only []; split <;> simp
  · rfl
@[simp] theorem nudge_maps (s : State) (f e : Nat) : (nudge s f e).maps = s.maps := by 
  unfold nudge; split
  · simp only []; split <;> simp
  · rfl
@[simp] theorem nudge_ports (s : State) (f e : Nat) : (nudge s f e).ports = s.ports := by 
  unfold nudge; split
  · simp only []; split <;> simp
  · rfl
@[simp] theorem nudge_tim (s : State) (f e : Nat) : (nudge s f e).tim = s.tim := by 
  unfold nudge; split
  · simp only []; split <;> simp
  · rfl
@[simp] theorem nudge_mzn (s : State) (f e : Nat) : (nudge s f e).mzn = s.mzn := by 
  unfold nudge; split
  · simp only []; split <;> simp
  · rfl
@[simp] theorem nudge_ushers (s : State) (f e : Nat) : (nudge s f e).ushers = s.ushers := by 
  unfold nudge; split
  · simp only []; split <;> simp
  · rfl
@[simp] theorem nudge_engines (s : State) (f e : Nat) : (nudge s f e).engines = s.engines := by 
  unfold nudge; split
  · simp only []; split <;> simp
  · rfl
@[simp] theorem nudge_units (s : State) (f e : Nat) : (nudge s f e).units = s.units := by 
  unfold nudge; split
  · simp only []; split <;> simp
  · rfl
@[simp] theorem nudge_nextDesc (s : State) (f e : Nat) : (nudge s f e).nextDesc = s.nextDesc := by 
  unfold nudge; split
  · simp only []; split <;> simp
  · rfl
@[simp] theorem nudge_cores (s : State) (f e : Nat) : (nudge s f e).cores = s.cores := by 
  unfold nudge; split
  · simp only []; split <;> simp
  · rfl
@[simp] theorem nudge_cloister (s : State) (f e : Nat) : (nudge s f e).cloister = s.cloister := by 
  unfold nudge; split
  · simp only []; split <;> simp
  · rfl
@[simp] theorem nudge_porter (s : State) (f e : Nat) : (nudge s f e).porter = s.porter := by 
  unfold nudge; split
  · simp only []; split <;> simp
  · rfl
@[simp] theorem nudge_oam (s : State) (f e : Nat) : (nudge s f e).oam = s.oam := by 
  unfold nudge; split
  · simp only []; split <;> simp
  · rfl
@[simp] theorem nudge_wingRecord (s : State) (f e : Nat) : (nudge s f e).wingRecord = s.wingRecord := by 
  unfold nudge; split
  · simp only []; split <;> simp
  · rfl

@[simp] theorem dropRecord_pending (s : State) (f : Nat) : (dropRecord s f).pending = s.pending := rfl
@[simp] theorem dropRecord_free (s : State) (f : Nat) : (dropRecord s f).free = s.free := rfl
@[simp] theorem dropRecord_variant (s : State) (f : Nat) : (dropRecord s f).variant = s.variant := rfl
@[simp] theorem dropRecord_now (s : State) (f : Nat) : (dropRecord s f).now = s.now := rfl
@[simp] theorem dropRecord_staged (s : State) (f : Nat) : (dropRecord s f).staged = s.staged := rfl
@[simp] theorem dropRecord_latch (s : State) (f : Nat) : (dropRecord s f).latch = s.latch := rfl
@[simp] theorem dropRecord_readData (s : State) (f : Nat) : (dropRecord s f).readData = s.readData := rfl
@[simp] theorem dropRecord_paceArmed (s : State) (f : Nat) : (dropRecord s f).paceArmed = s.paceArmed := rfl
@[simp] theorem dropRecord_failed (s : State) (f : Nat) : (dropRecord s f).failed = s.failed := rfl
@[simp] theorem dropRecord_fifo (s : State) (f : Nat) : (dropRecord s f).fifo = s.fifo := rfl
@[simp] theorem dropRecord_fifoLost (s : State) (f : Nat) : (dropRecord s f).fifoLost = s.fifoLost := rfl
@[simp] theorem dropRecord_host (s : State) (f : Nat) : (dropRecord s f).host = s.host := rfl
@[simp] theorem dropRecord_vst (s : State) (f : Nat) : (dropRecord s f).vst = s.vst := rfl
@[simp] theorem dropRecord_store (s : State) (f : Nat) : (dropRecord s f).store = s.store := rfl
@[simp] theorem dropRecord_halls (s : State) (f : Nat) : (dropRecord s f).halls = s.halls := rfl
@[simp] theorem dropRecord_maps (s : State) (f : Nat) : (dropRecord s f).maps = s.maps := rfl
@[simp] theorem dropRecord_ports (s : State) (f : Nat) : (dropRecord s f).ports = s.ports := rfl
@[simp] theorem dropRecord_tim (s : State) (f : Nat) : (dropRecord s f).tim = s.tim := rfl
@[simp] theorem dropRecord_mzn (s : State) (f : Nat) : (dropRecord s f).mzn = s.mzn := rfl
@[simp] theorem dropRecord_ushers (s : State) (f : Nat) : (dropRecord s f).ushers = s.ushers := rfl
@[simp] theorem dropRecord_engines (s : State) (f : Nat) : (dropRecord s f).engines = s.engines := rfl
@[simp] theorem dropRecord_units (s : State) (f : Nat) : (dropRecord s f).units = s.units := rfl
@[simp] theorem dropRecord_nextDesc (s : State) (f : Nat) : (dropRecord s f).nextDesc = s.nextDesc := rfl
@[simp] theorem dropRecord_cores (s : State) (f : Nat) : (dropRecord s f).cores = s.cores := rfl
@[simp] theorem dropRecord_cloister (s : State) (f : Nat) : (dropRecord s f).cloister = s.cloister := rfl
@[simp] theorem dropRecord_porter (s : State) (f : Nat) : (dropRecord s f).porter = s.porter := rfl
@[simp] theorem dropRecord_oam (s : State) (f : Nat) : (dropRecord s f).oam = s.oam := rfl
@[simp] theorem dropRecord_wingRecord (s : State) (f : Nat) : (dropRecord s f).wingRecord = s.wingRecord := rfl

@[simp] theorem writeRecord_pending (s : State) (f e : Nat) (r : EventRec) : (writeRecord s f e r).pending = s.pending := by
  unfold writeRecord; simp only []; split
  · rw [nudge_pending]; split <;> simp
  · simp
@[simp] theorem writeRecord_free (s : State) (f e : Nat) (r : EventRec) : (writeRecord s f e r).free = s.free := by
  unfold writeRecord; simp only []; split
  · rw [nudge_free]; split <;> simp
  · simp
@[simp] theorem writeRecord_variant (s : State) (f e : Nat) (r : EventRec) : (writeRecord s f e r).variant = s.variant := by
  unfold writeRecord; simp only []; split
  · rw [nudge_variant]; split <;> simp
  · simp
@[simp] theorem writeRecord_now (s : State) (f e : Nat) (r : EventRec) : (writeRecord s f e r).now = s.now := by
  unfold writeRecord; simp only []; split
  · rw [nudge_now]; split <;> simp
  · simp
@[simp] theorem writeRecord_staged (s : State) (f e : Nat) (r : EventRec) : (writeRecord s f e r).staged = s.staged := by
  unfold writeRecord; simp only []; split
  · rw [nudge_staged]; split <;> simp
  · simp
@[simp] theorem writeRecord_latch (s : State) (f e : Nat) (r : EventRec) : (writeRecord s f e r).latch = s.latch := by
  unfold writeRecord; simp only []; split
  · rw [nudge_latch]; split <;> simp
  · simp
@[simp] theorem writeRecord_readData (s : State) (f e : Nat) (r : EventRec) : (writeRecord s f e r).readData = s.readData := by
  unfold writeRecord; simp only []; split
  · rw [nudge_readData]; split <;> simp
  · simp
@[simp] theorem writeRecord_paceArmed (s : State) (f e : Nat) (r : EventRec) : (writeRecord s f e r).paceArmed = s.paceArmed := by
  unfold writeRecord; simp only []; split
  · rw [nudge_paceArmed]; split <;> simp
  · simp
@[simp] theorem writeRecord_failed (s : State) (f e : Nat) (r : EventRec) : (writeRecord s f e r).failed = s.failed := by
  unfold writeRecord; simp only []; split
  · rw [nudge_failed]; split <;> simp
  · simp
@[simp] theorem writeRecord_fifo (s : State) (f e : Nat) (r : EventRec) : (writeRecord s f e r).fifo = s.fifo := by
  unfold writeRecord; simp only []; split
  · rw [nudge_fifo]; split <;> simp
  · simp
@[simp] theorem writeRecord_fifoLost (s : State) (f e : Nat) (r : EventRec) : (writeRecord s f e r).fifoLost = s.fifoLost := by
  unfold writeRecord; simp only []; split
  · rw [nudge_fifoLost]; split <;> simp
  · simp
@[simp] theorem writeRecord_store (s : State) (f e : Nat) (r : EventRec) : (writeRecord s f e r).store = s.store := by
  unfold writeRecord; simp only []; split
  · rw [nudge_store]; split <;> simp
  · simp
@[simp] theorem writeRecord_halls (s : State) (f e : Nat) (r : EventRec) : (writeRecord s f e r).halls = s.halls := by
  unfold writeRecord; simp only []; split
  · rw [nudge_halls]; split <;> simp
  · simp
@[simp] theorem writeRecord_maps (s : State) (f e : Nat) (r : EventRec) : (writeRecord s f e r).maps = s.maps := by
  unfold writeRecord; simp only []; split
  · rw [nudge_maps]; split <;> simp
  · simp
@[simp] theorem writeRecord_ports (s : State) (f e : Nat) (r : EventRec) : (writeRecord s f e r).ports = s.ports := by
  unfold writeRecord; simp only []; split
  · rw [nudge_ports]; split <;> simp
  · simp
@[simp] theorem writeRecord_tim (s : State) (f e : Nat) (r : EventRec) : (writeRecord s f e r).tim = s.tim := by
  unfold writeRecord; simp only []; split
  · rw [nudge_tim]; split <;> simp
  · simp
@[simp] theorem writeRecord_mzn (s : State) (f e : Nat) (r : EventRec) : (writeRecord s f e r).mzn = s.mzn := by
  unfold writeRecord; simp only []; split
  · rw [nudge_mzn]; split <;> simp
  · simp
@[simp] theorem writeRecord_ushers (s : State) (f e : Nat) (r : EventRec) : (writeRecord s f e r).ushers = s.ushers := by
  unfold writeRecord; simp only []; split
  · rw [nudge_ushers]; split <;> simp
  · simp
@[simp] theorem writeRecord_engines (s : State) (f e : Nat) (r : EventRec) : (writeRecord s f e r).engines = s.engines := by
  unfold writeRecord; simp only []; split
  · rw [nudge_engines]; split <;> simp
  · simp
@[simp] theorem writeRecord_units (s : State) (f e : Nat) (r : EventRec) : (writeRecord s f e r).units = s.units := by
  unfold writeRecord; simp only []; split
  · rw [nudge_units]; split <;> simp
  · simp
@[simp] theorem writeRecord_nextDesc (s : State) (f e : Nat) (r : EventRec) : (writeRecord s f e r).nextDesc = s.nextDesc := by
  unfold writeRecord; simp only []; split
  · rw [nudge_nextDesc]; split <;> simp
  · simp
@[simp] theorem writeRecord_cores (s : State) (f e : Nat) (r : EventRec) : (writeRecord s f e r).cores = s.cores := by
  unfold writeRecord; simp only []; split
  · rw [nudge_cores]; split <;> simp
  · simp
@[simp] theorem writeRecord_cloister (s : State) (f e : Nat) (r : EventRec) : (writeRecord s f e r).cloister = s.cloister := by
  unfold writeRecord; simp only []; split
  · rw [nudge_cloister]; split <;> simp
  · simp
@[simp] theorem writeRecord_porter (s : State) (f e : Nat) (r : EventRec) : (writeRecord s f e r).porter = s.porter := by
  unfold writeRecord; simp only []; split
  · rw [nudge_porter]; split <;> simp
  · simp
@[simp] theorem writeRecord_oam (s : State) (f e : Nat) (r : EventRec) : (writeRecord s f e r).oam = s.oam := by
  unfold writeRecord; simp only []; split
  · rw [nudge_oam]; split <;> simp
  · simp
@[simp] theorem writeRecord_wingRecord (s : State) (f e : Nat) (r : EventRec) : (writeRecord s f e r).wingRecord = s.wingRecord := by
  unfold writeRecord; simp only []; split
  · rw [nudge_wingRecord]; split <;> simp
  · simp

@[simp] theorem postRecord_pending (s : State) (f e : Nat) (r : EventRec) : (postRecord s f e r).pending = s.pending := by
  unfold postRecord; split
  · simp
  · split
    · split <;> simp
    · simp
@[simp] theorem postRecord_free (s : State) (f e : Nat) (r : EventRec) : (postRecord s f e r).free = s.free := by
  unfold postRecord; split
  · simp
  · split
    · split <;> simp
    · simp
@[simp] theorem postRecord_variant (s : State) (f e : Nat) (r : EventRec) : (postRecord s f e r).variant = s.variant := by
  unfold postRecord; split
  · simp
  · split
    · split <;> simp
    · simp
@[simp] theorem postRecord_now (s : State) (f e : Nat) (r : EventRec) : (postRecord s f e r).now = s.now := by
  unfold postRecord; split
  · simp
  · split
    · split <;> simp
    · simp
@[simp] theorem postRecord_staged (s : State) (f e : Nat) (r : EventRec) : (postRecord s f e r).staged = s.staged := by
  unfold postRecord; split
  · simp
  · split
    · split <;> simp
    · simp
@[simp] theorem postRecord_latch (s : State) (f e : Nat) (r : EventRec) : (postRecord s f e r).latch = s.latch := by
  unfold postRecord; split
  · simp
  · split
    · split <;> simp
    · simp
@[simp] theorem postRecord_readData (s : State) (f e : Nat) (r : EventRec) : (postRecord s f e r).readData = s.readData := by
  unfold postRecord; split
  · simp
  · split
    · split <;> simp
    · simp
@[simp] theorem postRecord_paceArmed (s : State) (f e : Nat) (r : EventRec) : (postRecord s f e r).paceArmed = s.paceArmed := by
  unfold postRecord; split
  · simp
  · split
    · split <;> simp
    · simp
@[simp] theorem postRecord_failed (s : State) (f e : Nat) (r : EventRec) : (postRecord s f e r).failed = s.failed := by
  unfold postRecord; split
  · simp
  · split
    · split <;> simp
    · simp
@[simp] theorem postRecord_fifo (s : State) (f e : Nat) (r : EventRec) : (postRecord s f e r).fifo = s.fifo := by
  unfold postRecord; split
  · simp
  · split
    · split <;> simp
    · simp
@[simp] theorem postRecord_fifoLost (s : State) (f e : Nat) (r : EventRec) : (postRecord s f e r).fifoLost = s.fifoLost := by
  unfold postRecord; split
  · simp
  · split
    · split <;> simp
    · simp
@[simp] theorem postRecord_store (s : State) (f e : Nat) (r : EventRec) : (postRecord s f e r).store = s.store := by
  unfold postRecord; split
  · simp
  · split
    · split <;> simp
    · simp
@[simp] theorem postRecord_halls (s : State) (f e : Nat) (r : EventRec) : (postRecord s f e r).halls = s.halls := by
  unfold postRecord; split
  · simp
  · split
    · split <;> simp
    · simp
@[simp] theorem postRecord_maps (s : State) (f e : Nat) (r : EventRec) : (postRecord s f e r).maps = s.maps := by
  unfold postRecord; split
  · simp
  · split
    · split <;> simp
    · simp
@[simp] theorem postRecord_ports (s : State) (f e : Nat) (r : EventRec) : (postRecord s f e r).ports = s.ports := by
  unfold postRecord; split
  · simp
  · split
    · split <;> simp
    · simp
@[simp] theorem postRecord_tim (s : State) (f e : Nat) (r : EventRec) : (postRecord s f e r).tim = s.tim := by
  unfold postRecord; split
  · simp
  · split
    · split <;> simp
    · simp
@[simp] theorem postRecord_mzn (s : State) (f e : Nat) (r : EventRec) : (postRecord s f e r).mzn = s.mzn := by
  unfold postRecord; split
  · simp
  · split
    · split <;> simp
    · simp
@[simp] theorem postRecord_ushers (s : State) (f e : Nat) (r : EventRec) : (postRecord s f e r).ushers = s.ushers := by
  unfold postRecord; split
  · simp
  · split
    · split <;> simp
    · simp
@[simp] theorem postRecord_engines (s : State) (f e : Nat) (r : EventRec) : (postRecord s f e r).engines = s.engines := by
  unfold postRecord; split
  · simp
  · split
    · split <;> simp
    · simp
@[simp] theorem postRecord_units (s : State) (f e : Nat) (r : EventRec) : (postRecord s f e r).units = s.units := by
  unfold postRecord; split
  · simp
  · split
    · split <;> simp
    · simp
@[simp] theorem postRecord_nextDesc (s : State) (f e : Nat) (r : EventRec) : (postRecord s f e r).nextDesc = s.nextDesc := by
  unfold postRecord; split
  · simp
  · split
    · split <;> simp
    · simp
@[simp] theorem postRecord_cores (s : State) (f e : Nat) (r : EventRec) : (postRecord s f e r).cores = s.cores := by
  unfold postRecord; split
  · simp
  · split
    · split <;> simp
    · simp
@[simp] theorem postRecord_cloister (s : State) (f e : Nat) (r : EventRec) : (postRecord s f e r).cloister = s.cloister := by
  unfold postRecord; split
  · simp
  · split
    · split <;> simp
    · simp
@[simp] theorem postRecord_porter (s : State) (f e : Nat) (r : EventRec) : (postRecord s f e r).porter = s.porter := by
  unfold postRecord; split
  · simp
  · split
    · split <;> simp
    · simp
@[simp] theorem postRecord_oam (s : State) (f e : Nat) (r : EventRec) : (postRecord s f e r).oam = s.oam := by
  unfold postRecord; split
  · simp
  · split
    · split <;> simp
    · simp
@[simp] theorem postRecord_wingRecord (s : State) (f e : Nat) (r : EventRec) : (postRecord s f e r).wingRecord = s.wingRecord := by
  unfold postRecord; split
  · simp
  · split
    · split <;> simp
    · simp

@[simp] theorem postEvent_pending (s : State) (f ty st a b c d : Nat) : (postEvent s f ty st a b c d).pending = s.pending := postRecord_pending ..
@[simp] theorem postEvent_free (s : State) (f ty st a b c d : Nat) : (postEvent s f ty st a b c d).free = s.free := postRecord_free ..
@[simp] theorem postEvent_variant (s : State) (f ty st a b c d : Nat) : (postEvent s f ty st a b c d).variant = s.variant := postRecord_variant ..
@[simp] theorem postEvent_now (s : State) (f ty st a b c d : Nat) : (postEvent s f ty st a b c d).now = s.now := postRecord_now ..
@[simp] theorem postEvent_staged (s : State) (f ty st a b c d : Nat) : (postEvent s f ty st a b c d).staged = s.staged := postRecord_staged ..
@[simp] theorem postEvent_latch (s : State) (f ty st a b c d : Nat) : (postEvent s f ty st a b c d).latch = s.latch := postRecord_latch ..
@[simp] theorem postEvent_readData (s : State) (f ty st a b c d : Nat) : (postEvent s f ty st a b c d).readData = s.readData := postRecord_readData ..
@[simp] theorem postEvent_paceArmed (s : State) (f ty st a b c d : Nat) : (postEvent s f ty st a b c d).paceArmed = s.paceArmed := postRecord_paceArmed ..
@[simp] theorem postEvent_failed (s : State) (f ty st a b c d : Nat) : (postEvent s f ty st a b c d).failed = s.failed := postRecord_failed ..
@[simp] theorem postEvent_fifo (s : State) (f ty st a b c d : Nat) : (postEvent s f ty st a b c d).fifo = s.fifo := postRecord_fifo ..
@[simp] theorem postEvent_fifoLost (s : State) (f ty st a b c d : Nat) : (postEvent s f ty st a b c d).fifoLost = s.fifoLost := postRecord_fifoLost ..
@[simp] theorem postEvent_store (s : State) (f ty st a b c d : Nat) : (postEvent s f ty st a b c d).store = s.store := postRecord_store ..
@[simp] theorem postEvent_halls (s : State) (f ty st a b c d : Nat) : (postEvent s f ty st a b c d).halls = s.halls := postRecord_halls ..
@[simp] theorem postEvent_maps (s : State) (f ty st a b c d : Nat) : (postEvent s f ty st a b c d).maps = s.maps := postRecord_maps ..
@[simp] theorem postEvent_ports (s : State) (f ty st a b c d : Nat) : (postEvent s f ty st a b c d).ports = s.ports := postRecord_ports ..
@[simp] theorem postEvent_tim (s : State) (f ty st a b c d : Nat) : (postEvent s f ty st a b c d).tim = s.tim := postRecord_tim ..
@[simp] theorem postEvent_mzn (s : State) (f ty st a b c d : Nat) : (postEvent s f ty st a b c d).mzn = s.mzn := postRecord_mzn ..
@[simp] theorem postEvent_ushers (s : State) (f ty st a b c d : Nat) : (postEvent s f ty st a b c d).ushers = s.ushers := postRecord_ushers ..
@[simp] theorem postEvent_engines (s : State) (f ty st a b c d : Nat) : (postEvent s f ty st a b c d).engines = s.engines := postRecord_engines ..
@[simp] theorem postEvent_units (s : State) (f ty st a b c d : Nat) : (postEvent s f ty st a b c d).units = s.units := postRecord_units ..
@[simp] theorem postEvent_nextDesc (s : State) (f ty st a b c d : Nat) : (postEvent s f ty st a b c d).nextDesc = s.nextDesc := postRecord_nextDesc ..
@[simp] theorem postEvent_cores (s : State) (f ty st a b c d : Nat) : (postEvent s f ty st a b c d).cores = s.cores := postRecord_cores ..
@[simp] theorem postEvent_cloister (s : State) (f ty st a b c d : Nat) : (postEvent s f ty st a b c d).cloister = s.cloister := postRecord_cloister ..
@[simp] theorem postEvent_porter (s : State) (f ty st a b c d : Nat) : (postEvent s f ty st a b c d).porter = s.porter := postRecord_porter ..
@[simp] theorem postEvent_oam (s : State) (f ty st a b c d : Nat) : (postEvent s f ty st a b c d).oam = s.oam := postRecord_oam ..
@[simp] theorem postEvent_wingRecord (s : State) (f ty st a b c d : Nat) : (postEvent s f ty st a b c d).wingRecord = s.wingRecord := postRecord_wingRecord ..

@[simp] theorem setSticky_pending (s : State) (ev en : Reg) (m i : Nat) : (setSticky s ev en m i).pending = s.pending := by unfold setSticky; simp only []; split <;> simp
@[simp] theorem setSticky_free (s : State) (ev en : Reg) (m i : Nat) : (setSticky s ev en m i).free = s.free := by unfold setSticky; simp only []; split <;> simp
@[simp] theorem setSticky_variant (s : State) (ev en : Reg) (m i : Nat) : (setSticky s ev en m i).variant = s.variant := by unfold setSticky; simp only []; split <;> simp
@[simp] theorem setSticky_now (s : State) (ev en : Reg) (m i : Nat) : (setSticky s ev en m i).now = s.now := by unfold setSticky; simp only []; split <;> simp
@[simp] theorem setSticky_staged (s : State) (ev en : Reg) (m i : Nat) : (setSticky s ev en m i).staged = s.staged := by unfold setSticky; simp only []; split <;> simp
@[simp] theorem setSticky_latch (s : State) (ev en : Reg) (m i : Nat) : (setSticky s ev en m i).latch = s.latch := by unfold setSticky; simp only []; split <;> simp
@[simp] theorem setSticky_readData (s : State) (ev en : Reg) (m i : Nat) : (setSticky s ev en m i).readData = s.readData := by unfold setSticky; simp only []; split <;> simp
@[simp] theorem setSticky_paceArmed (s : State) (ev en : Reg) (m i : Nat) : (setSticky s ev en m i).paceArmed = s.paceArmed := by unfold setSticky; simp only []; split <;> simp
@[simp] theorem setSticky_failed (s : State) (ev en : Reg) (m i : Nat) : (setSticky s ev en m i).failed = s.failed := by unfold setSticky; simp only []; split <;> simp
@[simp] theorem setSticky_fifo (s : State) (ev en : Reg) (m i : Nat) : (setSticky s ev en m i).fifo = s.fifo := by unfold setSticky; simp only []; split <;> simp
@[simp] theorem setSticky_fifoLost (s : State) (ev en : Reg) (m i : Nat) : (setSticky s ev en m i).fifoLost = s.fifoLost := by unfold setSticky; simp only []; split <;> simp
@[simp] theorem setSticky_store (s : State) (ev en : Reg) (m i : Nat) : (setSticky s ev en m i).store = s.store := by unfold setSticky; simp only []; split <;> simp
@[simp] theorem setSticky_halls (s : State) (ev en : Reg) (m i : Nat) : (setSticky s ev en m i).halls = s.halls := by unfold setSticky; simp only []; split <;> simp
@[simp] theorem setSticky_maps (s : State) (ev en : Reg) (m i : Nat) : (setSticky s ev en m i).maps = s.maps := by unfold setSticky; simp only []; split <;> simp
@[simp] theorem setSticky_ports (s : State) (ev en : Reg) (m i : Nat) : (setSticky s ev en m i).ports = s.ports := by unfold setSticky; simp only []; split <;> simp
@[simp] theorem setSticky_tim (s : State) (ev en : Reg) (m i : Nat) : (setSticky s ev en m i).tim = s.tim := by unfold setSticky; simp only []; split <;> simp
@[simp] theorem setSticky_mzn (s : State) (ev en : Reg) (m i : Nat) : (setSticky s ev en m i).mzn = s.mzn := by unfold setSticky; simp only []; split <;> simp
@[simp] theorem setSticky_ushers (s : State) (ev en : Reg) (m i : Nat) : (setSticky s ev en m i).ushers = s.ushers := by unfold setSticky; simp only []; split <;> simp
@[simp] theorem setSticky_engines (s : State) (ev en : Reg) (m i : Nat) : (setSticky s ev en m i).engines = s.engines := by unfold setSticky; simp only []; split <;> simp
@[simp] theorem setSticky_units (s : State) (ev en : Reg) (m i : Nat) : (setSticky s ev en m i).units = s.units := by unfold setSticky; simp only []; split <;> simp
@[simp] theorem setSticky_nextDesc (s : State) (ev en : Reg) (m i : Nat) : (setSticky s ev en m i).nextDesc = s.nextDesc := by unfold setSticky; simp only []; split <;> simp
@[simp] theorem setSticky_cores (s : State) (ev en : Reg) (m i : Nat) : (setSticky s ev en m i).cores = s.cores := by unfold setSticky; simp only []; split <;> simp
@[simp] theorem setSticky_cloister (s : State) (ev en : Reg) (m i : Nat) : (setSticky s ev en m i).cloister = s.cloister := by unfold setSticky; simp only []; split <;> simp
@[simp] theorem setSticky_porter (s : State) (ev en : Reg) (m i : Nat) : (setSticky s ev en m i).porter = s.porter := by unfold setSticky; simp only []; split <;> simp
@[simp] theorem setSticky_oam (s : State) (ev en : Reg) (m i : Nat) : (setSticky s ev en m i).oam = s.oam := by unfold setSticky; simp only []; split <;> simp
@[simp] theorem setSticky_wingRecord (s : State) (ev en : Reg) (m i : Nat) : (setSticky s ev en m i).wingRecord = s.wingRecord := by unfold setSticky; simp only []; split <;> simp

@[simp] theorem discardWrite_pending (s : State) (who : Requester) (off v st : Nat) : (discardWrite s who off v st).pending = s.pending := postEvent_pending ..
@[simp] theorem discardWrite_free (s : State) (who : Requester) (off v st : Nat) : (discardWrite s who off v st).free = s.free := postEvent_free ..
@[simp] theorem discardWrite_variant (s : State) (who : Requester) (off v st : Nat) : (discardWrite s who off v st).variant = s.variant := postEvent_variant ..
@[simp] theorem discardWrite_now (s : State) (who : Requester) (off v st : Nat) : (discardWrite s who off v st).now = s.now := postEvent_now ..
@[simp] theorem discardWrite_staged (s : State) (who : Requester) (off v st : Nat) : (discardWrite s who off v st).staged = s.staged := postEvent_staged ..
@[simp] theorem discardWrite_latch (s : State) (who : Requester) (off v st : Nat) : (discardWrite s who off v st).latch = s.latch := postEvent_latch ..
@[simp] theorem discardWrite_readData (s : State) (who : Requester) (off v st : Nat) : (discardWrite s who off v st).readData = s.readData := postEvent_readData ..
@[simp] theorem discardWrite_paceArmed (s : State) (who : Requester) (off v st : Nat) : (discardWrite s who off v st).paceArmed = s.paceArmed := postEvent_paceArmed ..
@[simp] theorem discardWrite_failed (s : State) (who : Requester) (off v st : Nat) : (discardWrite s who off v st).failed = s.failed := postEvent_failed ..
@[simp] theorem discardWrite_fifo (s : State) (who : Requester) (off v st : Nat) : (discardWrite s who off v st).fifo = s.fifo := postEvent_fifo ..
@[simp] theorem discardWrite_fifoLost (s : State) (who : Requester) (off v st : Nat) : (discardWrite s who off v st).fifoLost = s.fifoLost := postEvent_fifoLost ..
@[simp] theorem discardWrite_store (s : State) (who : Requester) (off v st : Nat) : (discardWrite s who off v st).store = s.store := postEvent_store ..
@[simp] theorem discardWrite_halls (s : State) (who : Requester) (off v st : Nat) : (discardWrite s who off v st).halls = s.halls := postEvent_halls ..
@[simp] theorem discardWrite_maps (s : State) (who : Requester) (off v st : Nat) : (discardWrite s who off v st).maps = s.maps := postEvent_maps ..
@[simp] theorem discardWrite_ports (s : State) (who : Requester) (off v st : Nat) : (discardWrite s who off v st).ports = s.ports := postEvent_ports ..
@[simp] theorem discardWrite_tim (s : State) (who : Requester) (off v st : Nat) : (discardWrite s who off v st).tim = s.tim := postEvent_tim ..
@[simp] theorem discardWrite_mzn (s : State) (who : Requester) (off v st : Nat) : (discardWrite s who off v st).mzn = s.mzn := postEvent_mzn ..
@[simp] theorem discardWrite_ushers (s : State) (who : Requester) (off v st : Nat) : (discardWrite s who off v st).ushers = s.ushers := postEvent_ushers ..
@[simp] theorem discardWrite_engines (s : State) (who : Requester) (off v st : Nat) : (discardWrite s who off v st).engines = s.engines := postEvent_engines ..
@[simp] theorem discardWrite_units (s : State) (who : Requester) (off v st : Nat) : (discardWrite s who off v st).units = s.units := postEvent_units ..
@[simp] theorem discardWrite_nextDesc (s : State) (who : Requester) (off v st : Nat) : (discardWrite s who off v st).nextDesc = s.nextDesc := postEvent_nextDesc ..
@[simp] theorem discardWrite_cores (s : State) (who : Requester) (off v st : Nat) : (discardWrite s who off v st).cores = s.cores := postEvent_cores ..
@[simp] theorem discardWrite_cloister (s : State) (who : Requester) (off v st : Nat) : (discardWrite s who off v st).cloister = s.cloister := postEvent_cloister ..
@[simp] theorem discardWrite_porter (s : State) (who : Requester) (off v st : Nat) : (discardWrite s who off v st).porter = s.porter := postEvent_porter ..
@[simp] theorem discardWrite_oam (s : State) (who : Requester) (off v st : Nat) : (discardWrite s who off v st).oam = s.oam := postEvent_oam ..
@[simp] theorem discardWrite_wingRecord (s : State) (who : Requester) (off v st : Nat) : (discardWrite s who off v st).wingRecord = s.wingRecord := postEvent_wingRecord ..

/-- Every byte memory of the block, the host's included, is in canonical form. -/
theorem memoryWf_iff (s : State) :
    memoryWf s = true ↔ twf (fun _ => 0) s.host.mem = true ∧ ∀ e ∈ s.halls, twf (fun _ => 0) e.2.ctl.mem = true := by
  simp [memoryWf, Memory.wf]

/-- An operation that changes neither host memory nor the halls keeps the memories' form. -/
theorem memoryWf_congr (s t : State) (h1 : t.host = s.host) (h2 : t.halls = s.halls) : memoryWf t = memoryWf s := by
  simp [memoryWf, h1, h2]

@[simp] theorem memoryWf_setR (s : State) (r : Reg) (v i j f : Nat) : memoryWf (setR s r v i j f) = memoryWf s := memoryWf_congr _ _ rfl rfl
@[simp] theorem memoryWf_addR (s : State) (r : Reg) (n i j f : Nat) : memoryWf (addR s r n i j f) = memoryWf s := memoryWf_congr _ _ rfl rfl
@[simp] theorem memoryWf_addSat (s : State) (r : Reg) (n i j f : Nat) : memoryWf (addSat s r n i j f) = memoryWf s := memoryWf_congr _ _ rfl rfl
@[simp] theorem memoryWf_setField (s : State) (r : Reg) (lo w v i j f : Nat) : memoryWf (setField s r lo w v i j f) = memoryWf s := memoryWf_congr _ _ rfl rfl
@[simp] theorem memoryWf_stageR (s : State) (r : Reg) (v i j f : Nat) : memoryWf (stageR s r v i j f) = memoryWf s := memoryWf_congr _ _ rfl rfl
@[simp] theorem memoryWf_setLatch (s : State) (who : Requester) (r : Reg) (i j v : Nat) : memoryWf (setLatch s who r i j v) = memoryWf s := memoryWf_congr _ _ rfl rfl
@[simp] theorem memoryWf_drawFree (s : State) : memoryWf (drawFree s) = memoryWf s := memoryWf_congr _ _ rfl rfl
@[simp] theorem memoryWf_notBefore (s : State) (t : Nat) : memoryWf (notBefore s t) = memoryWf s := memoryWf_congr _ _ rfl rfl
@[simp] theorem memoryWf_setHeld (s : State) (f e : Nat) (l : List EventRec) : memoryWf (setHeld s f e l) = memoryWf s := memoryWf_congr _ _ rfl rfl
@[simp] theorem memoryWf_modCmd (s : State) (id : Nat) (g : Cmd → Cmd) : memoryWf (modCmd s id g) = memoryWf s := memoryWf_congr _ _ rfl rfl
@[simp] theorem memoryWf_finish (s : State) (id st a b c d p : Nat) : memoryWf (finish s id st a b c d p) = memoryWf s := memoryWf_congr _ _ rfl rfl
@[simp] theorem memoryWf_setColl (s : State) (c : Nat) (x : Option Coll) : memoryWf (setColl s c x) = memoryWf s := memoryWf_congr _ _ rfl rfl
@[simp] theorem memoryWf_modJournal (s : State) (w : Nat) (g : Journal → Journal) : memoryWf (modJournal s w g) = memoryWf s := memoryWf_congr _ _ rfl rfl
@[simp] theorem memoryWf_modQuery (s : State) (x : Nat) (g : Query → Query) : memoryWf (modQuery s x g) = memoryWf s := memoryWf_congr _ _ rfl rfl
@[simp] theorem memoryWf_modNewel (s : State) (x t : Nat) (g : NewelQuery → NewelQuery) : memoryWf (modNewel s x t g) = memoryWf s := memoryWf_congr _ _ rfl rfl
@[simp] theorem memoryWf_modPower (s : State) (g : PowerState → PowerState) : memoryWf (modPower s g) = memoryWf s := memoryWf_congr _ _ rfl rfl
@[simp] theorem memoryWf_setMap (s : State) (n : Nat) (m : MapEnt) : memoryWf (setMap s n m) = memoryWf s := memoryWf_congr _ _ rfl rfl
@[simp] theorem memoryWf_modPort (s : State) (p : Nat) (g : Port → Port) : memoryWf (modPort s p g) = memoryWf s := memoryWf_congr _ _ rfl rfl
@[simp] theorem memoryWf_modMzn (s : State) (g : Mezz → Mezz) : memoryWf (modMzn s g) = memoryWf s := memoryWf_congr _ _ rfl rfl
@[simp] theorem memoryWf_modUsher (s : State) (u : Nat) (g : Usher → Usher) : memoryWf (modUsher s u g) = memoryWf s := memoryWf_congr _ _ rfl rfl
@[simp] theorem memoryWf_modEngine (s : State) (e : Nat) (g : Engine → Engine) : memoryWf (modEngine s e g) = memoryWf s := memoryWf_congr _ _ rfl rfl
@[simp] theorem memoryWf_modUnit (s : State) (c i : Nat) (g : UnitQ → UnitQ) : memoryWf (modUnit s c i g) = memoryWf s := memoryWf_congr _ _ rfl rfl
@[simp] theorem memoryWf_modCore (s : State) (c : Nat) (g : LCore → LCore) : memoryWf (modCore s c g) = memoryWf s := memoryWf_congr _ _ rfl rfl
@[simp] theorem memoryWf_modCloister (s : State) (g : Cloister → Cloister) : memoryWf (modCloister s g) = memoryWf s := memoryWf_congr _ _ rfl rfl
@[simp] theorem memoryWf_modPorter (s : State) (g : Porter → Porter) : memoryWf (modPorter s g) = memoryWf s := memoryWf_congr _ _ rfl rfl
@[simp] theorem memoryWf_modOam (s : State) (g : Module → Module) : memoryWf (modOam s g) = memoryWf s := memoryWf_congr _ _ rfl rfl

/-- Writing host memory keeps the memories' form. -/
theorem memoryWf_hostPut (s : State) (a : Nat) (bs : List Byte) (h : memoryWf s = true) : memoryWf (hostPut s a bs) = true := by
  rw [memoryWf_iff] at h ⊢
  exact ⟨twf_putBytes _ _ _ h.1, h.2⟩

/-- Posting a record keeps the memories' form. -/
theorem memoryWf_writeRecord (s : State) (f e : Nat) (r : EventRec) (h : memoryWf s = true) :
    memoryWf (writeRecord s f e r) = true := by
  unfold writeRecord; simp only []; split
  · rw [memoryWf_congr _ _ (nudge_host ..) (nudge_halls ..)]
    split <;> simp only [memoryWf_setField] <;> exact memoryWf_hostPut s _ _ h
  · exact h

/-- Posting a record keeps the memories' form. -/
theorem memoryWf_postRecord (s : State) (f e : Nat) (r : EventRec) (h : memoryWf s = true) :
    memoryWf (postRecord s f e r) = true := by
  unfold postRecord; split
  · exact h
  · split
    · split <;> exact h
    · exact memoryWf_writeRecord s f e r h

/-- Setting sticky bits keeps the memories' form. -/
theorem memoryWf_setSticky (s : State) (ev en : Reg) (m i : Nat) (h : memoryWf s = true) :
    memoryWf (setSticky s ev en m i) = true := by
  unfold setSticky; simp only []; split
  · exact h
  · exact memoryWf_postRecord _ _ _ _ h

/-- Discarding a register write keeps the memories' form. -/
theorem memoryWf_discardWrite (s : State) (who : Requester) (off v st : Nat) (h : memoryWf s = true) :
    memoryWf (discardWrite s who off v st) = true := memoryWf_postRecord _ _ _ _ h

/-- A table written at a key holds the new value and nothing that it did not hold. -/
theorem mem_of_mem_tput {α : Type} (t : Tbl α) (k : Nat) (v : α) (e : Nat × α) (h : e ∈ tput t k v) : e = (k, v) ∨ e ∈ t := by
  induction t with
  | nil => simpa [tput] using h
  | cons x t ih =>
    simp only [tput] at h
    split at h
    · simp at h ⊢; rcases h with h | h <;> simp [h]
    · split at h
      · simp at h ⊢; rcases h with h | h | h <;> simp [h]
      · simp at h ⊢
        rcases h with h | h
        · simp [h]
        · rcases ih h with h | h <;> simp [h]

/-- An entry of a table after an erasure stood in it before. -/
theorem mem_of_mem_terase {α : Type} (t : Tbl α) (k : Nat) (e : Nat × α) (h : e ∈ terase t k) : e ∈ t := by
  induction t with
  | nil => simp [terase] at h
  | cons x t ih =>
    simp only [terase] at h
    split at h
    · simp [ih h]
    · simp at h ⊢
      rcases h with h | h
      · simp [h]
      · simp [ih h]

/-- Replacing a hall by one whose memory is in canonical form keeps the memories' form. -/
theorem memoryWf_setHall (s : State) (h : Nat) (x : Hall) (hx : twf (fun _ => 0) x.ctl.mem = true) (hs : memoryWf s = true) :
    memoryWf (setHall s h x) = true := by
  rw [memoryWf_iff] at hs ⊢
  refine ⟨hs.1, fun e he => ?_⟩
  simp only [setHall, tset] at he
  split at he
  · exact hs.2 e (mem_of_mem_terase _ _ _ he)
  · rcases mem_of_mem_tput _ _ _ _ he with rfl | he
    · exact hx
    · exact hs.2 e he

/-- A hall's memory is in canonical form where all memories are. -/
theorem twf_ctl (s : State) (h : Nat) (hs : memoryWf s = true) : twf (fun _ => 0) (ctl s h).mem = true := by
  rw [memoryWf_iff] at hs
  have key : ∀ t : Tbl Hall, (∀ e ∈ t, twf (fun _ => 0) e.2.ctl.mem = true) →
      twf (fun _ => 0) (tget (fun _ => resetHall) t h).ctl.mem = true := by
    intro t
    induction t with
    | nil => intro _; rfl
    | cons e t ih =>
      intro hall
      simp only [tget]
      split
      · exact hall e (by simp)
      · exact ih fun x hx => hall x (by simp [hx])
  exact key _ hs.2

/-- Changing a hall's Stair keeps the memories' form. -/
theorem memoryWf_modStair (s : State) (h : Nat) (g : Stair → Stair) (hs : memoryWf s = true) : memoryWf (modStair s h g) = true :=
  memoryWf_setHall s h _ (twf_ctl s h hs) hs

/-- Changing a hall's controller without its memory keeps the memories' form. -/
theorem memoryWf_modCtl (s : State) (h : Nat) (g : HallCtl → HallCtl) (hg : (g (ctl s h)).mem = (ctl s h).mem)
    (hs : memoryWf s = true) : memoryWf (modCtl s h g) = true :=
  memoryWf_setHall s h _ (by simpa [hg] using twf_ctl s h hs) hs

/-- Writing hall memory keeps the memories' form. -/
theorem memoryWf_hallPut (s : State) (h o : Nat) (bs : List Byte) (hs : memoryWf s = true) : memoryWf (hallPut s h o bs) = true :=
  memoryWf_setHall s h _ (twf_putBytes _ _ _ (twf_ctl s h hs)) hs

/-- A hall reads back as it was set. -/
@[simp] theorem getHall_setHall (s : State) (h : Nat) (x : Hall) : getHall (setHall s h x) h = x := by simp [getHall, setHall]

/-- Setting a hall leaves every other hall. -/
theorem getHall_setHall_other (s : State) (h k : Nat) (x : Hall) (hk : k ≠ h) : getHall (setHall s h x) k = getHall s k := by
  simp [getHall, setHall, tget_tset_other _ _ _ _ _ hk]

/-- A hall's Stair after a change of it. -/
@[simp] theorem stair_modStair (s : State) (h : Nat) (g : Stair → Stair) : stair (modStair s h g) h = g (stair s h) := by
  simp [stair, modStair]

/-- A hall's Stair does not change with its controller. -/
@[simp] theorem stair_modCtl (s : State) (h : Nat) (g : HallCtl → HallCtl) : stair (modCtl s h g) h = stair s h := by
  simp [stair, modCtl]

/-- A hall's controller after a change of it. -/
@[simp] theorem ctl_modCtl (s : State) (h : Nat) (g : HallCtl → HallCtl) : ctl (modCtl s h g) h = g (ctl s h) := by
  simp [ctl, modCtl]

/-- A hall's controller does not change with its Stair. -/
@[simp] theorem ctl_modStair (s : State) (h : Nat) (g : Stair → Stair) : ctl (modStair s h g) h = ctl s h := by
  simp [ctl, modStair]

/-- Changing a hall's Stair leaves every other hall. -/
theorem getHall_modStair_other (s : State) (h k : Nat) (g : Stair → Stair) (hk : k ≠ h) : getHall (modStair s h g) k = getHall s k :=
  getHall_setHall_other s h k _ hk

/-- Changing a hall's controller leaves every other hall. -/
theorem getHall_modCtl_other (s : State) (h k : Nat) (g : HallCtl → HallCtl) (hk : k ≠ h) : getHall (modCtl s h g) k = getHall s k :=
  getHall_setHall_other s h k _ hk

/-- A journal after a change of it. -/
@[simp] theorem journal_modJournal (s : State) (w : Nat) (g : Journal → Journal) : journal (modJournal s w g) w = g (journal s w) := by
  simp [journal, modJournal]

end Sys2Proof.Machine
end

