-- ==== Sys2Proof/Laws/Commands.lean ====
section
/-! SUPPORT. Laws of the commands in flight: a command that may start takes effect once, and its end is what `finish` says. -/

namespace Sys2Proof.Machine

open Sys2Proof.Safety

/-- A command that may start takes its effect on the state in which it is marked as started. -/
theorem withCmd_ready (s : State) (id op : Nat) (c : Cmd) (k : Cmd → State → State) (h : ready s id op c) :
    withCmd s id op k = k c (started s id) := by
  simp [withCmd, started, h.1, h.2.1, h.2.2]

/-- A command in flight carries its number. -/
theorem findCmd_id (s : State) (id : Nat) (c : Cmd) (h : findCmd s id = some c) : c.id = id := by
  have := List.find?_some h
  simpa using this

/-- Changing a command in flight that keeps its number changes what is found under the number. -/
theorem findCmd_modCmd_same (s : State) (id : Nat) (g : Cmd → Cmd) (hg : ∀ x, (g x).id = x.id) :
    findCmd (modCmd s id g) id = (findCmd s id).map g := by
  simp only [findCmd, modCmd, List.find?_map]
  have hp : ((fun c : Cmd => c.id == id) ∘ fun c => if (c.id == id) = true then g c else c) = fun c => c.id == id := by
    funext x; simp only [Function.comp]; split <;> simp_all
  rw [hp]
  cases hf : List.find? (fun c : Cmd => c.id == id) s.vst.inflight with
  | none => rfl
  | some x => have := List.find?_some hf; simp_all

/-- Changing one command leaves what is found under another number. -/
theorem findCmd_modCmd_other (s : State) (id k : Nat) (g : Cmd → Cmd) (hg : ∀ x, (g x).id = x.id) (hk : k ≠ id) :
    findCmd (modCmd s id g) k = findCmd s k := by
  simp only [findCmd, modCmd, List.find?_map]
  have hp : ((fun c : Cmd => c.id == k) ∘ fun c => if (c.id == id) = true then g c else c) = fun c => c.id == k := by
    funext x; simp only [Function.comp]; split <;> simp_all
  rw [hp]
  cases hf : List.find? (fun c : Cmd => c.id == k) s.vst.inflight with
  | none => rfl
  | some x =>
    have := List.find?_some hf
    have hx : x.id ≠ id := by simp_all
    simp [hx]

/-- A started command has no end yet where it had none. -/
theorem ended_started (s : State) (id : Nat) : ended (started s id) id = ended s id := by
  unfold ended started
  rw [findCmd_modCmd_same]
  · cases findCmd s id <;> rfl
  · intro x; rfl

/-- A command that may start has not ended. -/
theorem ended_of_ready (s : State) (id op : Nat) (c : Cmd) (h : ready s id op c) : ended s id = none := by
  have h1 := h.2.2
  simp only [mayStart, Bool.and_eq_true] at h1
  simp only [ended, h.1, Option.bind_some]
  simpa using h1.1.1.2

/-- The number of a command that may start. -/
theorem id_of_ready (s : State) (id op : Nat) (c : Cmd) (h : ready s id op c) : c.id = id := findCmd_id s id c h.1

/-- Ending a command in flight that has no end gives it that end. -/
theorem ended_finish (s : State) (id st a b c d p : Nat) (hs : (findCmd s id).isSome) (h : ended s id = none) :
    ended (finish s id st a b c d p) id = some ⟨st, a, b, c, d, p⟩ := by
  obtain ⟨x, hx⟩ := Option.isSome_iff_exists.mp hs
  simp only [ended, hx, Option.bind_some] at h
  unfold ended finish
  rw [findCmd_modCmd_same]
  · simp [hx, h]
  · intro x; rfl

/-- What is found in flight depends on the commands in flight alone. -/
theorem ended_congr (s t : State) (id : Nat) (h : t.vst.inflight = s.vst.inflight) : ended t id = ended s id := by
  simp [ended, findCmd, h]

/-- Ending a command right after it was started. -/
theorem ended_finish_started (s t : State) (id op st a b c d p : Nat) (x : Cmd) (h : ready s id op x)
    (ht : t.vst.inflight = (started s id).vst.inflight) :
    ended (finish t id st a b c d p) id = some ⟨st, a, b, c, d, p⟩ := by
  have hf : findCmd t id = findCmd (started s id) id := by simp [findCmd, ht]
  have h1 : (findCmd (started s id) id) = some { x with started := true } := by
    unfold started; rw [findCmd_modCmd_same]
    · simp [h.1]
    · intro y; rfl
  refine ended_finish t id st a b c d p (by simp [hf, h1]) ?_
  rw [ended_congr _ _ _ ht, ended_started]
  exact ended_of_ready s id op x h

/-- Marking a command as started changes nothing but the commands in flight. -/
@[simp] theorem getR_started (s : State) (id : Nat) (r : Reg) (i j f : Nat) : getR (started s id) r i j f = getR s r i j f := rfl

end Sys2Proof.Machine
end

