-- ==== Sys2Proof/Laws/Store.lean ====
section
/-! SUPPORT. Laws of an entry's checks and of the journal's part in a store or metadata command. -/

namespace Sys2Proof.Machine

open Sys2Proof.Safety

/-- The first failure of two lists of checks. -/
theorem firstFail_append (a b : List (Bool × Nat)) : firstFail (a ++ b) = (firstFail a).or (firstFail b) := by
  induction a with
  | nil => rfl
  | cons x t ih =>
    obtain ⟨p, n⟩ := x
    cases p <;> simp [firstFail, ih]

/-- An entry passes where every step of R331 finds nothing. -/
theorem entryFail_none (s : State) (c : Cmd) (by_ : IssuedBy) (k : EntryChecks)
    (h1 : firstFail k.absent = none) (h2 : firstFail k.busy = none) (h3 : (decide (by_ = .pf) && decide (c.fn ≠ 0)) = false)
    (h4 : entryReserved c k.named = false) (h5 : firstFail k.reserved = none) (h6 : firstFail (tenantChecks s c by_) = none)
    (h7 : firstFail k.fields = none) (h8 : firstFail k.align = none) (h9 : firstFail k.window = none)
    (h10 : firstFail k.trans = none) : entryFail s c by_ k = none := by
  simp only [entryFail, firstFail_append, h1, h2, h5, h6, h7, h8, h9, h10, h3, h4, firstFail, Option.none_or, Option.or_none]
  rfl

/-- A command without a failure goes on. -/
@[simp] theorem orElse_none (s : State) (c : Cmd) (go : State) : orElse s c none go = go := rfl

/-- A commit changes the journals alone. -/
theorem commitAtHalf_frame (s : State) (w : Nat) :
    commitAtHalf s w = { s with store := { s.store with journals := (commitAtHalf s w).store.journals } } := by
  unfold commitAtHalf tryCommit
  split
  · split <;> rfl
  · rfl

/-- Staging changes the journals alone. -/
theorem stageCredits_frame (s : State) (w id n : Nat) :
    stageCredits s w id n = { s with store := { s.store with journals := (stageCredits s w id n).store.journals } } := by
  unfold stageCredits
  split <;> rfl

/-- A change whose credits are free is staged and takes effect at once (R389, R390). -/
theorem stageOrWait_go (s : State) (w id bytes : Nat) (f : State → State) (h1 : journalFull s w (creditsFor s bytes) = false)
    (h2 : creditsFree s w id (creditsFor s bytes) = true) :
    stageOrWait s w id bytes f = commitAtHalf (f (stageCredits s w id (creditsFor s bytes))) w := by
  simp [stageOrWait, h1, h2]

/-- An entry whose header is in order passes where its own checks find nothing. -/
theorem entryFail_of_ok (s : State) (c : Cmd) (by_ : IssuedBy) (k : EntryChecks) (h : entryOk s c by_ k.named)
    (h1 : firstFail (k.absent ++ k.busy) = none) (h2 : firstFail (k.reserved) = none)
    (h3 : firstFail (k.fields ++ k.align ++ k.window ++ k.trans) = none) : entryFail s c by_ k = none := by
  have h0 : (decide (by_ = .pf) && decide (c.fn ≠ 0)) = false := by
    by_cases hb : by_ = .pf
    · simp [hb, h.1 hb]
    · simp [hb]
  simp only [firstFail_append, Option.or_eq_none_iff] at h1 h3
  exact entryFail_none s c by_ k h1.1 h1.2 h0 h.2.1 h2 h.2.2 h3.1.1.1 h3.1.1.2 h3.1.2 h3.2

/-- The bytes of a number are as many as asked for. -/
@[simp] theorem length_bytesOf (n x : Nat) : (bytesOf n x).length = n := by
  have : ∀ n x, (leBytes n x).length = n := by
    intro n
    induction n with
    | zero => intro x; rfl
    | succ n ih => intro x; simp [leBytes, ih]
  simp [bytesOf, this]

/-- A read of as many bytes as asked for. -/
theorem length_hostRead (s : State) (a n : Nat) : (hostRead s a n).length = n := by
  induction n generalizing a with
  | zero => rfl
  | succ n ih => simp [hostRead, ih]

/-- A byte of what a read gives. -/
theorem getElem_hostRead (s : State) (a n k : Nat) (h : k < (hostRead s a n).length) : (hostRead s a n)[k] = hostByte s (a + k) := by
  induction n generalizing a k with
  | zero => simp [hostRead] at h
  | succ n ih =>
    cases k with
    | zero => rfl
    | succ k =>
      simp only [hostRead, List.getElem_cons_succ]
      rw [ih]
      rw [show a + 1 + k = a + (k + 1) by omega]

/-- Bytes written to host memory read back. -/
theorem hostRead_hostPut (s : State) (a n : Nat) (bs : List Byte) (hn : bs.length = n) :
    hostRead (hostPut s a bs) a n = bs := by
  refine List.ext_getElem (by rw [length_hostRead, hn]) fun k h1 h2 => ?_
  rw [getElem_hostRead]
  exact tget_putBytes_inside s.host.mem a k bs h2

/-- What a read of host memory gives depends on host memory alone. -/
theorem hostRead_congr (s t : State) (a n : Nat) (h : t.host = s.host) : hostRead t a n = hostRead s a n := by
  induction n generalizing a with
  | zero => rfl
  | succ n ih => simp [hostRead, hostByte, h, ih]

/-- Writing host memory keeps what lies outside. -/
theorem hostKeptOutside_hostPut (s : State) (a : Nat) (bs : List Byte) : hostKeptOutside s (hostPut s a bs) a bs.length :=
  fun x hx => tget_putBytes_outside s.host.mem a x bs hx

/-- The collection set is the one found. -/
theorem collOf_setColl_other (s : State) (c k : Nat) (x : Option Coll) (h : k ≠ c) : collOf (setColl s c x) k = collOf s k := by
  simp [collOf, setColl, tget_tset_other _ _ _ _ _ h]

/-- A collection reads back as it was set. -/
@[simp] theorem collOf_setColl (s : State) (c : Nat) (x : Option Coll) : collOf (setColl s c x) c = x := by
  simp [collOf, setColl]

/-- Changing a collection that exists. -/
theorem collOf_modColl (s : State) (c : Nat) (g : Coll → Coll) : collOf (modColl s c g) c = (collOf s c).map g := by
  unfold modColl
  cases h : collOf s c with
  | none => simp [h]
  | some x => simp [collOf_setColl]

/-- Changing a collection leaves every other one. -/
theorem collOf_modColl_other (s : State) (c k : Nat) (g : Coll → Coll) (h : k ≠ c) : collOf (modColl s c g) k = collOf s k := by
  unfold modColl
  cases hc : collOf s c with
  | none => rfl
  | some x => exact collOf_setColl_other s c k _ h

/-- Changing a collection changes the store's collections alone. -/
theorem modColl_frame (s : State) (c : Nat) (g : Coll → Coll) :
    modColl s c g = { s with store := { s.store with colls := (modColl s c g).store.colls } } := by
  unfold modColl
  cases collOf s c <;> rfl

/-- Collections depend on the store's table of them alone. -/
theorem collOf_congr (s t : State) (c : Nat) (h : t.store.colls = s.store.colls) : collOf t c = collOf s c := by
  simp [collOf, h]

end Sys2Proof.Machine
end

