-- ==== Sys2Proof/WellFormed.lean ====
section
/-! DEFINITION. When a command is well formed: the operands that name a unit, a queue, a window or a function lie in the ranges
that the register map and the device give them (R16, R353, R355, R515). A command that is not well formed names nothing. -/

namespace Sys2Proof

/-- Halls 0 to 15 (R16). -/
def inHalls (h : Nat) : Bool := decide (h < 16)
/-- Engines 0 to 31 (R16). -/
def inEngines (e : Nat) : Bool := decide (e < 32)
/-- Lantern cores 0 to 15 (R16). -/
def inCores (c : Nat) : Bool := decide (c < 16)
/-- Ports 0 to 63 (R16). -/
def inPorts (p : Nat) : Bool := decide (p < 64)
/-- Ushers 0 to 255 (R16). -/
def inUshers (u : Nat) : Bool := decide (u < 256)
/-- Hall groups 0 to 15 (R17). -/
def inGroups (g : Nat) : Bool := decide (g < 16)
/-- Mezzanine slices 0 to 15 (R16). -/
def inSlices (i : Nat) : Bool := decide (i < 16)
/-- The PF, and the VFs of tenants 0 to 127 (R353). -/
def inFunctions (f : Nat) : Bool := decide (f ≤ 128)
/-- Submission queues 0 to 63 of a function (R355). -/
def inQueues (q : Nat) : Bool := decide (q < 64)
/-- Event queues 0 to 15 of a function (R355). -/
def inEventQueues (e : Nat) : Bool := decide (e < 16)
/-- Wings 0 to 15 (R457). -/
def inWings (w : Nat) : Bool := decide (w < 16)
/-- Unit classes 0 to 4 (R324). -/
def inClasses (c : Nat) : Bool := decide (c < 5)
/-- The caching agents: Ushers 0 to 255, and the Porter as 256 (R229). -/
def inAgents (a : Nat) : Bool := decide (a ≤ 256)
/-- Virtual channels 0 to 7 (R411). -/
def inChannels (v : Nat) : Bool := decide (v < 8)
/-- Accesses of 4 and of 8 bytes (R356). -/
def inSizes (n : Nat) : Bool := n == 4 || n == 8
/-- Window entries 0 to 255 (R427). -/
def inWindows (i : Nat) : Bool := decide (i < 256)
/-- Map numbers 0 to 31 (R456). -/
def inMaps (n : Nat) : Bool := decide (n < 32)
/-- Senders of Lantern events: cores 0 to 15, and the Cloister as 16 (R207). -/
def inSenders (c : Nat) : Bool := decide (c ≤ 16)
/-- The counts of 32 pace monitors (R28). -/
def inMonitors (l : List Nat) : Bool := l.length == 32
/-- A requester that exists (R16, R353). -/
def inRequesters : Requester → Bool
  | .fn f => inFunctions f
  | .usher u => inUshers u

/-- A command is well formed: what it names lies in range. -/
def Instr.wf : Instr → Bool
  | .registerWrite who _ size _ _ _ => inRequesters who && inSizes size
  | .rcRead who _ _ => inRequesters who
  | .snapLowRead who _ size => inRequesters who && inSizes size
  | .paceWindow counts => inMonitors counts
  | .nop _ => true
  | .collCreate _ => true
  | .collSet _ => true
  | .collExtend _ => true
  | .collInfo _ => true
  | .collDestroy _ => true
  | .compact _ => true
  | .compactionPass _ _ => true
  | .rebase _ => true
  | .rebaseRewrite _ => true
  | .permitWrite _ => true
  | .insert _ => true
  | .delete _ => true
  | .upsert _ => true
  | .storeWritePoint _ _ _ => true
  | .directoryRebuild _ hall _ _ => inHalls hall
  | .journalCreditsFree w => inWings w
  | .flush _ => true
  | .autoCommit w => inWings w
  | .commitComplete w _ _ => inWings w
  | .checkpoint w _ => inWings w
  | .wingRecovery w => inWings w
  | .sweepEnable who h => inRequesters who && inHalls h
  | .sweepPause h => inHalls h
  | .bayStream h _ => inHalls h
  | .selectionPass h _ _ => inHalls h
  | .finalSelection h _ _ => inHalls h
  | .spillFinish h _ _ _ => inHalls h
  | .delayThreshold _ => true
  | .tempSample h _ => inHalls h
  | .sensorTimeout h => inHalls h
  | .refreshRound h => inHalls h
  | .scrubLine h _ _ => inHalls h
  | .repair h _ => inHalls h
  | .wcbPartialWrite _ _ _ _ => true
  | .wcbTimeout _ => true
  | .wcbCloseRequest _ => true
  | .rdS agent _ _ => inAgents agent
  | .rdU agent _ _ => inAgents agent
  | .upgr agent _ _ => inAgents agent
  | .wb agent _ => inAgents agent
  | .evc agent _ => inAgents agent
  | .rdNc _ wing _ => inWings wing
  | .wrFull _ wing _ => inWings wing
  | .wrMerge _ _ => true
  | .atomH u _ _ _ _ _ _ _ => inUshers u
  | .rrd p _ _ => inPorts p
  | .rwr p _ _ => inPorts p
  | .ratom p _ _ => inPorts p
  | .snpPull agent _ _ => inAgents agent
  | .snpPeek agent _ _ => inAgents agent
  | .snpInv agent _ => inAgents agent
  | .snpInvd agent _ _ => inAgents agent
  | .flushSet agent _ slice => inAgents agent && inSlices slice
  | .srsp agent _ => inAgents agent
  | .sdat agent _ => inAgents agent
  | .gdat _ => true
  | .cmp agent _ => inAgents agent
  | .wcmp _ => true
  | .ack agent _ => inAgents agent
  | .nack p => inPorts p
  | .nackRetry p _ => inPorts p
  | .reservationLapse _ => true
  | .snpdata _ => true
  | .snpinv _ => true
  | .snpcur _ => true
  | .hostD2hResponse _ _ => true
  | .cxlMemRead _ _ => true
  | .cxlMemWrite _ _ _ => true
  | .biasSet _ => true
  | .alu u => inUshers u
  | .addi u => inUshers u
  | .andi u => inUshers u
  | .ori u => inUshers u
  | .xori u => inUshers u
  | .shi u => inUshers u
  | .slti u => inUshers u
  | .fpu u => inUshers u
  | .ld u => inUshers u
  | .st u => inUshers u
  | .br u => inUshers u
  | .jal u => inUshers u
  | .jalr u => inUshers u
  | .atom u => inUshers u
  | .argmax u => inUshers u
  | .varith u => inUshers u
  | .vcmp u => inUshers u
  | .vcvt u => inUshers u
  | .vperm u => inUshers u
  | .vred u => inUshers u
  | .vld u => inUshers u
  | .vst u => inUshers u
  | .li u => inUshers u
  | .lih u => inUshers u
  | .select u => inUshers u
  | .jl u => inUshers u
  | .vcomb u => inUshers u
  | .sysNop u => inUshers u
  | .halt u => inUshers u
  | .csrr u => inUshers u
  | .csrw u => inUshers u
  | .fence u => inUshers u
  | .xret u => inUshers u
  | .trap u => inUshers u
  | .issue u => inUshers u
  | .issuenb u => inUshers u
  | .wait u => inUshers u
  | .waitTimeout u => inUshers u
  | .test u => inUshers u
  | .iflush u => inUshers u
  | .usherGo u => inUshers u
  | .usherStop u => inUshers u
  | .usherReset u => inUshers u
  | .board h _ => inHalls h
  | .treadSet h _ => inHalls h
  | .trnThresh h _ _ => inHalls h
  | .trnSpillFree h _ _ => inHalls h
  | .trnDrain h _ _ => inHalls h
  | .mma e _ _ => inEngines e
  | .tileZero e _ _ => inEngines e
  | .tileLoad e _ _ => inEngines e
  | .tileStore e _ _ => inEngines e
  | .tileMove e _ _ => inEngines e
  | .reduce e _ _ => inEngines e
  | .srfLoad e _ _ => inEngines e
  | .quant e _ _ => inEngines e
  | .dequant e _ _ => inEngines e
  | .qntStatsClr e => inEngines e
  | .lntLoadDesc c _ => inCores c
  | .lntInjectDesc c _ => inCores c
  | .clsProbe g _ => inGroups g
  | .clsGet g _ _ => inGroups g
  | .clsPut g _ => inGroups g
  | .clsPin g _ => inGroups g
  | .clsDrop g _ => inGroups g
  | .dmaCopy g _ => inGroups g
  | .dmaFill g _ => inGroups g
  | .descriptorComplete cls _ _ => inClasses cls
  | .lanternEventArrival c sender => inCores c && inSenders sender
  | .lanternEvent c _ => inCores c
  | .windowClose c _ => inCores c
  | .lanternAction c => inCores c
  | .lntLoadApply c => inCores c
  | .prefixProbe _ => true
  | .prefixGet _ _ => true
  | .prefixPut _ => true
  | .prefixPin _ => true
  | .prefixDrop _ => true
  | .flashCopyComplete _ _ _ => true
  | .promotionComplete _ _ _ => true
  | .nsCreate _ => true
  | .nsSet _ => true
  | .nsInfo _ => true
  | .nsDestroy _ => true
  | .sqDoorbell f q _ _ => inFunctions f && inQueues q
  | .eqDoorbell f e _ => inFunctions f && inEventQueues e
  | .sqEnable f q _ => inFunctions f && inQueues q
  | .sqDisable f q => inFunctions f && inQueues q
  | .eqEnable f e _ => inFunctions f && inEventQueues e
  | .eqDisable f e => inFunctions f && inEventQueues e
  | .entryFetch f => inFunctions f
  | .hostReadCompletion _ _ => true
  | .commandCompletion _ => true
  | .search _ => true
  | .run _ => true
  | .lntLoad _ => true
  | .lntInject _ => true
  | .copy _ => true
  | .fill _ => true
  | .powerState _ => true
  | .powerStateQuiet => true
  | .powerStateTimeout => true
  | .mapPrepare _ => true
  | .mapCommit _ => true
  | .mapAbort _ => true
  | .mapActivation n => inMaps n
  | .graceEnd n => inMaps n
  | .collChangePrepare _ => true
  | .collChangeCommit _ => true
  | .wingSet _ => true
  | .tenantSet _ => true
  | .flr f => inFunctions f
  | .linkDown => true
  | .bar2Write _ _ _ => true
  | .bar2Read _ _ => true
  | .query p => inPorts p
  | .result p => inPorts p
  | .notice p => inPorts p
  | .refusal p => inPorts p
  | .discard p => inPorts p
  | .localMerge _ _ => true
  | .sendLimit _ _ => true
  | .searchDeadline _ => true
  | .rerank _ _ _ => true
  | .searchResultWrite _ => true
  | .sectorSend p => inPorts p
  | .idleSector p _ => inPorts p
  | .controlSector p _ => inPorts p
  | .dataSector p _ => inPorts p
  | .helloSector p _ => inPorts p
  | .helloSend p => inPorts p
  | .retransmitTimeout p => inPorts p
  | .nakTimeout p => inPorts p
  | .controlRecordDue p vc => inPorts p && inChannels vc
  | .heartbeatSend p => inPorts p
  | .heartbeatTimeout p => inPorts p
  | .lossOfSignal p => inPorts p
  | .slowTimeout p => inPorts p
  | .trainingComplete p => inPorts p
  | .trainingTimeout p => inPorts p
  | .authComplete p _ => inPorts p
  | .spdmFailure p => inPorts p
  | .authRetry p => inPorts p
  | .keyUpdateDue p _ => inPorts p
  | .keySwitchWindowEnd p => inPorts p
  | .keyUpdateTimeout p => inPorts p
  | .quarantineWindow p => inPorts p
  | .remoteRequest p => inPorts p
  | .remoteResponse p => inPorts p
  | .raSubmit who p _ => inRequesters who && inPorts p
  | .portEnable p => inPorts p
  | .portDisable p => inPorts p
  | .retrain p => inPorts p
  | .release p => inPorts p
  | .windowCommit who n _ => inRequesters who && inWindows n
  | .timeProbeSend p => inPorts p
  | .timeProbeRequest p => inPorts p
  | .timeProbeResponse p => inPorts p
  | .syncTimeout => true
  | .timSet who _ => inRequesters who
  | .porterBoot => true
  | .watchdogExpiry _ => true
  | .dieSensorSample _ => true
  | .powerCapTick _ => true
  | .fastPowerLimit _ => true
  | .trialCommit _ => true
  | .logMirrorCommit => true
  | .porterEvent => true
  | .sensorRead _ => true
  | .logRead _ => true
  | .powerSet _ => true
  | .pinMarkClear _ => true
  | .trustSet _ => true
  | .fwCommit _ => true
  | .wdtSet _ => true
  | .porterRestart => true
  | .getPdr _ _ => true
  | .getPdrRepositoryInfo _ => true
  | .getSensorReading _ _ => true
  | .getStateSensorReadings _ _ => true
  | .setNumericSensorEnable _ _ _ _ => true
  | .getSensorThresholds _ _ => true
  | .setSensorThresholds _ _ _ => true
  | .setEventReceiver _ _ => true
  | .pollForPlatformEventMessage _ => true
  | .eventMessageSupported _ => true
  | .setNumericEffecterValue _ _ _ => true
  | .setStateEffecterStates _ _ _ => true
  | .queryDeviceIdentifiers _ => true
  | .getFirmwareParameters _ => true
  | .requestUpdate _ _ => true
  | .passComponentTable _ _ _ => true
  | .updateComponent _ _ _ => true
  | .requestFirmwareData _ => true
  | .activateFirmware _ => true
  | .getStatus _ => true
  | .cancelUpdateComponent _ => true
  | .cancelUpdate _ => true
  | .getVersion _ => true
  | .getCapabilities _ => true
  | .negotiateAlgorithms _ _ => true
  | .getDigests _ => true
  | .getCertificate _ _ _ _ => true
  | .challenge _ _ => true
  | .getMeasurements _ _ => true
  | .keyExchange _ _ _ => true
  | .finish _ _ _ => true
  | .keyUpdate _ _ => true
  | .heartbeat _ _ => true
  | .endSession _ _ => true
  | .standbyPowerOn _ => true
  | .standbyPowerLoss => true
  | .pwrEnAssert => true
  | .pwrEnDeassert => true
  | .railRegulated => true
  | .railFault => true
  | .railRetry => true
  | .mainBringup _ => true
  | .stackTraining h _ => inHalls h
  | .bringupReady _ => true
  | .perstAssert => true
  | .perstDeassert => true
  | .coldReset _ => true
  | .cold who => inRequesters who
  | .unitReset who cls _ _ => inRequesters who && inClasses cls
  | .powerFail => true
  | .inputRestored => true
  | .pwrbrkAssert => true
  | .pwrbrkRelease => true
  | .thermalTrip _ _ => true
  | .tripRelease => true
  | .powerStateExit => true
  | .linkTrained _ _ _ _ => true
  | .translationInvalidate cls _ _ _ => inClasses cls
  | .vfEnable n => inFunctions n
  | .mctpControlMessage _ _ => true
  | .creditWaitDelay _ => true
  | .deadlineAtShard _ _ => true
  | .porterSramUncorrectable => true

end Sys2Proof
end

