-- ==== Sys2Proof/Tests/Slice0.lean ====
section
/-! SUPPORT. Tests: small states, that what each statement assumes can be met, the refusals of ill-formed commands, and examples
that the manual works out. -/

set_option linter.unusedVariables false
set_option maxRecDepth 100000

namespace Sys2Proof.Tests

open Sys2Proof Sys2Proof.Machine Sys2Proof.Safety

/-- A D1600 right after bring-up: READY, the link up, four virtual functions, wing 0 the owner of hall group 0, no journal at work. -/
def up : State :=
  { State.reset with
    regs := [(regOff .devBoot 0 0, 0x1FF), (regOff .devResetCause 0 0, 1), (regOff .wngGroup 0 0, 0x10), (regOff .wngWQuota 0 0, 0x1C0000000000),
      (regOff .ucrWCredits 0 0, 16384)]
    vst := { State.reset.vst with numVfs := 4, linkUp := true }
    store := { State.reset.store with journals := [] }
    oam := { State.reset.oam with powerGood := true } }

/-- A 64-byte block with little-endian fields: offset, bytes, value. -/
def block64 (l : List (Nat × Nat × Nat)) : List Byte :=
  l.foldl (fun b x => overlay b x.1 (bytesOf x.2.1 x.2.2)) (List.replicate 64 0)

/-- Command 7 of tenant 0 with an opcode and operands. -/
def aCmd (op : Nat) (l : List (Nat × Nat × Nat)) : Cmd := ⟨7, 1, 0, 0, 0, block64 ((0, 1, op) :: l), false, false, [], none⟩

/-- Command 7 of the PF with an opcode and operands. -/
def aPfCmd (op : Nat) (l : List (Nat × Nat × Nat)) : Cmd := ⟨7, 0, 0, 0, 255, block64 ((0, 1, op) :: (2, 1, 255) :: l), false, false, [], none⟩

/-- A state with one command in flight. -/
def withCommand (s : State) (c : Cmd) : State := { s with vst := { s.vst with inflight := [c], nextId := 8 } }

/-- A collection of wing 0 with 256-bit codes in hall 0 and a directory. -/
def aColl : Coll :=
  { wing := 0, wCode := 3, halls := 1, denseDim := 0, directory := true, owner := 0, engines := 0, grid := 0, scaleVer := 0, epoch := 5
    epochHigh := false, rebase := .idle, rebaseE := 0, rebaseCmds := [], closing := none, mapId := none, scales := [], change := none, old := none
    slots := [], writers := [], chosen := [], rebuilding := false, undirected := [], compactHalls := 0, compactUid := 0 }

/-- A state with collection 5. -/
def withColl (s : State) (x : Coll) : State := { s with store := { s.store with colls := [(5, some x)] } }

/-- A state in which collection 5 has two bays in hall 0. -/
def withBays (s : State) : State := modStair s 0 fun t => { t with extents := [⟨1, 5, 2⟩] }

/-- Host memory with bytes at an address. -/
def withHost (s : State) (a : Nat) (bs : List Byte) : State := hostPut s a bs


/-- A state in which Usher 0 runs with these words at 0x1000, in its instruction cache. -/
def atWord (s : State) (w : Nat) : State :=
  modUsher s 0 fun x => { x with st := .running, pc := 0x1000, icache := [(64, bytesOf 64 w)] }

/-- An instruction word of format A, I, M or V: OP, D, A and the bits from 17 on. -/
def word32 (op d a rest : Nat) : Nat := op * 2 + d * 2 ^ 7 + a * 2 ^ 12 + rest * 2 ^ 17

/-- A 64-bit instruction: OP, D, and the bits from 12 on. -/
def word64 (op d rest : Nat) : Nat := 1 + op * 2 + d * 2 ^ 7 + rest * 2 ^ 12

/-- A hypothesis about an instruction's fetch, decided. -/
def atInsnB (s : State) (u : Nat) (op : UOp) (t : State) (w : Nat) : Bool :=
  present s .usher u && decide ((usher s u).st = .running) && (match fetchInsn s u (usher s u).pc.toNat with | .ok r x => decide (r = t) && x == w | _ => false) &&
    decide (decodeOp w = some op)

/-- What `atInsnB` decides. -/
theorem atInsn_of (s : State) (u : Nat) (op : UOp) (t : State) (w : Nat) (h : atInsnB s u op t w = true) : atInsn s u op t w := by
  unfold atInsnB at h
  simp only [Bool.and_eq_true, decide_eq_true_eq] at h
  obtain ⟨⟨⟨h1, h2⟩, h3⟩, h4⟩ := h
  refine ⟨h1, h2, ?_, h4⟩
  split at h3
  · rename_i e
    simp only [Bool.and_eq_true, decide_eq_true_eq, beq_iff_eq] at h3
    rw [e, h3.1, h3.2]
  · cases h3

/-- An instruction word of format V: OP, D, A, B, PG, VT, FN. -/
def wordV (op d a b pg vt fn : Nat) : Nat := word32 op d a (b + pg * 2 ^ 5 + vt * 2 ^ 8 + fn * 2 ^ 11)

/-- A line in Usher 0's L1. -/
def inCache (s : State) (line : Nat) (data : List Byte) : State := setCache s 0 line (some ⟨.e, data, false, 0⟩)

/-- Four lines in Usher 0's L1 at 0x2000, and an instruction with s2 and s3 set. -/
def withLines (w a b : Nat) : State :=
  putS (putS (inCache (inCache (inCache (inCache (atWord up w) 128 (bytesOf 64 5)) 129 (bytesOf 64 6)) 130 (bytesOf 64 7)) 131 (bytesOf 64 8)) 0 2 a) 0 3 b

/-- The state after a load that succeeds. -/
def loadedS (t : State) (u a n : Nat) : State := match loadBytes t u a n with | .ok x _ => x | _ => t

/-- The bytes of a load that succeeds. -/
def loadedB (t : State) (u a n : Nat) : List Byte := match loadBytes t u a n with | .ok _ b => b | _ => []

/-- A load that succeeds. -/
theorem loads_of (t : State) (u a n : Nat) (h : (match loadBytes t u a n with | .ok _ _ => true | _ => false) = true) :
    loadBytes t u a n = .ok (loadedS t u a n) (loadedB t u a n) := by
  unfold loadedS loadedB
  split at h <;> simp_all

/-- The state after a store that succeeds. -/
def storedS (t : State) (u : Nat) (ps : List (Nat × Nat × List Byte)) : State := match storeLines t u ps with | .ok x _ => x | _ => t

/-- A store that succeeds. -/
theorem stores_of (t : State) (u : Nat) (ps : List (Nat × Nat × List Byte)) (h : (match storeLines t u ps with | .ok _ _ => true | _ => false) = true) :
    storeLines t u ps = .ok (storedS t u ps) () := by
  unfold storedS
  split at h <;> simp_all

/-- A SYS instruction's word. -/
def sysWord (fn d a b : Nat) : Nat := word32 0 d a (b + fn * 2 ^ 8)

/-- Descriptor 3 of tenant 0 on queue 0, with an opcode and operands. -/
def aDesc (op : Nat) (l : List (Nat × Nat × Nat)) : Desc := ⟨3, 0, .micro, 0, 0, block64 ((0, 1, op) :: l), none⟩

/-- A state in which a unit has one descriptor queued. -/
def withQueued (s : State) (cls inst : Nat) (d : Desc) : State := modUnit s cls inst fun x => { x with queued := [d] }

/-- A collection descriptor: number 5, wing 0, W 256, hall 0, a directory. -/
def aDescriptor : List Byte := block64 [(0, 2, 5), (3, 1, 3), (4, 2, 1), (8, 1, 1)]

/-- A live record of code 0xFF. -/
def aSlot : Slot := ⟨3, noEpoch, 0xFF, 1001, []⟩

/-- A state whose wing 0 has a journal. -/
def withJournal (s : State) (j : Journal) : State := { s with store := { s.store with journals := [(0, j)] } }

/-- A narrow query of tenant 0 on collection 5 that a BOARD descriptor brought. -/
def aQuery : Query :=
  { ctx := 2, source := .board 4, coll := 5, account := 0, tag := 9, k := 1, prio := 0, radius := 0xFFFF, code := 0x0F, permit := none
    permitVer := none, view := some 5, deadline := 0, limit := none, waiting := 0, halls := 2, admitted := 0, resultAddr := 0, recs := []
    delayed := false, released := false }

/-- A tread aboard with two candidates. -/
def aTread : Tread := { freeTread with state := .aboard, ctx := 2, stopUid := 1, thresh := 256, cands := [⟨9, 3⟩, ⟨4, 8⟩], passQueued := true }

/-- A flight that has alighted. -/
def anAlighted : Alighted := ⟨2, [⟨9, 3⟩, ⟨4, 8⟩], [(0, 2)], 0xFFFF, [], false, false, 0, 2, 0, 0, 1, 0⟩

/-- A state with a query. -/
def withQuery (s : State) (q : Query) : State := { s with store := { s.store with queries := [q] } }

/-- An open entry of the write-combining buffer. -/
def anEntry : WcbEntry := ⟨5, 3, mergeMask 3 [] [1, 2], [.usher 0], 0, 1000, false⟩

/-- Engine 0 of a D1600 is enabled and its stream 0 takes no channel scales. -/
def enginesOn : State := setR (setR up .colCtrl 1 0) .qntCfg 0 0

/-- Engine 0 with a descriptor at the head of its queue. -/
def atEngine (d : Desc) : State := withQueued enginesOn 1 0 d

/-- An integer MMA of 2 rows by 4 channels by 32 columns, at 0x4000 and 0x8000, into tile 2. -/
def anMma : Desc :=
  aDesc 0x20 [(16, 8, 0x4000), (24, 8, 0x8000), (32, 4, 64), (36, 4, 64), (41, 1, 2), (42, 2, 4), (44, 1, 32), (45, 1, 1), (46, 2, 2)]

/-- A REDUCE of 2 rows of 8 elements at 0x4000 onto tile 2. -/
def aReduce : Desc := aDesc 0x25 [(16, 8, 0x4000), (24, 4, 64), (28, 4, 8), (34, 2, 2), (36, 1, 8), (38, 1, 2)]

/-- A REDUCE of tile 4 onto tile 2. -/
def aTileReduce : Desc := aDesc 0x25 [(28, 4, 8), (32, 2, 4), (34, 2, 2), (36, 1, 12), (38, 1, 2)]

/-- A descriptor of two lines. -/
def aLongDesc (op : Nat) (l m : List (Nat × Nat × Nat)) : Desc := ⟨3, 0, .micro, 0, 0, block64 ((0, 1, op) :: l) ++ block64 m, none⟩

/-- A QUANT of one row of 64 FP32 elements at 0x4000: codes at 0x8000, the token scale at 0x9000. -/
def aQuant : Desc := aLongDesc 0x28 [(16, 8, 0x4000), (24, 4, 256), (30, 1, 1), (32, 1, 1), (33, 2, 64)] [(0, 8, 0x8000), (8, 4, 64), (16, 8, 0x9000)]

/-- A DEQUANT of one row of 64 codes at 0x8000 into 0x4000. -/
def aDequant : Desc := aLongDesc 0x29 [(16, 8, 0x4000), (24, 4, 256), (32, 1, 1), (33, 2, 64)] [(0, 8, 0x8000), (8, 4, 64), (16, 8, 0x9000)]

/-- A BOARD on collection 5: its code at 0x4000, its record at 0x8000. -/
def aBoard : Desc := aDesc 0x01 [(24, 2, 5), (26, 1, 4), (28, 2, 256), (30, 2, 0xFFFF), (32, 2, 256), (40, 8, 0x4000), (48, 8, 0x8000)]

/-- A DMA copy of 128 bytes from 0x4000 to 0x8000. -/
def aDmaCopy : Desc := aDesc 0x50 [(16, 8, 0x4000), (24, 8, 0x8000), (32, 8, 128)]

/-- A DMA fill of 128 bytes at 0x8000. -/
def aDmaFill : Desc := aDesc 0x51 [(24, 8, 0x8000), (32, 8, 128), (40, 8, 0x0807060504030201)]

/-- A state in which a unit has one descriptor accepted. -/
def withAccepted (s : State) (cls inst : Nat) (d : Desc) : State := modUnit s cls inst fun x => { x with accepted := [d] }

/-- Event queue 0 and submission queue 0 of the PF are enabled, with 16 places each. -/
def queuesOn : State :=
  setR (setR (setR (setR up .vstEqCfg 0x80000004 0) .vstEqBase 0x10000 0) .vstSqCfg 0x80010004 0) .vstSqBase 0x20000 0

/-- A namespace descriptor: number 3 of tenant 0 in hall 0, 1 layer of 1 head of 64, on engine 0, with a quota of 1 MiB. -/
def anNsDesc : List Byte :=
  block64 [(0, 4, 3), (6, 2, 1), (8, 2, 1), (10, 1, 1), (12, 2, 64), (32, 4, 1), (40, 8, 0x100000)] ++ block64 []

/-- The namespace that it makes, with scales of 1. -/
def anNs : Ns := readNs 0 anNsDesc (List.replicate 128 1)

/-- A state with that namespace. -/
def withNamespace (s : State) : State := { s with cloister := { s.cloister with nss := [anNs] } }

/-- A block of it with one segment. -/
def aBlock : Block :=
  { owner := 0, nsId := 3, key := 77, parent := 0, depth := 0, tokens := [], segs := [[1]], st := .hall, flash := false, committed := false
    pinHost := false, pinLantern := false, touch := 0, mark := none, handle := 1, lo := 0, hi := 4 }

/-- A state with the namespace and one block. -/
def withBlock (s : State) (b : Block) : State := { s with cloister := ⟨[anNs], [b], 0⟩ }

/-- A scale table of ones. -/
def onesTable (s : State) (a n : Nat) : State := withHost s a ((List.replicate n (bytesOf 2 0x3C00)).flatten)

/-- A state with a power move under way. -/
def moving (s : State) (cur target limit : Nat) (paused : Bool) : State :=
  { s with store := { s.store with power := { s.store.power with current := cur, moving := some (7, target, limit, 0), paused := paused } } }

/-- The port is ACTIVE with partner 9. -/
def activePort (s : State) (p : Nat) : State := setR (setField s .mrqPState 0 4 5 p) .mrqPPartner (2 ^ 31 + 9) p

/-- A payload waits in a port's receive buffer of a virtual channel. -/
def received (s : State) (p v : Nat) (b : List Byte) : State := modPort s p fun x => { x with rxBuf := [(v, [b])] }

/-- The image of a map with one tree of this device, which serves the one shard. -/
def anImage (epoch : Nat) : List Byte :=
  block64 [(0, 4, epoch), (4, 2, 1), (6, 1, 1)] ++ block64 [(0, 2, 0), (2, 2, 0xFFFF), (4, 2, 0xFFFF), (6, 2, 0xFFFF)] ++
    block64 [(2, 1, 0xFF), (4, 2, 1)] ++ block64 [(2, 2, 0xFFFF), (4, 1, 0xFF)]

/-- A map with its image prepared. -/
def aPrepared : MapEnt := { noMap with state := .prepared, next := some ⟨4, 0, [[0]], [⟨0, 0xFF, [⟨0, 0xFFFF, 0xFF, 0, 0⟩]⟩], 77⟩ }

/-- A state with map 3. -/
def withMap (s : State) (m : MapEnt) : State := { s with maps := [(3, m)] }

/-- A PF command 7 with its argument block at 0x4000 and its OUT at 0x5000. -/
def argCmd (op : Nat) : Cmd := aPfCmd op [(16, 8, 0x4000), (24, 8, 0x5000)]

/-- A state with that command and its argument. -/
def withArg (s : State) (op : Nat) (l : List (Nat × Nat × Nat)) : State := withCommand (withHost s 0x4000 (block64 l)) (argCmd op)

/-- The device is synchronised. -/
def inSync (s : State) : State := setField s .timStatus 0 1 1

/-- The device follows port 5. -/
def following (s : State) : State := setR s .timCtrl (5 * 2 ^ 8 + 2 ^ 14)

/-- A state in which port 5 awaits the response to probe 3, sent at time 1000, and holds one. -/
def probed (s : State) (t2 t3 t4 : Nat) : State :=
  modPort (received s 5 1 (probeBytes 2 3 1000 t2 1 |> fun b => overlay b 24 (bytesOf 8 t3) ++ bytesOf 8 t4)) 5 fun x => { x with probe := some (3, 1000) }

/-- No wing owns hall groups 1 and 2. -/
def unowned : State := setR (setR up .wngGroup 0 1) .wngGroup 0 2

/-- Core 0 runs. -/
def coreRuns (s : State) : State := setR s .lntCoreCfg 1 0

/-- Core 0 runs, at shared time 10000, and one HOST event of time 5 is in its buffer; source entry 0 takes it to list entry 0, a weight of 9 on
neuron 3, whose threshold is `th`; its group is 2 and it tells core 1. -/
def spiking (th : Nat) : State :=
  modCore { coreRuns up with now := 10000 } 0 fun x =>
    { x with buffer := [⟨3 * 2 ^ 22 + 7, 5⟩]
             sources := [(0, BitVec.ofNat 128 (3 * 2 ^ 22 + 7 + 2 ^ 24 + 2 ^ 52))]
             lists := [(0, BitVec.ofNat 32 (3 + 9 * 2 ^ 20))]
             neurons := [(3, BitVec.ofNat 128 (th * 2 ^ 16 + 2 * 2 ^ 40 + 2 * 2 ^ 48))] }

/-- An LNT_LOAD of one neuron entry at 0x4000 into entry 3. -/
def aLoad : Desc := aDesc 0x30 [(20, 4, 3), (24, 4, 1), (28, 8, 0x4000)]

/-- An LNT_INJECT of one event at 0x4000. -/
def anInject : Desc := aDesc 0x31 [(16, 2, 1), (24, 8, 0x4000)]

/-- PREFIX_PROBE of one key: keys at 0x4000, report at 0x8000. -/
def probeCmd : Cmd := aCmd 0x20 [(18, 2, 1), (20, 4, 3), (24, 8, 0x4000), (40, 8, 0x8000)]

/-- PREFIX_GET of one key: keys at 0x4000, destination 0x8000, report at 0x9000. -/
def getCmd : Cmd := aCmd 0x21 [(20, 4, 3), (24, 2, 1), (28, 2, 1), (32, 8, 0x4000), (40, 8, 0x8000), (48, 4, 0x8240), (56, 8, 0x20000)]

/-- PREFIX_PUT of one key: keys at 0x4000, tokens at 0x5000, source at 0x10000, report at 0x8000. -/
def putCmd : Cmd := aCmd 0x22 [(18, 1, 1), (20, 4, 3), (24, 8, 0x4000), (32, 8, 0x5000), (40, 8, 0x10000), (48, 8, 0x8000)]

/-- PREFIX_PIN or PREFIX_DROP of one key at 0x4000. -/
def listCmd (op flags : Nat) : Cmd := aCmd op [(17, 1, flags), (18, 2, 1), (20, 4, 3), (24, 8, 0x4000)]

/-- The descriptor with the same body. -/
def descOf (c : Cmd) (op : Nat) : Desc := ⟨3, 0, .micro, 0, 0, overlay (overlay c.entry 0 (bytesOf 8 op)) 8 (bytesOf 8 0), none⟩

/-- Block 77 is present, and 0x4000 holds the keys 0 and 77, or only 77. -/
def keyed (first : Bool) (b : Block) : State := (memPut (withBlock up b) (some 0) (if first then 0x4010 else 0x4000) (bytesOf 16 77)).1

/-- A put of one key of chain 0 into a namespace whose quota is `quota`. -/
def putting (quota : Nat) : State := { withNamespace enginesOn with cloister := ⟨[{ anNs with hallQuota := quota }], [], 0⟩ }

/-- The key and tokens that it gives. -/
def given (u : State) : List (Nat × (Nat × Nat × List Nat)) :=
  let k := hostCls u putCmd
  (List.range 1).zip (putGiven (keysAt u (k.num 24 8) 2) (wordsOf 4 256 (memRead u (k.num 32 8) 1024)))

/-- Line 4096 of hall 0 lies in the array. -/
def arrayed (s : State) : State := setArray s 4096 (some ⟨0, bytesOf 64 77, false, false, 0⟩)

/-- What the array holds. -/
def anArrLine : ArrLine := ⟨0, bytesOf 64 77, false, false, 0⟩

/-- Line 4096 has these holders at its home. -/
def heldBy (s : State) (hs : List (Nat × Hold)) : State := modRec s 4096 fun r => { r with holders := hs }

/-- Usher 3 has line 4096 in a state. -/
def cached3 (s : State) (st : LineSt) : State := setCache s 3 4096 (some ⟨st, bytesOf 64 88, false, 0⟩)

/-- The line that Usher 3 has. -/
def aLine (st : LineSt) : CLine := ⟨st, bytesOf 64 88, false, 0⟩

/-- A message is on the Corridor. -/
def sent (s : State) (m : Msg) : State := sendMzn s m

/-- A transaction of Usher 5 on line 4096. -/
def aTxn (k : ReqKind) (awaiting : List Nat) (granted : Bool) : Txn :=
  ⟨plainReq k (.agent 5) 4096 none MemErr.none 0, awaiting, none, false, false, none, granted⟩

/-- Line 4096 is busy with a transaction. -/
def busyWith (s : State) (x : Txn) : State := modRec s 4096 fun r => { r with txn := some x }

/-- A peer's request with tag 6 on port 5, for the line at 0x40000, with credit 2. -/
def aServed (op : Nat) : Served := ⟨6, op, 0, some 2, none, 0x40000, if op = 3 then 8 else 64, 0, bytesOf 64 (5 + op)⟩

/-- A state that serves it. -/
def serving (s : State) (v : Served) : State :=
  { modPort s 5 (fun x => { x with served := [v] }) with mzn := { s.mzn with credits := [(2, some ⟨5, 6, 4096, 3⟩)] } }

/-- A WR_MERGE of the first two bytes of line 4096. -/
def aMerge : HomeReq := { plainReq .wrMerge (.buffer 0) 4096 none MemErr.none 0 with mask := 3, data := bytesOf 64 0x1234 }

/-- A line of host memory. -/
def aHostLine : Nat := 2 ^ 57 + 5

/-- A line of the spill region of hall 0. -/
def aStreamLine : Nat := 0xBE0000000 / 64

/-- The PF sets the bias of page 64, which holds line 4096. -/
def biasCmd (host : Nat) : Cmd := aPfCmd 0x68 [(24, 8, 0x40000), (32, 4, 2), (36, 1, host)]

/-- SEARCH of collection 5: the code at 0x4000, the result block at 0x8000. -/
def searchCmd : Cmd := aCmd 0x30 [(16, 2, 5), (18, 1, 4), (20, 2, 0xFFFF), (22, 2, 0xFFFF), (40, 8, 0x4000), (48, 8, 0x8000)]

/-- A state in which it may run. -/
def searching : State := withCommand (withBays (withColl up aColl)) searchCmd

/-- The root's record of it, with a deadline and its shard still open. -/
def aRoot : NewelQuery :=
  { rootQuery searching searchCmd (readSearch searching searchCmd) aColl with queryId := 4096, ctx := some 2, deadline := 9000, cmd := 7 }

/-- A state with a query of the merge. -/
def merging (s : State) (q : NewelQuery) : State := { s with store := { s.store with newel := [q] } }

/-- Map 3 at epoch 4: this device is the root with shard 0, its child 9 serves shard 1. -/
def aTree (root : Nat) : Tree :=
  ⟨root, 0xFF, [⟨root, 0xFFFF, 0xFF, 0, 0⟩, ⟨if root = 9 then 0 else 9, root, 5, 1, 1⟩]⟩

/-- The map. -/
def aMap (root : Nat) : MapEnt := { noMap with state := .active, cur := some ⟨4, 0, [[root], [9]], [aTree root], 77⟩ }

/-- Collection 5 is bound to it. -/
def mapped (root : Nat) : State := withMap (activePort (withBays (withColl up { aColl with mapId := some 3 })) 5) (aMap root)

/-- A query of two shards, on its way at this device. -/
def aMergeQuery (root : Bool) : NewelQuery :=
  { aRoot with isRoot := root, mapEpoch := 4, shardCount := 2, subtree := 3, parentPort := if root then 255 else 5, ctx := none
               shards := if root then [(0, .covered)] else [] }

/-- The header of a message about it from device 9. -/
def aHead (type : Nat) : NewelHead :=
  { newelHead (mapped 0) (aMergeQuery true) type 0 0x0502 with sender := 9, depth := 1 }

/-- The summary of a RESULT for four places, a COVERED bitmap with shard 1, and nothing pending. -/
def aResultBody : List Byte := bytesOf 2 (4 * 256) ++ bytesOf 62 0 ++ bytesOf 64 2 ++ bytesOf 64 0

/-- The bodies of messages that name shard 1. -/
def aBody (type : Nat) : List Byte :=
  match type with
  | 2 => aResultBody
  | 3 => bytesOf 64 2 ++ bytesOf 64 2
  | _ => bytesOf 64 2

/-- A state in which such a message waits, with its virtual channel. -/
def arrived (type vc : Nat) (q : NewelQuery) : State :=
  received (merging (mapped 0) q) 5 vc (headBytes (aHead type) 0 ++ aBody type)

/-- A QUERY from the parent, device 9. -/
def aQueryMsg (lo : Nat) : List Byte :=
  headBytes { newelHead (mapped 9) { aMergeQuery false with deadline := 10 ^ 12 } 1 0 0 with sender := 9, sealLo := lo } 0 ++
    bytesOf 8 9 ++ bytesOf 1 4 ++ bytesOf 1 0 ++ bytesOf 2 0xFFFF ++ bytesOf 2 0xFFFF ++ bytesOf 2 20 ++ bytesOf 48 0 ++ bytesOf 64 5

/-- A state in which that QUERY waits and may be admitted: the clock is synchronised, and no hall holds a bay. -/
def asked : State := inSync (received (modStair (mapped 9) 0 fun t => { t with extents := [] }) 5 2 (aQueryMsg (aHead 1).sealLo))

/-- A flight is admitted. -/
def admits (s : State) (q : Query) : Bool := match admitOwn s q true with | .ok _ => true | .error _ => false

/-- What a number's low bytes spell. -/
theorem num_of_bytes (n x : Nat) : ofLe ((bytesOf n x).map BitVec.toNat) = x % 256 ^ n := by
  induction n generalizing x with
  | zero => simp [bytesOf, leBytes, ofLe, Nat.mod_one]
  | succ n ih =>
    simp only [bytesOf, leBytes, List.map_cons, ofLe] at ih ⊢
    rw [ih]
    rw [Nat.pow_succ, Nat.mul_comm (256 ^ n) 256, Nat.mod_mul]
    simp

/-- A step of a reflected CRC stays in its width. -/
theorem crc_bit_lt (w poly c : Nat) (h : poly < 2 ^ w) (hc : c < 2 ^ w) : crcBit poly c < 2 ^ w := by
  unfold crcBit
  have h2 : c / 2 < 2 ^ w := by omega
  split
  · exact Nat.xor_lt_two_pow h2 h
  · exact h2

/-- CRC-64 has 64 bits. -/
theorem crc64_lt (bs : List Byte) : crc64 bs < 2 ^ 64 := by
  unfold crc64 crcOf
  refine Nat.xor_lt_two_pow ?_ (by decide)
  have h0 : (2 : Nat) ^ 64 - 1 < 2 ^ 64 := by decide
  generalize (2 : Nat) ^ 64 - 1 = c at h0
  induction bs generalizing c with
  | nil => exact h0
  | cons b bs ih =>
    refine ih _ ?_
    have hb : b.toNat < 2 ^ 64 := by have := b.isLt; omega
    have hp : (0xC96C5795D7870F42 : Nat) < 2 ^ 64 := by decide
    simp only [crcByte]
    exact crc_bit_lt _ _ _ hp (crc_bit_lt _ _ _ hp (crc_bit_lt _ _ _ hp (crc_bit_lt _ _ _ hp (crc_bit_lt _ _ _ hp (crc_bit_lt _ _ _ hp
      (crc_bit_lt _ _ _ hp (crc_bit_lt _ _ _ hp (Nat.xor_lt_two_pow h0 hb))))))))

/-- A sector with this header and payload, its CRCs right; `tag` says whether its tag verifies. -/
def aSector (h : List Byte) (body : List Byte) (tag : Bool) : Sector :=
  { markBits := 0, header := h, payload := body, plain := [], nextMark := false, tagOk := tag, fecCorrected := 0, fecLost := 0
    trailer := bytesOf 8 (crc64 ((h ++ bytesOf 32 0).take 32 ++ (body ++ bytesOf 4096 0).take 4096)) }

/-- A number of eight bytes reads back. -/
theorem num_eight (x : Nat) (h : x < 2 ^ 64) : numAt (bytesOf 8 x) 0 8 = x := by
  have e : numAt (bytesOf 8 x) 0 8 = ofLe ((bytesOf 8 x).map BitVec.toNat) := by simp [numAt, bytesOf, leBytes]
  rw [e, num_of_bytes, Nat.mod_eq_of_lt]
  exact h

/-- Its trailer is right. -/
theorem aSector_trailer (h body : List Byte) (tag : Bool) : secTrailerOk (aSector h body tag) = true := by
  have e := num_eight _ (crc64_lt ((h ++ bytesOf 32 0).take 32 ++ (body ++ bytesOf 4096 0).take 4096))
  exact decide_eq_true e.symm

/-- A sector's header of session 77: KIND, virtual channel, flags, SEQ and LEN. -/
def aHeader (kind vc flags seq len : Nat) : List Byte :=
  let h := bytesOf 1 (vc + 8 * kind) ++ bytesOf 1 flags ++ bytesOf 2 seq ++ bytesOf 2 0 ++ bytesOf 2 len ++ bytesOf 4 77 ++ bytesOf 8 3 ++ bytesOf 2 9 ++
    bytesOf 1 0 ++ bytesOf 5 0
  h ++ bytesOf 4 (crc32c h)

/-- Port 5 in a state, LOCKED, with a partner of session 77. -/
def livePort (s : State) (st : Nat) : State :=
  modPort (setR (setR s .mrqPState (st + 16) 5) .mrqPPartner (2 ^ 31 + 9) 5) 5 fun x => { x with partnerSession := 77, session := 66 }

/-- The pieces of `sound` that are decided. -/
def soundB (s : State) (p k : Nat) (x : Sector) : Bool :=
  decide (p < 64) && decide (2 ≤ portState s p) && rxLocked s p && decide (x.markBits ≤ 4) && secHeaderOk x && decide (secKind x = k) &&
    !headerMalformed s p x

/-- A sector of these bytes is sound when its header is. -/
theorem sound_of (s : State) (p k : Nat) (h body : List Byte) (tag : Bool) (e : soundB s p k (aSector h body tag) = true) :
    sound s p k (aSector h body tag) := by
  simp only [soundB, Bool.and_eq_true, Bool.not_eq_true', decide_eq_true_eq] at e
  obtain ⟨⟨⟨⟨⟨⟨h1, h2⟩, h3⟩, h4⟩, h5⟩, h6⟩, h7⟩ := e
  exact ⟨h1, h2, h3, h4, h5, h6, h7, aSector_trailer h body tag⟩

/-- A DATA sector that awaits its acknowledgement. -/
def aSent (sends : Nat) : TxSector := ⟨4, 2, bytesOf 64 3, sends, 100⟩

/-- Port 5 with a change. -/
def onPort (s : State) (f : Port → Port) : State := modPort s 5 f

/-- A sector of 16 bytes. -/
def aShort (kind vc seq : Nat) (body : List Byte) (tag : Bool) : Sector := aSector (aHeader kind vc 0 seq 16) body tag

/-- Port 5 is ACTIVE and the Porter runs. -/
def running : State := { livePort up 5 with porter := { up.porter with state := .running } }

/-- A request record: OP, SIZE, window, offset and tag. -/
def aRequest (op size window off tag : Nat) : List Byte :=
  block64 [(0, 1, op), (1, 1, size), (4, 2, 0xFFFF), (8, 4, window), (16, 8, off), (24, 8, tag)]

/-- Window 3 of wing 0 for partner 9, at 0x4000, 4 KiB, readable; and window 4, which nobody has. -/
def windowed : State :=
  setR (setR (setR (livePort up 5) .mrqWinBase 0x4000 3) .mrqWinSize 0x1000 3) .mrqWinCommit (9 + 2 ^ 16 + 2 ^ 23) 3

/-- A state in which wing 0 owns the group of port 5 too. -/
def owned5 (s : State) : State := setR s .wngGroup 0x10 1

/-- A request of the partner waits. -/
def requested (b : List Byte) : State := onPort (received (owned5 windowed) 5 5 b) fun x => { x with raTime := 9 }

/-- A request of this device, outstanding at the partner. -/
def aRaReq : RaReq := ⟨4, 0x4000, 1, aRequest 1 64 3 0 4, [], none⟩

/-- A response to it waits. -/
def answered (result flags : Nat) : State :=
  onPort (received (owned5 (livePort up 5)) 5 6 (responseBytes 1 result 0x702 2 flags 7 4 (if result = 0 then some (bytesOf 64 5) else none)))
    fun x => { x with requests := [aRaReq] }

/-- The Porter in a state, with its Vipol firmware. -/
def porterIn (st : PState) (f : Firmware) : State := { up with porter := { up.porter with state := st, vipol := f } }

/-- Firmware on trial in slot B. -/
def onTrialB : Firmware := { shippedFirmware with active := 1, trial := true, onTrial := true, running := 1 }

/-- A mailbox command with a request, as a message over the SMBus. -/
def asMessage (l : List (Nat × Nat × Nat)) : MbxFrom := .message .smbus (block64 l)

/-- A mailbox command with a request, in the mailbox. -/
def inMailbox (op : Nat) (l : List (Nat × Nat × Nat)) : State :=
  let s := setR (setR up .prtMbxCmd op) .prtMbxCtrl 1
  { s with porter := { s.porter with mbx := putBytes [] 0 (block64 l) } }

/-- A log record. -/
def aLogRec (seq : Nat) : LogRec := ⟨seq, 0, 1, 4, true, 8, 0, [1]⟩

/-- A management endpoint on the SMBus. -/
def anAgent : Mgmt := ⟨.smbus, 9⟩

/-- Another one. -/
def anotherAgent : Mgmt := ⟨.smbus, 10⟩

/-- A firmware update by that endpoint in a stage. -/
def anUpdate (st : UpdateStage) (size : Nat) : Update := ⟨anAgent, st, 1, size, [], 0⟩

/-- A Porter with that update under way, and a staged slot or none. -/
def updatingAs (u : Update) (vipol micro : Bool) : State :=
  { up with porter := { up.porter with update := some u, vipol := { shippedFirmware with staged := vipol }, micro := { shippedFirmware with staged := micro } } }

/-- An SPDM handshake over the SMBus that has come so far, and its sessions. -/
def spdmAt (n : Nat) (l : List SpdmSession) : State :=
  { up with porter := { up.porter with spdm := [(0, n)], sessions := l, nextSession := 5 } }

/-- A session over the SMBus. -/
def aSession (e : Bool) : SpdmSession := ⟨4, .mctp .smbus, e, 0⟩

/-- A module whose rails are down. -/
def railsDown (f : Module → Module) : State := { up with oam := f { up.oam with rails := 0, powerGood := false } }

/-- A device whose dies have just left reset. -/
def outOfReset : State := setR up .devBoot 0

/-- A device in stage 3 of bring-up with these stacks done. -/
def training (l : List Nat) : State := { setR up .devBoot 3 with oam := { up.oam with trained := l } }

/-- Both trip diodes read 50 °C, and the trip latch is set. -/
def cooled : State :=
  { up with oam := { up.oam with trip := true, pwrEn := false }, porter := { up.porter with samples := [(161, some (50000, 0)), (162, some (50000, 0))] } }

/-- Firmware without a valid image. -/
def noFirmware : Firmware := { shippedFirmware with slotA := .invalid, slotB := .invalid }

/-- What RegistersAnswerAndKeep assumes can be met. -/
theorem witness_RegistersAnswerAndKeep_registers_are_read_and_written :
    (barAnswers up (.fn 0) 0x200040 true = true ∧ (77 : W64).toNat < 2 ^ 32) ∧
    (barAnswers up (.fn 0) 0x10080 true = true ∧ (0x10000 : W64).toNat < 2 ^ 32 ∧ 2 ^ 16 ≤ (0x10000 : W64).toNat) ∧
    (barAnswers up (.fn 0) 0x101004 true = true ∧ (77 : W64).toNat < 2 ^ 32) ∧
    (3 < 32 ∧ present up .engine 3 = true ∧ barAnswers up (.fn 0) (0x2000028 + 0x10000 * 3) false = true ∧
      getR up .colEccCorrected 3 < 2 ^ 32) ∧
    (mainUp up = true ∧ quiet up) := by
  refine ⟨⟨?_, ?_⟩, ⟨?_, ?_, ?_⟩, ⟨?_, ?_⟩, ⟨?_, ?_, ?_, ?_⟩, ?_, ?_, ?_, ?_⟩ <;> decide

/-- What RegistersAnswerAndKeep assumes can be met. -/
theorem witness_RegistersAnswerAndKeep_snapshot_reads_are_whole :
    barAnswers up (.fn 0) 0x180008 false = true ∧ barAnswers up (.fn 0) 0x18000C false = true := by
  refine ⟨?_, ?_⟩ <;> decide

/-- What the absent blocks of RegistersAnswerAndKeep assume can be met: engine 12 of a D1200. -/
theorem witness_RegistersAreReadAndWritten_absent :
    let s := { up with variant := .d1200 }
    barAnswers s (.fn 0) 0x20C0028 false = true ∧ pfOffset (.fn 0) 0x20C0028 = some 0x20C0028 ∧ absentAt s 0x20C0028 = true ∧ 0x20C0028 % 8 = 0 := by
  decide

/-- What CollectionsAreCreatedAndShown assumes can be met. -/
theorem witness_CollectionsAreCreatedAndShown :
    (let c := aCmd 0x01 [(16, 8, 0x4000)]
     let s := withCommand (withHost up 0x4000 aDescriptor) c
     ready s 7 0x01 c ∧ collCreateFail c (started s 7) = none ∧ creditsReady (started s 7) (cmdWing (started s 7) c) 7 64) ∧
    (let c := aCmd 0x04 [(16, 2, 5), (24, 8, 0x4000)]
     let s := withCommand (withColl up aColl) c
     ready s 7 0x04 c ∧ collInfoFail c (started s 7) = none ∧ collOf s (c.num 16 2) = some aColl) := by
  refine ⟨⟨⟨?_, ?_, ?_⟩, ?_, ?_, ?_⟩, ⟨?_, ?_, ?_⟩, ?_, ?_⟩ <;> decide

/-- What CollectionsChange assumes can be met. -/
theorem witness_CollectionsChange :
    (let c := aCmd 0x02 [(16, 2, 5), (18, 1, 2), (19, 1, 3)]
     let s := withCommand (withColl { up with maps := [(3, { noMap with state := .active })] } aColl) c
     ready s 7 0x02 c ∧ collSetFail c (started s 7) = none ∧ collOf s (c.num 16 2) = some aColl ∧ c.num 18 1 = 2 ∧ c.num 19 1 ≠ 0xFF ∧
       creditsReady (started s 7) 0 7 64) ∧
    (let c := aCmd 0x03 [(16, 2, 5), (20, 4, 2)]
     let s := withCommand (withColl up aColl) c
     ready s 7 0x03 c ∧ collExtendFail c (started s 7) = none ∧ collOf s (c.num 16 2) = some aColl ∧ c.num 19 1 = 0 ∧
       creditsReady (addExtent (started s 7) (c.num 18 1) (c.num 16 2) (c.num 20 4)) 0 7 64) ∧
    (let c := aCmd 0x05 [(16, 2, 5)]
     let s := withCommand (withColl up aColl) c
     ready s 7 0x05 c ∧ collDestroyFail c (started s 7) = none ∧ collOf s (c.num 16 2) = some aColl ∧
       (∀ h, h < 16 → segBays s (c.num 16 2) h = 0) ∧ creditsReady (started s 7) 0 7 64) ∧
    (let c := aCmd 0x08 [(16, 2, 5), (18, 2, 9), (24, 8, 2 ^ 63 + 0x4000)]
     let s := withCommand (withBays (withColl up aColl)) c
     ready s 7 0x08 c ∧ permitWriteFail c (started s 7) = none ∧ collOf s (c.num 16 2) = some aColl ∧ c.num 20 1 = 0 ∧
       creditsReady (started s 7) 0 7 128) := by
  refine ⟨⟨⟨?_, ?_, ?_⟩, ?_, ?_, ?_, ?_, ?_, ?_⟩, ⟨⟨?_, ?_, ?_⟩, ?_, ?_, ?_, ?_, ?_⟩, ⟨⟨?_, ?_, ?_⟩, ?_, ?_, ?_, ?_, ?_⟩,
    ⟨?_, ?_, ?_⟩, ?_, ?_, ?_, ?_, ?_⟩ <;> decide

/-- What CompactionAndRebase assumes can be met. -/
theorem witness_CompactionAndRebase :
    (let c := aCmd 0x06 [(16, 2, 5), (18, 2, 1)]
     let s := withCommand (withColl up aColl) c
     ready s 7 0x06 c ∧ compactFail c (started s 7) = none ∧ collOf s (c.num 16 2) = some aColl) ∧
    (let k : Compaction := ⟨7, 5, 1, 0, 9, 0, 0, [(70, 1)], true, false⟩
     let x := { aColl with slots := [(70, aSlot)], writers := [7] }
     let s0 := modStair (withBays (withColl up x)) 0 fun t => { t with running := true }
     let s := { s0 with store := { s0.store with compactions := [k], journals := [(0, { resetJournal with granted := [(7, 1)] })] } }
     findCompaction s 7 = some k ∧ k.cmd = 7 ∧ collOf s k.coll = some x ∧ k.planned = true ∧ atLanding s k.hall = true ∧
       (journal s x.wing).granted.any (fun g => g.1 == 7) = true ∧ k.plan = [(70, 1)] ∧ 70 ≠ 1) ∧
    (let c := aCmd 0x07 [(16, 2, 5)]
     let s := withCommand (withColl up aColl) c
     ready s 7 0x07 c ∧ rebaseFail c (started s 7) = none ∧ collOf s (c.num 16 2) = some aColl ∧ aColl.rebase = .idle ∧
       aColl.rebaseCmds = []) ∧
    (let x := { aColl with slots := [(1, aSlot), (2, { aSlot with del := 4 })], rebase := .drain, rebaseE := 5, rebaseCmds := [7] }
     let s := withCommand (withColl up x) (aCmd 0x07 [(16, 2, 5)])
     collOf s 5 = some x ∧ x.rebase ≠ .idle ∧ heldViews s 5 = []) := by
  refine ⟨⟨⟨?_, ?_, ?_⟩, ?_, ?_⟩, ⟨?_, ?_, ?_, ?_, ?_, ?_, ?_, ?_⟩, ⟨⟨?_, ?_, ?_⟩, ?_, ?_, ?_, ?_⟩, ?_, ?_, ?_⟩ <;> decide

/-- What StoreCommandsWriteInOrder assumes can be met. -/
theorem witness_StoreCommandsWriteInOrder :
    (let c := aCmd 0x10 [(16, 2, 5), (20, 4, 1), (24, 8, 2 ^ 63 + 0x4000)]
     let s := withCommand (withBays (withColl up aColl)) c
     ready s 7 0x10 c ∧ storeFail 0x10 c (started s 7) = none ∧ collOf s (c.num 16 2) = some aColl) ∧
    (let c := aCmd 0x11 [(16, 2, 5), (18, 1, 1), (20, 4, 1), (24, 8, 2 ^ 63 + 0x4000)]
     let s := withCommand (withBays (withColl up aColl)) c
     ready s 7 0x11 c ∧ storeFail 0x11 c (started s 7) = none ∧ collOf s (c.num 16 2) = some aColl) ∧
    (let c := aCmd 0x12 [(16, 2, 5), (18, 1, 1), (20, 4, 1), (24, 8, 2 ^ 63 + 0x4000)]
     let s := withCommand (withBays (withColl up aColl)) c
     ready s 7 0x12 c ∧ storeFail 0x12 c (started s 7) = none ∧ collOf s (c.num 16 2) = some aColl) ∧
    (let c := { aCmd 0x10 [(16, 2, 5), (20, 4, 1)] with started := true, buf := block64 [(0, 1, 0xFF), (32, 8, 1001)] }
     let x := { aColl with writers := [7] }
     let s := withCommand (withBays (withColl up x)) c
     collOf s 5 = some x ∧ x.rebase = .idle ∧ x.rebuilding = false ∧ x.writers = [7] ∧ (journal s x.wing).waiters = [] ∧
       findCompaction s 7 = none ∧ 7 ∉ x.rebaseCmds ∧ findCmd s 7 = some c ∧ c.done = none ∧ c.opcode = 0x10 ∧ c.num 20 4 = 1 ∧
       x.epoch < 0xFFFFFFFE ∧ x.chosen = [] ∧ chooseSlots s 5 x 1 = some [(0, 0)] ∧ 0 < 2 ^ 30 ∧
       creditsReady s x.wing 7 (stagedBytes x [slotKey 0 0] []) ∧ halted s 0 = false) ∧
    (let x := { aColl with rebuilding := true }
     collOf (withColl up x) 5 = some x ∧ x.rebuilding = true) := by
  refine ⟨⟨⟨?_, ?_, ?_⟩, ?_, ?_⟩, ⟨⟨?_, ?_, ?_⟩, ?_, ?_⟩, ⟨⟨?_, ?_, ?_⟩, ?_, ?_⟩,
    ⟨?_, ?_, ?_, ?_, ?_, ?_, ?_, ?_, ?_, ?_, ?_, ?_, ?_, ?_, ?_, ⟨?_, ?_⟩, ?_⟩, ?_, ?_⟩ <;> decide

/-- What JournalMakesDurable assumes can be met. -/
theorem witness_JournalMakesDurable :
    (let c := aCmd 0x10 [(16, 2, 5)]
     let s := withCommand (withJournal up { resetJournal with waiters := [(7, 3, 0)] }) c
     (journal s 0).waiters = [(7, 3, 0)] ∧ creditsUsed s 0 + 3 ≤ getR s .ucrWCredits 0 ∧ findCmd s 7 = some c ∧ c.done = none ∧
       c.opcode ∈ [0x10, 0x11, 0x12]) ∧
    (let c := aCmd 0x10 [(16, 2, 5)]
     let s := withCommand (withJournal up { resetJournal with waiters := [(7, 3, 5)] }) c
     findCmd s 7 = some c ∧ creditWait s 7 = some (0, 5) ∧ c.delayed = false) ∧
    (let c := aCmd 0x13 [(16, 2, 5)]
     let s := withCommand (withColl up aColl) c
     ready s 7 0x13 c ∧ flushFail c (started s 7) = none ∧ c.num 16 2 ≠ 0xFFFF ∧ collOf s (c.num 16 2) = some aColl ∧ health s < 2 ∧
       (journal s (cmdWing s c)).running = false ∧ (journal s (cmdWing s c)).dirty = false) ∧
    (let s := withJournal up { resetJournal with uncovered := 4, dirty := true }
     hasUndercroft s = true ∧ 0 < wingCount s ∧ (journal s 0).recovering = false ∧ (journal s 0).running = false ∧
       0 < (journal s 0).uncovered ∧ health s < 2 ∧ uncopied s 0 = []) ∧
    (let s := withJournal up { resetJournal with covered := 4, running := true, seq := 9 }
     hasUndercroft s = true ∧ (journal s 0).running = true ∧ (journal s 0).seq < 2 ^ 64 ∧ (journal s 0).flushes = [] ∧
       (journal s 0).waiters = [] ∧ (journal s 0).again = false ∧ (journal s 0).uncovered = 0) ∧
    (hasUndercroft up = true ∧ 0 < wingCount up ∧ health up < 2 ∧ 0 < 3 ∧ (journal up 0).recovering = false ∧
       getR up .ucrWUsed 0 + 16384 * 3 ≤ getR up .wngWQuota 0 ∧ getR up .ucrWUsed 0 + 16384 * 3 < 2 ^ 64) ∧
    (let s := withJournal up { resetJournal with recovering := true }
     0 < 16 ∧ (journal s 0).recovering = true ∧ bit (getR s .devBoot) 8 = true) := by
  refine ⟨⟨?_, ?_, ?_, ?_, ?_⟩, ⟨?_, ?_, ?_⟩, ⟨⟨?_, ?_, ?_⟩, ?_, ?_, ?_, ?_, ?_, ?_⟩, ⟨?_, ?_, ?_, ?_, ?_, ?_, ?_⟩,
    ⟨?_, ?_, ?_, ?_, ?_, ?_, ?_⟩, ⟨?_, ?_, ?_, ?_, ?_, ?_, ?_⟩, ?_, ?_, ?_⟩ <;> decide

/-- What StairStreamsBays assumes can be met. -/
theorem witness_StairStreamsBays :
    (let s := setR up .trnSpillSize 16 3
     3 < 16 ∧ present s .hall 3 = true ∧ (stagedR s .trnSpillSize 3).getD (getR s .trnSpillSize 3) ≠ 0) ∧
    (3 < 16 ∧ present up .hall 3 = true) ∧
    (let s0 := setR (withBays (withColl up aColl)) .strCtrl 1 0
     let s := modStair s0 0 fun t => { t with running := true }
     0 < 16 ∧ present s .hall 0 = true ∧ mayMove s 0 = true ∧ quiet s ∧ (stair s 0).treads = [] ∧ (stair s 0).landing = [] ∧
       getR s .trnSpillSize 0 = 0 ∧ (stair s 0).extents[(stair s 0).headExt]? = some ⟨1, 5, 2⟩ ∧ (collOf s 5).isSome ∧
       (stair s 0).headBay + 1 < 2) ∧
    (let s := withQuery (modStair up 0 fun t => { t with treads := [(0, aTread)] }) aQuery
     let c := { aColl with slots := [(slotKey 0 0, ⟨3, noEpoch, 0xFF, 1001, []⟩)] }
     treadOf (stair s 0) 0 = aTread ∧ aTread.quarter = none ∧ findQuery s aTread.ctx = some aQuery ∧
       recordSkipped s 0 1 0 0 c.width aQuery.permitVer = false ∧ (c.slot 0 0).visible (aQuery.view.getD 0) = true ∧
       permitted s 0 0 aQuery = true ∧ poolBlocks (stair s 0) < 16384) := by
  refine ⟨⟨?_, ?_, ?_⟩, ⟨?_, ?_⟩, ⟨?_, ?_, ?_, ⟨?_, ?_, ?_⟩, ?_, ?_, ?_, ?_, ?_, ?_⟩, ?_, ?_, ?_, ?_, ?_, ?_, ?_⟩ <;> decide

/-- What TurnstileSelects assumes can be met. -/
theorem witness_TurnstileSelects :
    (let s := withQuery (modStair up 0 fun t => { t with treads := [(0, aTread)] }) aQuery
     treadOf (stair s 0) 0 = aTread ∧ aTread.state = .aboard ∧ aTread.passQueued = true ∧ findQuery s aTread.ctx = some aQuery ∧
       (ctl s 0).badLines = []) ∧
    (let s := withQuery (modStair up 0 fun t => { t with alighted := [anAlighted] }) aQuery
     alightedOf s 0 2 = some anAlighted ∧ findQuery s 2 = some aQuery ∧ anAlighted.spilled = false ∧ anAlighted.skipped ≤ 0xFFFF ∧ (ctl s 0).badLines = [] ∧
       s.store.queries = [aQuery] ∧ s.store.newel = [] ∧ s.store.ended = [] ∧ aQuery.source = .board 4 ∧
       aQuery.recs.length + 1 < aQuery.halls) ∧
    (let s := withQuery up { aQuery with waiting := 1 }
     findQuery s 2 = some { aQuery with waiting := 1 } ∧ ({ aQuery with waiting := 1 } : Query).waiting ≠ 0 ∧ aQuery.delayed = false ∧
       aQuery.account < 128) := by
  refine ⟨⟨?_, ?_, ?_, ?_, ?_⟩, ⟨?_, ?_, ?_, ?_, ?_, ?_, ?_, ?_, ?_, ?_⟩, ?_, ?_, ?_, ?_⟩ <;> decide

/-- What HallMemoryIsKept assumes can be met. -/
theorem witness_HallMemoryIsKept :
    (3 < 16 ∧ present up .hall 3 = true ∧ quiet up ∧ heatState up 3 < 3 ∧ selfRefresh up 3 = false ∧ thermalStep up 3 < 3) ∧
    (let s := setR (setR up .halScrubCfg 1 3) .halScrubPos 7 3
     bit (getR s .halScrubCfg 3) 0 = true ∧ thermalStep s 3 < 3 ∧ selfRefresh s 3 = false ∧ 0 < getR s .halScrubPos 3 ∧
       getR s .halScrubPos 3 + 1 < 805306368) ∧
    (let s := modCtl up 3 fun c => { c with repairs := [.phys 9] }
     (ctl s 3).repairs = [.phys 9] ∧ lineHeld s 3 (.phys 9) = false) ∧
    (hostLine 5 = false ∧ present up .hall (lineHall 5) = true ∧ 3 < 2 ^ 64 - 1 ∧ (block64 []).length = 64 ∧
      ((ctl up (lineHall 5)).wcb.find? fun e => e.line == 5 && !e.closed) = none ∧ (ctl up (lineHall 5)).wcb.length < 64) ∧
    (let s := modCtl up 0 fun c => { c with wcb := [anEntry] }
     ((ctl s (lineHall 5)).wcb.find? fun x => x.line == 5 && !x.closed) = some anEntry) := by
  refine ⟨⟨?_, ?_, ⟨?_, ?_, ?_⟩, ?_, ?_, ?_⟩, ⟨?_, ?_, ?_, ?_, ?_⟩, ⟨?_, ?_⟩, ⟨?_, ?_, ?_, ?_, ?_, ?_⟩, ?_⟩ <;> decide

/-- What UshersComputeIntegers assumes can be met. -/
theorem witness_UshersComputeIntegers :
    (let w := word32 1 1 2 3; atInsn (atWord up w) 0 .alu (atWord up w) w ∧ fPG w = 0 ∧ fFN w < 25) ∧
    (let w := word32 2 1 2 3; atInsn (atWord up w) 0 .addi (atWord up w) w) ∧
    (let w := word32 3 1 2 3; atInsn (atWord up w) 0 .andi (atWord up w) w) ∧
    (let w := word32 4 1 2 3; atInsn (atWord up w) 0 .ori (atWord up w) w) ∧
    (let w := word32 5 1 2 3; atInsn (atWord up w) 0 .xori (atWord up w) w) ∧
    (let w := word32 7 1 2 3; atInsn (atWord up w) 0 .slti (atWord up w) w) ∧
    (let w := word32 6 1 2 3; atInsn (atWord up w) 0 .shi (atWord up w) w ∧ bits w 25 7 = 0 ∧ bits w 23 2 < 3) ∧
    (let w := word64 0 1 0; atInsn (atWord up w) 0 .li (atWord up w) w ∧ bits w 12 20 = 0) ∧
    (let w := word64 1 1 0; atInsn (atWord up w) 0 .lih (atWord up w) w ∧ bits w 12 20 = 0) := by
  refine ⟨⟨?_, ?_, ?_⟩, ?_, ?_, ?_, ?_, ?_, ⟨?_, ?_, ?_⟩, ⟨?_, ?_⟩, ?_, ?_⟩ <;>
    first | (apply atInsn_of; decide) | decide

/-- What the reserved forms of UshersComputeIntegers assume can be met. -/
theorem witness_UshersComputeIntegers_reserved :
    (let w := word32 1 1 2 (25 * 2 ^ 8); atInsn (atWord up w) 0 .alu (atWord up w) w ∧ 25 ≤ fFN w) ∧
    (let w := word32 1 1 2 (1 * 2 ^ 5); atInsn (atWord up w) 0 .alu (atWord up w) w ∧ fFN w < 25 ∧ fPG w ≠ 0) ∧
    (let w := word32 6 1 2 0xC0; atInsn (atWord up w) 0 .shi (atWord up w) w ∧ bits w 23 2 = 3) ∧
    (let w := word32 6 1 2 0x100; atInsn (atWord up w) 0 .shi (atWord up w) w ∧ bits w 23 2 < 3 ∧ bits w 25 7 ≠ 0) ∧
    (let w := word64 0 1 1; atInsn (atWord up w) 0 .li (atWord up w) w ∧ bits w 12 20 ≠ 0) ∧
    (let w := word64 1 1 1; atInsn (atWord up w) 0 .lih (atWord up w) w ∧ bits w 12 20 ≠ 0) ∧
    (let w := word32 63 0 0 0
     fetchInsn (atWord up w) 0 (usher (atWord up w) 0).pc.toNat = .ok (atWord up w) w ∧ decodeOp w = none) := by
  refine ⟨⟨?_, ?_⟩, ⟨?_, ?_, ?_⟩, ⟨?_, ?_⟩, ⟨?_, ?_, ?_⟩, ⟨?_, ?_⟩, ⟨?_, ?_⟩, ?_, ?_⟩ <;>
    first | (apply atInsn_of; decide) | decide | rfl

/-- What UshersComputeOnLanes assumes can be met. -/
theorem witness_UshersComputeOnLanes :
    (let w := word32 8 1 2 3; atInsn (atWord up w) 0 .fpu (atWord up w) w ∧ fPG w = 0 ∧ bits w 25 6 = 0) ∧
    (let w := wordV 16 1 2 3 0 2 0; atInsn (atWord up w) 0 .varith (atWord up w) w ∧ varithBad (fVT w) (fFN4 w) = false ∧ fFN4 w = 0) ∧
    (let w := wordV 17 1 2 3 0 2 0; atInsn (atWord up w) 0 .vcmp (atWord up w) w ∧ fFN4 w = 0 ∧ bits w 10 2 = 0) ∧
    (let w := wordV 18 1 2 0 0 2 6; atInsn (atWord up w) 0 .vcvt (atWord up w) w ∧ fVT w ≠ bits w 28 3 ∧ fB w = 0 ∧
      vtLanes (fVT w) = vtLanes (bits w 28 3) ∧ bit w 31 = false) ∧
    (let w := wordV 18 1 2 0 0 1 6; atInsn (atWord up w) 0 .vcvt (atWord up w) w ∧ fVT w ≠ bits w 28 3 ∧ fB w = 0 ∧
      vtLanes (fVT w) ≠ vtLanes (bits w 28 3)) ∧
    (let w := wordV 19 1 2 3 0 2 5; atInsn (atWord up w) 0 .vperm (atWord up w) w ∧ (∀ b ∈ vpermZero w, b = false) ∧ fFN4 w = 5) ∧
    (let w := wordV 19 1 2 0 0 2 11; atInsn (atWord up w) 0 .vperm (atWord up w) w ∧ (∀ b ∈ vpermZero w, b = false) ∧ fFN4 w = 11) ∧
    (let w := wordV 19 1 2 3 0 2 2; atInsn (atWord up w) 0 .vperm (atWord up w) w ∧ (∀ b ∈ vpermZero w, b = false) ∧ fFN4 w = 2 ∧
      getS (atWord up w) 0 (fB w) < vtLanes (fVT w)) ∧
    (let w := wordV 19 1 2 3 0 2 7; atInsn (atWord up w) 0 .vperm (atWord up w) w ∧ (∀ b ∈ vpermZero w, b = false) ∧ fFN4 w = 7) ∧
    (let w := wordV 19 1 2 0 0 2 12; atInsn (atWord up w) 0 .vperm (atWord up w) w ∧ (∀ b ∈ vpermZero w, b = false) ∧ fFN4 w = 12) ∧
    (let w := wordV 20 1 2 0 0 6 0; atInsn (atWord up w) 0 .vred (atWord up w) w ∧ fB w = 0 ∧ fFN4 w < 3 ∧ 4 ≤ fVT w) ∧
    (let w := wordV 19 1 2 3 0 2 1; atInsn (atWord up w) 0 .vperm (atWord up w) w ∧ (∀ b ∈ vpermZero w, b = false) ∧ fFN4 w = 1 ∧
      getS (atWord up w) 0 (fB w) < vtLanes (fVT w)) ∧
    (let w := wordV 19 1 2 3 0 2 1
     let s := putS (atWord up w) 0 3 64
     atInsn s 0 .vperm s w ∧ fFN4 w = 1 ∧ vtLanes (fVT w) ≤ getS s 0 (fB w)) ∧
    (let w := wordV 20 1 2 0 0 2 0; atInsn (atWord up w) 0 .vred (atWord up w) w ∧ fB w = 0 ∧ fFN4 w < 7 ∧ fVT w < 4) := by
  refine ⟨⟨?_, ?_, ?_⟩, ⟨?_, ?_, ?_⟩, ⟨?_, ?_, ?_⟩, ⟨?_, ?_, ?_, ?_, ?_⟩, ⟨?_, ?_, ?_, ?_⟩, ⟨?_, ?_, ?_⟩, ⟨?_, ?_, ?_⟩,
    ⟨?_, ?_, ?_, ?_⟩, ⟨?_, ?_, ?_⟩, ⟨?_, ?_, ?_⟩, ⟨?_, ?_, ?_, ?_⟩, ⟨?_, ?_, ?_, ?_⟩, ⟨?_, ?_, ?_⟩, ?_, ?_, ?_, ?_⟩ <;> first | (apply atInsn_of; decide) | decide

/-- What UshersReachMemory assumes can be met. -/
theorem witness_UshersReachMemory :
    (let w := word32 9 1 2 3
     let s := withLines w 0x2000 0
     atInsn s 0 .ld s w ∧ scalarAddr s 0 w = 0x2000 ∧ bits w 17 3 < 7 ∧ 0x2000 % szBytes (bits w 17 3) = 0 ∧
       inL1 s 0 0x2000 (szBytes (bits w 17 3)) .load ⟨.e, bytesOf 64 5, false, 0⟩) ∧
    (let w := word32 9 1 2 3
     let s := withLines w 0x2001 0
     atInsn s 0 .ld s w ∧ bits w 17 3 < 7 ∧ scalarAddr s 0 w % szBytes (bits w 17 3) ≠ 0) ∧
    (let w := word32 10 3 2 3
     let s := withLines w 0x2000 77
     atInsn s 0 .st s w ∧ scalarAddr s 0 w = 0x2000 ∧ bits w 17 3 < 4 ∧ 0x2000 % szBytes (bits w 17 3) = 0 ∧
       inL1 s 0 0x2000 (szBytes (bits w 17 3)) .store ⟨.e, bytesOf 64 5, false, 0⟩) ∧
    (let w := wordV 21 1 2 0 0 2 0
     let s := withLines w 0x2000 0
     atInsn s 0 .vld s w ∧ vmAddr s 0 w = 0x2000 ∧ loadBytes s 0 0x2000 256 = .ok (loadedS s 0 0x2000 256) (loadedB s 0 0x2000 256)) ∧
    (let w := wordV 22 1 2 0 0 2 0
     let s := withLines w 0x2000 0
     let ps := burstParts 0x2000 4 (guardBits (getP s 0 0) 4 64) (getV s 0 1)
     atInsn s 0 .vst s w ∧ vmAddr s 0 w = 0x2000 ∧ (∀ p ∈ ps, accessFault s 0 (p.1 * 64) 64 .store = none) ∧
       storeLines s 0 ps = .ok (storedS s 0 ps) ()) ∧
    (let w := word32 14 1 2 3
     let s := withLines w 0x2000 77
     atInsn s 0 .atom s w ∧ bits w 25 4 < 10 ∧ fPG w = 0 ∧ bit w 31 = false ∧ getS s 0 (fA w) = 0x2000 ∧ bit w 29 = false ∧
       inL1 s 0 0x2000 4 .atomic ⟨.e, bytesOf 64 5, false, 0⟩) := by
  refine ⟨⟨?_, ?_, ?_, ?_, ?_⟩, ⟨?_, ?_, ?_⟩, ⟨?_, ?_, ?_, ?_, ?_⟩, ⟨?_, ?_, ?_⟩, ⟨?_, ?_, ?_, ?_⟩, ⟨?_, ?_, ?_, ?_, ?_, ?_, ?_⟩⟩ <;>
    first
    | (apply atInsn_of; decide)
    | (apply loads_of; decide)
    | (apply stores_of; decide)
    | decide
    | (refine ⟨?_, ?_, ?_, ?_, ?_, ?_⟩ <;> decide)

/-- What UshersSelectAndCombine assumes can be met. -/
theorem witness_UshersSelectAndCombine :
    (let w := wordV 15 4 2 3 0 1 0
     let s := withLines w 0x2000 3
     atInsn s 0 .argmax s w ∧ fPG w = 0 ∧ bits w 28 4 = 0 ∧ bits w 25 3 = 1 ∧ fD w = 4 ∧ getS s 0 (fB w) = 3 ∧ getS s 0 (fA w) = 0x2000 ∧
       loadBytes s 0 0x2000 6 = .ok (loadedS s 0 0x2000 6) (loadedB s 0 0x2000 6) ∧ (loadedB s 0 0x2000 6).length = 6) ∧
    (let w := word64 2 1 (2 + 3 * 2 ^ 5 + 4 * 2 ^ 15 + 5 * 2 ^ 20 + 2 * 2 ^ 30 + 2 ^ 38)
     let s := putS (putS (withLines w 0x2000 3) 0 4 0x2040) 0 5 0x2080
     let b := loadedB s 0 0x2000 6
     let t := loadedS s 0 0x2000 6
     let sel := selectRow 1 2 none (rowElems 3 b none)
     let ps := storeParts 0x2040 ((sel.winners.map fun x => bytesOf 4 x.idx).flatten) ++ storeParts 0x2080 (selectSummary 1 sel false false)
     atInsn s 0 .select s w ∧ bits w 53 11 = 0 ∧ bits w 42 8 = 2 ∧ bits w 50 3 = 1 ∧ bits w 22 5 = 0 ∧ bits w 37 5 = 0 ∧
       loadBytes s 0 0x2000 6 = .ok t b ∧ accessFault t 0 0x2040 (4 * sel.winners.length) .store = none ∧
       accessFault t 0 0x2080 48 .store = none ∧ storeLines t 0 ps = .ok (storedS t 0 ps) ()) ∧
    (let w := word64 4 1 (2 + 3 * 2 ^ 5 + 4 * 2 ^ 10 + 2 * 2 ^ 20)
     let s := putS (withLines w 0x2000 1) 0 4 64
     atInsn s 0 .vcomb s w ∧ bits w 30 2 = 0 ∧ bits w 32 3 = 2 ∧ bits w 35 29 = 0 ∧ getS s 0 (bits w 17 5) = 1 ∧
       getS s 0 (bits w 12 5) = 0x2000 ∧ getS s 0 (bits w 22 5) = 64 ∧
       loadBytes s 0 0x2000 256 = .ok (loadedS s 0 0x2000 256) (loadedB s 0 0x2000 256) ∧ (loadedB s 0 0x2000 256).length = 256) ∧
    (let w := word64 4 1 (2 + 3 * 2 ^ 5 + 4 * 2 ^ 10 + 2 * 2 ^ 20)
     let s := inCache (putS (withLines w 0x2000 2) 0 4 64) 132 (bytesOf 64 9)
     let t := loadedS s 0 0x2000 256
     atInsn s 0 .vcomb s w ∧ getS s 0 (bits w 17 5) = 2 ∧ getS s 0 (bits w 12 5) = 0x2000 ∧ getS s 0 (bits w 22 5) = 64 ∧
       loadBytes s 0 0x2000 256 = .ok t (loadedB s 0 0x2000 256) ∧ (loadedB s 0 0x2000 256).length = 256 ∧
       loadBytes t 0 0x2040 256 = .ok (loadedS t 0 0x2040 256) (loadedB t 0 0x2040 256) ∧ (loadedB t 0 0x2040 256).length = 256 ∧
       (getV (loadedS t 0 0x2040 256) 0 (fD w)).length = 256) := by
  refine ⟨⟨?_, ?_, ?_, ?_, ?_, ?_, ?_, ?_, ?_⟩, ⟨?_, ?_, ?_, ?_, ?_, ?_, ?_, ?_, ?_, ?_⟩, ⟨?_, ?_, ?_, ?_, ?_, ?_, ?_, ?_, ?_⟩,
    ?_, ?_, ?_, ?_, ?_, ?_, ?_, ?_, ?_⟩ <;>
    first
    | (apply atInsn_of; decide)
    | (apply loads_of; decide)
    | (apply stores_of; decide)
    | decide

/-- What UshersBranch assumes can be met. -/
theorem witness_UshersBranch :
    (let w := word32 11 1 2 3; atInsn (atWord up w) 0 .br (atWord up w) w ∧ bits w 17 3 = 3) ∧
    (let w := word32 11 1 0 6; atInsn (atWord up w) 0 .br (atWord up w) w ∧ bits w 17 3 = 6 ∧ bits w 10 2 = 0 ∧ bits w 12 5 = 0) ∧
    (let w := word32 11 1 2 6; atInsn (atWord up w) 0 .br (atWord up w) w ∧ 6 ≤ bits w 17 3 ∧ bits w 12 5 ≠ 0) ∧
    (let w := word32 12 1 2 3; atInsn (atWord up w) 0 .jal (atWord up w) w ∧ (usher (atWord up w) 0).pc.toNat % 4 = 0) ∧
    (let w := word32 13 1 2 3; atInsn (atWord up w) 0 .jalr (atWord up w) w) ∧
    (let w := word64 3 1 0; atInsn (atWord up w) 0 .jl (atWord up w) w ∧ bits w 12 20 = 0) := by
  refine ⟨⟨?_, ?_⟩, ⟨?_, ?_, ?_, ?_⟩, ⟨?_, ?_, ?_⟩, ⟨?_, ?_⟩, ?_, ?_, ?_⟩ <;> first | (apply atInsn_of; decide) | decide

/-- What UshersRunAndAreControlled assumes can be met. -/
theorem witness_UshersRunAndAreControlled_ushers_run_the_system :
    (let w := sysWord 0 0 0 0; atInsn (atWord up w) 0 .nop (atWord up w) w ∧ fPG w = 0 ∧ fD w = 0 ∧ fA w = 0 ∧ fB w = 0) ∧
    (let w := sysWord 1 0 0 0
     let s := withCommand (modUsher (atWord up w) 0 fun x => { x with cmd := some 7 }) (aCmd 0x20 [])
     atInsn s 0 .halt s w ∧ fPG w = 0 ∧ fD w = 0 ∧ fA w = 0 ∧ fB w = 0 ∧ deferredOf s 0 = [] ∧ openLines s 0 = [] ∧
       (usher s 0).cmd = some 7 ∧ findCmd s 7 = some (aCmd 0x20 []) ∧ (aCmd 0x20 []).done = none) ∧
    (let w := sysWord 2 1 0 0; atInsn (atWord up w) 0 .csrr (atWord up w) w ∧ fPG w = 0 ∧ fA w = 0 ∧ fB w = 0 ∧ (usherWing (atWord up w) 0).isSome) ∧
    (let w := sysWord 3 0 1 4; atInsn (atWord up w) 0 .csrw (atWord up w) w ∧ fPG w = 0 ∧ fD w = 0 ∧ fB w = 4 ∧
      (sreg (atWord up w) 0 (fA w)).toNat % 4 = 0) ∧
    (let w := sysWord 3 0 2 4
     let s := putS (atWord up w) 0 2 3
     atInsn s 0 .csrw s w ∧ fPG w = 0 ∧ fD w = 0 ∧ fB w = 4 ∧ getS s 0 (fA w) % 4 ≠ 0) ∧
    (let w := sysWord 4 1 0 0; atInsn (atWord up w) 0 .fence (atWord up w) w ∧ fPG w = 0 ∧ fA w = 0 ∧ fB w = 0 ∧ fD w = 1 ∧
      deferredOf (drainUsher (atWord up w) 0) 0 = []) ∧
    (let w := sysWord 5 0 0 0
     let s := modUsher (atWord up w) 0 fun x => { x with inHandler := true }
     atInsn s 0 .xret s w ∧ fPG w = 0 ∧ fD w = 0 ∧ fA w = 0 ∧ fB w = 0 ∧ deferredOf s 0 = [] ∧ (usher s 0).inHandler = true ∧
       (usher s 0).xpc.toNat % 4 = 0) ∧
    (let w := sysWord 6 0 2 0
     let s := modUsher (atWord up w) 0 fun x => { x with xvec := 0x3000 }
     atInsn s 0 .trap s w ∧ fPG w = 0 ∧ fD w = 0 ∧ fB w = 0 ∧ (usher s 0).xvec ≠ 0 ∧ (usher s 0).inHandler = false) ∧
    (let w := sysWord 6 0 2 0; atInsn (atWord up w) 0 .trap (atWord up w) w ∧ (usher (atWord up w) 0).xvec = 0) ∧
    (let w := sysWord 11 0 0 0; atInsn (atWord up w) 0 .iflush (atWord up w) w ∧ fPG w = 0 ∧ fD w = 0 ∧ fA w = 0 ∧ fB w = 0) := by
  refine ⟨⟨?_, ?_, ?_, ?_, ?_⟩, ⟨?_, ?_, ?_, ?_, ?_, ?_, ?_, ?_, ?_, ?_⟩, ⟨?_, ?_, ?_, ?_, ?_⟩, ⟨?_, ?_, ?_, ?_, ?_⟩, ⟨?_, ?_, ?_, ?_, ?_⟩,
    ⟨?_, ?_, ?_, ?_, ?_, ?_⟩, ⟨?_, ?_, ?_, ?_, ?_, ?_, ?_, ?_⟩, ⟨?_, ?_, ?_, ?_, ?_, ?_⟩, ⟨?_, ?_⟩, ?_, ?_, ?_, ?_, ?_⟩ <;>
    first | (apply atInsn_of; decide) | decide

/-- A descriptor of an engine's queue at 0x2000, and Usher 0 at an ISSUE. -/
def atIssue (fn : Nat) : State := withLines (sysWord fn 1 2 3) 0x2000 1

/-- Usher 0 at an instruction with a token outstanding. -/
def withToken (fn b : Nat) (st : Option Nat) : State :=
  modUsher (putS (putS (atWord up (sysWord fn 1 2 b)) 0 2 64) 0 3 500) 0 fun x => { x with tokens := [⟨64, 5, st⟩], issues := 1 }

/-- What UshersIssueAndWait assumes can be met. -/
theorem witness_UshersIssueAndWait :
    (let s := atIssue 7
     let w := sysWord 7 1 2 3
     atInsn s 0 .issue s w ∧ fPG w = 0 ∧ openLines s 0 = [] ∧ deferredOf s 0 = [] ∧ getS s 0 (fA w) = 0x2000 ∧ getS s 0 (fB w) = 1 ∧
       selBad 1 = false ∧ (usher s 0).tokens.length < 64 ∧ unitPresent s 1 0 = true ∧ (usherWing s 0).isSome ∧
       groupWing s (unitGroup 1 0) = usherWing s 0 ∧ loadBytes s 0 0x2000 64 = .ok (loadedS s 0 0x2000 64) (loadedB s 0 0x2000 64) ∧
       descLines 1 (loadedB s 0 0x2000 64) = 1 ∧ queueTakes (loadedS s 0 0x2000 64) 0 1 0 0 (loadedB s 0 0x2000 64) = true) ∧
    (let s := atIssue 8
     let w := sysWord 8 1 2 3
     atInsn s 0 .issuenb s w) ∧
    ((usher up 0).tokens.length < 64 ∧ (unitOf up 1 0).waiters = [] ∧ ∀ e ∈ up.units, e.2.waiters.any (fun w => w.1 == 0) = false ∧ e.2 ≠ idleUnit) ∧
    (let s := withToken 9 0 (some 3)
     let w := sysWord 9 1 2 0
     atInsn s 0 .wait s w ∧ fPG w = 0 ∧ deferredOf s 0 = [] ∧ tokenOf s 0 (getS s 0 (fA w)) = some ⟨64, 5, some 3⟩) ∧
    (let s := withToken 10 0 (some 3)
     let w := sysWord 10 1 2 0
     atInsn s 0 .test s w ∧ fPG w = 0 ∧ deferredOf s 0 = [] ∧ tokenOf s 0 (getS s 0 (fA w)) = some ⟨64, 5, some 3⟩) ∧
    (let s := atWord up (sysWord 10 1 2 0)
     let w := sysWord 10 1 2 0
     atInsn s 0 .test s w ∧ fPG w = 0 ∧ deferredOf s 0 = [] ∧ tokenOf s 0 (getS s 0 (fA w)) = none) ∧
    (let s := withToken 10 0 none
     let w := sysWord 10 1 2 0
     atInsn s 0 .test s w ∧ tokenOf s 0 (getS s 0 (fA w)) = some ⟨64, 5, none⟩) ∧
    (let s := withToken 9 3 none
     let w := sysWord 9 1 2 3
     atInsn s 0 .wait s w ∧ (usher s 0).st = .running ∧ tokenOf s 0 (getS s 0 (fA w)) = some ⟨64, 5, none⟩ ∧ 0 < getS s 0 (fB w)) ∧
    (let s := modUsher (withToken 9 3 none) 0 fun x => { x with st := .waiting, until_ := some 500 }
     let t := { s with now := 500 }
     let w := sysWord 9 1 2 3
     present s .usher 0 = true ∧ (usher s 0).st = .waiting ∧ (usher s 0).until_ = some 500 ∧
       (match fetchInsn t 0 (usher s 0).pc.toNat with | .ok r x => decide (r = t ∧ x = w) | _ => false) = true ∧ decodeOp w = some .wait ∧
       tokenOf t 0 (getS t 0 (fA w)) = some ⟨64, 5, none⟩ ∧ (usher t 0).st = .waiting) := by
  refine ⟨⟨?_, ?_, ?_, ?_, ?_, ?_, ?_, ?_, ?_, ?_, ?_, ?_, ?_, ?_⟩, ?_, ⟨?_, ?_, ?_⟩, ⟨?_, ?_, ?_, ?_⟩, ⟨?_, ?_, ?_, ?_⟩, ⟨?_, ?_, ?_, ?_⟩,
    ⟨?_, ?_⟩, ⟨?_, ?_, ?_, ?_⟩, ?_, ?_, ?_, ?_, ?_, ?_, ?_⟩ <;>
    first | (apply atInsn_of; decide) | (apply loads_of; decide) | decide

/-- What UshersRunAndAreControlled assumes can be met. -/
theorem witness_UshersRunAndAreControlled_ushers_are_controlled :
    (present up .usher 0 = true ∧ (usher up 0).st = .idle) ∧
    (let s := modUsher up 0 fun x => { x with st := .stopped }; present s .usher 0 = true ∧ (usher s 0).st = .stopped) ∧
    (let s := withCommand (modUsher up 0 fun x => { x with st := .running, cmd := some 7 }) (aCmd 0x20 [])
     present s .usher 0 = true ∧ usherLines s 0 = [] ∧ (usher s 0).st = .running ∧ (usher s 0).cmd = some 7 ∧
       findCmd s 7 = some (aCmd 0x20 []) ∧ (aCmd 0x20 []).done = none) := by
  refine ⟨⟨?_, ?_⟩, ⟨?_, ?_⟩, ?_, ?_, ?_, ?_, ?_, ?_⟩ <;> decide

/-- What EnginesMoveTiles assumes can be met. -/
theorem witness_EnginesMoveTiles :
    (let d := aDesc 0x21 [(16, 2, 4), (18, 2, 2), (20, 1, 1)]
     taking (atEngine d) 1 0 3 0x21 d ∧ tileZeroFail (engineAt (atEngine d) 0 d EngineEcc.none) 0 d = none) ∧
    (let d := aDesc 0x22 [(16, 8, 0x4000), (24, 2, 4), (26, 2, 1), (28, 1, 0)]
     taking (atEngine d) 1 0 3 0x22 d ∧ tileLoadFail (engineAt (atEngine d) 0 d EngineEcc.none) 0 d = none ∧
       readFail (engineAt (atEngine d) 0 d EngineEcc.none) 0x4000 4096 = none) ∧
    (let d := aDesc 0x23 [(16, 8, 0x4000), (24, 2, 4), (26, 2, 1)]
     taking (atEngine d) 1 0 3 0x23 d ∧ tileStoreFail (engineAt (atEngine d) 0 d EngineEcc.none) 0 d = none ∧
       ∀ i, i < 1 → (tileOf (engineAt (atEngine d) 0 d EngineEcc.none) 0 (4 + i)).poison = false) ∧
    (let d := aDesc 0x24 [(16, 2, 4), (18, 2, 5), (20, 2, 2)]
     taking (atEngine d) 1 0 3 0x24 d ∧ tileMoveFail (engineAt (atEngine d) 0 d EngineEcc.none) 0 d = none ∧
       ∀ i, i < 2 → (tileOf (engineAt (atEngine d) 0 d EngineEcc.none) 0 (4 + i)).poison = false) ∧
    (let d := aDesc 0x26 [(16, 8, 0x4000), (24, 2, 4), (26, 2, 3), (28, 4, 9)]
     taking (atEngine d) 1 0 3 0x26 d ∧ srfLoadFail (engineAt (atEngine d) 0 d EngineEcc.none) 0 d = none ∧
       readFail (engineAt (atEngine d) 0 d EngineEcc.none) 0x4000 6 = none) := by
  refine ⟨⟨⟨?_, ?_, ?_⟩, ?_⟩, ⟨⟨?_, ?_, ?_⟩, ?_, ?_⟩, ⟨⟨?_, ?_, ?_⟩, ?_, ?_⟩, ⟨⟨?_, ?_, ?_⟩, ?_, ?_⟩, ⟨?_, ?_, ?_⟩, ?_, ?_⟩ <;> decide

/-- What EnginesComputeOnTiles assumes can be met. -/
theorem witness_EnginesComputeOnTiles_engines_multiply_and_reduce :
    (let s1 := engineAt (atEngine anMma) 0 anMma EngineEcc.none
     taking (atEngine anMma) 1 0 3 0x20 anMma ∧ mmaFail s1 0 anMma = none ∧ (readMma anMma).init = true ∧ (readMma anMma).bell = false ∧
       (readMma anMma).fa = 0 ∧ rangesFail s1 (readMma anMma).reads = none) ∧
    (let s1 := engineAt (atEngine aReduce) 0 aReduce EngineEcc.none
     let x := readReduce aReduce
     taking (atEngine aReduce) 1 0 3 0x25 aReduce ∧ reduceFail s1 0 aReduce = none ∧ x.gallery = false ∧ x.fmt = 0 ∧ x.op < 2 ∧ x.init = true ∧
       rangesFail s1 x.reads = none) ∧
    (let s1 := engineAt (atEngine aTileReduce) 0 aTileReduce EngineEcc.none
     let x := readReduce aTileReduce
     taking (atEngine aTileReduce) 1 0 3 0x25 aTileReduce ∧ reduceFail s1 0 aTileReduce = none ∧ x.gallery = true ∧
       (∀ g ∈ x.srcTiles, (tileOf s1 0 g).poison = false) ∧ x.init = true) := by
  refine ⟨⟨⟨?_, ?_, ?_⟩, ?_, ?_, ?_, ?_, ?_⟩, ⟨⟨?_, ?_, ?_⟩, ?_, ?_, ?_, ?_, ?_, ?_⟩, ⟨?_, ?_, ?_⟩, ?_, ?_, ?_, ?_⟩ <;> decide

/-- What EnginesComputeOnTiles assumes can be met. -/
theorem witness_EnginesComputeOnTiles_engines_quantise :
    (let s1 := engineAt (atEngine aQuant) 0 aQuant EngineEcc.none
     taking (atEngine aQuant) 1 0 3 0x28 aQuant ∧ quantFail s1 0 aQuant = none ∧
       rangesFail s1 ((readQ aQuant).quantReads (streamCfg s1 0 (readQ aQuant).stream)) = none) ∧
    (let s1 := engineAt (atEngine aDequant) 0 aDequant EngineEcc.none
     taking (atEngine aDequant) 1 0 3 0x29 aDequant ∧ dequantFail s1 0 aDequant = none ∧
       rangesFail s1 ((readQ aDequant).dequantReads (streamCfg s1 0 (readQ aDequant).stream)) = none) ∧
    (let cfg := streamCfg up 0 0
     cfg.wide.idxOf? 3 = none ∧ { cfg with wide := [3] }.wide.idxOf? 3 = some 0) := by
  refine ⟨⟨⟨?_, ?_, ?_⟩, ?_, ?_⟩, ⟨⟨?_, ?_, ?_⟩, ?_, ?_⟩, ?_, ?_⟩ <;> decide

/-- What HallDescriptorsTakeEffect assumes can be met. -/
theorem witness_HallDescriptorsTakeEffect :
    (let s := withQueued (withBays (withColl up aColl)) 0 0 aBoard
     taking s 0 0 3 0x01 aBoard ∧ boardFail (acceptDesc s 0 0 aBoard) 0 aBoard = none ∧ collOf s (aBoard.num 24 2) = some aColl) ∧
    (let s := withBays (withColl up aColl)
     let q := boardQuery s aBoard 256
     quiet s ∧ collOf s q.coll = some aColl ∧ maskHalls aColl.halls = [0] ∧ boardingHalls s q.coll = [0] ∧ q.recs = [] ∧
       admitFail s q [0] = none ∧ (stair s 0).landing.length < 4096) ∧
    (let d : Desc := ⟨4, 0, .usher 0 128, 0, 0, block64 [(0, 1, 0x02), (16, 8, 64), (24, 1, 1), (25, 2, 9)], none⟩
     let q := { boardQuery up aBoard 256 with halls := 1, waiting := 1 }
     let s0 := modUsher (withBays (withColl up aColl)) 0 fun x => { x with tokens := [⟨64, 3, none⟩] }
     let s := withQueued { s0 with store := { s0.store with queries := [q] } } 0 0 d
     taking s 0 0 4 0x02 d ∧ boardedBy (acceptDesc s 0 0 d) 0 (d.num 16 8) = some q ∧
       treadSetFail (acceptDesc s 0 0 d) 0 d (some q) = none) ∧
    (let s := modStair up 0 fun t => { t with treads := [(0, aTread)], spillProd := 1024, alighted := [{ anAlighted with cands := [], treads := [] }] }
     let b := block64 [(18, 2, 2), (20, 2, 5)]
     present s .hall 0 = true ∧ numAt b 16 2 < 1024 ∧ treadOf (stair s 0) (numAt b 16 2) = aTread ∧ aTread.state = .aboard ∧
       aTread.ctx % 65536 = numAt b 18 2 ∧ (stair s 0).spillCons + 256 * numAt (block64 [(16, 4, 3)]) 16 4 ≤ (stair s 0).spillProd ∧
       anAlighted.ctx % 65536 = numAt (block64 [(16, 2, 2), (24, 8, 0x4000)]) 16 2 ∧ numAt (block64 [(24, 8, 0x4000)]) 24 8 % 64 = 0) ∧
    (let d := aDesc 0x10 []
     taking (withQueued up 0 0 d) 0 0 3 0x10 d ∧ d.queue ≠ 3) := by
  refine ⟨⟨⟨?_, ?_, ?_⟩, ?_, ?_⟩, ⟨⟨?_, ?_, ?_⟩, ?_, ?_, ?_, ?_, ?_, ?_⟩, ⟨⟨?_, ?_, ?_⟩, ?_, ?_⟩, ⟨?_, ?_, ?_, ?_, ?_, ?_, ?_, ?_⟩,
    ⟨?_, ?_, ?_⟩, ?_⟩ <;> decide

/-- What DescriptorsCompleteOrStop assumes can be met. -/
theorem witness_DescriptorsCompleteOrStop_descriptors_complete :
    (let s := withQueued up 4 0 aDmaCopy; taking s 4 0 3 0x50 aDmaCopy ∧ copyFail (acceptDesc s 4 0 aDmaCopy) 0 aDmaCopy = none) ∧
    (let s := withQueued up 4 0 aDmaFill; taking s 4 0 3 0x51 aDmaFill ∧ fillFail (acceptDesc s 4 0 aDmaFill) 0 aDmaFill = none) ∧
    1 < (linePart 0x8000 128 512).2 ∧
    (let d : Desc := { aDmaFill with issuer := .usher 0 64, result := some (0, 2) }
     ((unitOf (withAccepted up 4 0 d) 4 0).accepted.find? fun x => x.id == 3) = some d ∧ d.notify = false) ∧
    (let d : Desc := { aDmaFill with issuer := .command 7, result := some (0, 2) }
     let s := withCommand (withAccepted up 4 0 d) (aCmd 0x51 [])
     ((unitOf s 4 0).accepted.find? fun x => x.id == 3) = some d ∧ d.notify = false ∧ findCmd s 7 = some (aCmd 0x51 []) ∧
       (aCmd 0x51 []).done = none) ∧
    (let d : Desc := { aDesc 0x51 [(1, 1, 1), (8, 8, 0x9000)] with result := some (0, 2) }
     ((unitOf (withAccepted up 4 0 d) 4 0).accepted.find? fun x => x.id == 3) = some d ∧ d.notify = true) ∧
    (let d := aDesc 0x7F []
     let s := withQueued up 4 0 d
     ((unitOf s 4 0).accepted.find? fun x => x.id == 3) = none ∧ nextDescOf (unitOf s 4 0) = some d ∧ (classOps 4).contains d.op = false) := by
  refine ⟨⟨⟨?_, ?_, ?_⟩, ?_⟩, ⟨⟨?_, ?_, ?_⟩, ?_⟩, ?_, ⟨?_, ?_⟩, ⟨?_, ?_, ?_, ?_⟩, ⟨?_, ?_⟩, ?_, ?_, ?_⟩ <;> decide

/-- What DoorbellsAndFetch assumes can be met. -/
theorem witness_DoorbellsAndFetch :
    (hostReaches queuesOn = true ∧ fnExists queuesOn 0 = true ∧ bit (getR queuesOn .vstSqCfg 0) 31 = true ∧
      15 < 2 ^ fieldR queuesOn .vstSqCfg 0 5 0 ∧
      (∀ w ∈ [HostWrite.mk 0x20000 [1, 2]], ∀ l ∈ linesOf w.addr w.bytes.length, (lineRec queuesOn (2 ^ 57 + l)).holders = [])) ∧
    (bit (getR queuesOn .vstSqCfg 5) 31 = false ∧ 2 ^ fieldR queuesOn .vstSqCfg 0 5 0 ≤ 300 ∧ getR queuesOn .vstSqTail 0 = 0 ∧ eqEnabled queuesOn 0 7 = false) ∧
    (let s := setR queuesOn .vstEqTail 3 0
     eqEnabled s 0 0 = true ∧ 3 < eqSize s 0 0 ∧ heldOf s 0 0 = [] ∧
       (3 + eqSize s 0 0 - fieldR s .vstEqHead 0 16 0) % eqSize s 0 0 ≤
         (fieldR s .vstEqTail 0 16 0 + eqSize s 0 0 - fieldR s .vstEqHead 0 16 0) % eqSize s 0 0) ∧
    (let s := setR queuesOn .vstSqTail 1 0
     mayFetch s 0 = true ∧ nextQueueOf s 0 = some 0 ∧ stagedR s .vstSqCfg 0 = none ∧ s.store.power.moving = none ∧
       hostReadable s (entryAddr s 0 0) 64 = true ∧ hostPoisoned s (entryAddr s 0 0) 64 = false ∧ fieldR s .vstSqCfg 0 5 0 ≤ 16 ∧
       hostOpcodes.contains (hostByte s (entryAddr s 0 0)).toNat = true) ∧
    (let s := withCommand up (aCmd 0x20 []); findCmd s 7 = some (aCmd 0x20 []) ∧ mayStart s (aCmd 0x20 []) = true) := by
  refine ⟨⟨?_, ?_, ?_, ?_, ?_⟩, ⟨?_, ?_, ?_, ?_⟩, ⟨?_, ?_, ?_, ?_⟩, ⟨?_, ?_, ?_, ?_, ?_, ?_, ?_, ?_⟩, ?_, ?_⟩ <;> decide

/-- What QueuesAndCompletions assumes can be met. -/
theorem witness_QueuesAndCompletions_commands_complete :
    (let c := { aPfCmd 0 [] with done := some (plain 0) }
     let s := withCommand queuesOn c
     findCmd s 7 = some c ∧ c.eq < 16 ∧ c.sq < 64 ∧ eqEnabled s 0 0 = true ∧ eqFull s 0 0 = false ∧ heldOf s 0 0 = [] ∧
       hostWritable s 0x10000 64 = true ∧ getR s .vstEqBase 0 + 64 * fieldR s .vstEqTail 0 16 0 = 0x10000 ∧ fieldR s .vstEqCfg 0 5 0 ≤ 16) ∧
    (let c := aPfCmd 0 []
     let s := withCommand up c
     ready s 7 0x00 c ∧ c.sq < 64 ∧ entryOk (started s 7) c .anyone []) := by
  refine ⟨⟨?_, ?_, ?_, ?_, ?_, ?_, ?_, ?_, ?_⟩, ⟨?_, ?_, ?_⟩, ?_, ⟨?_, ?_, ?_⟩⟩ <;> decide

/-- What QueuesAndCompletions assumes can be met. -/
theorem witness_QueuesAndCompletions_queues_are_enabled :
    (let v := 0x00010005 + 2 ^ 31
     hostReaches queuesOn = true ∧ fnExists queuesOn 0 = true ∧ sqRunning queuesOn 0 1 = false ∧ clearBits v 0x80FF0F1F = 0 ∧
       clearBits (getR queuesOn .vstSqCfg 1) 0x80FF0F1F = 0 ∧ 4 ≤ bits v 0 5 ∧ bits v 0 5 ≤ 16 ∧ bits v 16 8 ≠ 0 ∧ eqEnabled queuesOn 0 (bits v 8 4) = true) ∧
    bit (getR queuesOn .vstSqCfg 0) 31 = true ∧
    (let v := 0x00000105 + 2 ^ 31
     eqEnabled queuesOn 0 1 = false ∧ clearBits v 0x8000011F = 0 ∧ clearBits (getR queuesOn .vstEqCfg 1) 0x8000011F = 0 ∧ 4 ≤ bits v 0 5 ∧
       bits v 0 5 ≤ 16) ∧
    (let s := setR queuesOn .vstEqCfg 0x80000004 1; eqEnabled s 0 1 = true ∧ eqInUse s 0 1 = false) ∧
    (eqEnabled queuesOn 0 0 = true ∧ eqInUse queuesOn 0 0 = true) := by
  refine ⟨⟨?_, ?_, ?_, ?_, ?_, ?_, ?_, ?_, ?_⟩, ?_, ⟨?_, ?_, ?_, ?_, ?_⟩, ⟨?_, ?_⟩, ?_, ?_⟩ <;> decide

/-- What CommandsReachUnits assumes can be met. -/
theorem witness_CommandsReachUnits :
    (let c := aCmd 0x40 [(16, 2, 3), (24, 8, 0x1000), (32, 8, 11)]
     let s := withCommand up c
     ready s 7 0x40 c ∧ runFail c (started s 7) = none) ∧
    (let c := aCmd 0x41 [(17, 1, 0)]
     let s := withCommand up c
     ready s 7 0x41 c ∧ present s .lantern (c.num 17 1) = true ∧ carryFail (started s 7) c false = none ∧
       groupWing s (c.num 17 1) = some (cmdWing s c) ∧ hasRoom s 2 (c.num 17 1) 3 c.entry = true) ∧
    (let c := aCmd 0x42 [(16, 2, 1), (24, 8, 0x4000)]
     let s := withCommand up c
     ready s 7 0x42 c ∧ present s .lantern (c.num 18 1) = true ∧ carryFail (started s 7) c false = none ∧
       groupWing s (c.num 18 1) = some (cmdWing s c) ∧ hasRoom s 2 (c.num 18 1) 3 c.entry = true) ∧
    (let c := aCmd 0x43 [(16, 8, 0x4000), (24, 8, 0x8000), (32, 8, 128)]
     let s := withCommand up c
     ready s 7 0x43 c ∧ carryFail (started s 7) c false = none ∧ dmaEngine s (cmdWing s c) = some 0 ∧ hasRoom s 4 0 3 c.entry = true ∧
       c.entry.length = 64) ∧
    (let c := aCmd 0x44 [(24, 8, 0x8000), (32, 8, 128)]
     let s := withCommand up c
     ready s 7 0x44 c ∧ carryFail (started s 7) c false = none ∧ dmaEngine s (cmdWing s c) = some 0 ∧ hasRoom s 4 0 3 c.entry = true) ∧
    (let c := aCmd 0x44 [(24, 8, 0x8000), (32, 8, 128)]
     let s := withCommand (modUnit up 4 0 fun x => { x with queued := List.replicate 32 { aDmaFill with queue := 3 } }) c
     findCmd s 7 = some c ∧ dmaEngine s (cmdWing s c) = some 0 ∧ hasRoom s 4 0 3 c.entry = false) := by
  refine ⟨⟨⟨?_, ?_, ?_⟩, ?_⟩, ⟨⟨?_, ?_, ?_⟩, ?_, ?_, ?_, ?_⟩, ⟨⟨?_, ?_, ?_⟩, ?_, ?_, ?_, ?_⟩, ⟨⟨?_, ?_, ?_⟩, ?_, ?_, ?_, ?_⟩,
    ⟨⟨?_, ?_, ?_⟩, ?_, ?_, ?_⟩, ?_, ?_, ?_⟩ <;> decide

/-- What FunctionsHostAndResets assumes can be met. -/
theorem witness_FunctionsHostAndResets_functions_and_link_reset :
    (hostReaches up = true ∧ fnExists up 2 = true ∧ quiet up ∧ up.ushers = [] ∧ up.vst.linkUp = true) ∧
    (let s : State := { up with vst := { up.vst with linkUp := false } }
     s.vst.linkUp = false ∧ s.oam.powerGood = true ∧ s.oam.perst = false) ∧
    (8 ≤ tenantCount up ∧ up.vst.numVfs ≤ 8) := by
  refine ⟨⟨?_, ?_, ⟨?_, ?_, ?_⟩, ?_, ?_⟩, ⟨?_, ?_, ?_⟩, ?_, ?_⟩ <;> decide

/-- What FunctionsHostAndResets assumes can be met. -/
theorem witness_FunctionsHostAndResets_host_reaches_memory_and_resets :
    (hostReaches up = true ∧ (∀ l ∈ linesOf 0xFFFFFFF000 4, bar2Reaches up (l * 64) = false)) ∧
    (bar2Reaches up (256 * 64) = true ∧ hostBias up 256 = false) ∧ fnExists up 2 = true ∧
    (present up .engine 5 = true ∧ quiet up ∧ unitOf up 1 5 = idleUnit) := by
  refine ⟨⟨?_, ?_⟩, ⟨?_, ?_⟩, ?_, ?_, ⟨?_, ?_, ?_⟩, ?_⟩ <;> decide

/-- What NamespacesAreKept assumes can be met. -/
theorem witness_NamespacesAreKept :
    (let c := aCmd 0x25 [(24, 8, 0x4000), (32, 8, 0x5000)]
     let s := withCommand (onesTable (withHost up 0x4000 anNsDesc) 0x5000 128) c
     ready s 7 0x25 c ∧ nsCreateFail c (started s 7) = none ∧ creditsReady (started s 7) (cmdWing (started s 7) c) 7 384) ∧
    (let c := aCmd 0x26 [(20, 4, 3), (24, 8, 0x4000)]
     let s := withCommand (withNamespace (withHost up 0x4000 anNsDesc)) c
     ready s 7 0x26 c ∧ nsSetFail c (started s 7) = none ∧ ownNs (started s 7) c = some anNs ∧ nsBlocks s anNs = [] ∧
       creditsReady (started s 7) (cmdWing (started s 7) c) 7 128) ∧
    (let c := aCmd 0x27 [(20, 4, 3), (24, 8, 0x4000)]
     let s := withCommand (withNamespace up) c
     ready s 7 0x27 c ∧ nsInfoFail c (started s 7) = none ∧
       nsFor (started s 7) c.tenant (cmdWing (started s 7) c) (c.num 16 1) (c.num 20 4) = some anNs) ∧
    (let c := aCmd 0x28 [(20, 4, 3)]
     let s := withCommand (withBlock up aBlock) c
     ready s 7 0x28 c ∧ nsDestroyFail c (started s 7) = none ∧ ownNs (started s 7) c = some anNs ∧
       creditsReady (started s 7) (cmdWing (started s 7) c) 7 128) := by
  refine ⟨⟨⟨?_, ?_, ?_⟩, ?_, ?_, ?_⟩, ⟨⟨?_, ?_, ?_⟩, ?_, ?_, ?_, ?_, ?_⟩, ⟨⟨?_, ?_, ?_⟩, ?_, ?_⟩, ⟨?_, ?_, ?_⟩, ?_, ?_, ?_, ?_⟩ <;> decide

/-- What PowerStatesChange assumes can be met. -/
theorem witness_PowerStatesChange :
    (let c := aPfCmd 0x60 [(16, 8, 0x4000), (24, 8, 0x5000)]
     let s := withCommand (withHost up 0x4000 (block64 [(0, 1, 1)])) c
     ready s 7 0x60 c ∧ powerStateFail c (started s 7) = none ∧ numAt (argBytes s c) 0 1 ≠ s.store.power.current) ∧
    (let c := aPfCmd 0x60 [(16, 8, 0x4000), (24, 8, 0x5000)]
     let s := withCommand up c
     ready s 7 0x60 c ∧ powerStateFail c (started s 7) = none ∧ numAt (argBytes s c) 0 1 = s.store.power.current) ∧
    (let c := aPfCmd 0x60 [(16, 8, 0x4000), (24, 8, 0x5000)]
     let s := moving (withCommand up c) 0 1 5 false
     powerQuiet s 7 = true ∧ findCmd s 7 = some c ∧ c.done = none) ∧
    (let c := aPfCmd 0x60 [(16, 8, 0x4000), (24, 8, 0x5000)]
     let s := moving (withCommand up c) 1 2 5 true
     powerQuiet s 7 = true ∧ (∀ w ∈ committingWings s, (journal s w).running = false) ∧ hasUndercroft s = true ∧ health s < 2) := by
  refine ⟨⟨⟨?_, ?_, ?_⟩, ?_, ?_⟩, ⟨⟨?_, ?_, ?_⟩, ?_, ?_⟩, ⟨?_, ?_, ?_⟩, ?_, ?_, ?_, ?_⟩ <;> decide

/-- What ShardMapsSwitch assumes can be met. -/
theorem witness_ShardMapsSwitch :
    (let s := withArg up 0x61 [(0, 1, 3), (1, 1, 1)]
     ready s 7 0x61 (argCmd 0x61) ∧ mapPrepareFail (argCmd 0x61) (started s 7) = none) ∧
    (let s := withArg (inSync (withMap up aPrepared)) 0x62 [(0, 1, 3), (4, 4, 4), (8, 8, 77), (24, 8, 20000), (32, 4, 9)]
     ready s 7 0x62 (argCmd 0x62) ∧ mapCommitFail (argCmd 0x62) (started s 7) = none) ∧
    (let s := withArg (withMap up aPrepared) 0x63 [(0, 1, 3), (4, 4, 4)]
     ready s 7 0x63 (argCmd 0x63) ∧ mapAbortFail (argCmd 0x63) (started s 7) = none) ∧
    (let s := withCommand (withMap up { aPrepared with state := .committed, cmd := some 7, t := 50, outAddr := 0x5000 }) (argCmd 0x62)
     (mapOf s 3).state = .committed ∧ (mapOf s 3).cmd = some 7 ∧ findCmd s 7 = some (argCmd 0x62) ∧ (argCmd 0x62).done = none) ∧
    (mapOf (withMap up { aPrepared with state := .grace }) 3).state = .grace := by
  refine ⟨⟨⟨?_, ?_, ?_⟩, ?_⟩, ⟨⟨?_, ?_, ?_⟩, ?_⟩, ⟨⟨?_, ?_, ?_⟩, ?_⟩, ⟨?_, ?_, ?_, ?_⟩, ?_⟩ <;> decide

/-- What CollectionParametersChange assumes can be met. -/
theorem witness_CollectionParametersChange :
    (let s := withArg (withColl up aColl) 0x64 [(0, 2, 5), (2, 1, 3), (8, 4, 6), (12, 4, 7)]
     ready s 7 0x64 (argCmd 0x64) ∧ collChangePrepareFail (argCmd 0x64) (started s 7) = none ∧ openColl s 5 = some aColl) ∧
    (let x := { aColl with change := some ⟨0, some 6, some 7, []⟩ }
     let s := withArg (withColl up x) 0x65 [(0, 2, 5)]
     ready s 7 0x65 (argCmd 0x65) ∧ collChangeCommitFail (argCmd 0x65) (started s 7) = none ∧ openColl s 5 = some x) := by
  refine ⟨⟨⟨?_, ?_, ?_⟩, ?_, ?_⟩, ⟨?_, ?_, ?_⟩, ?_, ?_⟩ <;> decide

/-- What WingsAndTenantsAreSet assumes can be met. -/
theorem witness_WingsAndTenantsAreSet :
    (let s := withArg unowned 0x66 [(0, 1, 2), (1, 1, 7), (2, 2, 6), (8, 8, 0), (16, 1, 1), (17, 1, 3), (18, 2, 100)]
     ready s 7 0x66 (argCmd 0x66) ∧ wingSetFail (argCmd 0x66) (started s 7) = none) ∧
    (let s := withArg up 0x67 [(0, 1, 3), (1, 1, 3), (3, 1, 2), (4, 1, 4), (5, 1, 5), (6, 2, 6), (8, 4, 77)]
     ready s 7 0x67 (argCmd 0x67) ∧ tenantSetFail (argCmd 0x67) (started s 7) = none) := by
  refine ⟨⟨⟨?_, ?_, ?_⟩, ?_⟩, ⟨?_, ?_, ?_⟩, ?_⟩ <;> decide

/-- What SharedTimeIsKept assumes can be met. -/
theorem witness_SharedTimeIsKept :
    portActive (activePort up 5) 5 = true ∧
    (let s := received (activePort up 5) 5 1 (probeBytes 1 3 1000 0 1 ++ bytesOf 8 2000)
     portActive s 5 = true ∧ rxFront s 5 1 = some (probeBytes 1 3 1000 0 1 ++ bytesOf 8 2000) ∧ numAt (probeBytes 1 3 1000 0 1 ++ bytesOf 8 2000) 0 1 = 1) ∧
    (let s := probed (activePort up 5) 1100 1200 1500
     ((rxFront s 5 1).map fun b => (numAt b 0 1, numAt b 2 2, bit (numAt b 32 1) 0)) = some (2, 3, true) ∧ (portOf s 5).probe = some (3, 1000) ∧
       upstream s ≠ some 5) ∧
    (let s := probed (inSync (following (activePort up 5))) 1100 1200 1500
     upstream s = some 5 ∧ synced s = true) ∧
    (timekeeper up = false ∧ synced (inSync up) = true) ∧ timekeeper (setR up .timCtrl 1) = true := by
  refine ⟨?_, ⟨?_, ?_, ?_⟩, ⟨?_, ?_, ?_⟩, ⟨?_, ?_⟩, ⟨?_, ?_⟩, ?_⟩ <;> decide

/-- What LanternHandlesEvents assumes can be met. -/
theorem witness_LanternHandlesEvents :
    (let s := modCore (coreRuns up) 0 fun x => { x with net := [(16, ⟨2 ^ 22, 3⟩)] }
     (lcore s 0).net.find? (fun x => x.1 == 16) = some (16, ⟨2 ^ 22, 3⟩) ∧ wouldDrop s 0 = false) ∧
    (let s := modCore up 0 fun x => { x with net := [(16, ⟨2 ^ 22, 3⟩)] }
     present s .lantern 0 = true ∧ (lcore s 0).net.find? (fun x => x.1 == 16) = some (16, ⟨2 ^ 22, 3⟩) ∧ wouldDrop s 0 = true) ∧
    (let s := modCore { coreRuns up with now := 10000 } 0 fun x => { x with buffer := [⟨3 * 2 ^ 22 + 7, 5⟩] }
     coreOn s 0 = true ∧ lanternFrozen s = false ∧ dueEvent (coreLanding s 0) 0 = some (⟨3 * 2 ^ 22 + 7, 5⟩, false) ∧
       synapsesOf (coreLanding s 0) 0 ⟨3 * 2 ^ 22 + 7, 5⟩ LntBad.none = []) ∧
    (let s := spiking 20
     let n := leakTo (coreLanding s 0) 0 (neuronOf (lcore s 0) 3) 5
     dueEvent (coreLanding s 0) 0 = some (⟨3 * 2 ^ 22 + 7, 5⟩, false) ∧ synapsesOf (coreLanding s 0) 0 ⟨3 * 2 ^ 22 + 7, 5⟩ LntBad.none = [(3, 9)] ∧
       sat16 (potOf n + 9) < (bits n 16 15 : Int)) ∧
    (let s := spiking 9
     let n := leakTo (coreLanding s 0) 0 (neuronOf (lcore s 0) 3) 5
     dueEvent (coreLanding s 0) 0 = some (⟨3 * 2 ^ 22 + 7, 5⟩, false) ∧ synapsesOf (coreLanding s 0) 0 ⟨3 * 2 ^ 22 + 7, 5⟩ LntBad.none = [(3, 9)] ∧
       bits n 16 15 ≠ 0 ∧ (bits n 16 15 : Int) ≤ sat16 (potOf n + 9) ∧ 1 ∈ maskHalls (bits n 48 16)) := by
  refine ⟨⟨?_, ?_⟩, ⟨?_, ?_, ?_⟩, ⟨?_, ?_, ?_, ?_⟩, ⟨?_, ?_, ?_⟩, ?_, ?_, ?_, ?_, ?_⟩ <;> decide

/-- What LanternWindowsAndTables assumes can be met. -/
theorem witness_LanternWindowsAndTables :
    (coreOn (coreRuns up) 0 = true ∧ lanternFrozen (coreRuns up) = false ∧ windowBusy (coreRuns up) 0 = false ∧
      ((lcore (coreRuns up) 0).actions.any fun e => decide (bits e.2.toNat 4 4 ≠ 0)) = false) ∧
    (let s := withQueued up 2 0 aLoad
     taking s 2 0 3 0x30 aLoad ∧ lanternIdle s 0 = true ∧ loadFail (acceptDesc s 2 0 aLoad) 0 aLoad = none ∧
       coreOn (touchRead (acceptDesc s 2 0 aLoad) (some 0) 0x4000 16) 0 = false) ∧
    (let s := withQueued (coreRuns up) 2 0 aLoad
     taking s 2 0 3 0x30 aLoad ∧ lanternIdle s 0 = true ∧ loadFail (acceptDesc s 2 0 aLoad) 0 aLoad = none ∧
       coreOn (touchRead (acceptDesc s 2 0 aLoad) (some 0) 0x4000 16) 0 = true) ∧
    (lcore (modCore (coreRuns up) 0 fun x => { x with loads := [⟨3, 0, 3, []⟩] }) 0).loads = [⟨3, 0, 3, []⟩] ∧
    (let s := withQueued (coreRuns up) 2 0 anInject
     let r := touchRead (acceptDesc s 2 0 anInject) (some 0) 0x4000 16
     taking s 2 0 3 0x31 anInject ∧ lanternIdle s 0 = true ∧ injectFail (acceptDesc s 2 0 anInject) 0 anInject = none ∧ coreOn r 0 = true ∧
       lanternFrozen r = false ∧ (lcore r 0).buffer.length + 1 ≤ 4096) := by
  refine ⟨⟨?_, ?_, ?_, ?_⟩, ⟨⟨?_, ?_, ?_⟩, ?_, ?_, ?_⟩, ⟨⟨?_, ?_, ?_⟩, ?_, ?_, ?_⟩, ?_, ⟨?_, ?_, ?_⟩, ?_, ?_, ?_, ?_, ?_⟩ <;> decide

/-- What BlocksAreProbedAndMoved assumes can be met. -/
theorem witness_BlocksAreProbedAndMoved_cloister_probes :
    (let s := withCommand (keyed true aBlock) probeCmd
     let u := started s 7
     ready s 7 0x20 probeCmd ∧
       ((entryFail u probeCmd .tenant (probeChecks u (hostCls u probeCmd))).or (probeBuffers u (hostCls u probeCmd))) = none) ∧
    (let d := descOf probeCmd 0x40
     let s := withQueued (keyed true aBlock) 3 0 d
     let u := acceptDesc s 3 0 d
     taking s 3 0 3 0x40 d ∧ ((descFail u 3 0 d (probeChecks u (descCls d))).or (probeBuffers u (descCls d))) = none ∧ (descCls d).ns u = some anNs) := by
  refine ⟨⟨⟨?_, ?_, ?_⟩, ?_⟩, ⟨?_, ?_, ?_⟩, ?_, ?_⟩ <;> decide

/-- What CloisterGets assumes can be met. -/
theorem witness_CloisterGets :
    (let s := withCommand (withNamespace up) getCmd
     let u := started s 7
     let k := hostCls u getCmd
     ready s 7 0x21 getCmd ∧ ((entryFail u getCmd .tenant (getChecks u k)).or (readFail u (k.num 32 8) (16 * k.num 24 2))) = none ∧
       k.ns u = some anNs ∧ 0 < k.num 24 2 ∧ bit (k.num 17 1) 0 = false ∧
       ∀ key ∈ keysAt u (k.num 32 8) (k.num 24 2), findBlock (touchRead u (some k.wing) (k.num 32 8) (16 * k.num 24 2)) anNs.owner anNs.nsId key = none) ∧
    (let d := descOf getCmd 0x41
     let s := withQueued (withNamespace up) 3 0 d
     let u := acceptDesc s 3 0 d
     let k := descCls d
     taking s 3 0 3 0x41 d ∧ ((descFail u 3 0 d (getChecks u k)).or (readFail u (k.num 32 8) (16 * k.num 24 2))) = none ∧ k.ns u = some anNs) ∧
    (let u := keyed false aBlock
     let k := hostCls u getCmd
     let v := touchRead u (some k.wing) (k.num 32 8) 16
     k.num 24 2 = 1 ∧ k.num 18 1 = 0 ∧ (∀ key ∈ keysAt u (k.num 32 8) 1, findBlock v anNs.owner anNs.nsId key = some aBlock) ∧
       nsHalted v anNs = false ∧ (memPut v (some k.wing) (k.num 40 8) [1]).2 = 0) := by
  refine ⟨⟨⟨?_, ?_, ?_⟩, ?_, ?_, ?_, ?_, ?_⟩, ⟨⟨?_, ?_, ?_⟩, ?_, ?_⟩, ?_, ?_, ?_, ?_, ?_⟩ <;> decide

/-- What CloisterPuts assumes can be met. -/
theorem witness_CloisterPuts :
    (let s := withCommand (putting 0x100000) putCmd
     let u := started s 7
     let k := hostCls u putCmd
     ready s 7 0x22 putCmd ∧ ((entryFail u putCmd .tenant (putChecks u k)).or (putFail u k)) = none ∧ k.ns u = some anNs) ∧
    (let d := descOf putCmd 0x42
     let s := withQueued (putting 0x100000) 3 0 d
     let u := acceptDesc s 3 0 d
     let k := descCls d
     taking s 3 0 3 0x42 d ∧ ((descFail u 3 0 d (putChecks u k)).or (putFail u k)) = none ∧ k.ns u = some anNs) ∧
    (let u := putting 0x100000
     (given u).filter (fun x => (findBlock u anNs.owner anNs.nsId x.2.1).isNone) ≠ [] ∧ nsHalted u anNs = false ∧
       makeRoom anNs 1 1 u (nsBlocks u anNs).length = some u ∧ u.cloister.blocks.length + 1 ≤ 2 ^ 22 ∧ putHandles u anNs 4 ≠ none) ∧
    (let n := { anNs with hallQuota := 0 }
     let u := putting 0
     nsHalted u n = false ∧ makeRoom n 1 1 u (nsBlocks u n).length = none) ∧
    nsHalted (setR (putting 0) .halStatus 4 0) anNs = true ∧
    (let c := listCmd 0x23 1
     let s := withCommand (keyed false aBlock) c
     let u := started s 7
     let k := hostCls u c
     ready s 7 0x23 c ∧ ((entryFail u c .tenant (listChecks u k true)).or (listFail u k)) = none ∧ k.ns u = some anNs ∧ (runPin u k anNs).status = 0) ∧
    (let d := descOf (listCmd 0x23 1) 0x43
     let d1 := { d with bytes := overlay d.bytes 17 (bytesOf 1 1) }
     let s := withQueued (keyed false aBlock) 3 0 d1
     let u := acceptDesc s 3 0 d1
     taking s 3 0 3 0x43 d1 ∧ ((descFail u 3 0 d1 (listChecks u (descCls d1) true)).or (listFail u (descCls d1))) = none ∧ (descCls d1).ns u = some anNs) ∧
    (let c := listCmd 0x24 0
     let s := withCommand (keyed false aBlock) c
     let u := started s 7
     let k := hostCls u c
     ready s 7 0x24 c ∧ ((entryFail u c .tenant (listChecks u k false)).or (listFail u k)) = none ∧ k.ns u = some anNs) ∧
    (let d := descOf (listCmd 0x24 0) 0x44
     let s := withQueued (keyed false aBlock) 3 0 d
     let u := acceptDesc s 3 0 d
     taking s 3 0 3 0x44 d ∧ ((descFail u 3 0 d (listChecks u (descCls d) false)).or (listFail u (descCls d))) = none ∧ (descCls d).ns u = some anNs) := by
  refine ⟨⟨⟨?_, ?_, ?_⟩, ?_, ?_⟩, ⟨⟨?_, ?_, ?_⟩, ?_, ?_⟩, ⟨?_, ?_, ?_, ?_, ?_⟩, ⟨?_, ?_⟩, ?_, ⟨⟨?_, ?_, ?_⟩, ?_, ?_, ?_⟩, ⟨⟨?_, ?_, ?_⟩, ?_, ?_⟩,
    ⟨⟨?_, ?_, ?_⟩, ?_, ?_⟩, ⟨?_, ?_, ?_⟩, ?_, ?_⟩ <;> decide

/-- What BlocksAreProbedAndMoved assumes can be met. -/
theorem witness_BlocksAreProbedAndMoved_blocks_change_tiers :
    (let s := modCore (withBlock up aBlock) 0 fun x => { x with queue := [(3, 0)] }
     (lcore s 0).queue = [(3, 0)] ∧ blockAt s (2 ^ 18 * 0 + 4 * 0 + 1) = some aBlock) ∧
    (let s := modCore (withBlock up aBlock) 0 fun x => { x with queue := [(4, 0)] }
     (lcore s 0).queue = [(4, 0)] ∧ blockAt s (2 ^ 18 * 0 + 4 * 0 + 1) = some aBlock) ∧
    (let b := { aBlock with st := .copying }
     findBlock (withBlock up b) 0 3 77 = some b ∧ b.st = .copying ∧ findNs (withBlock up b) 0 3 = some anNs ∧ anNs.wing < 16) ∧
    (let b := { aBlock with st := .promoting }
     findBlock (withBlock up b) 0 3 77 = some b ∧ b.st = .promoting) := by
  refine ⟨⟨?_, ?_⟩, ⟨?_, ?_⟩, ⟨?_, ?_, ?_, ?_⟩, ?_, ?_⟩ <;> decide

/-- What HomesServeAgents assumes can be met. -/
theorem witness_HomesServeAgents :
    (let s := arrayed up
     agentPresent s 3 = true ∧ cacheable s 4096 = true ∧ agentBusy s 3 4096 = false ∧ cacheLine s 3 4096 = none ∧ lineFree s 4096 [] ∧
       inArray s 4096 anArrLine) ∧
    (let s := heldBy (arrayed up) [(9, .x)]
     agentBusy s 3 4096 = false ∧ cacheLine s 3 4096 = none ∧ hostLine 4096 = false ∧ lineFree s 4096 [(9, .x)]) ∧
    (let s := heldBy (cached3 (arrayed up) .s) [(3, .s)]
     cacheLine s 3 4096 = some (aLine .s) ∧ agentBusy s 3 4096 = false ∧ lineFree s 4096 [(3, .s)]) ∧
    (let s := heldBy (cached3 (arrayed up) .m) [(3, .x)]
     cacheLine s 3 4096 = some (aLine .m) ∧ agentBusy s 3 4096 = false ∧ lineFree s 4096 [(3, .x)] ∧ inArray s 4096 anArrLine) ∧
    (let s := heldBy (cached3 (arrayed up) .e) [(3, .x)]
     cacheLine s 3 4096 = some (aLine .e) ∧ agentBusy s 3 4096 = false ∧ lineFree s 4096 [(3, .x)]) := by
  refine ⟨⟨?_, ?_, ?_, ?_, ⟨?_, ?_, ?_, ?_, ?_, ?_⟩, ?_, ?_, ?_, ?_⟩, ⟨?_, ?_, ?_, ?_, ?_, ?_, ?_, ?_, ?_⟩, ⟨?_, ?_, ?_, ?_, ?_, ?_, ?_, ?_⟩,
    ⟨?_, ?_, ⟨?_, ?_, ?_, ?_, ?_, ?_⟩, ?_, ?_, ?_, ?_⟩, ?_, ?_, ?_, ?_, ?_, ?_, ?_, ?_⟩ <;> decide

/-- What HoldersAnswerSnoops assumes can be met. -/
theorem witness_HoldersAnswerSnoops :
    (∀ k ∈ [SnpKind.pull, .peek, .inv, .invd],
      Msg.snp 3 4096 k ∈ (sent (cached3 up .m) (.snp 3 4096 k)).mzn.msgs ∧ cacheLine (sent (cached3 up .m) (.snp 3 4096 k)) 3 4096 = some (aLine .m)) ∧
    (let s := sent (setWb up 3 4096 (some ⟨some .m, [], false⟩)) (.snp 3 4096 .pull)
     Msg.snp 3 4096 .pull ∈ s.mzn.msgs ∧ cacheLine s 3 4096 = none ∧ wbLine s 3 4096 = some ⟨some .m, [], false⟩) ∧
    (let s := heldBy (cached3 up .e) [(3, .x)]
     agentPresent s 3 = true ∧ present s .slice 2 = true ∧ agentSet s 3 0 = [(4096, aLine .e)] ∧ cacheLine s 3 4096 = some (aLine .e) ∧
       lineFree s 4096 [(3, .x)]) ∧
    agentSet up 3 0 = [] := by
  refine ⟨?_, ⟨?_, ?_, ?_⟩, ⟨?_, ?_, ?_, ?_, ?_, ?_, ?_, ?_, ?_, ?_⟩, ?_⟩ <;> decide

/-- What MessagesMoveLines assumes can be met. -/
theorem witness_MessagesMoveLines :
    (let s := sent (busyWith up (aTxn .rdU [3, 4] false)) (.srsp 3 4096)
     Msg.srsp 3 4096 ∈ s.mzn.msgs ∧ (lineRec s 4096).txn = some (aTxn .rdU [3, 4] false) ∧ 3 ∈ (aTxn .rdU [3, 4] false).awaiting ∧
       (aTxn .rdU [3, 4] false).awaiting.filter (fun y => y != 3) ≠ []) ∧
    (let s := sent (busyWith (heldBy up [(5, .s), (3, .s)]) (aTxn .upgr [3] false)) (.srsp 3 4096)
     lineOf s 4096 (aTxn .upgr [3] false) ∧ (heldAs (lineRec s 4096) 5).isSome = true) ∧
    (let s := sent (busyWith (heldBy up [(3, .x)]) (aTxn .rdS [3] false)) (.sdat 3 4096 [1] true false)
     s.mzn.msgs.find? (fun m => match m with | .sdat a' l' _ _ _ => a' == 3 && l' == 4096 | _ => false) = some (.sdat 3 4096 [1] true false) ∧
       lineOf s 4096 (aTxn .rdS [3] false)) ∧
    (let s := sent up (.gdat (.agent 3) 4096 (some .e) [1] 0)
     s.mzn.msgs.find? (fun m => match m with | .gdat _ l' _ _ _ => l' == 4096 | _ => false) = some (.gdat (.agent 3) 4096 (some .e) [1] 0) ∧
       victimOf s 3 4096 = none) ∧
    (let s := sent (cached3 up .s) (.cmp (.agent 3) 4096 .upgr)
     s.mzn.msgs.find? (fun m => match m with | .cmp dest l' _ => dest == .agent 3 && l' == 4096 | _ => false) = some (.cmp (.agent 3) 4096 .upgr) ∧
       cacheLine s 3 4096 = some (aLine .s)) ∧
    (let e : WcbEntry := ⟨4096, 3, [], [.host], 0, 1000, true⟩
     let s := sent (modCtl up 0 fun c => { c with wcb := [e] }) (.wcmp (.buffer 0) 4096 0)
     s.mzn.msgs.find? (fun m => match m with | .wcmp _ l' _ => l' == 4096 | _ => false) = some (.wcmp (.buffer 0) 4096 0) ∧
       (ctl s 0).wcb.find? (fun x => x.line == 4096 && x.closed) = some e ∧ (ctl s 0).wcbWaiting = []) ∧
    (let s := sent (busyWith up (aTxn .rdS [] true)) (.ack 5 4096)
     Msg.ack 5 4096 ∈ s.mzn.msgs ∧ lineOf s 4096 (aTxn .rdS [] true) ∧ (aTxn .rdS [] true).req.agent = some 5) := by
  refine ⟨⟨?_, ?_, ?_, ?_⟩, ⟨⟨?_, ?_, ?_, ?_⟩, ?_⟩, ⟨?_, ?_, ?_, ?_, ?_⟩, ⟨?_, ?_⟩, ⟨?_, ?_⟩, ⟨?_, ?_, ?_⟩, ?_, ⟨?_, ?_, ?_, ?_⟩, ?_⟩ <;> decide

/-- What HomesServeOthers assumes can be met. -/
theorem witness_HomesServeOthers :
    (lineFree (arrayed up) 4096 [] ∧ inArray (arrayed up) 4096 anArrLine) ∧
    (lineFree (heldBy up [(9, .x)]) 4096 [(9, .x)] ∧ hostLine 4096 = false ∧ hostBias (heldBy up [(9, .x)]) 4096 = false) ∧
    (let s := sent (arrayed up) (.req aMerge)
     s.mzn.msgs.find? (fun m => match m with | .req q => q.line == 4096 && q.kind == .wrMerge | _ => false) = some (.req aMerge) ∧
       lineFree s 4096 [] ∧ inArray s 4096 anArrLine ∧ aMerge.mask < 2 ^ 64 - 1) ∧
    (present up .usher 3 = true ∧ isStream aStreamLine = true ∧ hostBias up aStreamLine = false ∧ lineFree up aStreamLine [] ∧
      arrayLine up aStreamLine = none ∧ halted up (lineHall aStreamLine) = false ∧ lineHeld up (lineHall aStreamLine) (.phys (lineOff aStreamLine)) = false) := by
  refine ⟨⟨⟨?_, ?_, ?_, ?_, ?_, ?_⟩, ?_, ?_, ?_, ?_⟩, ⟨⟨?_, ?_, ?_, ?_, ?_, ?_⟩, ?_, ?_⟩, ⟨?_, ⟨?_, ?_, ?_, ?_, ?_, ?_⟩, ⟨?_, ?_, ?_, ?_⟩, ?_⟩,
    ?_, ?_, ?_, ⟨?_, ?_, ?_, ?_, ?_, ?_⟩, ?_, ?_, ?_⟩ <;> decide

/-- What PeersAreServed assumes can be met. -/
theorem witness_PeersAreServed :
    (∀ op ∈ [1, 2, 3],
      let s := serving (arrayed up) (aServed op)
      servedOf s 5 6 = some (aServed op) ∧ (aServed op).vec = none ∧ (aServed op).credit = some 2 ∧ trackersUsed s (homeSlice s 4096) < 256 ∧
        lineRec s 4096 = noRec ∧ hostBias s 4096 = false ∧ arrayLine s 4096 = some anArrLine) ∧
    (let s := serving (busyWith up (aTxn .rdS [] true)) (aServed 1)
     servedOf s 5 6 = some (aServed 1) ∧ (lineRec s 4096).txn = some (aTxn .rdS [] true) ∧ 2 ∉ (lineRec s 4096).reserved ∧
       tget (fun _ => none) s.mzn.credits 2 = some ⟨5, 6, 4096, 3⟩) ∧
    (let s := serving up { aServed 1 with vec := some (5, 0) }
     servedOf s 5 6 = some { aServed 1 with vec := some (5, 0) } ∧ collOf s 5 = none) ∧
    (let s := modRec (serving up (aServed 1)) 4096 fun r => { r with reserved := [2] }
     (lineRec s 4096).reserved = [2] ∧ (lineRec s 4096).txn = none ∧ tget (fun _ => none) s.mzn.credits 2 = some ⟨5, 6, 4096, 3⟩) := by
  refine ⟨?_, ⟨?_, ?_, ?_, ?_⟩, ⟨?_, ?_⟩, ?_, ?_, ?_⟩ <;> decide

/-- What HostIsServed assumes can be met. -/
theorem witness_HostIsServed :
    (let s := modRec up aHostLine fun r => { r with holders := [(9, .x)] }
     hostLine aHostLine = true ∧ lineFree s aHostLine [(9, .x)]) ∧
    (let x : Txn := { aTxn .rdS [9] false with host := some .rdShared }
     let s := modRec up aHostLine fun r => { r with txn := some x }
     (lineRec s aHostLine).txn = some x ∧ x.awaiting ≠ []) ∧
    (bar2Reaches up (2 ^ 40) = false ∧ bar2Reaches (arrayed up) 0x40000 = true ∧ lineFree (arrayed up) 4096 [] ∧ inArray (arrayed up) 4096 anArrLine) ∧
    (let s := modMzn (arrayed up) fun m => { m with bias := [64] }
     bar2Reaches s 0x40000 = true ∧ hostBias s 4096 = true ∧ arrayLine s 4096 = some anArrLine) ∧
    (∀ host ∈ [0, 1],
      let s := withCommand up (biasCmd host)
      findCmd s 7 = some (biasCmd host) ∧ (biasCmd host).opcode = 0x68 ∧ mayStart s (biasCmd host) = true ∧ biasSetFail (biasCmd host) (started s 7) = none ∧
        (biasCmd host).num 36 1 = host ∧ s.mzn.recs = [] ∧ s.mzn.array = []) := by
  refine ⟨⟨?_, ⟨?_, ?_, ?_, ?_, ?_, ?_⟩⟩, ⟨?_, ?_⟩, ⟨?_, ?_, ⟨?_, ?_, ?_, ?_, ?_, ?_⟩, ?_, ?_, ?_, ?_⟩, ⟨?_, ?_, ?_⟩, ?_⟩ <;> decide

/-- What SearchesRunAtTheRoot assumes can be met. -/
theorem witness_SearchesRunAtTheRoot :
    (let s := searching
     findCmd s 7 = some searchCmd ∧ searchCmd.opcode = 0x30 ∧ mayStart s searchCmd = true ∧
       searchFail (started s 7) searchCmd (readSearch (started s 7) searchCmd) = none ∧ (readSearch (started s 7) searchCmd).coll = some aColl ∧
       (readSearch (started s 7) searchCmd).map = none) ∧
    (let s := withCommand up searchCmd
     findCmd s 7 = some searchCmd ∧ mayStart s searchCmd = true ∧
       searchFail (started s 7) searchCmd (readSearch (started s 7) searchCmd) = some 0x0106) ∧
    (let x : Query := { aQuery with halls := 1, recs := [⟨0, 0xFFFF, false, false, false, 0xFFFF, [⟨3, 1, 7, false⟩], 0, 9, 3, 4, 1, 2⟩] }
     let s := withQuery (merging searching aRoot) x
     findNewel s (4096) 0 = some aRoot ∧ ownRecords s aRoot = some x ∧ aRoot.ownShard = some 0 ∧ bit aRoot.covered 0 = false ∧
       aRoot.isRoot = true ∧ aRoot.decided = false ∧ (∀ i ∈ bitmapShards aRoot.shardCount aRoot.subtree, i = 0)) ∧
    (let s := merging searching aRoot
     findRoot s (4096) = some aRoot ∧ aRoot.decided = false ∧ aRoot.deadline ≠ 0) ∧
    (let q := { aRoot with decided := true, rerankK := 2 }
     let s := merging searching q
     findRoot s (4096) = some q ∧ q.decided = true ∧ q.rerankK ≠ 0 ∧ q.reranked = none) ∧
    (let q := { aRoot with decided := true }
     let s := merging searching q
     findRoot s (4096) = some q ∧ q.decided = true ∧ q.rerankK = 0 ∧ findCmd s q.cmd = some searchCmd ∧ searchCmd.done = none) := by
  refine ⟨⟨?_, ?_, ?_, ?_, ?_, ?_⟩, ⟨?_, ?_, ?_⟩, ⟨?_, ?_, ?_, ?_, ?_, ?_, ?_⟩, ⟨?_, ?_, ?_⟩, ⟨?_, ?_, ?_, ?_⟩, ?_, ?_, ?_, ?_, ?_⟩ <;> decide

/-- What SearchesMergeAcrossDevices assumes can be met. -/
theorem witness_SearchesMergeAcrossDevices :
    (∀ x ∈ [(2, 1), (3, 2), (4, 3), (4, 4), (4, 5)],
      (let s := received (activePort up 5) 5 x.1 (bytesOf 64 x.2)
       (takeMsg s 5 x.1 x.2).isSome = true ∧ wellFormedMsg (bytesOf 64 x.2) = false)) ∧
    (let s := asked
     let s1 := takeRx s 5 2
     let h := readHead (aQueryMsg (aHead 1).sealLo)
     takeMsg s 5 2 1 = some (aQueryMsg (aHead 1).sealLo, s1) ∧ wellFormedMsg (aQueryMsg (aHead 1).sealLo) = true ∧ msgFail s1 5 h = none ∧
       msgTree s1 h = some (aTree 9) ∧ (aTree 9).member (deviceIndex s1) = some ⟨0, 9, 5, 1, 1⟩ ∧ (aTree 9).children (deviceIndex s1) = [] ∧
       findNewel s1 h.queryId h.tree = none ∧
       (let q := { memberQuery s1 5 (aQueryMsg (aHead 1).sealLo) h ⟨0, 9, 5, 1, 1⟩ (aTree 9) with ctx := some s1.store.nextCtx }
        q.ownShard = some 1 ∧ admits (bumpCtx s1) (newelFlight s1 q 128 (peerPrio s1 q.coll) (some (sendLimitOf q))) = true)) ∧
    (let s := received (mapped 9) 5 2 (aQueryMsg ((aHead 1).sealLo + 1))
     let s1 := takeRx s 5 2
     takeMsg s 5 2 1 = some (aQueryMsg ((aHead 1).sealLo + 1), s1) ∧ wellFormedMsg (aQueryMsg ((aHead 1).sealLo + 1)) = true ∧
       msgFail s1 5 (readHead (aQueryMsg ((aHead 1).sealLo + 1))) = some 0x0501) ∧
    (∀ x ∈ [(3, 2), (4, 3), (4, 4), (4, 5)],
      (let q := aMergeQuery true
       let s := arrived x.2 x.1 q
       let b := headBytes (aHead x.2) 0 ++ aBody x.2
       let s1 := takeRx s 5 x.1
       takeMsg s 5 x.1 x.2 = some (b, s1) ∧ wellFormedMsg b = true ∧ (x.2 ≠ 5 → msgFail s1 5 (readHead b) = none) ∧
         recordFor s1 (readHead b) = some q ∧ findNewel s1 q.queryId q.tree = some q ∧ findRoot s1 q.queryId = some q ∧ q.isRoot = true ∧
         q.decided = false ∧ s1.now ≤ q.deadline ∧ q.rerouted = 0 ∧ (newelTree s1 q = some (aTree 0)))) ∧
    (let q := aMergeQuery true
     bitmapAt (headBytes (aHead 2) 0 ++ aBody 2) 128 1 = 2 ∧ q.covered = 1 ∧ ({ q with shards := [(1, .covered)] } : NewelQuery).covered = 2 ∧
       (∀ i ∈ bitmapShards q.shardCount q.subtree, bit 2 i = true ∨ (q.shard i).isCovered = true) ∧
       bitmapAt (headBytes (aHead 3) 0 ++ aBody 3) 128 1 = 2 ∧ numAt (headBytes (aHead 3) 0 ++ aBody 3) 64 1 = 2 ∧
       bitmapAt (headBytes (aHead 4) 0 ++ aBody 4) 64 1 = 2 ∧ (aTree 0).fallback = 0xFF) ∧
    (let q := aMergeQuery true
     let s1 := takeRx (received (mapped 0) 5 3 (headBytes (aHead 2) 0 ++ aBody 2)) 5 3
     msgFail s1 5 (aHead 2) = none ∧ recordFor s1 (aHead 2) = none ∧ q.queryId % 4096 = deviceIndex s1 ∧
       s1.store.abandoned.contains q.queryId = false) ∧
    (let q := aMergeQuery false
     let s := merging (mapped 0) q
     findNewel s q.queryId q.tree = some q ∧ q.isRoot = false ∧ q.sent = false ∧ q.parentPort ≠ 255 ∧ newelTree s q = some (aTree 0) ∧
       (aTree 0).children (deviceIndex s) ≠ [] ∧ carries s q.parentPort q.level = true ∧ q.ctx = none) := by
  refine ⟨?_, ⟨?_, ?_, ?_, ?_, ?_, ?_, ?_, ?_, ?_⟩, ⟨?_, ?_, ?_⟩, ?_, ⟨?_, ?_, ?_, ?_, ?_, ?_, ?_, ?_⟩, ⟨?_, ?_, ?_, ?_⟩, ?_, ?_, ?_, ?_, ?_, ?_, ?_, ?_⟩ <;> decide

/-- What DescriptorsCompleteOrStop assumes can be met. -/
theorem witness_DescriptorsCompleteOrStop_invalidations_stop_descriptors :
    (let s := withQuery (withAccepted up 0 0 aBoard) { aQuery with source := .board 3 }
     (unitOf s 0 0).accepted.find? (fun x => x.id == 3 && x.result.isNone) = some aBoard ∧ aBoard.op = 0x01 ∧
       s.store.queries.find? (fun x => x.source == .board 3) = some { aQuery with source := .board 3 }) ∧
    (let s := withQueued up 4 1 aDmaCopy
     (unitOf s 4 1).accepted.find? (fun x => x.id == 3 && x.result.isNone) = none ∧ taking s 4 1 3 0x50 aDmaCopy ∧
       copyFail (acceptDesc s 4 1 aDmaCopy) 1 aDmaCopy = none) ∧
    (let s := withQueued up 4 1 aDmaFill
     (unitOf s 4 1).accepted.find? (fun x => x.id == 3 && x.result.isNone) = none ∧ taking s 4 1 3 0x51 aDmaFill ∧
       fillFail (acceptDesc s 4 1 aDmaFill) 1 aDmaFill = none) := by
  refine ⟨⟨?_, ?_, ?_⟩, ⟨?_, ⟨?_, ?_, ?_⟩, ?_⟩, ?_, ⟨?_, ?_, ?_⟩, ?_⟩ <;> decide

/-- What SectorsAreSent assumes can be met. -/
theorem witness_SectorsAreSent :
    portState up 5 < 2 ∧ (portState (livePort up 5) 5 = 5 ∧ portState (livePort up 3) 5 = 3 ∧ portState (livePort up 2) 5 = 2) ∧
    (let s := onPort (livePort up 5) fun x => { x with control := [controlRecord (bytesOf 1 4)] }
     portState s 5 = 5 ∧ (portOf s 5).control ≠ []) ∧
    (let s := onPort (livePort up 5) fun x => { x with unacked := [aSent 1], retx := [4] }
     portState s 5 = 5 ∧ (portOf s 5).control = [] ∧
       (portOf s 5).retx.findSome? (fun q => (portOf s 5).unacked.find? fun t => t.seq == q) = some (aSent 1) ∧ (aSent 1).sends < 8) ∧
    (let s := sendOn (livePort up 5) 5 2 (bytesOf 64 3)
     (portOf s 5).control = [] ∧ (portOf s 5).retx = [] ∧ (portOf s 5).unacked.length < 512 ∧ (portOf s 5).waitingOn 2 = [bytesOf 64 3] ∧
       (vcOrder (portOf s 5).turn).find? (fun v => !((portOf s 5).waitingOn v).isEmpty && (portOf s 5).hasCredit v) = some 2) ∧
    ((portOf (livePort up 5) 5).control = [] ∧ (portOf (livePort up 5) 5).retx = [] ∧ (portOf (livePort up 5) 5).txQueue = []) ∧
    (∀ n ∈ [1, 8], (portOf (onPort up fun x => { x with unacked := [aSent n] }) 5).unacked = [aSent n]) ∧
    missingSeqs (portOf (onPort up fun x => { x with reorder := [(3, 2, [])] }) 5) ≠ [] := by
  refine ⟨?_, ⟨?_, ?_, ?_⟩, ⟨?_, ?_⟩, ⟨?_, ?_, ?_, ?_⟩, ⟨?_, ?_, ?_, ?_, ?_⟩, ⟨?_, ?_, ?_⟩, ?_, ?_⟩ <;> decide

/-- What SectorsAreReceived assumes can be met. -/
theorem witness_SectorsAreReceived :
    (let s := livePort up 5
     2 ≤ portState s 5 ∧ rxLocked s 5 = true ∧ 4 < ({ aShort 0 0 0 [] true with markBits := 5 } : Sector).markBits) ∧
    (let s := livePort up 5
     secHeaderOk (aShort 0 1 0 [] true) = true ∧ headerMalformed s 5 (aShort 0 1 0 [] true) = true ∧
       headerMalformed s 5 (aShort 0 0 0 [] true) = false ∧ secHeaderOk (aShort 0 0 0 [] false) = true ∧
       tagAccepted (portOf s 5) (aShort 0 0 0 [] false) = false ∧ hd (aShort 0 0 0 [] false) 8 4 = (portOf s 5).partnerSession) ∧
    (sound (livePort up 5) 5 0 (aShort 0 0 0 [] true) ∧ ofSession (livePort up 5) 5 (aShort 0 0 0 [] true)) ∧
    (∀ r ∈ [bytesOf 16 (2 + 2 ^ 16 * 4 + 2 ^ 32), bytesOf 16 (3 + 2 ^ 8 * 2 + 2 ^ 32), bytesOf 16 4, bytesOf 16 (5 + 2 ^ 8), bytesOf 16 (6 + 2 ^ 16 * 0x703)],
      sound (livePort up 5) 5 1 (aShort 1 0 0 r true) ∧ ofSession (livePort up 5) 5 (aShort 1 0 0 r true) ∧ secBody (aShort 1 0 0 r true) = r ∧
        recordMalformed (livePort up 5) 5 r = false) ∧
    (sound (livePort up 5) 5 1 (aShort 1 0 0 (bytesOf 16 9) true) ∧ recordMalformed (livePort up 5) 5 (bytesOf 16 9) = true) ∧
    (∀ q ∈ [0, 3, 2 ^ 16 - 1],
      sound (livePort up 5) 5 2 (aShort 2 2 q (bytesOf 16 8) true) ∧ ofSession (livePort up 5) 5 (aShort 2 2 q (bytesOf 16 8) true) ∧
        hd (aShort 2 2 q (bytesOf 16 8) true) 2 2 = q ∧ (portOf (livePort up 5) 5).rxNext = 0 ∧ (portOf (livePort up 5) 5).reorder = []) ∧
    (sound (livePort up 3) 5 3 (aShort 3 0 0 (bytesOf 16 9) true) ∧ helloRefusal (livePort up 3) 5 (bytesOf 16 9 ++ bytesOf 16 0) = none ∧
      helloRefusal (livePort up 3) 5 (bytesOf 16 0 ++ bytesOf 16 0) = some 0x0103 ∧ sound (livePort up 5) 5 3 (aShort 3 0 0 (bytesOf 16 9) true)) := by
  refine ⟨⟨?_, ?_, ?_⟩, ⟨?_, ?_, ?_, ?_, ?_, ?_⟩, ⟨?_, ?_, ?_, ?_⟩, ?_, ⟨?_, ?_⟩, ?_, ?_, ?_, ?_, ?_⟩ <;>
    first
    | (apply sound_of; decide)
    | decide
    | (intro r h; simp only [List.mem_cons, List.not_mem_nil, or_false] at h
       rcases h with h | h | h | h | h <;> subst h <;> refine ⟨?_, ⟨?_, ?_, ?_⟩, ?_, ?_⟩ <;> first | (apply sound_of; decide) | decide)
    | (intro q h; simp only [List.mem_cons, List.not_mem_nil, or_false] at h
       rcases h with h | h | h <;> subst h <;> refine ⟨?_, ⟨?_, ?_, ?_⟩, ?_, ?_, ?_⟩ <;> first | (apply sound_of; decide) | decide)

/-- What LinksChangeState assumes can be met. -/
theorem witness_LinksChangeState :
    (∀ st ∈ [0, 1, 2, 3, 4, 5, 6, 7], portState (livePort up st) 5 = st) ∧
    (let s := onPort (sendOn (livePort up 5) 5 2 (bytesOf 64 3)) fun x => { x with spent := [(2, 64)] }
     (tget (fun _ => none) (portOf (noteWaits s 5) 5).waitSince 2).isSome = true) ∧
    (∀ v, v < 8 → tget (fun _ => none) (portOf (noteWaits (livePort up 5) 5) 5).waitSince v = none) ∧
    ((portOf (livePort up 4) 5).authWait = none ∧ running.porter.state = .running ∧ portState running 5 = 5 ∧ fieldR up .mrqPQuar 24 8 5 = 8 ∧
      (portOf up 5).authFails = 0 ∧ (portOf (onPort (livePort up 4) fun x => { x with authWait := some 5 }) 5).authWait = some 5) ∧
    ((portOf running 5).keyUpdate = false ∧ (portOf (onPort running fun x => { x with keyUpdate := true }) 5).keyUpdate = true ∧
      (portOf (onPort up fun x => { x with oldKey := true }) 5).oldKey = true) ∧
    (let s := onPort (livePort up 5) fun x => { x with malformed := 255 }
     let x := aShort 0 1 0 [] true
     rxLocked s 5 = true ∧ secHeaderOk x = true ∧ secKind x = 0 ∧ headerMalformed s 5 x = true ∧ fieldR s .mrqPQuar 0 12 5 = 256 ∧
       (portOf s 5).malformed = 255) ∧
    (portHere up 5 = true ∧ portState up 5 = 0 ∧ bit (getR (setR up .mrqDeviceIndex 0x80000003) .mrqDeviceIndex) 31 = true) := by
  refine ⟨?_, ?_, ?_, ⟨?_, ?_, ?_, ?_, ?_, ?_⟩, ⟨?_, ?_, ?_⟩, ⟨?_, ?_, ?_, ?_, ?_, ?_⟩, ?_, ?_, ?_⟩ <;> decide

/-- What WindowsCommitWhole assumes can be met. -/
theorem witness_WindowsCommitWhole :
    (let s := stageR (stageR up .mrqWinBase 0x4000 3) .mrqWinSize 0x1000 3
     clearBits (9 + 2 ^ 16 + 2 ^ 23) 0xFF870FFF = 0 ∧ bits (9 + 2 ^ 16 + 2 ^ 23) 24 8 < wingCount s ∧
       (stagedR s .mrqWinBase 3).getD 0 = 0x4000 ∧ (stagedR s .mrqWinSize 3).getD 0 = 0x1000 ∧ windowGranted s 0x4000 0x1000 0 = true) ∧
    clearBits 0x1000 0xFF870FFF ≠ 0 ∧ bit (2 ^ 23 + 2 ^ 29) 23 = true ∧ wingCount up ≤ bits (2 ^ 23 + 2 ^ 29) 24 8 := by
  refine ⟨⟨?_, ?_, ?_, ?_, ?_⟩, ?_, ?_, ?_⟩ <;> decide

/-- What RemoteRequestsTravel assumes can be met. -/
theorem witness_RemoteRequestsTravel :
    (let b := aRequest 1 64 3 0 4
     let s := requested b
     rxFront s 5 5 = some b ∧ portState s 5 = 5 ∧ (portOf s 5).raTime ≠ s.now / 1000 ∧ 0 < getR s .mrqPRaRate 5 ∧
       requestValid s 5 ((b ++ bytesOf 64 0).take 64) = true ∧ windowOf s 5 3 = some ⟨0x1000, true, false, false, 0x4000, none⟩ ∧
       freeCredit s (homeSlice s 0x100) = some 4096 ∧ windowOf s 5 4 = none) ∧
    (requestValid (requested []) 5 (bytesOf 64 9) = false) ∧
    (let s := onPort (requested (aRequest 1 64 3 0 4)) fun x => { x with raTime := 0, raCount := 100 }
     (portOf s 5).raTime = s.now / 1000 ∧ getR s .mrqPRaRate 5 ≤ (portOf s 5).raCount) ∧
    (∀ x ∈ [(0, 0), (1, 0), (1, 1), (2, 0)],
      ∃ b, rxFront (answered x.1 x.2) 5 6 = some b ∧ numAt b 1 1 = x.1 ∧ numAt b 5 1 = x.2 ∧
        (portOf (answered x.1 x.2) 5).requests.find? (fun r => decide (r.tag = numAt b 24 8) && decide (r.op = numAt b 0 1) && r.due.isNone) = some aRaReq) ∧
    (let s := onPort (answered 0 0) fun x => { x with requests := [] }
     ((portOf s 5).requests.all fun r => decide (r.tag ≠ 4) || decide (r.op ≠ 1) || r.due.isSome) = true) ∧
    (let s := onPort up fun x => { x with requests := [{ aRaReq with due := some 250 }] }
     (portOf s 5).requests.find? (fun r => decide (r.tag = 4) && r.due.isSome) = some { aRaReq with due := some 250 }) ∧
    (let s := owned5 (livePort up 5)
     portHere s 5 = true ∧ mayUsePort s 5 (.fn 0) = true ∧ mayUsePort s 5 (.fn 1) = false ∧ portWing s 5 = some 0 ∧ isHostAddr 0x4000 = false ∧
       isStream (0x4000 / 64) = false ∧ grantedTo s 0 0x4000 256 = true ∧ (portOf s 5).requests.length < 64 ∧ portState s 5 = 5 ∧
       (readNc s (some 0) 0x100).2.2 = 0) := by
  refine ⟨⟨?_, ?_, ?_, ?_, ?_, ?_, ?_, ?_⟩, ?_, ⟨?_, ?_⟩, ?_, ?_, ?_, ?_, ?_, ?_, ?_, ?_, ?_, ?_, ?_, ?_, ?_⟩ <;>
    first
    | decide
    | rfl

/-- What PorterStartsAndLogs assumes can be met. -/
theorem witness_PorterStartsAndLogs :
    (let s := porterIn .rom onTrialB
     s.porter.state = .rom ∧ s.oam.rails ≠ 0 ∧ s.porter.vipol.trial = true ∧ s.porter.vipol.tries < 3 ∧ slotValid s 1 1 = true) ∧
    (let s := porterIn .restarting shippedFirmware
     s.porter.state = .restarting ∧ s.porter.vipol.trial = false ∧ slotValid s 1 0 = true) ∧
    (let s := porterIn .rom { onTrialB with slotB := .invalid }
     s.porter.vipol.trial = true ∧ slotValid s 1 1 = false ∧ slotValid s 1 (1 - 1) = true) ∧
    (let s := porterIn .rom { shippedFirmware with slotA := .invalid }
     s.porter.vipol.trial = false ∧ slotValid s 1 0 = false ∧ slotValid s 1 (1 - 0) = true) ∧
    (let s := porterIn .rom { shippedFirmware with slotA := .invalid, slotB := .invalid }
     slotValid s 1 0 = false ∧ slotValid s 1 (1 - 0) = false) ∧
    (trialRuns (porterIn .running onTrialB) 1 = true ∧ up.porter.state = .running ∧ up.fifoLost = 0 ∧ mayMirror State.reset = false) ∧
    (let s : State := { setR up .ucrStatus 0 with porter := { up.porter with log := [aLogRec 1, aLogRec 2], mirror := [aLogRec 1] } }
     mayMirror s = true ∧ s.porter.mirror.getLast? = some (aLogRec 1)) ∧
    mctpReaches up .smbus = true := by
  refine ⟨⟨?_, ?_, ?_, ?_, ?_⟩, ⟨?_, ?_, ?_⟩, ⟨?_, ?_, ?_⟩, ⟨?_, ?_, ?_⟩, ⟨?_, ?_⟩, ⟨?_, ?_, ?_, ?_⟩, ⟨?_, ?_⟩, ?_⟩ <;> decide

/-- What PorterHoldsPower assumes can be met. -/
theorem witness_PorterHoldsPower :
    (up.porter.state = .running ∧ up.oam.powerGood = true ∧ up.porter.policy.capW = 1600 ∧ up.porter.policy.below < 9 ∧ up.oam.trip = false ∧
      up.oam.rails ≠ 0) ∧
    (let u := noteSample up 3 106000
     105000 ≤ hottest u 0 ∧ hottest u 0 < 110000 ∧ hottest u 32 < 92000 ∧ up.porter.policy.hotE = false ∧ sensorHere up 3 = true ∧ deviceUp up = true) ∧
    110000 ≤ hottest (noteSample up 40 111000) 32 := by
  refine ⟨⟨?_, ?_, ?_, ?_, ?_, ?_⟩, ⟨?_, ?_, ?_, ?_, ?_, ?_⟩, ?_⟩ <;> decide

/-- What MailboxCommandsAnswer assumes can be met. -/
theorem witness_MailboxCommandsAnswer :
    (∀ op ∈ [1, 2, 3, 4, 5, 6, 7, 8], (mbxRequest (inMailbox op [(0, 1, 1), (2, 2, 1300)]) op .mailbox).isSome = true ∧
      mbxRequest up op (asMessage [(0, 1, 1)]) = some (block64 [(0, 1, 1)])) ∧
    (let s : State := { up with porter := { up.porter with log := [aLogRec 1, aLogRec 2] } }
     ((heldRecords s).filter fun r => decide (2 ≤ r.seq)).take 1 = [aLogRec 2]) ∧
    (present up .hall 1 = true ∧ present up .hall 15 = true ∧ tget (fun _ => 0) up.porter.pinMarks 64 = 0 ∧
      bit (getR (setR up .halPcCe (2 ^ 30) 1 0) .halPcCe 1 0) 30 = true) ∧
    (present { up with variant := .d1200 } .hall 15 = false ∧ trialRuns up 1 = false ∧ trialRuns (porterIn .running onTrialB) 1 = true) := by
  refine ⟨?_, ?_, ⟨?_, ?_, ?_, ?_⟩, ?_, ?_, ?_⟩ <;> decide

/-- What PldmIsServed assumes can be met. -/
theorem witness_PldmIsServed :
    (mctpReaches up .smbus = true ∧ up.porter.state = .running ∧ (pdrs up)[1]? = some 1 ∧ (pdrs up)[200]? = none ∧ stateSensorHere up 0x111 = true ∧
      stateSensorHere up 0x112 = false ∧ (pldmSensor up 3).enabled = true ∧ up.porter.pldmQueue = [] ∧ up.porter.update = none) ∧
    (let s := modSensor up 3 fun x => { x with enabled := false }
     (pldmSensor s 3).enabled = false) ∧
    (let s : State := { up with porter := { up.porter with pldmQueue := [⟨3, 0, 1, 96000⟩] } }
     s.porter.pldmQueue = [⟨3, 0, 1, 96000⟩]) ∧
    (onTrialB.trial = true ∧ (porterIn .running onTrialB).porter.vipol.trial = true) ∧
    (∀ st ∈ [UpdateStage.learn, .ready, .download, .applied], (updatingAs (anUpdate st 300) true false).porter.update = some (anUpdate st 300) ∧
      (anUpdate st 300).agent = anAgent ∧ (anUpdate st 300).agent ≠ anotherAgent) ∧
    ((firmware (updatingAs (anUpdate .ready 300) false false) 1).trial = false ∧ 300 ≤ slotBytes 1 ∧
      (List.replicate 256 (0#8)).length = min (transferMax .smbus) (300 - 0) ∧ (updatingAs (anUpdate .applied 0) true false).porter.vipol.staged = true ∧
      (updatingAs (anUpdate .applied 0) false true).porter.micro.staged = true) := by
  refine ⟨⟨?_, ?_, ?_, ?_, ?_, ?_, ?_, ?_, ?_⟩, ?_, ?_, ⟨?_, ?_⟩, ?_, ?_, ?_, ?_, ?_, ?_⟩ <;> decide

/-- What SpdmIsServed assumes can be met. -/
theorem witness_SpdmIsServed :
    (spdmReaches up (.mctp .smbus) = true ∧ spdmReaches (porterIn .restarting shippedFirmware) .doe = false ∧ spdmStage up (.mctp .smbus) = 0) ∧
    (∀ n ∈ [1, 2, 3], spdmStage (spdmAt n []) (.mctp .smbus) = n ∧ spdmReaches (spdmAt n []) (.mctp .smbus) = true) ∧
    (sessionRoom (spdmAt 3 []) (.mctp .smbus) = true ∧ sessionRoom (spdmAt 3 (List.replicate 4 (aSession true))) (.mctp .smbus) = false) ∧
    fieldR State.reset .devBoot 0 4 < 2 ∧
    (∀ e ∈ [true, false], (spdmAt 3 [aSession e]).porter.sessions.find? (fun x => x.id == 4 && decide (x.via = .mctp .smbus)) = some (aSession e) ∧
      (aSession e).established = e) ∧
    (spdmAt 3 []).porter.sessions.find? (fun x => x.id == 4 && decide (x.via = .mctp .smbus)) = none := by
  refine ⟨⟨?_, ?_, ?_⟩, ?_, ⟨?_, ?_⟩, ?_, ?_, ?_⟩ <;> decide

/-- What ModuleFollowsItsPower assumes can be met. -/
theorem witness_ModuleFollowsItsPower :
    (up.oam.standby = true ∧ (railsDown fun m => { m with standby := false }).oam.standby = false) ∧
    (∀ b ∈ [true, false],
      let s := railsDown fun m => { m with pwrEn := b, inputOk := true }
      s.oam.standby = true ∧ s.porter.state = .running ∧ s.oam.trip = false ∧ s.oam.retryFailed = false ∧ s.oam.railFailed = false ∧ s.oam.rails = 0 ∧
        s.oam.rising = false ∧ slotValid s 2 0 = true ∧ s.oam.inputOk = true ∧ s.oam.pwrEn = b) ∧
    (up.oam.rails ≠ 0 ∧ up.oam.pwrEn = true ∧ up.oam.powerGood = true ∧ up.oam.rising = false ∧ up.oam.perst = false) ∧
    (let s := railsDown fun m => { m with rising := true, rails := 2 }
     s.oam.rising = true ∧ s.oam.rails + 1 < railTotal s) ∧
    (let s := railsDown fun m => { m with rising := true, rails := 6 }
     railTotal s ≤ s.oam.rails + 1) ∧
    (let s := railsDown fun m => { m with railFailed := true }
     s.oam.railFailed = true ∧ s.oam.retryFailed = false ∧ s.oam.rising = false ∧ s.oam.rails = 0 ∧ s.oam.standby = true ∧ s.porter.state = .running ∧
       s.oam.pwrEn = true ∧ s.oam.inputOk = true ∧ s.oam.trip = false ∧ slotValid s 2 0 = true ∧ s.oam.powerGood = false) ∧
    (tget (fun _ => none) (noteSample up 5 111000).porter.samples 5 = some (111000, 0) ∧ up.oam.trip = false) ∧
    (cooled.oam.trip = true ∧ cooled.oam.pwrEn = false ∧ diodeCool cooled 161 = true ∧ diodeCool cooled 162 = true) := by
  refine ⟨⟨?_, ?_⟩, ?_, ⟨?_, ?_, ?_, ?_, ?_⟩, ⟨?_, ?_⟩, ?_, ⟨?_, ?_, ?_, ?_, ?_, ?_, ?_, ?_, ?_, ?_, ?_⟩, ⟨?_, ?_⟩, ?_, ?_, ?_, ?_⟩ <;> decide

/-- What BringupRuns assumes can be met. -/
theorem witness_BringupRuns :
    (outOfReset.oam.powerGood = true ∧ outOfReset.porter.state = .running ∧ getR outOfReset .devBoot = 0 ∧ outOfReset.porter.micro.trial = false ∧
      slotValid outOfReset 2 outOfReset.porter.micro.active = true ∧ present outOfReset .usher 0 = true ∧ getR up .devBoot ≠ 0) ∧
    (let s : State := { outOfReset with porter := { outOfReset.porter with micro := noFirmware } }
     slotValid s 2 0 = false ∧ slotValid s 2 (1 - 0) = false ∧ s.porter.micro.trial = false) ∧
    (bootStage (training []) = 3 ∧ bit (fuseWord (training []).variant 0) 4 = true ∧ 4 ∉ (training []).oam.trained) ∧
    (∀ x, x < 16 → bit (fuseWord State.reset.variant 0) x = true → x = 4 ∨ x ∈ (training [0, 1, 2, 3, 5, 6, 7, 8, 9, 10, 11, 12, 13, 14, 15]).oam.trained) ∧
    (let s := setR up .devBoot 4
     bootStage s = 4 ∧ bit (getR s .devBoot) 8 = false ∧ s.oam.powerGood = true) := by
  refine ⟨⟨?_, ?_, ?_, ?_, ?_, ?_, ?_⟩, ⟨?_, ?_, ?_⟩, ⟨?_, ?_, ?_⟩, ?_, ?_, ?_, ?_⟩ <;> decide

/-- What StepRunsTheFrontCommand assumes can be met. -/
theorem witness_StepRunsTheFrontCommand : State.reset.pending = [] ∧ State.reset.tim.slew = 0 := ⟨rfl, rfl⟩

/-- What ResetLeavesTheDevice assumes can be met. -/
theorem witness_ResetLeavesTheDevice : regKey 0 .colStatus 3 0 ≠ regKey 0 .devResetCause 0 0 ∧ regKey 0 .colStatus 3 0 ≠ regKey 0 .wngWQuota 0 0 := by
  decide

/-- What MemoryStaysCanonical assumes can be met, with a byte listed. -/
theorem witness_MemoryStaysCanonical :
    memoryWf (withHost up 5 [7]) = true ∧ step (withHost up 5 [7]) = .next (idle (withHost up 5 [7])) := ⟨by decide, rfl⟩

/-- What StepsKeepQueueAndVariant assumes can be met. -/
theorem witness_StepsKeepQueueAndVariant :
    step { up with pending := [.porterBoot] } = .next { up with pending := [] } := by rfl

/-! ### Commands that are not well formed -/

theorem test_wf_refuses_halls : Instr.wf (.bayStream 16 []) = false := by decide
theorem test_wf_refuses_engines : Instr.wf (.qntStatsClr 32) = false := by decide
theorem test_wf_refuses_cores : Instr.wf (.lanternAction 16) = false := by decide
theorem test_wf_refuses_ports : Instr.wf (.retrain 64) = false := by decide
theorem test_wf_refuses_ushers : Instr.wf (.alu 256) = false := by decide
theorem test_wf_refuses_groups : Instr.wf (.dmaCopy 16 0) = false := by decide
theorem test_wf_refuses_slices : Instr.wf (.flushSet 0 0 16) = false := by decide
theorem test_wf_refuses_functions : Instr.wf (.entryFetch 129) = false := by decide
theorem test_wf_refuses_queues : Instr.wf (.sqDisable 0 64) = false := by decide
theorem test_wf_refuses_event_queues : Instr.wf (.eqDisable 0 16) = false := by decide
theorem test_wf_refuses_wings : Instr.wf (.autoCommit 16) = false := by decide
theorem test_wf_refuses_classes : Instr.wf (.descriptorComplete 5 0 0) = false := by decide
theorem test_wf_refuses_agents : Instr.wf (.wb 257 0) = false := by decide
theorem test_wf_refuses_channels : Instr.wf (.controlRecordDue 0 8) = false := by decide
theorem test_wf_refuses_sizes : Instr.wf (.registerWrite (.fn 0) 0 2 0 0 0) = false := by decide
theorem test_wf_refuses_windows : Instr.wf (.windowCommit (.fn 0) 256 0) = false := by decide
theorem test_wf_refuses_maps : Instr.wf (.mapActivation 32) = false := by decide
theorem test_wf_refuses_senders : Instr.wf (.lanternEventArrival 0 17) = false := by decide
theorem test_wf_refuses_monitors : Instr.wf (.paceWindow [1000]) = false := by decide
theorem test_wf_refuses_requesters : Instr.wf (.rcRead (.usher 256) 0 0) = false := by decide

/-! ### Examples that the manual works out -/

set_option exponentiation.threshold 2000 in
/-- The row of R112: BF16 [0.5, -0.0, 0.75, NaN, 0.75], descending. The lower index of 0.75 wins, the others sum to 1.25, one is a NaN. -/
theorem test_argmax_example :
    let r := selectRow 2 1 none (rowElems 5 ([0x00, 0x3F, 0x00, 0x80, 0x40, 0x3F, 0xC0, 0x7F, 0x40, 0x3F].map (BitVec.ofNat 8)) none)
    r.winners.map SelElem.idx = [2] ∧ keySum 2 r.winners = 0x3FE8000000000000 ∧ keySum 2 r.remaining = 0x3FF4000000000000 ∧ r.nans = 1 := by
  decide

/-- The merge of R151: (32, 0.5, 8.0) with (32, 0.25, 4.0) gives (64, 0.375, 13.0). -/
theorem test_row_state_example :
    let r := mergeState ⟨32, fp32.dec 0x3F000000, fp32.dec 0x41000000⟩ ⟨32, fp32.dec 0x3E800000, fp32.dec 0x40800000⟩
    r.n = 64 ∧ r.mean.enc fp32 = 0x3EC00000 ∧ r.m2.enc fp32 = 0x41500000 := by
  decide

/-- The first four channels of the worked row of the quantisation chapter, rounded to nearest even and away. -/
theorem test_bell4_example :
    let xs := [0x3E600000, 0xBF520000, 0x408D8000, 0xC1800000].map fp32.dec
    let cs := [0x3F000000, 0x3E800000, 0x3F800000, 0x40000000].map fp32.dec
    let even := (quantRow ⟨0, false, false, 0, true, 0, []⟩ xs cs 0 noStats).1
    let away := (quantRow ⟨0, true, false, 0, true, 0, []⟩ xs cs 0 noStats).1
    even.ts = 0x4100 ∧ packCodes even.codes = [0xC0, 0xF4] ∧ packCodes away.codes = [0xC1, 0xF5] := by
  decide

/-- The token of the engine chapter's example: slot 5 at the context's 60th issue. -/
theorem test_token_example :
    nextToken { resetUsher with issues := 59, tokens := (List.range 5).map fun i => ⟨i + 64, i, none⟩ } = 0x1E45 := by
  decide

/-- The leak of the Lantern chapter's example: 14 steps take 68 to 31, and 31 more to 0. -/
theorem test_leak_example : leakN 4 14 68 = 31 ∧ leakN 4 45 68 = 0 := by decide

/-- The revolution of the Stair chapter's example: 1,200,000 bays of W = 256 take 1,365,333 ns at the full rate and 1,452,482 ns at
thermal step 1. -/
theorem test_revolution_example :
    let s := modStair (withColl up aColl) 0 fun t => { t with extents := [⟨1, 5, 1200000⟩] }
    revEst s 0 = some 1365333 ∧ revEst (setField s .halStatus 0 2 1 0) 0 = some 1452482 := by
  decide

end Sys2Proof.Tests
end

/-! ## What reset leaves -/

namespace Sys2Proof.Machine

/-- A register reads its reset value after reset, unless it is one of the two that the reset itself sets. -/
theorem getR_reset (r : Reg) (i j f : Nat) (h1 : regKey f r i j ≠ regKey 0 .devResetCause 0 0)
    (h2 : regKey f r i j ≠ regKey 0 .wngWQuota 0 0) : getR State.reset r i j f = resetVal r i j % 2 ^ 64 := by
  have e1 : regKey f r i j ≠ regOff .devResetCause 0 0 := by simpa [regKey] using h1
  have e2 : regKey f r i j ≠ regOff .wngWQuota 0 0 := by simpa [regKey] using h2
  simp [getR, State.reset, tget, e1, e2]

/-- Every port is OFF after reset (R406). -/
theorem portState_reset (p : Nat) (hp : p < 64) : portState State.reset p = 0 := by
  have h := getR_reset .mrqPState p 0 0 (by simp [regKey, regOff, regSpec]; omega) (by simp [regKey, regOff, regSpec]; omega)
  simp [portState, fieldR, h, resetVal, regSpec, bits]

end Sys2Proof.Machine

section
open Sys2Proof Sys2Proof.Machine

/-- Settles O2: most of the reset state is read off its definition; `getR_reset` says what its registers hold, and the
scalar and predicate registers of an Usher read zero. -/
theorem resetLeavesTheDevice : Obligations.ResetLeavesTheDevice := by
  refine ⟨rfl, rfl, getR_reset, rfl, ?_, fun e g => ⟨rfl, rfl, fun r c => rfl⟩, fun e i => rfl, fun u => ⟨rfl, rfl, ?_, ?_⟩,
    fun p hp => ⟨portState_reset p hp, rfl⟩, fun cls inst => rfl, fun h o => rfl, rfl, rfl, rfl, rfl, rfl⟩
  · decide
  · intro i
    simp [getS, usher, State.reset, tget, resetUsher]
  · intro i hi
    simp [getP, usher, State.reset, tget, resetUsher, hi]

end

/-! ## Register accesses and pace windows -/

namespace Sys2Proof.Machine

open Sys2Proof.Safety

/-! ### Words and masks -/

/-- A 32-bit value under the full 32-bit mask. -/
theorem and_full32 (x : Nat) : x &&& 0xffffffff = x % 2 ^ 32 := Nat.and_two_pow_sub_one_eq_mod x 32

/-- Clearing the low half keeps the high half. -/
theorem clearBits_full32 (x : Nat) : clearBits x 0xffffffff = x - x % 2 ^ 32 := by rw [clearBits, and_full32]

/-- Clearing no bit keeps every bit. -/
@[simp] theorem clearBits_zero (x : Nat) : clearBits x 0 = x := by simp [clearBits]

/-- A register holds a value of 64 bits. -/
theorem getR_lt (s : State) (r : Reg) (i j f : Nat) : getR s r i j f < 2 ^ 64 := BitVec.isLt _

/-! ### Where an access of the physical function lands -/

/-- An offset that no unit's block holds and that lies below the Undercroft's wings is not absent (R516). -/
theorem absentAt_of_noUnit (s : State) (o : Nat) (h : offsetUnit o = none) (hw : o < 0x2800100) : absentAt s o = false := by
  simp [absentAt, h]; omega

/-- A 4-byte write of the physical function at a register's offset is a write of that register (R356, R516). -/
theorem barWrite_pf (s : State) (off v hwSet hwInc : Nat) (r : Reg) (i j b : Nat) (ha : barAnswers s (.fn 0) off true = true)
    (hal : off % 4 = 0) (hu : offsetUnit off = none) (hw : off < 0x2800100) (hd : regDecode off = some (r, i, j, b)) (hv : v < 2 ^ 32) :
    barWrite s (.fn 0) off 4 v hwSet hwInc = collide (writeElem s (.fn 0) off r i j b 4 v) (.fn 0) off hwSet hwInc := by
  have hm : ¬(0x3801000 ≤ off ∧ off < 0x3802000) := by omega
  have hn : v % 4294967296 = v := by omega
  simp [barWrite, ha, hal, regWrite, writeWord, pfOffset, absentAt_of_noUnit s off hu hw, hm, hd, hiddenFrom, hn]

/-- A counter's increment in collision with the physical function's write is added to it (R13). -/
theorem collide_pf_counter (s : State) (off hwSet hwInc : Nat) (r : Reg) (i j b : Nat) (hu : offsetUnit off = none) (hw : off < 0x2800100)
    (hd : regDecode off = some (r, i, j, b)) (hr : presetCounter r = true) :
    collide s (.fn 0) off hwSet hwInc = addR s r hwInc i 0 0 := by
  simp [collide, pfOffset, absentAt_of_noUnit s off hu hw, hd, hr, requesterFn]

/-- With a register that neither counts nor has status bits nothing collides (R13). -/
theorem collide_pf_none (s : State) (off hwSet hwInc : Nat) (r : Reg) (i j b : Nat) (hu : offsetUnit off = none) (hw : off < 0x2800100)
    (hd : regDecode off = some (r, i, j, b)) (hr : presetCounter r = false) (hc : (regSpec r).w1c = 0) :
    collide s (.fn 0) off hwSet hwInc = s := by
  simp [collide, pfOffset, absentAt_of_noUnit s off hu hw, hd, hr, collideSet, hc]

/-- A plain write of a register whose 32 bits are all RW gives it the value written (R7). -/
theorem plainWrite_rw32 (s : State) (f : Nat) (r : Reg) (i j v : Nat) (hrw : (regSpec r).rw = 0xffffffff) (hc : (regSpec r).w1c = 0)
    (hs : (regSpec r).w1s = 0) (hst : (regSpec r).staged = 0) (hb : (regSpec r).bytes = 4) :
    plainWrite s f r i j v = setR s r v i j f := by
  have hx : (clearBits (getR s r i j f) 0xffffffff + v) % 4294967296 = v % 4294967296 := by rw [clearBits_full32]; omega
  simp [plainWrite, blend, hrw, hc, hs, hst, and_full32, setR, hb, hx]

/-- A write within the mask of a register's named bits, to a register at rest with no rule of its own, is carried out (R545). -/
theorem writeElem_accepted (s : State) (off : Nat) (r : Reg) (i j v : Nat) (hb : (regSpec r).bytes = 4) (hr : regRuns s 0 r i = false)
    (hn : clearBits v (regSpec r).named = 0) (ho : ownRule s 0 r i j v = none) :
    writeElem s (.fn 0) off r i j 0 4 v = applyWrite s (.fn 0) r i j v := by
  simp [writeElem, requesterFn, wholeValue, hb, writeFail, hr, hn, firstFail, ho, readOnlyView]

/-- A write that sets a reserved bit of a register at rest is discarded with 0x0102 (R8, R545). -/
theorem writeElem_reserved (s : State) (off : Nat) (r : Reg) (i j v : Nat) (hb : (regSpec r).bytes = 4) (hr : regRuns s 0 r i = false)
    (hn : clearBits v (regSpec r).named ≠ 0) :
    writeElem s (.fn 0) off r i j 0 4 v = postEvent (dropHeld s r i) 0 2 stReservedSet off v 0 0 := by
  simp [writeElem, requesterFn, wholeValue, hb, writeFail, hr, hn, firstFail, discardWrite, errorFn, errorSource]


/-- A 32-bit value sets no bit outside the full mask. -/
theorem clearBits_full32_of_lt (v : Nat) (hv : v < 2 ^ 32) : clearBits v 0xffffffff = 0 := by
  rw [clearBits_full32, Nat.mod_eq_of_lt hv, Nat.sub_self]

/-- R2, R7: an accepted write sets its field and nothing else. -/
theorem registerWrite_admMargin (s : State) (v : W64) (ha : barAnswers s (.fn 0) 0x200040 true = true) (hv : v.toNat < 2 ^ 32) :
    exec (.registerWrite (.fn 0) 0x200040 4 v 0 0) s = .next (setR s .wngAdmMarginNs v.toNat) := by
  have hd : regDecode 0x200040 = some (.wngAdmMarginNs, 0, 0, 0) := by decide
  refine congrArg Host.Outcome.next ?_
  rw [barWrite_pf _ _ _ _ _ _ _ _ _ ha rfl rfl (by decide) hd hv, collide_pf_none _ _ _ _ _ _ _ _ rfl (by decide) hd rfl rfl,
    writeElem_accepted _ _ _ _ _ _ rfl rfl (clearBits_full32_of_lt _ hv) rfl]
  exact plainWrite_rw32 s 0 .wngAdmMarginNs 0 0 _ rfl rfl rfl rfl rfl

/-- R8: a write that sets a reserved bit changes no register of its own and leaves one ERROR record with 0x0102. -/
theorem registerWrite_reserved (s : State) (v hwSet : W64) (ha : barAnswers s (.fn 0) 0x10080 true = true) (hv : v.toNat < 2 ^ 32)
    (hr : 2 ^ 16 ≤ v.toNat) :
    exec (.registerWrite (.fn 0) 0x10080 4 v hwSet 0) s = .next (postEvent s 0 2 0x0102 0x10080 v.toNat 0 0) := by
  have hd : regDecode 0x10080 = some (.pceLowThresh, 0, 0, 0) := by decide
  have hz : clearBits v.toNat (regSpec .pceLowThresh).named ≠ 0 := by
    have hm : v.toNat &&& 0xffff = v.toNat % 2 ^ 16 := Nat.and_two_pow_sub_one_eq_mod _ 16
    rw [show (regSpec .pceLowThresh).named = 0xffff from rfl, clearBits, hm]; omega
  refine congrArg Host.Outcome.next ?_
  rw [barWrite_pf _ _ _ _ _ _ _ _ _ ha rfl rfl (by decide) hd hv, collide_pf_none _ _ _ _ _ _ _ _ rfl (by decide) hd rfl rfl]
  exact writeElem_reserved s _ _ 0 0 _ rfl rfl hz

/-- R13: a preset that meets an increment gives their sum. -/
theorem registerWrite_fnRefused (s : State) (v : W64) (n : Nat) (ha : barAnswers s (.fn 0) 0x101004 true = true) (hv : v.toNat < 2 ^ 32) :
    exec (.registerWrite (.fn 0) 0x101004 4 v 0 n) s = .next (addR (setR s .vstFnRefused v.toNat) .vstFnRefused n) := by
  have hd : regDecode 0x101004 = some (.vstFnRefused, 0, 0, 0) := by decide
  refine congrArg Host.Outcome.next ?_
  rw [barWrite_pf _ _ _ _ _ _ _ _ _ ha rfl rfl (by decide) hd hv, collide_pf_counter _ _ _ _ _ _ _ _ rfl (by decide) hd rfl,
    writeElem_accepted _ _ _ _ _ _ rfl rfl (clearBits_full32_of_lt _ hv) rfl]
  exact congrArg (addR · .vstFnRefused n) (plainWrite_rw32 s 0 .vstFnRefused 0 0 _ rfl rfl rfl rfl rfl)

/-! ### Reads -/

/-- A read that BAR0 answers shows what the register read gives (R356). -/
theorem barRead_answered (s : State) (who : Requester) (off n hwSet : Nat) (ha : barAnswers s who off false = true) (hn : n = 4 ∨ n = 8)
    (hal : off % n = 0) :
    barRead s who off n hwSet =
      { (regRead s who off n hwSet).1 with readData := BitVec.ofNat 64 (regRead s who off n hwSet).2 } := by
  rcases hn with rfl | rfl <;> simp [barRead, ha, hal]

/-- A register whose own value is shown, all of its bits readable, reads as it stands (R7). -/
theorem readable_plain (s : State) (f : Nat) (r : Reg) (i j : Nat) (ha : wingWordAbsent s r i = false) (hsh : shown s f r i j = getR s r i j f)
    (hst : (regSpec r).staged = 0) (hn : (regSpec r).named = 2 ^ (8 * (regSpec r).bytes) - 1) (hw : (regSpec r).wo = 0)
    (hlt : getR s r i j f < 2 ^ (8 * (regSpec r).bytes)) : readable s f r i j = getR s r i j f := by
  simp [readable, ha, hsh, showsStaged, hst, hn, hw, Nat.and_two_pow_sub_one_eq_mod, Nat.mod_eq_of_lt hlt]

/-- A read in the block of an absent unit gives 0 and leaves everything (R2). -/
theorem readWord_absent (s : State) (who : Requester) (off o n hwSet : Nat) (ho : pfOffset who off = some o) (ha : absentAt s o = true) :
    readWord s who off n hwSet = (s, 0) := by
  simp [readWord, ho, ha]

/-- The halves of an aligned double word lie in the same aligned range. -/
theorem range_upper {a b o : Nat} (ha : a % 8 = 0) (hb : b % 8 = 0) (ho : o % 8 = 0) : (a ≤ o + 4 ∧ o + 4 < b) ↔ (a ≤ o ∧ o < b) := by
  omega

/-- The halves of an aligned double word lie in the same one of equal aligned blocks. -/
theorem block_upper {a d o : Nat} (ha : a % 8 = 0) (hd : d % 8 = 0) (ho : o % 8 = 0) : (o + 4 - a) / d = (o - a) / d := by
  have hd8 : d = 8 * (d / 8) := by omega
  have h : (o + 4 - a) / 8 = (o - a) / 8 := by omega
  rw [hd8, ← Nat.div_div_eq_div_mul, ← Nat.div_div_eq_div_mul, h]

/-- The upper half of an aligned double word lies in the same unit's block as the lower half (R515). -/
theorem offsetUnit_upper (o : Nat) (ho : o % 8 = 0) : offsetUnit (o + 4) = offsetUnit o := by
  simp (disch := omega) only [offsetUnit, range_upper, block_upper]

/-- The upper half of an aligned double word is absent with the lower half (R404, R516). -/
theorem absentAt_upper (s : State) (o : Nat) (ho : o % 8 = 0) : absentAt s (o + 4) = absentAt s o := by
  simp (disch := omega) only [absentAt, offsetUnit_upper o ho, ← Bool.decide_and, range_upper, block_upper]

/-- A requester finds the upper half of an aligned double word right above the lower half. -/
theorem pfOffset_upper (who : Requester) (off o : Nat) (h8 : off % 8 = 0) (ho : pfOffset who off = some o) :
    pfOffset who (off + 4) = some (o + 4) ∧ o % 8 = 0 := by
  unfold pfOffset at ho ⊢
  split at ho
  · cases ho; exact ⟨rfl, h8⟩
  · cases ho; exact ⟨rfl, h8⟩
  · have hid : off + 4 < 0xC0 ↔ off < 0xC0 := by omega
    simp (disch := omega) only [hid, range_upper]
    split at ho
    · cases ho
      exact ⟨if_pos ‹_›, h8⟩
    · rw [if_neg ‹_›]
      split at ho
      · cases ho
        exact ⟨(if_pos ‹_›).trans (congrArg some (by omega)), by omega⟩
      · rw [if_neg ‹_›]
        split at ho
        · cases ho
          exact ⟨(if_pos ‹_›).trans (congrArg some (by omega)), by omega⟩
        · rw [if_neg ‹_›]
          split at ho
          · cases ho
            exact ⟨(if_pos ‹_›).trans (congrArg some (by omega)), by omega⟩
          · cases ho

/-- R2: a read of a register in the block of an absent unit returns 0 and has no side effect. -/
theorem barRead_absent (s : State) (who : Requester) (off o n hwSet : Nat) (hb : barAnswers s who off false = true)
    (ho : pfOffset who off = some o) (ha : absentAt s o = true) (hn : n = 4 ∨ n = 8) (hal : off % n = 0) :
    barRead s who off n hwSet = { s with readData := 0 } := by
  have h0 : regRead s who off n hwSet = (s, 0) := by
    rcases hn with rfl | rfl
    · simp [regRead, readWord_absent s who off o 4 hwSet ho ha]
    · obtain ⟨ho4, h8⟩ := pfOffset_upper who off o hal ho
      have ha4 : absentAt s (o + 4) = true := by rw [absentAt_upper s o h8, ha]
      simp [regRead, readWord_absent s who off o _ hwSet ho ha, readWord_absent s who (off + 4) (o + 4) 4 hwSet ho4 ha4]
  rw [barRead_answered s who off n hwSet hb hn hal, h0]
  rfl

/-- An aligned read of the physical function in the block of a present unit reads the register there. -/
theorem readWord_pf (s : State) (off n hwSet : Nat) (r : Reg) (i j b : Nat) (ha : absentAt s off = false) (hm : off < 0x3801000)
    (hd : regDecode off = some (r, i, j, b)) : readWord s (.fn 0) off n hwSet = readElem s (.fn 0) r i j b n hwSet := by
  have hm' : ¬(0x3801000 ≤ off ∧ off < 0x3802000) := by omega
  simp [readWord, pfOffset, ha, hm', hd, requesterFn]

/-- A read of a whole 32-bit RC register gives its value and leaves in it what the hardware set meanwhile (R7, R13). -/
theorem readElem_rc32 (s : State) (r : Reg) (i j hwSet : Nat) (hsn : (regSpec r).snap = false) (hrc : (regSpec r).rc = 0xffffffff)
    (hb : (regSpec r).bytes = 4) (hr : r ≠ .strRevEstNs) (hv : readable s 0 r i j = getR s r i j) (hlt : getR s r i j < 2 ^ 32) :
    readElem s (.fn 0) r i j 0 4 hwSet = (setR s r hwSet i j, getR s r i j) := by
  have hx : (clearBits (getR s r i j) 0xffffffff + hwSet % 4294967296) % 4294967296 = hwSet % 4294967296 := by
    rw [clearBits_full32]; omega
  have hc : cut (getR s r i j) 0 4 = getR s r i j := by simp [cut]; omega
  simp [readElem, hsn, hrc, hr, hv, hc, requesterFn, and_full32, setR, hb, hx]

/-- The registers of a present engine are not absent (R516). -/
theorem absentAt_engine (s : State) (e x : Nat) (he : e < 32) (hx : x < 0x10000) (hp : present s .engine e = true) :
    absentAt s (0x2000000 + 0x10000 * e + x) = false := by
  have hi : (0x2000000 + 0x10000 * e + x - 0x2000000) / 0x10000 = e := by omega
  have hu : offsetUnit (0x2000000 + 0x10000 * e + x) = some (.engine, e) := by
    rw [offsetUnit, if_neg (by omega), if_pos (by omega), hi]
  simp [absentAt, hu, hp]
  omega

/-- R7, R13: a read of an RC field returns it and leaves in it only what the hardware set meanwhile. -/
theorem rcRead_eccCorrected (s : State) (e : Nat) (hwSet : W64) (he : e < 32) (hp : present s .engine e = true)
    (ha : barAnswers s (.fn 0) (0x2000028 + 0x10000 * e) false = true) (hlt : getR s .colEccCorrected e < 2 ^ 32) :
    exec (.rcRead (.fn 0) (0x2000028 + 0x10000 * e) hwSet) s =
      .next { setR s .colEccCorrected hwSet.toNat e with readData := BitVec.ofNat 64 (getR s .colEccCorrected e) } := by
  have hd : ∀ k < 32, regDecode (0x2000028 + 0x10000 * k) = some (.colEccCorrected, k, 0, 0) := by decide
  have hab : absentAt s (0x2000028 + 0x10000 * e) = false := by
    have h := absentAt_engine s e 0x28 he (by decide) hp
    rwa [show 0x2000000 + 0x10000 * e + 0x28 = 0x2000028 + 0x10000 * e by omega] at h
  have hw : regRead s (.fn 0) (0x2000028 + 0x10000 * e) 4 hwSet.toNat = (setR s .colEccCorrected hwSet.toNat e, getR s .colEccCorrected e) := by
    have hv : readable s 0 .colEccCorrected e 0 = getR s .colEccCorrected e :=
      readable_plain s 0 .colEccCorrected e 0 rfl rfl rfl rfl rfl hlt
    rw [regRead, if_pos (by simp), readWord_pf _ _ _ _ _ _ _ _ hab (by omega) (hd e he)]
    exact readElem_rc32 s .colEccCorrected e 0 _ rfl rfl rfl (by decide) hv hlt
  refine congrArg Host.Outcome.next ?_
  rw [barRead_answered _ _ _ _ _ ha (.inl rfl) (by omega), hw]

/-! ### Snapshot counters (R14, R45) -/

/-- VST_LINK_DOWNS reads as it stands. -/
theorem readable_linkDowns (s : State) : readable s 0 .vstLinkDowns 0 0 = getR s .vstLinkDowns :=
  readable_plain s 0 .vstLinkDowns 0 0 rfl rfl rfl rfl rfl (getR_lt ..)

/-- An aligned read within VST_LINK_DOWNS is a read of a snapshot counter. -/
theorem regRead_linkDowns (s : State) (b n : Nat) (hb : b = 0 ∧ (n = 4 ∨ n = 8) ∨ b = 4 ∧ n = 4) :
    regRead s (.fn 0) (0x180008 + b) n 0 = readSnap s (.fn 0) .vstLinkDowns 0 0 b n := by
  have hd : ∀ k, k = 0 ∨ k = 4 → regDecode (0x180008 + k) = some (.vstLinkDowns, 0, 0, k) := by rintro _ (rfl | rfl) <;> decide
  have hb' : b = 0 ∨ b = 4 := by omega
  have hab : absentAt s (0x180008 + b) = false := absentAt_of_noUnit s _ (by rcases hb' with rfl | rfl <;> rfl) (by omega)
  have hw : n = 4 ∨ wideAt (.fn 0) (0x180008 + b) = true := by
    rcases hb with ⟨rfl, h | -⟩ | ⟨-, h⟩
    · exact .inl h
    · exact .inr (by decide)
    · exact .inl h
  rw [regRead, if_pos (by simpa using hw), readWord_pf _ _ _ _ _ _ _ _ hab (by omega) (hd b hb')]
  rfl

/-- R14: a 4-byte read of the low word returns it and copies the counter into the requester's latch. -/
theorem readSnap_low (s : State) :
    readSnap s (.fn 0) .vstLinkDowns 0 0 0 4 =
      (setLatch s (.fn 0) .vstLinkDowns 0 0 (getR s .vstLinkDowns), getR s .vstLinkDowns % 2 ^ 32) := by
  simp [readSnap, lowWord, snapshot, snapWords, requesterFn, readable_linkDowns, cut]

/-- R14: a 4-byte read of the high word returns what the latch holds. -/
theorem readSnap_high (s : State) :
    readSnap s (.fn 0) .vstLinkDowns 0 0 4 4 = (s, latched s (.fn 0) .vstLinkDowns 0 0 / 2 ^ 32) := by
  have hlt : latched s (.fn 0) .vstLinkDowns 0 0 < 2 ^ 64 := BitVec.isLt _
  have hc : cut (latched s (.fn 0) .vstLinkDowns 0 0) 4 4 = latched s (.fn 0) .vstLinkDowns 0 0 / 2 ^ 32 := by
    simp [cut]; omega
  simp [readSnap, hc]

/-- R45: an 8-byte read returns the counter and leaves the latch. -/
theorem readSnap_whole (s : State) : readSnap s (.fn 0) .vstLinkDowns 0 0 0 8 = (s, getR s .vstLinkDowns) := by
  simp [readSnap, wideSnap, requesterFn, readable_linkDowns]

/-- A latch holds what was copied into it. -/
theorem latched_setLatch (s : State) (who : Requester) (r : Reg) (i j v : Nat) (hv : v < 2 ^ 64) :
    latched (setLatch s who r i j v) who r i j = v := by
  simp [latched, setLatch]
  omega

/-- SNAP_LOW_READ of the low word of VST_LINK_DOWNS (R14). -/
theorem snapLowRead_low (s : State) (ha : barAnswers s (.fn 0) 0x180008 false = true) :
    ∃ t, exec (.snapLowRead (.fn 0) 0x180008 4) s = .next t ∧ t.readData.toNat = getR s .vstLinkDowns % 2 ^ 32 ∧
      latched t (.fn 0) .vstLinkDowns 0 0 = getR s .vstLinkDowns ∧ t = { s with latch := t.latch, readData := t.readData } := by
  have hr : regRead s (.fn 0) 0x180008 4 0 = _ := (regRead_linkDowns s 0 4 (by decide)).trans (readSnap_low s)
  refine ⟨_, congrArg Host.Outcome.next ((barRead_answered _ _ _ _ _ ha (.inl rfl) rfl).trans (by rw [hr])), ?_, ?_, rfl⟩
  · exact Nat.mod_eq_of_lt (by omega)
  · exact latched_setLatch s (.fn 0) .vstLinkDowns 0 0 _ (getR_lt ..)

/-- SNAP_LOW_READ of the high word of VST_LINK_DOWNS (R14). -/
theorem snapLowRead_high (s : State) (ha : barAnswers s (.fn 0) 0x18000C false = true) :
    ∃ t, exec (.snapLowRead (.fn 0) 0x18000C 4) s = .next t ∧ t.readData.toNat = latched s (.fn 0) .vstLinkDowns 0 0 / 2 ^ 32 ∧
      t = { s with readData := t.readData } := by
  have hr : regRead s (.fn 0) 0x18000C 4 0 = _ := (regRead_linkDowns s 4 4 (by decide)).trans (readSnap_high s)
  refine ⟨_, congrArg Host.Outcome.next ((barRead_answered _ _ _ _ _ ha (.inl rfl) rfl).trans (by rw [hr])), ?_, rfl⟩
  have hlt : latched s (.fn 0) .vstLinkDowns 0 0 < 2 ^ 64 := BitVec.isLt _
  exact Nat.mod_eq_of_lt (by omega)

/-- SNAP_LOW_READ of the whole of VST_LINK_DOWNS (R45). -/
theorem snapLowRead_whole (s : State) (ha : barAnswers s (.fn 0) 0x180008 false = true) :
    ∃ t, exec (.snapLowRead (.fn 0) 0x180008 8) s = .next t ∧ t.readData.toNat = getR s .vstLinkDowns ∧ t = { s with readData := t.readData } := by
  have hr : regRead s (.fn 0) 0x180008 8 0 = _ := (regRead_linkDowns s 0 8 (by decide)).trans (readSnap_whole s)
  refine ⟨_, congrArg Host.Outcome.next ((barRead_answered _ _ _ _ _ ha (.inr rfl) rfl).trans (by rw [hr])), ?_, rfl⟩
  exact Nat.mod_eq_of_lt (getR_lt ..)

/-! ### Pace windows (R28, R31) -/

/-- Estimates and limits follow a rate only through queries: where none is in the device, nothing changes. -/
theorem afterRate_quiet (s : State) (hq : quiet s) : afterRate s = s := by
  obtain ⟨h1, h2, h3⟩ := hq
  have he : { s with store := { s.store with ended := [] } } = s := by rw [← h3]
  have hj : judgeAgain s = s := by simp only [judgeAgain, h1, List.foldl_nil]
  have hn : settleNewel s = s := by
    refine Eq.trans ?_ he
    simp only [settleNewel, h3, List.filter_nil, List.foldl_nil, reapFlights, h1]
  have hb : settleBoard s = s := by
    refine Eq.trans ?_ he
    simp only [settleBoard, h3, List.filter_nil, List.foldl_nil, h1]
  simp only [afterRate, hj, settleFlights, hn, hb, lateCheck, h2, List.foldl_nil]

/-- A nudge writes no register below the function's block. -/
theorem getR_nudge_below (s : State) (f e : Nat) (q : Reg) (a b g : Nat) (h : regKey g q a b < f * 2 ^ 32 + 0x101000) :
    getR (nudge s f e) q a b g = getR s q a b g := by
  have ht : regKey g q a b ≠ regKey f .vstEqTail e 0 := by simp [regKey, regOff, regSpec] at h ⊢; omega
  have hp : regKey g q a b ≠ regKey f .msixPending 0 0 := by simp [regKey, regOff, regSpec] at h ⊢; omega
  simp only [nudge]
  split
  · split
    · rw [getR_setR_other _ _ _ _ _ _ _ _ _ _ hp, getR_setField_other _ _ _ _ _ _ _ _ _ _ _ _ ht]
    · exact getR_setField_other _ _ _ _ _ _ _ _ _ _ _ _ ht
  · rfl

/-- A dropped record is counted in the function's block. -/
theorem getR_dropRecord_below (s : State) (f : Nat) (q : Reg) (a b g : Nat) (h : regKey g q a b < f * 2 ^ 32 + 0x101000) :
    getR (dropRecord s f) q a b g = getR s q a b g :=
  getR_addR_other _ _ _ _ _ _ _ _ _ _ (by simp [regKey, regOff, regSpec] at h ⊢; omega)

/-- A record written writes no register below the function's block. -/
theorem getR_writeRecord_below (s : State) (f e : Nat) (r : EventRec) (q : Reg) (a b g : Nat)
    (h : regKey g q a b < f * 2 ^ 32 + 0x101000) : getR (writeRecord s f e r) q a b g = getR s q a b g := by
  have ht : regKey g q a b ≠ regKey f .vstEqTail e 0 := by simp [regKey, regOff, regSpec] at h ⊢; omega
  simp only [writeRecord]
  split
  · rw [getR_nudge_below _ _ _ _ _ _ _ h]
    split <;> simp only [getR_setField_other _ _ _ _ _ _ _ _ _ _ _ _ ht, getR_hostPut]
  · exact getR_dropRecord_below _ _ _ _ _ _ h

/-- A posted event writes no register below the function's block. -/
theorem getR_postEvent_below (s : State) (f ty st a b c d : Nat) (q : Reg) (i j g : Nat) (h : regKey g q i j < f * 2 ^ 32 + 0x101000) :
    getR (postEvent s f ty st a b c d) q i j g = getR s q i j g := by
  simp only [postEvent, postRecord]
  split
  · exact getR_dropRecord_below _ _ _ _ _ _ h
  · split
    · split
      · exact getR_setHeld ..
      · exact getR_dropRecord_below _ _ _ _ _ _ h
    · exact getR_writeRecord_below _ _ _ _ _ _ _ _ h

/-- A sample of a sensor changes the Porter alone. -/
theorem noteSample_frame (s : State) (i : Nat) (v : Int) : noteSample s i v = { s with porter := (noteSample s i v).porter } := by
  simp only [noteSample, crossThresholds]
  split
  · rfl
  · split <;> rfl

@[simp] theorem noteSample_store (s : State) (i : Nat) (v : Int) : (noteSample s i v).store = s.store := by rw [noteSample_frame]

@[simp] theorem getR_noteSample (s : State) (i : Nat) (v : Int) (q : Reg) (a b g : Nat) :
    getR (noteSample s i v) q a b g = getR s q a b g := by
  rw [noteSample_frame]
  rfl

/-- The end of a monitor's window leaves the store. -/
theorem paceMonitor_store (s : State) (n c : Nat) : (paceMonitor s n c).store = s.store := by
  simp only [paceMonitor, noteSample_store]
  split
  · split <;> simp
  · split <;> simp

/-- At the end of its window a monitor shows its count, and every other one what it showed (R28). -/
theorem getR_pceMon_paceMonitor (s : State) (n m c : Nat) (hm : m < 32) :
    getR (paceMonitor s n c) .pceMon m = if m = n then min c 0xFFFF else getR s .pceMon m := by
  have hlow : regKey 0 .pceMon m 0 < 0 * 2 ^ 32 + 0x101000 := by simp [regKey, regOff, regSpec]; omega
  have hst : regKey 0 .pceMon m 0 ≠ regKey 0 .pceLowStatus 0 0 := by simp [regKey, regOff, regSpec]; omega
  have hset : ∀ t : State, t.regs = (setR s .pceMon (min c 0xFFFF) n).regs → getR t .pceMon m = if m = n then min c 0xFFFF else getR s .pceMon m := by
    intro t ht
    have h : getR t .pceMon m = getR (setR s .pceMon (min c 0xFFFF) n) .pceMon m := by simp only [getR, ht]
    rw [h]
    split
    case _ he =>
      subst he
      rw [getR_setR_same]
      exact Nat.mod_eq_of_lt (Nat.lt_of_le_of_lt (Nat.min_le_right c 0xFFFF) (by decide))
    case _ he => exact getR_setR_other _ _ _ _ _ _ _ _ _ _ (by simp [regKey, regOff, regSpec]; omega)
  simp only [paceMonitor, getR_noteSample]
  split
  · rw [getR_postEvent_below _ _ _ _ _ _ _ _ _ _ _ _ hlow]
    split
    · rw [getR_setR_other _ _ _ _ _ _ _ _ _ _ hst]
      exact hset _ rfl
    · exact hset _ rfl
  · split
    · rw [getR_setR_other _ _ _ _ _ _ _ _ _ _ hst]
      exact hset _ rfl
    · exact hset _ rfl

/-- After the windows of a list of monitors each of them shows its count (R28). -/
theorem getR_pceMon_windows (counts l : List Nat) (s : State) (m : Nat) (hm : m < 32) :
    getR (l.foldl (fun t n => paceMonitor t n (counts.getD n 0)) s) .pceMon m =
      if m ∈ l then min (counts.getD m 0) 0xFFFF else getR s .pceMon m := by
  induction l generalizing s with
  | nil => rfl
  | cons n l ih =>
    rw [List.foldl_cons, ih, getR_pceMon_paceMonitor _ _ _ _ hm]
    by_cases h : m = n <;> simp [h]

/-- The windows of a list of monitors leave the store. -/
theorem windows_store (counts l : List Nat) (s : State) : (l.foldl (fun t n => paceMonitor t n (counts.getD n 0)) s).store = s.store := by
  induction l generalizing s with
  | nil => rfl
  | cons n l ih => rw [List.foldl_cons, ih, paceMonitor_store]

/-- R28: every monitor of a present hall group shows the count of its window. -/
theorem paceWindow_counts (s : State) (counts : List Nat) (hup : mainUp s = true) (hq : quiet s) :
    ∃ t, exec (.paceWindow counts) s = .next t ∧
      ∀ n, n < 32 → getR t .pceMon n = if bit (fuseWord s.variant 6) (16 + n / 2) then min (counts.getD n 0) 0xFFFF else getR s .pceMon n := by
  let l := (List.range 32).filter fun n => bit (fuseWord s.variant 6) (16 + n / 2)
  refine ⟨l.foldl (fun t n => paceMonitor t n (counts.getD n 0)) s, congrArg Host.Outcome.next ?_, fun n hn => ?_⟩
  · rw [if_pos hup]
    exact afterRate_quiet _ (by rw [quiet, windows_store]; exact hq)
  · rw [getR_pceMon_windows _ _ _ _ hn]
    simp [l, hn]

end Sys2Proof.Machine

section
open Sys2Proof Sys2Proof.Machine

/-- Settles O5: what each of these accesses makes of the state stands above; what is left are the values of the registers that it writes,
and that no other register changes. -/
theorem registersAnswerAndKeep : Obligations.RegistersAnswerAndKeep := by
  refine ⟨⟨?write, registerWrite_reserved, ?preset, ?clear, ?absent, paceWindow_counts⟩, ?snap⟩
  case write =>
    intro s v ha hv
    refine ⟨_, registerWrite_admMargin s v ha hv, ?_, fun _ _ _ _ h => getR_setR_other _ _ _ _ _ _ _ _ _ _ h, rfl⟩
    exact (getR_setR_same ..).trans (Nat.mod_eq_of_lt hv)
  case preset =>
    intro s v n ha hv
    refine ⟨_, registerWrite_fnRefused s v n ha hv, ?_, fun _ _ _ _ h => ?_, rfl⟩
    · rw [getR_addR_same, getR_setR_same, show 2 ^ (8 * (regSpec .vstFnRefused).bytes) = 2 ^ 32 from rfl, Nat.mod_eq_of_lt hv]
    · rw [getR_addR_other _ _ _ _ _ _ _ _ _ _ h, getR_setR_other _ _ _ _ _ _ _ _ _ _ h]
  case clear =>
    intro s e hwSet he hp ha hlt
    refine ⟨_, rcRead_eccCorrected s e hwSet he hp ha hlt, ?_, getR_setR_same .., fun _ _ _ _ h => getR_setR_other _ _ _ _ _ _ _ _ _ _ h, rfl⟩
    exact Nat.mod_eq_of_lt (by omega)
  case absent =>
    intro s who off o size hwSet hb ho ha
    exact ⟨fun hal => congrArg Host.Outcome.next (barRead_absent s who off o 4 _ hb ho ha (.inl rfl) hal),
      fun hsz hal => congrArg Host.Outcome.next (barRead_absent s who off o size 0 hb ho ha hsz hal)⟩
  case snap =>
    intro s ha
    exact ⟨snapLowRead_low s ha, snapLowRead_high s, snapLowRead_whole s ha⟩

end

/-! ## What no command touches

`kept` is the part of the state that only the step itself changes: the queue and the fused variant. Below stands one lemma for each
function of the model that answers a state, in the order of the model's files: it leaves `kept` as it found it. Each is proved from those
of the functions that it calls, along the branches of its own definition; tagged for simp, they take `kept` of a composite state back to
`kept` of the state that it was made from. -/

namespace Sys2Proof.Machine

/-- The queue and the fused variant: what no command changes. -/
def kept (s : State) : List Instr × Variant := (s.pending, s.variant)

/-- What a command keeps, where it goes on. -/
def keptOut : Out → Option (List Instr × Variant)
  | .next t => some (kept t)
  | _ => none

/-- The state that an instruction's outcome carries. -/
def URes.state : URes → State
  | .next s _ => s
  | .fault s _ => s
  | .stay s => s

/-- The state that the outcome of a part of an instruction carries. -/
def UStep.state {α : Type} : UStep α → State
  | .ok s _ => s
  | .fault s _ => s

/-- An update of other fields keeps queue and variant. -/
@[simp] theorem kept_update (s : State) (free now regs staged latch readData paceArmed failed fifo fifoLost host vst store halls maps ports
    tim mzn ushers engines units nextDesc cores cloister porter oam wingRecord) :
    kept ⟨s.pending, free, s.variant, now, regs, staged, latch, readData, paceArmed, failed, fifo, fifoLost, host, vst, store, halls, maps,
      ports, tim, mzn, ushers, engines, units, nextDesc, cores, cloister, porter, oam, wingRecord⟩ = kept s := rfl

@[simp] theorem keptOut_next (t : State) : keptOut (.next t) = some (kept t) := rfl

theorem keptOut_of_next {s t : State} (h : kept t = kept s) : keptOut (.next t) = some (kept s) := congrArg some h

@[simp] theorem URes.state_next (s : State) (pc : Nat) : (URes.next s pc).state = s := by simp only [URes.state]
@[simp] theorem URes.state_fault (s : State) (f : UFault) : (URes.fault s f).state = s := by simp only [URes.state]
@[simp] theorem URes.state_stay (s : State) : (URes.stay s).state = s := by simp only [URes.state]
@[simp] theorem UStep.state_ok {α : Type} (s : State) (x : α) : (UStep.ok s x).state = s := by simp only [UStep.state]
@[simp] theorem UStep.state_fault {α : Type} (s : State) (f : UFault) : (UStep.fault s f : UStep α).state = s := by simp only [UStep.state]

/-! ### Conditionals and folds -/

section
variable (c : Prop) [Decidable c]

@[simp] theorem kept_ite (s t : State) : kept (if c then s else t) = if c then kept s else kept t := apply_ite kept c s t

@[simp] theorem kept_fst_ite {β : Type} (p q : State × β) : kept (if c then p else q).1 = if c then kept p.1 else kept q.1 :=
  apply_ite (fun x => kept x.1) c p q

@[simp] theorem keptOut_ite (s t : Out) : keptOut (if c then s else t) = if c then keptOut s else keptOut t := apply_ite keptOut c s t

@[simp] theorem kept_state_ite_uRes (p q : URes) : kept (if c then p else q).state = if c then kept p.state else kept q.state :=
  apply_ite (fun x => kept x.state) c p q

@[simp] theorem kept_state_ite_uStep {α : Type} (p q : UStep α) :
    kept (if c then p else q).state = if c then kept p.state else kept q.state :=
  apply_ite (fun x => kept x.state) c p q

end

/-- A fold whose every step keeps queue and variant keeps them. -/
@[simp] theorem foldl_kept {α : Type} (f : State → α → State) (hf : ∀ t a, kept (f t a) = kept t) (l : List α) (s : State) :
    kept (l.foldl f s) = kept s := by
  induction l generalizing s with
  | nil => rfl
  | cons a l ih => simp only [List.foldl_cons, ih, hf]

/-- The same of a fold that carries something beside the state. -/
theorem foldl_fst_kept {α β : Type} (f : State × β → α → State × β) (hf : ∀ t a, kept (f t a).1 = kept t.1) (l : List α) (p : State × β) :
    kept (l.foldl f p).1 = kept p.1 := by
  induction l generalizing p with
  | nil => rfl
  | cons a l ih => simp only [List.foldl_cons, ih, hf]

/-! ### Machine/Ops.lean -/

@[simp] theorem setR_kept (s : State) (r : Reg) (v i j f : Nat) : kept (setR s r v i j f) = kept s := by simp [setR]
@[simp] theorem addR_kept (s : State) (r : Reg) (n i j f : Nat) : kept (addR s r n i j f) = kept s := by simp [addR]
@[simp] theorem addSat_kept (s : State) (r : Reg) (n i j f : Nat) : kept (addSat s r n i j f) = kept s := by simp [addSat]
@[simp] theorem setField_kept (s : State) (r : Reg) (lo width v i j f : Nat) : kept (setField s r lo width v i j f) = kept s := by simp [setField]

@[simp] theorem landR_kept (s : State) (r : Reg) (i j f : Nat) : kept (landR s r i j f) = kept s := by
  unfold landR
  split <;> simp

@[simp] theorem stageR_kept (s : State) (r : Reg) (v i j f : Nat) : kept (stageR s r v i j f) = kept s := by simp [stageR]
@[simp] theorem hostPut_kept (s : State) (a : Nat) (bs : List Byte) : kept (hostPut s a bs) = kept s := by simp [hostPut]
@[simp] theorem setHeld_kept (s : State) (f e : Nat) (l : List EventRec) : kept (setHeld s f e l) = kept s := by simp [setHeld]
@[simp] theorem dropRecord_kept (s : State) (f : Nat) : kept (dropRecord s f) = kept s := by simp [dropRecord]
@[simp] theorem nudge_kept (s : State) (f e : Nat) : kept (nudge s f e) = kept s := by simp [nudge]
@[simp] theorem writeRecord_kept (s : State) (f e : Nat) (r : EventRec) : kept (writeRecord s f e r) = kept s := by simp [writeRecord]
@[simp] theorem postRecord_kept (s : State) (f e : Nat) (r : EventRec) : kept (postRecord s f e r) = kept s := by simp [postRecord]
@[simp] theorem releaseHeld_kept (s : State) (f e n : Nat) : kept (releaseHeld s f e n) = kept s := by fun_induction releaseHeld s f e n <;> simp [*]
@[simp] theorem postEvent_kept (s : State) (f type status a b c d : Nat) : kept (postEvent s f type status a b c d) = kept s := by simp [postEvent]
@[simp] theorem setSticky_kept (s : State) (ev en : Reg) (m i : Nat) : kept (setSticky s ev en m i) = kept s := by simp [setSticky]

@[simp] theorem discardWrite_kept (s : State) (who : Requester) (off value status : Nat) : kept (discardWrite s who off value status) = kept s := by
  simp [discardWrite]

@[simp] theorem modCmd_kept (s : State) (id : Nat) (g : Cmd → Cmd) : kept (modCmd s id g) = kept s := by simp [modCmd]
@[simp] theorem finish_kept (s : State) (id status a b c d pace : Nat) : kept (finish s id status a b c d pace) = kept s := by simp [finish]

@[simp] theorem withCmd_kept (s : State) (id op : Nat) (k : Cmd → State → State) (hk : ∀ c t, kept (k c t) = kept t) :
    kept (withCmd s id op k) = kept s := by
  unfold withCmd
  split <;> simp [hk]

@[simp] theorem drawFree_kept (s : State) : kept (drawFree s) = kept s := by simp [drawFree]

/-! ### Machine/StoreOps.lean -/

@[simp] theorem setHall_kept (s : State) (h : Nat) (x : Hall) : kept (setHall s h x) = kept s := by simp [setHall]
@[simp] theorem modStair_kept (s : State) (h : Nat) (f : Stair → Stair) : kept (modStair s h f) = kept s := by simp [modStair]
@[simp] theorem modCtl_kept (s : State) (h : Nat) (f : HallCtl → HallCtl) : kept (modCtl s h f) = kept s := by simp [modCtl]

@[simp] theorem noteStall_kept (s : State) (h : Nat) : kept (noteStall s h) = kept s := by
  simp only [noteStall]
  repeat' split
  all_goals simp

@[simp] theorem setColl_kept (s : State) (c : Nat) (x : Option Coll) : kept (setColl s c x) = kept s := by simp [setColl]

@[simp] theorem modColl_kept (s : State) (c : Nat) (f : Coll → Coll) : kept (modColl s c f) = kept s := by
  unfold modColl
  split <;> simp

@[simp] theorem modJournal_kept (s : State) (w : Nat) (f : Journal → Journal) : kept (modJournal s w f) = kept s := by simp [modJournal]
@[simp] theorem beginCommit_kept (s : State) (w : Nat) : kept (beginCommit s w) = kept s := by simp [beginCommit]
@[simp] theorem tryCommit_kept (s : State) (w : Nat) : kept (tryCommit s w) = kept s := by simp [tryCommit]
@[simp] theorem commitAtHalf_kept (s : State) (w : Nat) : kept (commitAtHalf s w) = kept s := by simp [commitAtHalf]
@[simp] theorem stageCredits_kept (s : State) (w id n : Nat) : kept (stageCredits s w id n) = kept s := by simp [stageCredits]
@[simp] theorem waitCredits_kept (s : State) (w id n : Nat) : kept (waitCredits s w id n) = kept s := by simp [waitCredits]
@[simp] theorem enterHealth_kept (s : State) (h : Nat) : kept (enterHealth s h) = kept s := by simp [enterHealth]
@[simp] theorem programmed_kept (s : State) (n : Nat) : kept (programmed s n) = kept s := by simp [programmed]

/-! ### Machine/Access.lean -/

@[simp] theorem hallPut_kept (s : State) (h o : Nat) (bs : List Byte) : kept (hallPut s h o bs) = kept s := by simp [hallPut]

@[simp] theorem orElse_kept (s : State) (c : Cmd) (f : Option Nat) (go : State) :
    kept (orElse s c f go) = if f.isSome then kept s else kept go := by
  cases f <;> simp [orElse]

@[simp] theorem stageOrWait_kept (s : State) (w id bytes : Nat) (apply : State → State) (ha : ∀ t, kept (apply t) = kept t) :
    kept (stageOrWait s w id bytes apply) = kept s := by
  simp [stageOrWait, ha]

/-! ### Machine/Sensors.lean -/

@[simp] theorem modSensor_kept (s : State) (i : Nat) (f : PldmSensor → PldmSensor) : kept (modSensor s i f) = kept s := by simp [modSensor]
@[simp] theorem platformEvent_kept (s : State) (e : PldmEvent) : kept (platformEvent s e) = kept s := by simp [platformEvent]
@[simp] theorem crossThresholds_kept (s : State) (i : Nat) (milli : Int) : kept (crossThresholds s i milli) = kept s := by simp [crossThresholds]
@[simp] theorem noteSample_kept (s : State) (i : Nat) (milli : Int) : kept (noteSample s i milli) = kept s := by simp [noteSample]

/-! ### Machine/HallOps.lean -/

@[simp] theorem porterEvt_kept (s : State) (type : Nat) (fields : List Nat) : kept (porterEvt s type fields) = kept s := by simp [porterEvt]
@[simp] theorem hallEvent_kept (s : State) (h m pc pin : Nat) : kept (hallEvent s h m pc pin) = kept s := by simp [hallEvent]
@[simp] theorem logUe_kept (s : State) (h : Nat) (l : LineAt) (src : Nat) : kept (logUe s h l src) = kept s := by simp [logUe]
@[simp] theorem enterBad_kept (s : State) (h : Nat) (l : LineAt) (src : Nat) : kept (enterBad s h l src) = kept s := by simp [enterBad]
@[simp] theorem clearBad_kept (s : State) (h : Nat) (l : LineAt) : kept (clearBad s h l) = kept s := by simp [clearBad]

@[simp] theorem corruptLine_kept (s : State) (h : Nat) (l : LineAt) : kept (corruptLine s h l) = kept s := by
  simp only [corruptLine]
  repeat' split
  all_goals simp

@[simp] theorem countCorrected_kept (s : State) (h : Nat) (l : LineAt) (pins : List Nat) : kept (countCorrected s h l pins) = kept s := by
  simp [countCorrected]

@[simp] theorem readLine_kept (s : State) (h : Nat) (l : LineAt) (src : Nat) (e : LineErr) : kept (readLine s h l src e).1 = kept s := by
  simp only [readLine]
  repeat' split
  all_goals simp

/-! ### Machine/Store.lean -/

@[simp] theorem collCreateBody_kept (c : Cmd) (s : State) : kept (collCreateBody c s) = kept s := by simp [collCreateBody]
@[simp] theorem execCollCreate_kept (id : Nat) (s : State) : keptOut (execCollCreate id s) = some (kept s) := by simp [execCollCreate]
@[simp] theorem addExtent_kept (s : State) (h c n : Nat) : kept (addExtent s h c n) = kept s := by simp [addExtent]

@[simp] theorem removeBays_kept (s : State) (h c n : Nat) : kept (removeBays s h c n) = kept s := by
  unfold removeBays
  split <;> simp

@[simp] theorem removeExtents_kept (s : State) (h c : Nat) : kept (removeExtents s h c) = kept s := by simp [removeExtents]
@[simp] theorem gcPermits_kept (s : State) : kept (gcPermits s) = kept s := by simp [gcPermits]

@[simp] theorem destroyDone_kept (s : State) (c : Nat) : kept (destroyDone s c) = kept s := by
  simp only [destroyDone]
  repeat' split
  all_goals simp

@[simp] theorem extendDone_kept (s : State) (id c : Nat) : kept (extendDone s id c) = kept s := by
  unfold extendDone
  split <;> simp

@[simp] theorem applyChange_kept (s : State) (h : Nat) (x : ExtChange) : kept (applyChange s h x) = kept s := by
  unfold applyChange
  split <;> simp

@[simp] theorem stageChange_kept (s : State) (h : Nat) (x : ExtChange) : kept (stageChange s h x) = kept s := by simp [stageChange]
@[simp] theorem noteQuota_kept (s : State) (c : Cmd) (f : Option Nat) : kept (noteQuota s c f) = kept s := by simp [noteQuota]
@[simp] theorem collExtendBody_kept (c : Cmd) (s : State) : kept (collExtendBody c s) = kept s := by simp [collExtendBody]
@[simp] theorem execCollExtend_kept (id : Nat) (s : State) : keptOut (execCollExtend id s) = some (kept s) := by simp [execCollExtend]

@[simp] theorem collInfoBody_kept (c : Cmd) (s : State) : kept (collInfoBody c s) = kept s := by
  simp only [collInfoBody]
  repeat' split
  all_goals simp

@[simp] theorem execCollInfo_kept (id : Nat) (s : State) : keptOut (execCollInfo id s) = some (kept s) := by simp [execCollInfo]
@[simp] theorem collDestroyBody_kept (c : Cmd) (s : State) : kept (collDestroyBody c s) = kept s := by simp [collDestroyBody]
@[simp] theorem execCollDestroy_kept (id : Nat) (s : State) : keptOut (execCollDestroy id s) = some (kept s) := by simp [execCollDestroy]
@[simp] theorem retirePermit_kept (s : State) (c mapId : Nat) : kept (retirePermit s c mapId) = kept s := by simp [retirePermit]
@[simp] theorem permitWriteBody_kept (c : Cmd) (s : State) : kept (permitWriteBody c s) = kept s := by simp [permitWriteBody]
@[simp] theorem execPermitWrite_kept (id : Nat) (s : State) : keptOut (execPermitWrite id s) = some (kept s) := by simp [execPermitWrite]

/-! ### Machine/StoreWrite.lean -/

@[simp] theorem storeBody_kept (op : Nat) (c : Cmd) (s : State) : kept (storeBody op c s) = kept s := by simp [storeBody]
@[simp] theorem execInsert_kept (id : Nat) (s : State) : keptOut (execInsert id s) = some (kept s) := by simp [execInsert]
@[simp] theorem execDelete_kept (id : Nat) (s : State) : keptOut (execDelete id s) = some (kept s) := by simp [execDelete]
@[simp] theorem execUpsert_kept (id : Nat) (s : State) : keptOut (execUpsert id s) = some (kept s) := by simp [execUpsert]
@[simp] theorem leavePoint_kept (s : State) (coll : Nat) : kept (leavePoint s coll) = kept s := by simp [leavePoint]
@[simp] theorem dropGrant_kept (s : State) (w id : Nat) : kept (dropGrant s w id) = kept s := by simp [dropGrant]

@[simp] theorem epochHighEvents_kept (s : State) (coll owner epoch : Nat) : kept (epochHighEvents s coll owner epoch) = kept s := by
  simp [epochHighEvents]

@[simp] theorem advanceEpoch_kept (s : State) (coll : Nat) : kept (advanceEpoch s coll) = kept s := by
  unfold advanceEpoch
  split <;> simp

@[simp] theorem refuseWriter_kept (s : State) (coll w id st : Nat) : kept (refuseWriter s coll w id st) = kept s := by simp [refuseWriter]

@[simp] theorem storeWrite_kept (s : State) (coll : Nat) (x : Coll) (c : Cmd) (bad : Bool) : kept (storeWrite s coll x c bad) = kept s := by
  simp only [storeWrite]
  split
  · simp
  · split <;> simp

@[simp] theorem modCompaction_kept (s : State) (id : Nat) (f : Compaction → Compaction) : kept (modCompaction s id f) = kept s := by
  simp [modCompaction]

@[simp] theorem endCompaction_kept (s : State) (k : Compaction) (st : Nat) : kept (endCompaction s k st) = kept s := by simp [endCompaction]
@[simp] theorem compactBody_kept (c : Cmd) (s : State) : kept (compactBody c s) = kept s := by simp [compactBody]
@[simp] theorem execCompact_kept (id : Nat) (s : State) : keptOut (execCompact id s) = some (kept s) := by simp [execCompact]

@[simp] theorem planPass_kept (s : State) (coll : Nat) (x : Coll) (k : Compaction) : kept (planPass s coll x k) = kept s := by
  unfold planPass
  split <;> simp

@[simp] theorem runPass_kept (s : State) (coll : Nat) (x : Coll) (k : Compaction) (abandoned : List Nat) :
    kept (runPass s coll x k abandoned) = kept s := by simp [runPass]

@[simp] theorem execCompactionPass_kept (id : Nat) (abandoned : List Nat) (s : State) :
    keptOut (execCompactionPass id abandoned s) = some (kept s) := by
  simp only [execCompactionPass]
  repeat' split
  all_goals simp

@[simp] theorem rebaseBody_kept (c : Cmd) (s : State) : kept (rebaseBody c s) = kept s := by simp [rebaseBody]
@[simp] theorem execRebase_kept (id : Nat) (s : State) : keptOut (execRebase id s) = some (kept s) := by simp [execRebase]
@[simp] theorem finishAll_kept (s : State) (ids : List Nat) (st : Nat) : kept (finishAll s ids st) = kept s := by simp [finishAll]

@[simp] theorem execRebaseRewrite_kept (coll : Nat) (s : State) : keptOut (execRebaseRewrite coll s) = some (kept s) := by
  unfold execRebaseRewrite
  split <;> simp

@[simp] theorem servePoint_kept (s : State) (coll : Nat) (x : Coll) (id : Nat) (bad : Bool) : kept (servePoint s coll x id bad) = kept s := by
  simp only [servePoint]
  repeat' split
  all_goals simp

@[simp] theorem execStoreWritePoint_kept (coll : Nat) (bad : Bool) (dirLine : Option (Nat × Nat)) (s : State) :
    keptOut (execStoreWritePoint coll bad dirLine s) = some (kept s) := by
  simp only [execStoreWritePoint]
  repeat' split
  all_goals simp

@[simp] theorem execDirectoryRebuild_kept (coll hall line : Nat) (members : List Nat) (s : State) :
    keptOut (execDirectoryRebuild coll hall line members s) = some (kept s) := by
  unfold execDirectoryRebuild
  split <;> simp

/-! ### Machine/Stair.lean -/

@[simp] theorem modQuery_kept (s : State) (ctx : Nat) (f : Query → Query) : kept (modQuery s ctx f) = kept s := by simp [modQuery]
@[simp] theorem dropQuery_kept (s : State) (ctx : Nat) : kept (dropQuery s ctx) = kept s := by simp [dropQuery]
@[simp] theorem addRec_kept (s : State) (ctx : Nat) (r : HallRec) : kept (addRec s ctx r) = kept s := by simp [addRec]
@[simp] theorem addEmpty_kept (s : State) (ctx h : Nat) (thermal : Bool) : kept (addEmpty s ctx h thermal) = kept s := by simp [addEmpty]
@[simp] theorem joinLanding_kept (s : State) (h : Nat) (q : Query) : kept (joinLanding s h q) = kept s := by simp [joinLanding]
@[simp] theorem leaveLanding_kept (s : State) (h ctx : Nat) : kept (leaveLanding s h ctx) = kept s := by simp [leaveLanding]

@[simp] theorem fixView_kept (s : State) (h : Nat) (q : Query) : kept (fixView s h q) = kept s := by
  simp only [fixView]
  repeat' split
  all_goals simp

@[simp] theorem chargeGrant_kept (s : State) (h : Nat) (q : Query) : kept (chargeGrant s h q) = kept s := by simp [chargeGrant]

@[simp] theorem takeTreads_kept (s : State) (h : Nat) (q : Query) (board : Stair → Stair) : kept (takeTreads s h q board).1 = kept s := by
  unfold takeTreads
  split <;> simp

@[simp] theorem tryGrant_kept (s : State) (h : Nat) (q : Query) (front : Bool) : kept (tryGrant s h q front).1 = kept s := by
  simp only [tryGrant]
  repeat' split
  all_goals simp

@[simp] theorem grantAll_kept (s : State) (h : Nat) (skip : List Nat) (n : Nat) : kept (grantAll s h skip n) = kept s := by
  fun_induction grantAll s h skip n with
  | case1 => rfl
  | case2 => rfl
  | case3 _ _ _ _ _ r _ ih => exact ih.trans (tryGrant_kept ..)
  | case4 _ _ _ _ _ r _ ih => exact ih.trans (tryGrant_kept ..)

@[simp] theorem alight_kept (s : State) (h ctx : Nat) (thermal : Bool) : kept (alight s h ctx thermal) = kept s := by
  simp only [alight]
  repeat' split
  all_goals simp

@[simp] theorem alightWhere_kept (s : State) (h : Nat) (p : Tread → Bool) (thermal : Bool) : kept (alightWhere s h p thermal) = kept s := by
  simp [alightWhere]

@[simp] theorem thermalStop_kept (s : State) (h : Nat) : kept (thermalStop s h) = kept s := by simp [thermalStop]

@[simp] theorem compareRecord_kept (s : State) (h uid bay i : Nat) (c : Coll) (n : Nat) : kept (compareRecord s h uid bay i c n) = kept s := by
  simp only [compareRecord]
  repeat' split
  all_goals simp

@[simp] theorem compareAll_kept (s : State) (h uid bay i : Nat) (c : Coll) (coll : Nat) :
    kept (compareAll s h uid bay i c coll) = kept s := by
  refine foldl_kept _ (fun t e => ?_) _ _
  split <;> simp

@[simp] theorem queuePasses_kept (s : State) (h : Nat) : kept (queuePasses s h) = kept s := by simp [queuePasses]

@[simp] theorem streamBay_kept (s : State) (h : Nat) : kept (streamBay s h) = kept s := by
  simp only [streamBay]
  repeat' split
  all_goals simp

@[simp] theorem removeEmptied_kept (s : State) (h : Nat) : kept (removeEmptied s h) = kept s := by
  refine foldl_kept _ (fun t e => ?_) _ _
  repeat' split
  all_goals simp

@[simp] theorem landStair_kept (s : State) (h : Nat) : kept (landStair s h) = kept s := by simp [landStair]
@[simp] theorem setLimited_kept (s : State) (h : Nat) : kept (setLimited s h) = kept s := by simp [setLimited]
@[simp] theorem landExtents_kept (s : State) (h : Nat) : kept (landExtents s h) = kept s := by simp [landExtents]
@[simp] theorem revolution_kept (s : State) (h : Nat) : kept (revolution s h) = kept s := by simp [revolution]

@[simp] theorem advanceHead_kept (s : State) (h : Nat) : kept (advanceHead s h) = kept s := by
  simp only [advanceHead]
  repeat' split
  all_goals simp

@[simp] theorem bayStep_kept (s : State) (h : Nat) : kept (bayStep s h) = kept s := by simp [bayStep]

/-! ### Machine/Turnstile.lean -/

@[simp] theorem readIdLines_kept (s : State) (h : Nat) (errs : List (LineAt × LineErr)) : kept (readIdLines s h errs) = kept s := by
  simp [readIdLines]

@[simp] theorem passTread_kept (s : State) (h n : Nat) : kept (passTread s h n) = kept s := by
  simp only [passTread]
  repeat' split
  all_goals simp

@[simp] theorem execSelectionPass_kept (h n : Nat) (errs : List (LineAt × LineErr)) (s : State) :
    keptOut (execSelectionPass h n errs s) = some (kept s) := by simp [execSelectionPass]

@[simp] theorem settleAlighted_kept (s : State) (h : Nat) (q : Query) (a : Alighted) : kept (settleAlighted s h q a) = kept s := by
  simp [settleAlighted]

@[simp] theorem finalSelection_kept (s : State) (h ctx : Nat) (errs : List (LineAt × LineErr)) : kept (finalSelection s h ctx errs) = kept s := by
  unfold finalSelection
  split <;> simp

@[simp] theorem freeSpill_kept (s : State) (h units : Nat) : kept (freeSpill s h units) = kept s := by simp [freeSpill]
@[simp] theorem spillPass_kept (s : State) (h : Nat) (q : Query) (e : Nat × Tread) : kept (spillPass s h q e) = kept s := by simp [spillPass]

@[simp] theorem spillFinish_kept (s : State) (h ctx units : Nat) (errs : List (LineAt × LineErr)) :
    kept (spillFinish s h ctx units errs) = kept s := by
  simp only [spillFinish]
  repeat' split
  all_goals simp

/-! ### Machine/Admission.lean -/

@[simp] theorem endQuery_kept (s : State) (ctx st : Nat) : kept (endQuery s ctx st) = kept s := by
  unfold endQuery
  split <;> simp

@[simp] theorem countOutcome_kept (s : State) (q : Query) (st : Nat) : kept (countOutcome s q st) = kept s := by simp [countOutcome]

theorem shedAll_kept {s t : State} {q : Query} {hs : List Nat} (h : shedAll s q hs = some t) : kept t = kept s := by
  fun_induction shedAll s q hs with
  | case1 s => cases h; rfl
  | case2 s a hs _ ih => exact ih h
  | case3 s a hs _ _ => cases h
  | case4 s a hs _ v _ ih => exact (ih h).trans (by simp)

@[simp] theorem placeFlight_kept (s : State) (q : Query) (hs : List Nat) : kept (placeFlight s q hs) = kept s := by simp [placeFlight]

theorem admitQuery_kept {s t : State} {q : Query} (h : admitQuery s q = .ok t) : kept t = kept s := by
  simp only [admitQuery] at h
  split at h
  · cases h
  · split at h
    · cases h
    · cases h
      exact (placeFlight_kept ..).trans (shedAll_kept ‹_›)

@[simp] theorem judgeAgain_kept (s : State) : kept (judgeAgain s) = kept s := by simp [judgeAgain]

/-! ### Machine/Maps.lean -/

@[simp] theorem setMap_kept (s : State) (n : Nat) (m : MapEnt) : kept (setMap s n m) = kept s := by simp [setMap]
@[simp] theorem modPort_kept (s : State) (p : Nat) (f : Port → Port) : kept (modPort s p f) = kept s := by simp [modPort]
@[simp] theorem putOut_kept (s : State) (c : Cmd) (bs : List Byte) : kept (putOut s c bs) = kept s := by simp [putOut]
@[simp] theorem modBound_kept (s : State) (n : Nat) (f : Coll → Coll) : kept (modBound s n f) = kept s := by simp [modBound]
@[simp] theorem mapPrepareBody_kept (c : Cmd) (s : State) : kept (mapPrepareBody c s) = kept s := by simp [mapPrepareBody]
@[simp] theorem execMapPrepare_kept (id : Nat) (s : State) : keptOut (execMapPrepare id s) = some (kept s) := by simp [execMapPrepare]
@[simp] theorem mapCommitBody_kept (c : Cmd) (s : State) : kept (mapCommitBody c s) = kept s := by simp [mapCommitBody]
@[simp] theorem execMapCommit_kept (id : Nat) (s : State) : keptOut (execMapCommit id s) = some (kept s) := by simp [execMapCommit]
@[simp] theorem mapAbortBody_kept (c : Cmd) (s : State) : kept (mapAbortBody c s) = kept s := by simp [mapAbortBody]
@[simp] theorem execMapAbort_kept (id : Nat) (s : State) : keptOut (execMapAbort id s) = some (kept s) := by simp [execMapAbort]

@[simp] theorem execMapActivation_kept (n : Nat) (s : State) : keptOut (execMapActivation n s) = some (kept s) := by
  simp only [execMapActivation]
  repeat' split
  all_goals simp

@[simp] theorem execGraceEnd_kept (n : Nat) (s : State) : keptOut (execGraceEnd n s) = some (kept s) := by simp [execGraceEnd]
@[simp] theorem collChangePrepareBody_kept (c : Cmd) (s : State) : kept (collChangePrepareBody c s) = kept s := by simp [collChangePrepareBody]

@[simp] theorem execCollChangePrepare_kept (id : Nat) (s : State) : keptOut (execCollChangePrepare id s) = some (kept s) := by
  simp [execCollChangePrepare]

@[simp] theorem collChangeCommitBody_kept (c : Cmd) (s : State) : kept (collChangeCommitBody c s) = kept s := by simp [collChangeCommitBody]

@[simp] theorem execCollChangeCommit_kept (id : Nat) (s : State) : keptOut (execCollChangeCommit id s) = some (kept s) := by
  simp [execCollChangeCommit]

@[simp] theorem collSetBody_kept (c : Cmd) (s : State) : kept (collSetBody c s) = kept s := by simp [collSetBody]
@[simp] theorem execCollSet_kept (id : Nat) (s : State) : keptOut (execCollSet id s) = some (kept s) := by simp [execCollSet]

/-! ### Machine/Home.lean -/

@[simp] theorem modMzn_kept (s : State) (f : Mezz → Mezz) : kept (modMzn s f) = kept s := by simp [modMzn]
@[simp] theorem modRec_kept (s : State) (l : Nat) (f : LineRec → LineRec) : kept (modRec s l f) = kept s := by simp [modRec]
@[simp] theorem setCache_kept (s : State) (agent l : Nat) (x : Option CLine) : kept (setCache s agent l x) = kept s := by simp [setCache]
@[simp] theorem setWb_kept (s : State) (agent l : Nat) (x : Option WbLine) : kept (setWb s agent l x) = kept s := by simp [setWb]
@[simp] theorem setArray_kept (s : State) (l : Nat) (x : Option ArrLine) : kept (setArray s l x) = kept s := by simp [setArray]
@[simp] theorem sendMzn_kept (s : State) (m : Msg) : kept (sendMzn s m) = kept s := by simp [sendMzn]
@[simp] theorem tickMzn_kept (s : State) : kept (tickMzn s) = kept s := by simp [tickMzn]
@[simp] theorem mznEvent_kept (s : State) (l m : Nat) : kept (mznEvent s l m) = kept s := by simp [mznEvent]
@[simp] theorem hallLinePut_kept (s : State) (l : Nat) (data : List Byte) : kept (hallLinePut s l data) = kept s := by simp [hallLinePut]
@[simp] theorem writeBack_kept (s : State) (l : Nat) (a : ArrLine) : kept (writeBack s l a) = kept s := by simp [writeBack]

theorem placeLine_kept {s t : State} {wing : Option Nat} {l : Nat} {data : List Byte} {dirty : Bool}
    (h : placeLine s wing l data dirty = some t) : kept t = kept s := by
  simp only [placeLine] at h
  repeat' split at h
  all_goals cases h <;> simp

@[simp] theorem writeMem_kept (s : State) (wing : Option Nat) (l : Nat) (data : List Byte) : kept (writeMem s wing l data).1 = kept s := by
  simp only [writeMem]
  split
  · simp
  · split
    · simp
    · split
      · exact (placeLine_kept ‹_›).trans (by simp)
      · simp

@[simp] theorem poisonMem_kept (s : State) (wing : Option Nat) (l : Nat) (data : List Byte) : kept (poisonMem s wing l data) = kept s := by
  simp only [poisonMem]
  repeat' split
  all_goals simp

@[simp] theorem readHallLine_kept (s : State) (q : HomeReq) (src : Nat) : kept (readHallLine s q src).1 = kept s := by
  have hp : ∀ u, kept u = kept s → kept ((placeLine u q.wing q.line (hallRead u (lineHall q.line) (lineOff q.line * 64) 64) false).getD u) = kept s :=
    fun u hu => by
      cases hl : placeLine u q.wing q.line (hallRead u (lineHall q.line) (lineOff q.line * 64) 64) false with
      | none => exact hu
      | some t => exact (placeLine_kept hl).trans hu
  simp only [readHallLine]
  split
  · rfl
  · split
    · simp
    · exact hp _ (by simp)

@[simp] theorem readMem_kept (s : State) (q : HomeReq) (src : Nat) : kept (readMem s q src).1 = kept s := by
  simp only [readMem]
  repeat' split
  all_goals simp

@[simp] theorem startReq_kept (s : State) (q : HomeReq) : kept (startReq s q) = kept s := by simp [startReq]
@[simp] theorem freeLine_kept (s : State) (l : Nat) : kept (freeLine s l) = kept s := by simp [freeLine]

@[simp] theorem txnData_kept (s : State) (t : Txn) (src : Nat) : kept (txnData s t src).1 = kept s := by
  unfold txnData
  split <;> simp

@[simp] theorem granted_kept (s : State) (l : Nat) : kept (granted s l) = kept s := by simp [granted]

@[simp] theorem completeTxn_kept (s : State) (l : Nat) (t : Txn) : kept (completeTxn s l t) = kept s := by
  simp only [completeTxn]
  repeat' split
  all_goals simp

@[simp] theorem pumpLine_kept (s : State) (l n : Nat) : kept (pumpLine s l n) = kept s := by fun_induction pumpLine s l n <;> simp [*]
@[simp] theorem pump_kept (s : State) (l : Nat) : kept (pump s l) = kept s := by simp [pump]

@[simp] theorem arriveReq_kept (s : State) (q : HomeReq) : kept (arriveReq s q) = kept s := by
  simp only [arriveReq]
  repeat' split
  all_goals simp

@[simp] theorem answerSnoop_kept (s : State) (a l : Nat) (k : SnpKind) (bad : Bool) : kept (answerSnoop s a l k bad) = kept s := by
  simp only [answerSnoop]
  repeat' split
  all_goals simp

@[simp] theorem takeSnoop_kept (s : State) (a l : Nat) (d : Option (List Byte)) (dirty poison : Bool) :
    kept (takeSnoop s a l d dirty poison) = kept s := by
  simp only [takeSnoop]
  repeat' split
  all_goals simp

@[simp] theorem evictLine_kept (s : State) (a l : Nat) : kept (evictLine s a l) = kept s := by
  simp only [evictLine]
  repeat' split
  all_goals simp

@[simp] theorem installLine_kept (s : State) (a l : Nat) (st : LineSt) (d : List Byte) (poison : Bool) :
    kept (installLine s a l st d poison) = kept s := by
  unfold installLine
  split <;> simp

@[simp] theorem takeAck_kept (s : State) (a l : Nat) : kept (takeAck s a l) = kept s := by
  unfold takeAck
  split <;> simp

@[simp] theorem setCredit_kept (s : State) (k : Nat) (c : Option Credit) : kept (setCredit s k c) = kept s := by simp [setCredit]
@[simp] theorem queueTx_kept (s : State) (p vc : Nat) (b : List Byte) : kept (queueTx s p vc b) = kept s := by simp [queueTx]

@[simp] theorem peerDone_kept (s : State) (p rtag : Nat) (line : List Byte) (st : Nat) : kept (peerDone s p rtag line st) = kept s := by
  simp only [peerDone]
  repeat' split
  all_goals simp

@[simp] theorem writerDone_kept (s : State) (l st : Nat) (x : Writer) : kept (writerDone s l st x) = kept s := by
  unfold writerDone
  split <;> simp

@[simp] theorem closeEntry_kept (s : State) (h l : Nat) : kept (closeEntry s h l) = kept s := by
  unfold closeEntry
  split <;> simp

theorem wcbTake_kept {s t : State} {l mask : Nat} {data : List Byte} {who : Writer} (h : wcbTake s l mask data who = some t) :
    kept t = kept s := by
  simp only [wcbTake] at h
  repeat' split at h
  all_goals cases h <;> simp

@[simp] theorem admitWaiters_kept (s : State) (h : Nat) : kept (admitWaiters s h) = kept s := by
  refine (foldl_kept _ (fun t w => ?_) _ _).trans (by simp)
  cases hw : wcbTake t w.line w.mask w.data w.writer with
  | none => simp
  | some u => exact wcbTake_kept hw

@[simp] theorem bufferDone_kept (s : State) (h l st : Nat) : kept (bufferDone s h l st) = kept s := by
  unfold bufferDone
  split <;> simp

@[simp] theorem deliverPlain_kept (s : State) (dest : Asker) (l : Nat) (d : List Byte) (st : Nat) : kept (deliverPlain s dest l d st) = kept s := by
  unfold deliverPlain
  split <;> simp

@[simp] theorem receive_kept (s : State) (m : Msg) (bad : Bool) : kept (receive s m bad) = kept s := by
  simp only [receive]
  repeat' split
  all_goals simp

@[simp] theorem receiveFirst_kept (s : State) (p : Msg → Bool) (bad : Bool) : kept (receiveFirst s p bad) = kept s := by
  unfold receiveFirst
  split <;> simp

@[simp] theorem hostAnswer_kept (s : State) (l : Nat) (d : Option (List Byte)) : kept (hostAnswer s l d) = kept s := by
  simp only [hostAnswer]
  repeat' split
  all_goals simp

@[simp] theorem runLine_kept (s : State) (l n : Nat) : kept (runLine s l n) = kept s := by fun_induction runLine s l n <;> simp [*]
@[simp] theorem settleLine_kept (s : State) (l : Nat) : kept (settleLine s l) = kept s := by simp [settleLine]
@[simp] theorem serveLine_kept (s : State) (q : HomeReq) : kept (serveLine s q) = kept s := by simp [serveLine]
@[simp] theorem readNc_kept (s : State) (wing : Option Nat) (l : Nat) : kept (readNc s wing l).1 = kept s := by simp [readNc]

@[simp] theorem writeFull_kept (s : State) (wing : Option Nat) (l : Nat) (d : List Byte) : kept (writeFull s wing l d).1 = kept s := by
  simp [writeFull]

@[simp] theorem wcbWrite_kept (s : State) (l mask : Nat) (data : List Byte) (who : Writer) :
    kept (wcbWrite s l mask data who) = kept s := by
  simp only [wcbWrite]
  repeat' split
  case _ h => exact wcbTake_kept h
  all_goals simp

@[simp] theorem writePart_kept (s : State) (wing : Option Nat) (l mask : Nat) (data : List Byte) :
    kept (writePart s wing l mask data).1 = kept s := by
  simp only [writePart]
  repeat' split
  all_goals simp

@[simp] theorem memPut_kept (s : State) (wing : Option Nat) (a : Nat) (bs : List Byte) : kept (memPut s wing a bs).1 = kept s := by
  refine foldl_fst_kept _ (fun t l => ?_) _ _
  simp only []
  split <;> simp

@[simp] theorem touchRead_kept (s : State) (wing : Option Nat) (a n : Nat) : kept (touchRead s wing a n) = kept s := by simp [touchRead]

/-! ### Machine/Newel.lean -/

@[simp] theorem modNewel_kept (s : State) (id tree : Nat) (f : NewelQuery → NewelQuery) : kept (modNewel s id tree f) = kept s := by simp [modNewel]
@[simp] theorem dropNewel_kept (s : State) (id tree : Nat) : kept (dropNewel s id tree) = kept s := by simp [dropNewel]
@[simp] theorem sendOn_kept (s : State) (p vc : Nat) (b : List Byte) : kept (sendOn s p vc b) = kept s := by simp [sendOn]
@[simp] theorem sendMsg_kept (s : State) (p : Nat) (h : NewelHead) (body : List Byte) : kept (sendMsg s p h body) = kept s := by simp [sendMsg]
@[simp] theorem sendUp_kept (s : State) (q : NewelQuery) (h : NewelHead) (body : List Byte) : kept (sendUp s q h body) = kept s := by simp [sendUp]
@[simp] theorem refuseUp_kept (s : State) (q : NewelQuery) (status shards : Nat) : kept (refuseUp s q status shards) = kept s := by simp [refuseUp]

@[simp] theorem noticeUp_kept (s : State) (q : NewelQuery) (cause eta shards : Nat) : kept (noticeUp s q cause eta shards) = kept s := by
  simp [noticeUp]

@[simp] theorem discardMsg_kept (s : State) (p : Nat) (h : NewelHead) (status : Nat) : kept (discardMsg s p h status) = kept s := by simp [discardMsg]

@[simp] theorem releaseFlight_kept (s : State) (q : NewelQuery) : kept (releaseFlight s q) = kept s := by
  unfold releaseFlight
  split <;> simp

@[simp] theorem forwardQuery_kept (s : State) (q : NewelQuery) (t : Tree) (want : Nat) (select : Option Nat) :
    kept (forwardQuery s q t want select).1 = kept s := by
  refine foldl_fst_kept _ (fun r c => ?_) _ _
  simp only []
  repeat' split
  all_goals simp

@[simp] theorem bumpCtx_kept (s : State) : kept (bumpCtx s) = kept s := by simp [bumpCtx]

@[simp] theorem reroute_kept (s : State) (q : NewelQuery) : kept (reroute s q) = kept s := by
  have hd : ∀ (u t : State) (n : Store), kept t = kept u → kept { t with store := n } = kept u := fun _ _ _ h => h
  simp only [reroute]
  repeat' split
  any_goals simp
  all_goals exact (admitQuery_kept ‹_›).trans (by simp)

@[simp] theorem rootCheck_kept (s : State) (id tree : Nat) : kept (rootCheck s id tree) = kept s := by
  simp only [rootCheck]
  repeat' split
  all_goals simp

@[simp] theorem memberSend_kept (s : State) (q : NewelQuery) : kept (memberSend s q) = kept s := by
  simp only [memberSend]
  repeat' split
  all_goals simp

@[simp] theorem memberCheck_kept (s : State) (id tree : Nat) : kept (memberCheck s id tree) = kept s := by
  unfold memberCheck
  split <;> simp

@[simp] theorem judge_kept (s : State) (q : NewelQuery) : kept (judge s q) = kept s := by simp [judge]

@[simp] theorem markRefused_kept (s : State) (q : NewelQuery) (shards status : Nat) : kept (markRefused s q shards status) = kept s := by
  simp only [markRefused]
  repeat' split
  all_goals simp

@[simp] theorem markLost_kept (s : State) (q : NewelQuery) (shards : Nat) : kept (markLost s q shards) = kept s := by simp [markLost]

@[simp] theorem newelPartnerLost_kept (s : State) (dev : Nat) : kept (newelPartnerLost s dev) = kept s := by
  refine foldl_kept _ (fun t q => ?_) _ _
  split <;> simp

@[simp] theorem lateCheck_kept (s : State) : kept (lateCheck s) = kept s := by
  refine foldl_kept _ (fun t q => ?_) _ _
  repeat' split
  all_goals simp

@[simp] theorem reapFlights_kept (s : State) : kept (reapFlights s) = kept s := by
  refine foldl_kept _ (fun t x => ?_) _ _
  split <;> simp

@[simp] theorem settleNewel_kept (s : State) : kept (settleNewel s) = kept s := by
  refine (reapFlights_kept _).trans ((foldl_kept _ (fun t e => ?_) _ _).trans (kept_update ..))
  repeat' split
  all_goals simp

/-! ### Machine/EngineOps.lean -/

@[simp] theorem modUnit_kept (s : State) (cls inst : Nat) (f : UnitQ → UnitQ) : kept (modUnit s cls inst f) = kept s := by simp [modUnit]
@[simp] theorem pushDesc_kept (s : State) (cls inst : Nat) (d : Desc) : kept (pushDesc s cls inst d) = kept s := by simp [pushDesc]
@[simp] theorem acceptDesc_kept (s : State) (cls inst : Nat) (d : Desc) : kept (acceptDesc s cls inst d) = kept s := by simp [acceptDesc]

@[simp] theorem descResult_kept (s : State) (cls inst id status count : Nat) : kept (descResult s cls inst id status count) = kept s := by
  simp [descResult]

@[simp] theorem refuseDesc_kept (s : State) (cls inst id status : Nat) : kept (refuseDesc s cls inst id status) = kept s := by simp [refuseDesc]
@[simp] theorem endDesc_kept (s : State) (cls inst id status count : Nat) : kept (endDesc s cls inst id status count) = kept s := by simp [endDesc]

@[simp] theorem withDesc_kept (s : State) (cls inst id op : Nat) (act : Desc → State → State) (ha : ∀ d t, kept (act d t) = kept t) :
    kept (withDesc s cls inst id op act) = kept s := by
  unfold withDesc
  split <;> simp [ha]

@[simp] theorem runWrites_kept (s : State) (wing : Nat) (ws : List (Nat × List Byte)) : kept (runWrites s wing ws).1 = kept s := by
  refine foldl_fst_kept _ (fun t w => ?_) _ _
  simp

@[simp] theorem modUsher_kept (s : State) (u : Nat) (f : Usher → Usher) : kept (modUsher s u f) = kept s := by simp [modUsher]

@[simp] theorem completeToken_kept (s : State) (u token desc status : Nat) : kept (completeToken s u token desc status) = kept s := by
  simp [completeToken]

@[simp] theorem completeDesc_kept (s : State) (cls inst : Nat) (d : Desc) (status count : Nat) :
    kept (completeDesc s cls inst d status count) = kept s := by
  simp only [completeDesc]
  repeat' split
  all_goals simp

@[simp] theorem execDescriptorComplete_kept (cls inst id : Nat) (s : State) : keptOut (execDescriptorComplete cls inst id s) = some (kept s) := by
  simp only [execDescriptorComplete]
  repeat' split
  all_goals simp

@[simp] theorem boardDone_kept (s : State) (q : Query) (id : Nat) : kept (boardDone s q id) = kept s := by
  unfold boardDone
  split <;> simp

@[simp] theorem settleBoard_kept (s : State) : kept (settleBoard s) = kept s := by
  refine (foldl_kept _ (fun t q => ?_) _ _).trans ((foldl_kept _ (fun t e => ?_) _ _).trans (kept_update ..))
  · repeat' split
    all_goals simp
  · repeat' split
    all_goals simp

@[simp] theorem settleFlights_kept (s : State) : kept (settleFlights s) = kept s := by simp [settleFlights]
@[simp] theorem afterRate_kept (s : State) : kept (afterRate s) = kept s := by simp [afterRate]

/-! ### Machine/EngineMath.lean -/

@[simp] theorem modEngine_kept (s : State) (e : Nat) (f : Engine → Engine) : kept (modEngine s e f) = kept s := by simp [modEngine]
@[simp] theorem setTile_kept (s : State) (e g : Nat) (t : Tile) : kept (setTile s e g t) = kept s := by simp [setTile]
@[simp] theorem colEvent_kept (s : State) (e m : Nat) : kept (colEvent s e m) = kept s := by simp [colEvent]
@[simp] theorem noteEcc_kept (s : State) (e : Nat) (x : EngineEcc) : kept (noteEcc s e x) = kept s := by simp [noteEcc]
@[simp] theorem engineBoundary_kept (s : State) (e : Nat) : kept (engineBoundary s e) = kept s := by simp [engineBoundary]
@[simp] theorem execQntStatsClr_kept (e : Nat) (s : State) : keptOut (execQntStatsClr e s) = some (kept s) := by simp [execQntStatsClr]

@[simp] theorem engineDesc_kept (s : State) (e id op : Nat) (ecc : EngineEcc) (act : Desc → State → State)
    (ha : ∀ d t, kept (act d t) = kept t) : kept (engineDesc s e id op ecc act) = kept s := by
  simp [engineDesc, ha]

@[simp] theorem touchRanges_kept (s : State) (d : Desc) (rs : List (Nat × Nat)) : kept (touchRanges s d rs) = kept s := by simp [touchRanges]

@[simp] theorem endTiles_kept (s : State) (e id : Nat) (gs : List Nat) (wrapped : Bool) : kept (endTiles s e id gs wrapped) = kept s := by
  simp [endTiles]

/-! ### Machine/Colonnade.lean -/

@[simp] theorem runMma_kept (s : State) (e : Nat) (d : Desc) (m : MmaOp) : kept (runMma s e d m) = kept s := by
  simp only [runMma]
  repeat' split
  all_goals simp

@[simp] theorem execMma_kept (e id : Nat) (ecc : EngineEcc) (s : State) : keptOut (execMma e id ecc s) = some (kept s) := by
  refine keptOut_of_next (engineDesc_kept _ _ _ _ _ _ fun d t => ?_)
  repeat' split
  all_goals simp

@[simp] theorem execTileZero_kept (e id : Nat) (ecc : EngineEcc) (s : State) : keptOut (execTileZero e id ecc s) = some (kept s) := by
  refine keptOut_of_next (engineDesc_kept _ _ _ _ _ _ fun d t => ?_)
  repeat' split
  all_goals simp

@[simp] theorem execTileLoad_kept (e id : Nat) (ecc : EngineEcc) (s : State) : keptOut (execTileLoad e id ecc s) = some (kept s) := by
  refine keptOut_of_next (engineDesc_kept _ _ _ _ _ _ fun d t => ?_)
  simp only []
  repeat' split
  all_goals simp

@[simp] theorem execTileStore_kept (e id : Nat) (ecc : EngineEcc) (s : State) : keptOut (execTileStore e id ecc s) = some (kept s) := by
  refine keptOut_of_next (engineDesc_kept _ _ _ _ _ _ fun d t => ?_)
  repeat' split
  all_goals simp

@[simp] theorem execTileMove_kept (e id : Nat) (ecc : EngineEcc) (s : State) : keptOut (execTileMove e id ecc s) = some (kept s) := by
  refine keptOut_of_next (engineDesc_kept _ _ _ _ _ _ fun d t => ?_)
  repeat' split
  all_goals simp

@[simp] theorem runReduce_kept (s : State) (e : Nat) (d : Desc) (r : ReduceOp) : kept (runReduce s e d r) = kept s := by
  simp only [runReduce]
  repeat' split
  all_goals simp

@[simp] theorem execReduce_kept (e id : Nat) (ecc : EngineEcc) (s : State) : keptOut (execReduce e id ecc s) = some (kept s) := by
  refine keptOut_of_next (engineDesc_kept _ _ _ _ _ _ fun d t => ?_)
  repeat' split
  all_goals simp

@[simp] theorem execSrfLoad_kept (e id : Nat) (ecc : EngineEcc) (s : State) : keptOut (execSrfLoad e id ecc s) = some (kept s) := by
  refine keptOut_of_next (engineDesc_kept _ _ _ _ _ _ fun d t => ?_)
  simp only []
  repeat' split
  all_goals simp

/-! ### Machine/Mezz.lean -/

@[simp] theorem agentReq_kept (s : State) (k : ReqKind) (a l : Nat) (err : MemErr) : kept (agentReq s k a l err) = kept s := by simp [agentReq]
@[simp] theorem execRdS_kept (agent line : Nat) (err : MemErr) (s : State) : keptOut (execRdS agent line err s) = some (kept s) := by simp [execRdS]
@[simp] theorem execRdU_kept (agent line : Nat) (err : MemErr) (s : State) : keptOut (execRdU agent line err s) = some (kept s) := by simp [execRdU]

@[simp] theorem execUpgr_kept (agent line : Nat) (err : MemErr) (s : State) : keptOut (execUpgr agent line err s) = some (kept s) := by
  unfold execUpgr
  split <;> simp

@[simp] theorem execWb_kept (agent line : Nat) (s : State) : keptOut (execWb agent line s) = some (kept s) := by
  unfold execWb
  split <;> simp

@[simp] theorem execEvc_kept (agent line : Nat) (s : State) : keptOut (execEvc agent line s) = some (kept s) := by
  unfold execEvc
  split <;> simp

@[simp] theorem execRdNc_kept (line wing : Nat) (err : MemErr) (s : State) : keptOut (execRdNc line wing err s) = some (kept s) := by simp [execRdNc]

@[simp] theorem execWrFull_kept (line wing : Nat) (data : List Byte) (s : State) : keptOut (execWrFull line wing data s) = some (kept s) := by
  simp [execWrFull]

@[simp] theorem execWrMerge_kept (line : Nat) (err : MemErr) (s : State) : keptOut (execWrMerge line err s) = some (kept s) := by
  unfold execWrMerge
  split <;> simp

@[simp] theorem execAtomH_kept (u line off op size : Nat) (arg cmp : W64) (err : MemErr) (s : State) :
    keptOut (execAtomH u line off op size arg cmp err s) = some (kept s) := by simp [execAtomH]

@[simp] theorem snoopArrives_kept (s : State) (k : SnpKind) (agent line : Nat) (bad : Bool) : kept (snoopArrives s k agent line bad) = kept s := by
  simp [snoopArrives]

@[simp] theorem execSnpPull_kept (agent line : Nat) (bad : Bool) (s : State) : keptOut (execSnpPull agent line bad s) = some (kept s) := by
  simp [execSnpPull]

@[simp] theorem execSnpPeek_kept (agent line : Nat) (bad : Bool) (s : State) : keptOut (execSnpPeek agent line bad s) = some (kept s) := by
  simp [execSnpPeek]

@[simp] theorem execSnpInv_kept (agent line : Nat) (s : State) : keptOut (execSnpInv agent line s) = some (kept s) := by simp [execSnpInv]

@[simp] theorem execSnpInvd_kept (agent line : Nat) (bad : Bool) (s : State) : keptOut (execSnpInvd agent line bad s) = some (kept s) := by
  simp [execSnpInvd]

@[simp] theorem execFlushSet_kept (agent set slice : Nat) (s : State) : keptOut (execFlushSet agent set slice s) = some (kept s) := by
  simp [execFlushSet]

@[simp] theorem execSrsp_kept (agent line : Nat) (s : State) : keptOut (execSrsp agent line s) = some (kept s) := by simp [execSrsp]
@[simp] theorem execSdat_kept (agent line : Nat) (s : State) : keptOut (execSdat agent line s) = some (kept s) := by simp [execSdat]
@[simp] theorem execGdat_kept (line : Nat) (s : State) : keptOut (execGdat line s) = some (kept s) := by simp [execGdat]
@[simp] theorem execCmp_kept (agent line : Nat) (s : State) : keptOut (execCmp agent line s) = some (kept s) := by simp [execCmp]
@[simp] theorem execWcmp_kept (line : Nat) (s : State) : keptOut (execWcmp line s) = some (kept s) := by simp [execWcmp]
@[simp] theorem execAck_kept (agent line : Nat) (s : State) : keptOut (execAck agent line s) = some (kept s) := by simp [execAck]
@[simp] theorem nackPeer_kept (s : State) (p : Nat) (v : Served) (k l : Nat) : kept (nackPeer s p v k l) = kept s := by simp [nackPeer]
@[simp] theorem peerLine_kept (s : State) (p : Nat) (v : Served) (k : Nat) (q : HomeReq) : kept (peerLine s p v k q) = kept s := by simp [peerLine]

@[simp] theorem windowRead_kept (s : State) (p : Nat) (v : Served) (c h : Nat) (err : LineErr) : kept (windowRead s p v c h err) = kept s := by
  unfold windowRead
  split <;> simp

@[simp] theorem peerServe_kept (s : State) (op p rtag : Nat) (err : MemErr) : kept (peerServe s op p rtag err) = kept s := by
  simp only [peerServe]
  repeat' split
  all_goals simp

@[simp] theorem execRrd_kept (p rtag : Nat) (err : MemErr) (s : State) : keptOut (execRrd p rtag err s) = some (kept s) := by simp [execRrd]
@[simp] theorem execRwr_kept (p rtag : Nat) (err : MemErr) (s : State) : keptOut (execRwr p rtag err s) = some (kept s) := by simp [execRwr]
@[simp] theorem execRatom_kept (p rtag : Nat) (err : MemErr) (s : State) : keptOut (execRatom p rtag err s) = some (kept s) := by simp [execRatom]

@[simp] theorem execReservationLapse_kept (line : Nat) (s : State) : keptOut (execReservationLapse line s) = some (kept s) := by
  simp only [execReservationLapse]
  repeat' split
  all_goals simp

@[simp] theorem freePeer_kept (s : State) (p : Nat) : kept (freePeer s p) = kept s := by simp [freePeer]
@[simp] theorem hostSnoop_kept (s : State) (k : ReqKind) (line : Nat) : kept (hostSnoop s k line) = kept s := by simp [hostSnoop]
@[simp] theorem execSnpdata_kept (line : Nat) (s : State) : keptOut (execSnpdata line s) = some (kept s) := by simp [execSnpdata]
@[simp] theorem execSnpinv_kept (line : Nat) (s : State) : keptOut (execSnpinv line s) = some (kept s) := by simp [execSnpinv]
@[simp] theorem execSnpcur_kept (line : Nat) (s : State) : keptOut (execSnpcur line s) = some (kept s) := by simp [execSnpcur]

@[simp] theorem execHostD2hResponse_kept (line : Nat) (data : Option (List Byte)) (s : State) :
    keptOut (execHostD2hResponse line data s) = some (kept s) := by simp [execHostD2hResponse]

@[simp] theorem hostReply_kept (s : State) (d : List Byte) (st : Nat) : kept (hostReply s d st) = kept s := by simp [hostReply]

@[simp] theorem execCxlMemRead_kept (addr : Nat) (err : MemErr) (s : State) : keptOut (execCxlMemRead addr err s) = some (kept s) := by
  simp [execCxlMemRead]

@[simp] theorem execCxlMemWrite_kept (addr mask : Nat) (data : List Byte) (s : State) :
    keptOut (execCxlMemWrite addr mask data s) = some (kept s) := by
  simp only [execCxlMemWrite]
  repeat' split
  all_goals simp

@[simp] theorem flushLine_kept (s : State) (l : Nat) : kept (flushLine s l) = kept s := by
  simp only [flushLine]
  repeat' split
  all_goals simp

@[simp] theorem pageToHost_kept (s : State) (page : Nat) : kept (pageToHost s page) = kept s := by simp [pageToHost]
@[simp] theorem pageToDevice_kept (s : State) (page : Nat) : kept (pageToDevice s page) = kept s := by simp [pageToDevice]
@[simp] theorem execBiasSet_kept (id : Nat) (s : State) : keptOut (execBiasSet id s) = some (kept s) := by simp [execBiasSet]

/-! ### Machine/MariqOps.lean -/

@[simp] theorem setPortState_kept (s : State) (p n : Nat) : kept (setPortState s p n) = kept s := by simp [setPortState]
@[simp] theorem portEvent_kept (s : State) (p m : Nat) : kept (portEvent s p m) = kept s := by simp [portEvent]

@[simp] theorem emitSector_kept (s : State) (p kind vc flags seq : Nat) (payload : List Byte) :
    kept (emitSector s p kind vc flags seq payload) = kept s := by simp [emitSector]

@[simp] theorem dueRecord_kept (s : State) (p : Nat) (bs : List Byte) : kept (dueRecord s p bs) = kept s := by simp [dueRecord]
@[simp] theorem dueCredit_kept (s : State) (p v : Nat) : kept (dueCredit s p v) = kept s := by simp [dueCredit]
@[simp] theorem takeRx_kept (s : State) (p v : Nat) : kept (takeRx s p v) = kept s := by simp [takeRx]
@[simp] theorem setRxFront_kept (s : State) (p v : Nat) (rest : List Byte) : kept (setRxFront s p v rest) = kept s := by simp [setRxFront]
@[simp] theorem clearSession_kept (s : State) (p : Nat) : kept (clearSession s p) = kept s := by simp [clearSession]
@[simp] theorem enterHunt_kept (s : State) (p : Nat) : kept (enterHunt s p) = kept s := by simp [enterHunt]
@[simp] theorem toTrain_kept (s : State) (p : Nat) : kept (toTrain s p) = kept s := by simp [toTrain]
@[simp] theorem sendHello_kept (s : State) (p status : Nat) : kept (sendHello s p status) = kept s := by simp [sendHello]
@[simp] theorem enterHello_kept (s : State) (p : Nat) : kept (enterHello s p) = kept s := by simp [enterHello]
@[simp] theorem completeBlock_kept (s : State) (p block st nacks : Nat) : kept (completeBlock s p block st nacks) = kept s := by simp [completeBlock]
@[simp] theorem failRequests_kept (s : State) (p st : Nat) : kept (failRequests s p st) = kept s := by simp [failRequests]
@[simp] theorem upstreamLost_kept (s : State) (p : Nat) : kept (upstreamLost s p) = kept s := by simp [upstreamLost]
@[simp] theorem dropPartner_kept (s : State) (p st : Nat) : kept (dropPartner s p st) = kept s := by simp [dropPartner]
@[simp] theorem partnerLost_kept (s : State) (p : Nat) : kept (partnerLost s p) = kept s := by simp [partnerLost]
@[simp] theorem peerReset_kept (s : State) (p : Nat) : kept (peerReset s p) = kept s := by simp [peerReset]
@[simp] theorem quarantine_kept (s : State) (p : Nat) : kept (quarantine s p) = kept s := by simp [quarantine]
@[simp] theorem checkQuarantine_kept (s : State) (p count limit : Nat) : kept (checkQuarantine s p count limit) = kept s := by simp [checkQuarantine]
@[simp] theorem countMalformed_kept (s : State) (p : Nat) : kept (countMalformed s p) = kept s := by simp [countMalformed]
@[simp] theorem countViolation_kept (s : State) (p : Nat) : kept (countViolation s p) = kept s := by simp [countViolation]
@[simp] theorem countAuth_kept (s : State) (p : Nat) : kept (countAuth s p) = kept s := by simp [countAuth]

@[simp] theorem noteWaits_kept (s : State) (p : Nat) : kept (noteWaits s p) = kept s := by
  refine foldl_kept _ (fun t v => ?_) _ _
  simp only []
  split <;> simp

@[simp] theorem sendData_kept (s : State) (p v : Nat) : kept (sendData s p v) = kept s := by simp [sendData]
@[simp] theorem resend_kept (s : State) (p : Nat) (t : TxSector) : kept (resend s p t) = kept s := by simp [resend]

@[simp] theorem sendControl_kept (s : State) (p : Nat) : kept (sendControl s p) = kept s := by
  simp only [sendControl]
  repeat' split
  all_goals simp

@[simp] theorem takeAckSeq_kept (s : State) (p e : Nat) : kept (takeAckSeq s p e) = kept s := by simp [takeAckSeq]

@[simp] theorem applyRecord_kept (s : State) (p : Nat) (r : List Byte) : kept (applyRecord s p r) = kept s := by
  unfold applyRecord
  split <;> simp

@[simp] theorem takeControl_kept (s : State) (p : Nat) (x : Sector) : kept (takeControl s p x) = kept s := by simp [takeControl]
@[simp] theorem deliverData_kept (s : State) (p v : Nat) (b : List Byte) : kept (deliverData s p v b) = kept s := by simp [deliverData]
@[simp] theorem drainReorder_kept (s : State) (p n : Nat) : kept (drainReorder s p n) = kept s := by fun_induction drainReorder s p n <;> simp [*]
@[simp] theorem sendNaks_kept (s : State) (p : Nat) (l : List Nat) : kept (sendNaks s p l) = kept s := by simp [sendNaks]
@[simp] theorem takeData_kept (s : State) (p : Nat) (x : Sector) : kept (takeData s p x) = kept s := by simp [takeData]
@[simp] theorem refuseLink_kept (s : State) (p st : Nat) (f : List Nat) : kept (refuseLink s p st f) = kept s := by simp [refuseLink]

@[simp] theorem takeHello_kept (s : State) (p : Nat) (x : Sector) : kept (takeHello s p x) = kept s := by
  simp only [takeHello]
  repeat' split
  all_goals simp

@[simp] theorem takeLive_kept (s : State) (p : Nat) (x : Sector) : kept (takeLive s p x) = kept s := by
  simp only [takeLive]
  repeat' split
  all_goals simp

@[simp] theorem takeSector_kept (s : State) (p : Nat) (x : Sector) : kept (takeSector s p x) = kept s := by
  unfold takeSector
  split <;> simp

@[simp] theorem lockRx_kept (s : State) (p : Nat) : kept (lockRx s p) = kept s := by simp [lockRx]

@[simp] theorem afterHeader_kept (s : State) (p : Nat) (x : Sector) (locked : Bool) : kept (afterHeader s p x locked) = kept s := by
  simp [afterHeader]

@[simp] theorem receiveSector_kept (s : State) (p kind : Nat) (x : Sector) : kept (receiveSector s p kind x) = kept s := by simp [receiveSector]

/-! ### Machine/Mariq.lean -/

@[simp] theorem notBefore_kept (s : State) (t : Nat) : kept (notBefore s t) = kept s := by simp [notBefore]

@[simp] theorem execSectorSend_kept (p : Nat) (s : State) : keptOut (execSectorSend p s) = some (kept s) := by
  simp only [execSectorSend]
  repeat' split
  all_goals simp

@[simp] theorem execIdleSector_kept (p : Nat) (x : Sector) (s : State) : keptOut (execIdleSector p x s) = some (kept s) := by simp [execIdleSector]

@[simp] theorem execControlSector_kept (p : Nat) (x : Sector) (s : State) : keptOut (execControlSector p x s) = some (kept s) := by
  simp [execControlSector]

@[simp] theorem execDataSector_kept (p : Nat) (x : Sector) (s : State) : keptOut (execDataSector p x s) = some (kept s) := by simp [execDataSector]
@[simp] theorem execHelloSector_kept (p : Nat) (x : Sector) (s : State) : keptOut (execHelloSector p x s) = some (kept s) := by simp [execHelloSector]
@[simp] theorem execHelloSend_kept (p : Nat) (s : State) : keptOut (execHelloSend p s) = some (kept s) := by simp [execHelloSend]

@[simp] theorem execRetransmitTimeout_kept (p : Nat) (s : State) : keptOut (execRetransmitTimeout p s) = some (kept s) := by
  unfold execRetransmitTimeout
  split <;> simp

@[simp] theorem execNakTimeout_kept (p : Nat) (s : State) : keptOut (execNakTimeout p s) = some (kept s) := by simp [execNakTimeout]

@[simp] theorem execControlRecordDue_kept (p vc : Nat) (s : State) : keptOut (execControlRecordDue p vc s) = some (kept s) := by
  simp [execControlRecordDue]

@[simp] theorem execHeartbeatSend_kept (p : Nat) (s : State) : keptOut (execHeartbeatSend p s) = some (kept s) := by simp [execHeartbeatSend]
@[simp] theorem execHeartbeatTimeout_kept (p : Nat) (s : State) : keptOut (execHeartbeatTimeout p s) = some (kept s) := by simp [execHeartbeatTimeout]
@[simp] theorem execLossOfSignal_kept (p : Nat) (s : State) : keptOut (execLossOfSignal p s) = some (kept s) := by simp [execLossOfSignal]

@[simp] theorem execSlowTimeout_kept (p : Nat) (s : State) : keptOut (execSlowTimeout p s) = some (kept s) := by
  simp only [execSlowTimeout]
  repeat' split
  all_goals simp

@[simp] theorem execTrainingComplete_kept (p : Nat) (s : State) : keptOut (execTrainingComplete p s) = some (kept s) := by simp [execTrainingComplete]
@[simp] theorem execTrainingTimeout_kept (p : Nat) (s : State) : keptOut (execTrainingTimeout p s) = some (kept s) := by simp [execTrainingTimeout]

@[simp] theorem execAuthComplete_kept (p : Nat) (credits : List Nat) (s : State) : keptOut (execAuthComplete p credits s) = some (kept s) := by
  simp [execAuthComplete]

@[simp] theorem spdmFails_kept (s : State) (p : Nat) : kept (spdmFails s p) = kept s := by simp [spdmFails]
@[simp] theorem execSpdmFailure_kept (p : Nat) (s : State) : keptOut (execSpdmFailure p s) = some (kept s) := by simp [execSpdmFailure]

@[simp] theorem execAuthRetry_kept (p : Nat) (s : State) : keptOut (execAuthRetry p s) = some (kept s) := by
  unfold execAuthRetry
  split <;> simp

@[simp] theorem execKeyUpdateDue_kept (p : Nat) (done : Bool) (s : State) : keptOut (execKeyUpdateDue p done s) = some (kept s) := by
  simp [execKeyUpdateDue]

@[simp] theorem execKeySwitchWindowEnd_kept (p : Nat) (s : State) : keptOut (execKeySwitchWindowEnd p s) = some (kept s) := by
  simp [execKeySwitchWindowEnd]

@[simp] theorem execKeyUpdateTimeout_kept (p : Nat) (s : State) : keptOut (execKeyUpdateTimeout p s) = some (kept s) := by simp [execKeyUpdateTimeout]
@[simp] theorem execQuarantineWindow_kept (p : Nat) (s : State) : keptOut (execQuarantineWindow p s) = some (kept s) := by simp [execQuarantineWindow]
@[simp] theorem portEnable_kept (s : State) (p : Nat) : kept (portEnable s p) = kept s := by simp [portEnable]
@[simp] theorem portDisable_kept (s : State) (p : Nat) : kept (portDisable s p) = kept s := by simp [portDisable]

@[simp] theorem portRetrain_kept (s : State) (p : Nat) : kept (portRetrain s p) = kept s := by
  unfold portRetrain
  split <;> simp

@[simp] theorem portRelease_kept (s : State) (p : Nat) : kept (portRelease s p) = kept s := by simp [portRelease]
@[simp] theorem execPortEnable_kept (p : Nat) (s : State) : keptOut (execPortEnable p s) = some (kept s) := by simp [execPortEnable]
@[simp] theorem execPortDisable_kept (p : Nat) (s : State) : keptOut (execPortDisable p s) = some (kept s) := by simp [execPortDisable]
@[simp] theorem execRetrain_kept (p : Nat) (s : State) : keptOut (execRetrain p s) = some (kept s) := by simp [execRetrain]
@[simp] theorem execRelease_kept (p : Nat) (s : State) : keptOut (execRelease p s) = some (kept s) := by simp [execRelease]
@[simp] theorem windowCommit_kept (s : State) (who : Requester) (i v : Nat) : kept (windowCommit s who i v) = kept s := by simp [windowCommit]

@[simp] theorem execWindowCommit_kept (who : Requester) (i : Nat) (commit : W64) (s : State) :
    keptOut (execWindowCommit who i commit s) = some (kept s) := by simp [execWindowCommit]

@[simp] theorem refuseRequest_kept (s : State) (p : Nat) (r : List Byte) (st : Nat) : kept (refuseRequest s p r st) = kept s := by
  simp [refuseRequest]

@[simp] theorem passRequest_kept (s : State) (p : Nat) (r data : List Byte) (w : WindowAt) : kept (passRequest s p r data w) = kept s := by
  simp only [passRequest]
  repeat' split
  all_goals simp

@[simp] theorem checkRequest_kept (s : State) (p : Nat) (r data : List Byte) : kept (checkRequest s p r data) = kept s := by
  simp only [checkRequest]
  repeat' split
  all_goals simp

@[simp] theorem execRemoteRequest_kept (p : Nat) (s : State) : keptOut (execRemoteRequest p s) = some (kept s) := by
  unfold execRemoteRequest
  split <;> simp

@[simp] theorem sendRequest_kept (s : State) (p : Nat) (r : RaReq) : kept (sendRequest s p r) = kept s := by simp [sendRequest]
@[simp] theorem modRequest_kept (s : State) (p tag : Nat) (f : RaReq → RaReq) : kept (modRequest s p tag f) = kept s := by simp [modRequest]
@[simp] theorem takeNack_kept (s : State) (p : Nat) (q : RaReq) (r : List Byte) : kept (takeNack s p q r) = kept s := by simp [takeNack]

@[simp] theorem takeResponse_kept (s : State) (p : Nat) (q : RaReq) (r data : List Byte) : kept (takeResponse s p q r data) = kept s := by
  simp [takeResponse]

@[simp] theorem remoteAnswer_kept (s : State) (p : Nat) (nackOnly : Bool) : kept (remoteAnswer s p nackOnly) = kept s := by
  simp only [remoteAnswer]
  repeat' split
  all_goals simp

@[simp] theorem execRemoteResponse_kept (p : Nat) (s : State) : keptOut (execRemoteResponse p s) = some (kept s) := by simp [execRemoteResponse]
@[simp] theorem execNack_kept (p : Nat) (s : State) : keptOut (execNack p s) = some (kept s) := by simp [execNack]

@[simp] theorem execNackRetry_kept (p tag : Nat) (s : State) : keptOut (execNackRetry p tag s) = some (kept s) := by
  unfold execNackRetry
  split <;> simp

@[simp] theorem submitRequest_kept (s : State) (who : Requester) (p a : Nat) : kept (submitRequest s who p a) = kept s := by
  simp only [submitRequest, kept_ite, addR_kept, completeBlock_kept, sendRequest_kept, modPort_kept, kept_fst_ite, readNc_kept, ite_self]

@[simp] theorem execRaSubmit_kept (who : Requester) (p : Nat) (addr : W64) (s : State) : keptOut (execRaSubmit who p addr s) = some (kept s) := by
  simp [execRaSubmit]

/-! ### Machine/TimeSync.lean -/

@[simp] theorem jumpTime_kept (s : State) (d : Nat) : kept (jumpTime s d) = kept s := by simp [jumpTime]
@[simp] theorem setSynced_kept (s : State) (on : Bool) : kept (setSynced s on) = kept s := by simp [setSynced]
@[simp] theorem showHoldover_kept (s : State) : kept (showHoldover s) = kept s := by simp [showHoldover]
@[simp] theorem timCtrlWritten_kept (s : State) (v : Nat) : kept (timCtrlWritten s v) = kept s := by simp [timCtrlWritten]
@[simp] theorem execTimeProbeSend_kept (p : Nat) (s : State) : keptOut (execTimeProbeSend p s) = some (kept s) := by simp [execTimeProbeSend]

@[simp] theorem execTimeProbeRequest_kept (p : Nat) (s : State) : keptOut (execTimeProbeRequest p s) = some (kept s) := by
  unfold execTimeProbeRequest
  split <;> simp

@[simp] theorem discipline_kept (s : State) (o : Int) (hops : Nat) : kept (discipline s o hops) = kept s := by simp [discipline]

@[simp] theorem execTimeProbeResponse_kept (p : Nat) (s : State) : keptOut (execTimeProbeResponse p s) = some (kept s) := by
  unfold execTimeProbeResponse
  split
  · rfl
  · split
    · rfl
    · simp only []
      split
      · simp
      · split <;> simp

@[simp] theorem execSyncTimeout_kept (s : State) : keptOut (execSyncTimeout s) = some (kept s) := by simp [execSyncTimeout]
@[simp] theorem timSetWritten_kept (s : State) (who : Requester) (v : Nat) : kept (timSetWritten s who v) = kept s := by simp [timSetWritten]
@[simp] theorem execTimSet_kept (who : Requester) (value : W64) (s : State) : keptOut (execTimSet who value s) = some (kept s) := by simp [execTimSet]

/-! ### Machine/Lantern.lean -/

@[simp] theorem modCore_kept (s : State) (c : Nat) (f : LCore → LCore) : kept (modCore s c f) = kept s := by simp [modCore]
@[simp] theorem lntEvent_kept (s : State) (c m : Nat) : kept (lntEvent s c m) = kept s := by simp [lntEvent]
@[simp] theorem arriveEvent_kept (s : State) (c : Nat) (e : LEvent) : kept (arriveEvent s c e) = kept s := by simp [arriveEvent]
@[simp] theorem sendEvent_kept (s : State) (sender c : Nat) (e : LEvent) : kept (sendEvent s sender c e) = kept s := by simp [sendEvent]

@[simp] theorem execLanternEventArrival_kept (c sender : Nat) (s : State) : keptOut (execLanternEventArrival c sender s) = some (kept s) := by
  unfold execLanternEventArrival
  split <;> simp

@[simp] theorem lntEcc_kept (s : State) (c : Nat) : kept (lntEcc s c) = kept s := by simp [lntEcc]
@[simp] theorem issueAction_kept (s : State) (c code i : Nat) : kept (issueAction s c code i) = kept s := by simp [issueAction]
@[simp] theorem spike_kept (s : State) (c i t : Nat) (bad : LntBad) : kept (spike s c i t bad) = kept s := by simp [spike]
@[simp] theorem synapse_kept (bad : LntBad) (c t : Nat) (s : State) (e : Nat × Int) : kept (synapse bad c t s e) = kept s := by simp [synapse]
@[simp] theorem handleEvent_kept (s : State) (c : Nat) (e : LEvent) (bad : LntBad) : kept (handleEvent s c e bad) = kept s := by simp [handleEvent]
@[simp] theorem coreLanding_kept (s : State) (c : Nat) : kept (coreLanding s c) = kept s := by simp [coreLanding]

@[simp] theorem execLanternEvent_kept (c : Nat) (bad : LntBad) (s : State) : keptOut (execLanternEvent c bad s) = some (kept s) := by
  simp only [execLanternEvent]
  repeat' split
  all_goals simp

@[simp] theorem scanNeuron_kept (c end_ : Nat) (bad : LntBad) (s : State) (i : Nat) : kept (scanNeuron c end_ bad s i) = kept s := by
  simp [scanNeuron]

@[simp] theorem silentScan_kept (s : State) (c end_ : Nat) (bad : LntBad) : kept (silentScan s c end_ bad) = kept s := by simp [silentScan]
@[simp] theorem closeWindow_kept (s : State) (c : Nat) (bad : LntBad) : kept (closeWindow s c bad) = kept s := by simp [closeWindow]

@[simp] theorem execWindowClose_kept (c : Nat) (bad : LntBad) (s : State) : keptOut (execWindowClose c bad s) = some (kept s) := by
  simp [execWindowClose]

@[simp] theorem startCore_kept (s : State) (c : Nat) : kept (startCore s c) = kept s := by simp [startCore]
@[simp] theorem thawCore_kept (s : State) (c : Nat) : kept (thawCore s c) = kept s := by simp [thawCore]

@[simp] theorem execLntLoadDesc_kept (c id : Nat) (s : State) : keptOut (execLntLoadDesc c id s) = some (kept s) := by
  unfold execLntLoadDesc
  split
  · rfl
  · refine keptOut_of_next (withDesc_kept _ _ _ _ _ _ fun d t => ?_)
    simp only []
    split <;> simp

@[simp] theorem execLntLoadApply_kept (c : Nat) (s : State) : keptOut (execLntLoadApply c s) = some (kept s) := by
  unfold execLntLoadApply
  split <;> simp

@[simp] theorem execLntInjectDesc_kept (c id : Nat) (s : State) : keptOut (execLntInjectDesc c id s) = some (kept s) := by
  unfold execLntInjectDesc
  split
  · rfl
  · refine keptOut_of_next (withDesc_kept _ _ _ _ _ _ fun d t => ?_)
    simp only []
    split
    · simp
    · exact (endDesc_kept ..).trans ((foldl_fst_kept _ (fun a e => by simp) _ _).trans (by simp))

/-! ### Machine/Quant.lean -/

@[simp] theorem addStats_kept (s : State) (e n : Nat) (st : QStats) : kept (addStats s e n st) = kept s := by simp [addStats]
@[simp] theorem qntEvent_kept (s : State) (e m : Nat) : kept (qntEvent s e m) = kept s := by simp [qntEvent]
@[simp] theorem runQuant_kept (s : State) (e : Nat) (d : Desc) (q : QOp) (cfg : QCfg) : kept (runQuant s e d q cfg) = kept s := by simp [runQuant]

@[simp] theorem execQuant_kept (e id : Nat) (ecc : EngineEcc) (s : State) : keptOut (execQuant e id ecc s) = some (kept s) := by
  refine keptOut_of_next (engineDesc_kept _ _ _ _ _ _ fun d t => ?_)
  simp only []
  repeat' split
  all_goals simp

@[simp] theorem runDequant_kept (s : State) (e : Nat) (d : Desc) (q : QOp) (cfg : QCfg) : kept (runDequant s e d q cfg) = kept s := by
  simp [runDequant]

@[simp] theorem execDequant_kept (e id : Nat) (ecc : EngineEcc) (s : State) : keptOut (execDequant e id ecc s) = some (kept s) := by
  refine keptOut_of_next (engineDesc_kept _ _ _ _ _ _ fun d t => ?_)
  simp only []
  repeat' split
  all_goals simp

/-! ### Machine/Cloister.lean -/

@[simp] theorem modCloister_kept (s : State) (f : Cloister → Cloister) : kept (modCloister s f) = kept s := by simp [modCloister]
@[simp] theorem modBlock_kept (s : State) (b : Block) (f : Block → Block) : kept (modBlock s b f) = kept s := by simp [modBlock]
@[simp] theorem modNs_kept (s : State) (owner id : Nat) (f : Ns → Ns) : kept (modNs s owner id f) = kept s := by simp [modNs]
@[simp] theorem flashUsed_kept (s : State) (w : Nat) (grow : Bool) (n : Nat) : kept (flashUsed s w grow n) = kept s := by simp [flashUsed]

@[simp] theorem deleteBlock_kept (s : State) (b : Block) : kept (deleteBlock s b) = kept s := by
  unfold deleteBlock
  split <;> simp

@[simp] theorem makeFlashRoom_kept (s : State) (n : Ns) (k : Nat) : kept (makeFlashRoom s n k) = kept s := by
  fun_induction makeFlashRoom s n k <;> simp [*]

@[simp] theorem releaseHall_kept (s : State) (b : Block) : kept (releaseHall s b) = kept s := by simp [releaseHall]

@[simp] theorem copyDone_kept (s : State) (b : Block) : kept (copyDone s b) = kept s := by
  unfold copyDone
  split <;> simp

@[simp] theorem demote_kept (s : State) (n : Ns) (b : Block) : kept (demote s n b) = kept s := by simp [demote]

@[simp] theorem demoteWait_kept (s : State) (n : Ns) (b : Block) : kept (demoteWait s n b) = kept s := by
  simp only [demoteWait]
  repeat' split
  all_goals simp

theorem makeRoom_kept {n : Ns} {k records : Nat} {s t : State} {f : Nat} (h : makeRoom n k records s f = some t) : kept t = kept s := by
  fun_induction makeRoom n k records s f with
  | case1 s _ => cases h; rfl
  | case2 s _ => cases h
  | case3 s f _ => cases h; rfl
  | case4 s f _ _ => cases h
  | case5 s f _ b _ ih => exact (ih h).trans (by simp)

@[simp] theorem shrinkToQuota_kept (n : Ns) (s : State) (k : Nat) : kept (shrinkToQuota n s k) = kept s := by
  fun_induction shrinkToQuota n s k <;> simp [*]

@[simp] theorem promote_kept (s : State) (b : Block) : kept (promote s b) = kept s := by
  unfold promote
  split
  · rfl
  · split
    · split
      · rfl
      · exact (modBlock_kept ..).trans (makeRoom_kept ‹_›)
    · rfl

@[simp] theorem execFlashCopyComplete_kept (owner nsId key : Nat) (s : State) : keptOut (execFlashCopyComplete owner nsId key s) = some (kept s) := by
  unfold execFlashCopyComplete
  split <;> simp

@[simp] theorem execPromotionComplete_kept (owner nsId key : Nat) (s : State) : keptOut (execPromotionComplete owner nsId key s) = some (kept s) := by
  unfold execPromotionComplete
  split <;> simp

@[simp] theorem tellLantern_kept (s : State) (cls : Nat) (b : Block) : kept (tellLantern s cls b) = kept s := by
  unfold tellLantern
  split <;> simp

@[simp] theorem touchBlock_kept (s : State) (b : Block) : kept (touchBlock s b) = kept s := by simp [touchBlock]
@[simp] theorem ignoreAction_kept (s : State) (b : Block) : kept (ignoreAction s b) = kept s := by simp [ignoreAction]

@[simp] theorem actOn_kept (s : State) (code : Nat) (b : Block) : kept (actOn s code b) = kept s := by
  simp only [actOn]
  repeat' split
  all_goals simp

@[simp] theorem execLanternAction_kept (c : Nat) (s : State) : keptOut (execLanternAction c s) = some (kept s) := by
  unfold execLanternAction
  split
  · rfl
  · refine congrArg some ((foldl_kept _ (fun t k => ?_) _ _).trans (by simp))
    simp only []
    repeat' split
    all_goals simp

@[simp] theorem probeHit_kept (s : State) (b : Block) : kept (probeHit s b) = kept s := by
  simp only [probeHit]
  repeat' split
  all_goals simp

@[simp] theorem runProbe_kept (s : State) (c : ClsCmd) : kept (runProbe s c).state = kept s := by
  unfold runProbe
  split <;> simp

@[simp] theorem loadEngine_kept (s : State) (n : Ns) (l kv : Nat) : kept (loadEngine s n l kv) = kept s := by
  unfold loadEngine
  split <;> simp

@[simp] theorem layerStats_kept (s : State) (n : Ns) (l : Nat) (t : QTensor) : kept (layerStats s n l t) = kept s := by
  refine foldl_kept _ (fun u q => (modNs_kept ..).trans ?_) _ _
  split <;> simp

@[simp] theorem putBlock_kept (n : Ns) (fp32src : Bool) (s : State) (src : List Byte) : kept (putBlock n fp32src s src).1 = kept s :=
  foldl_fst_kept _ (fun acc l => by simp) _ _

@[simp] theorem journalBlock_kept (s : State) (n : Ns) (b : Block) : kept (journalBlock s n b) = kept s := by simp [journalBlock]

@[simp] theorem storeBlocks_kept (s : State) (c : ClsCmd) (n : Ns) (start m : Nat) (new : List (Nat × (Nat × Nat × List Nat))) :
    kept (storeBlocks s c n start m new).1 = kept s := by
  refine (foldl_kept _ (fun t b => by simp) _ _).trans ((modCloister_kept ..).trans (foldl_fst_kept _ (fun acc p => ?_) _ _))
  simp

@[simp] theorem runPut_kept (s : State) (c : ClsCmd) (n : Ns) : kept (runPut s c n).state = kept s := by
  simp only [runPut]
  repeat' split
  any_goals simp
  all_goals exact makeRoom_kept ‹_›

@[simp] theorem getKey_kept (c : ClsCmd) (n : Ns) (bad : List Nat) (a : GetAcc) (p : Nat × Nat) :
    kept (getKey c n bad a p).state = kept a.state := by
  simp only [getKey]
  repeat' split
  all_goals simp [GetAcc.miss]

@[simp] theorem runGet_kept (s : State) (c : ClsCmd) (n : Ns) (bad : List Nat) : kept (runGet s c n bad).state = kept s := by
  have hr : ∀ (l : List (Nat × Nat)) (a : GetAcc), kept (l.foldl (getKey c n bad) a).state = kept a.state := fun l => by
    induction l with
    | nil => intro a; rfl
    | cons x l ih => intro a; simp [ih]
  simp [runGet, hr]

@[simp] theorem runPin_kept (s : State) (c : ClsCmd) (n : Ns) : kept (runPin s c n).state = kept s := by
  simp only [runPin]
  repeat' split
  all_goals simp

@[simp] theorem runDrop_kept (s : State) (c : ClsCmd) (n : Ns) : kept (runDrop s c n).state = kept s := by simp [runDrop]

@[simp] theorem withNs_kept (s : State) (c : ClsCmd) (run : Ns → ClsDone) (hr : ∀ n, kept (run n).state = kept s) :
    kept (withNs s c run).state = kept s := by
  unfold withNs
  split <;> simp [hr]

@[simp] theorem hostRow_kept (s : State) (id op : Nat) (checks : State → ClsCmd → EntryChecks) (buf : State → ClsCmd → Option Nat)
    (run : State → ClsCmd → ClsDone) (hr : ∀ t c, kept (run t c).state = kept t) : kept (hostRow s id op checks buf run) = kept s :=
  withCmd_kept _ _ _ _ fun c t => by simp [hr]

@[simp] theorem descRow_kept (s : State) (g id op : Nat) (checks : State → ClsCmd → EntryChecks) (buf : State → ClsCmd → Option Nat)
    (run : State → ClsCmd → ClsDone) (hr : ∀ t c, kept (run t c).state = kept t) : kept (descRow s g id op checks buf run) = kept s := by
  refine withDesc_kept _ _ _ _ _ _ fun d t => ?_
  simp only []
  split <;> simp [hr]

@[simp] theorem execPrefixProbe_kept (id : Nat) (s : State) : keptOut (execPrefixProbe id s) = some (kept s) := by simp [execPrefixProbe]

@[simp] theorem execPrefixGet_kept (id : Nat) (bad : List Nat) (s : State) : keptOut (execPrefixGet id bad s) = some (kept s) := by
  simp [execPrefixGet]

@[simp] theorem execPrefixPut_kept (id : Nat) (s : State) : keptOut (execPrefixPut id s) = some (kept s) := by simp [execPrefixPut]
@[simp] theorem execPrefixPin_kept (id : Nat) (s : State) : keptOut (execPrefixPin id s) = some (kept s) := by simp [execPrefixPin]
@[simp] theorem execPrefixDrop_kept (id : Nat) (s : State) : keptOut (execPrefixDrop id s) = some (kept s) := by simp [execPrefixDrop]
@[simp] theorem execClsProbe_kept (g id : Nat) (s : State) : keptOut (execClsProbe g id s) = some (kept s) := by simp [execClsProbe]
@[simp] theorem execClsGet_kept (g id : Nat) (bad : List Nat) (s : State) : keptOut (execClsGet g id bad s) = some (kept s) := by simp [execClsGet]
@[simp] theorem execClsPut_kept (g id : Nat) (s : State) : keptOut (execClsPut g id s) = some (kept s) := by simp [execClsPut]
@[simp] theorem execClsPin_kept (g id : Nat) (s : State) : keptOut (execClsPin g id s) = some (kept s) := by simp [execClsPin]
@[simp] theorem execClsDrop_kept (g id : Nat) (s : State) : keptOut (execClsDrop g id s) = some (kept s) := by simp [execClsDrop]

/-! ### Machine/Wings.lean -/

@[simp] theorem setGroups_kept (s : State) (w groups : Nat) : kept (setGroups s w groups) = kept s := by simp [setGroups]
@[simp] theorem setPeer_kept (s : State) (w prio weight quota : Nat) : kept (setPeer s w prio weight quota) = kept s := by simp [setPeer]
@[simp] theorem recordWings_kept (s : State) : kept (recordWings s) = kept s := by simp [recordWings]
@[simp] theorem wingSetBody_kept (c : Cmd) (s : State) : kept (wingSetBody c s) = kept s := by simp [wingSetBody]
@[simp] theorem execWingSet_kept (id : Nat) (s : State) : keptOut (execWingSet id s) = some (kept s) := by simp [execWingSet]
@[simp] theorem tenantSetBody_kept (c : Cmd) (s : State) : kept (tenantSetBody c s) = kept s := by simp [tenantSetBody]
@[simp] theorem execTenantSet_kept (id : Nat) (s : State) : keptOut (execTenantSet id s) = some (kept s) := by simp [execTenantSet]

/-! ### Machine/PorterOps.lean -/

@[simp] theorem modPorter_kept (s : State) (f : Porter → Porter) : kept (modPorter s f) = kept s := by simp [modPorter]
@[simp] theorem modOam_kept (s : State) (f : Module → Module) : kept (modOam s f) = kept s := by simp [modOam]
@[simp] theorem notBeforeLocal_kept (s : State) (t : Nat) : kept (notBeforeLocal s t) = kept s := by simp [notBeforeLocal]
@[simp] theorem porterSticky_kept (s : State) (m : Nat) : kept (porterSticky s m) = kept s := by simp [porterSticky]

@[simp] theorem appendLog_kept (s : State) (type cls inst : Nat) (fields : List Nat) : kept (appendLog s type cls inst fields) = kept s := by
  simp [appendLog]

@[simp] theorem porterLog_kept (s : State) (type : Nat) (fields : List Nat) : kept (porterLog s type fields) = kept s := by simp [porterLog]
@[simp] theorem modFirmware_kept (s : State) (comp : Nat) (f : Firmware → Firmware) : kept (modFirmware s comp f) = kept s := by simp [modFirmware]

@[simp] theorem fallbackLog_kept (s : State) (comp left booted reason : Nat) : kept (fallbackLog s comp left booted reason) = kept s := by
  simp [fallbackLog]

@[simp] theorem runSlot_kept (s : State) (comp slot : Nat) (trial : Bool) : kept (runSlot s comp slot trial) = kept s := by simp [runSlot]

@[simp] theorem bootActive_kept (s : State) (comp : Nat) : kept (bootActive s comp).1 = kept s := by
  simp only [bootActive]
  repeat' split
  all_goals simp

@[simp] theorem leaveTrial_kept (s : State) (comp reason : Nat) : kept (leaveTrial s comp reason) = kept s := by simp [leaveTrial]

@[simp] theorem bootSlot_kept (s : State) (comp : Nat) : kept (bootSlot s comp).1 = kept s := by
  simp only [bootSlot]
  repeat' split
  all_goals simp

@[simp] theorem commitTrial_kept (s : State) (comp : Nat) : kept (commitTrial s comp) = kept s := by simp [commitTrial]
@[simp] theorem activateSlot_kept (s : State) (comp : Nat) : kept (activateSlot s comp) = kept s := by simp [activateSlot]
@[simp] theorem restartPorter_kept (s : State) (why : RestartCause) : kept (restartPorter s why) = kept s := by simp [restartPorter]
@[simp] theorem modPolicy_kept (s : State) (f : Policy → Policy) : kept (modPolicy s f) = kept s := by simp [modPolicy]
@[simp] theorem fastVolts_kept (s : State) : kept (fastVolts s) = kept s := by simp [fastVolts]
@[simp] theorem notePowerLimit_kept (s : State) (average : Nat) : kept (notePowerLimit s average) = kept s := by simp [notePowerLimit]
@[simp] theorem setPolicy_kept (s : State) (vmode cap : Nat) : kept (setPolicy s vmode cap) = kept s := by simp [setPolicy]

/-! ### Machine/Reset.lean -/

@[simp] theorem clearedMain_kept (s : State) : kept (clearedMain s) = kept s := by simp [clearedMain]

@[simp] theorem coldReset_kept (s : State) (cause : Option Nat) : kept (coldReset s cause) = kept s := by
  simp only [coldReset]
  repeat' split
  all_goals simp

@[simp] theorem dropRails_kept (s : State) : kept (dropRails s) = kept s := by simp [dropRails]
@[simp] theorem mainLoss_kept (s : State) (cause : Nat) : kept (mainLoss s cause) = kept s := by simp [mainLoss]
@[simp] theorem startRails_kept (s : State) : kept (startRails s) = kept s := by simp [startRails]
@[simp] theorem raiseRails_kept (s : State) : kept (raiseRails s) = kept s := by simp [raiseRails]
@[simp] theorem tripNow_kept (s : State) (comparator : Bool) (sensor : Nat) : kept (tripNow s comparator sensor) = kept s := by simp [tripNow]

/-! ### Machine/Porter.lean -/

@[simp] theorem bootNotes_kept (s : State) : kept (bootNotes s) = kept s := by
  simp only [bootNotes]
  repeat' split
  all_goals simp

@[simp] theorem endCommand_kept (s : State) : kept (endCommand s) = kept s := by simp [endCommand]
@[simp] theorem vipolRuns_kept (s : State) : kept (vipolRuns s) = kept s := by simp [vipolRuns]
@[simp] theorem execPorterBoot_kept (s : State) : keptOut (execPorterBoot s) = some (kept s) := by simp [execPorterBoot]
@[simp] theorem execWatchdogExpiry_kept (pc : W64) (s : State) : keptOut (execWatchdogExpiry pc s) = some (kept s) := by simp [execWatchdogExpiry]

@[simp] theorem execPorterSramUncorrectable_kept (s : State) : keptOut (execPorterSramUncorrectable s) = some (kept s) := by
  simp [execPorterSramUncorrectable]

@[simp] theorem dieThermal_kept (s : State) (die : Nat) (was : Bool) : kept (dieThermal s die was) = kept s := by simp [dieThermal]

@[simp] theorem execDieSensorSample_kept (samples : List SensorSample) (s : State) : keptOut (execDieSensorSample samples s) = some (kept s) := by
  simp [execDieSensorSample]

@[simp] theorem execPowerCapTick_kept (average : Nat) (s : State) : keptOut (execPowerCapTick average s) = some (kept s) := by simp [execPowerCapTick]
@[simp] theorem execFastPowerLimit_kept (peak : Nat) (s : State) : keptOut (execFastPowerLimit peak s) = some (kept s) := by simp [execFastPowerLimit]

@[simp] theorem execTrialCommit_kept (component : Nat) (s : State) : keptOut (execTrialCommit component s) = some (kept s) := by
  simp [execTrialCommit]

@[simp] theorem execLogMirrorCommit_kept (s : State) : keptOut (execLogMirrorCommit s) = some (kept s) := by simp [execLogMirrorCommit]
@[simp] theorem recordMark_kept (s : State) (h pc pin : Nat) : kept (recordMark s h pc pin) = kept s := by simp [recordMark]
@[simp] theorem logEvent_kept (s : State) (e : UnitEvt) : kept (logEvent s e) = kept s := by simp [logEvent]

@[simp] theorem execPorterEvent_kept (s : State) : keptOut (execPorterEvent s) = some (kept s) := by
  simp only [execPorterEvent]
  repeat' split
  all_goals simp

@[simp] theorem mbxAnswer_kept (s : State) (op : Nat) (from_ : MbxFrom) (status : Nat) (resp : List Byte) :
    kept (mbxAnswer s op from_ status resp) = kept s := by
  unfold mbxAnswer
  split <;> simp

@[simp] theorem withMbx_kept (s : State) (op : Nat) (from_ : MbxFrom) (run : List Byte → State → State × Nat × List Byte)
    (hr : ∀ b t, kept (run b t).1 = kept t) : kept (withMbx s op from_ run) = kept s := by
  unfold withMbx
  split <;> simp [hr]

@[simp] theorem execSensorRead_kept (from_ : MbxFrom) (s : State) : keptOut (execSensorRead from_ s) = some (kept s) := by simp [execSensorRead]
@[simp] theorem execLogRead_kept (from_ : MbxFrom) (s : State) : keptOut (execLogRead from_ s) = some (kept s) := by simp [execLogRead]
@[simp] theorem execPowerSet_kept (from_ : MbxFrom) (s : State) : keptOut (execPowerSet from_ s) = some (kept s) := by simp [execPowerSet]
@[simp] theorem execPinMarkClear_kept (from_ : MbxFrom) (s : State) : keptOut (execPinMarkClear from_ s) = some (kept s) := by simp [execPinMarkClear]
@[simp] theorem execTrustSet_kept (from_ : MbxFrom) (s : State) : keptOut (execTrustSet from_ s) = some (kept s) := by simp [execTrustSet]
@[simp] theorem execFwCommit_kept (from_ : MbxFrom) (s : State) : keptOut (execFwCommit from_ s) = some (kept s) := by simp [execFwCommit]
@[simp] theorem execWdtSet_kept (from_ : MbxFrom) (s : State) : keptOut (execWdtSet from_ s) = some (kept s) := by simp [execWdtSet]

@[simp] theorem execPorterRestart_kept (s : State) : keptOut (execPorterRestart s) = some (kept s) := by
  unfold execPorterRestart
  split <;> simp

@[simp] theorem undefinedMbx_kept (s : State) : kept (undefinedMbx s) = kept s := by simp [undefinedMbx]

@[simp] theorem execMctpControlMessage_kept (via : Transport) (request : MctpControl) (s : State) :
    keptOut (execMctpControlMessage via request s) = some (kept s) := by
  simp only [execMctpControlMessage]
  repeat' split
  all_goals simp

/-! ### Machine/Dma.lean -/

@[simp] theorem dmaLine_kept (s : State) (wing a n l : Nat) (bs : List Byte) : kept (dmaLine s wing a n l bs).1 = kept s := by
  simp only [dmaLine]
  repeat' split
  all_goals simp

@[simp] theorem dmaLines_kept (wing a n : Nat) (src : State → Nat → List Byte × Nat) (s : State) (ls : List Nat) (k : Nat) :
    kept (dmaLines wing a n src s ls k).1 = kept s := by
  induction ls generalizing s k with
  | nil => rfl
  | cons l ls ih => simp only [dmaLines]; repeat' split
                    all_goals simp [ih]

@[simp] theorem runDma_kept (s : State) (g : Nat) (d : Desc) (ls : List Nat) : kept (runDma s g d ls) = kept s := by simp [runDma]

@[simp] theorem execDmaCopy_kept (g id : Nat) (s : State) : keptOut (execDmaCopy g id s) = some (kept s) := by
  refine keptOut_of_next (withDesc_kept _ _ _ _ _ _ fun d t => ?_)
  repeat' split
  all_goals simp

@[simp] theorem execDmaFill_kept (g id : Nat) (s : State) : keptOut (execDmaFill g id s) = some (kept s) := by
  refine keptOut_of_next (withDesc_kept _ _ _ _ _ _ fun d t => ?_)
  repeat' split
  all_goals simp

/-! ### Machine/HallDesc.lean -/

@[simp] theorem countRefused_kept (s : State) (q : Query) (st : Nat) : kept (countRefused s q st) = kept s := by simp [countRefused]

@[simp] theorem execBoard_kept (h id : Nat) (s : State) : keptOut (execBoard h id s) = some (kept s) := by
  refine keptOut_of_next (withDesc_kept _ _ _ _ _ _ fun d t => ?_)
  simp only []
  split
  · simp
  · split
    · simp
    · exact (settleFlights_kept _).trans ((admitQuery_kept ‹_›).trans (by simp))

@[simp] theorem dropFlight_kept (s : State) (ctx : Nat) : kept (dropFlight s ctx) = kept s := by simp [dropFlight]

@[simp] theorem execTreadSet_kept (h id : Nat) (s : State) : keptOut (execTreadSet h id s) = some (kept s) := by
  refine keptOut_of_next (withDesc_kept _ _ _ _ _ _ fun d t => ?_)
  simp only []
  repeat' split
  all_goals simp

@[simp] theorem turnstileDesc_kept (s : State) (h id op : Nat) (micro : Option (List Byte)) (act : Desc → State → State)
    (ha : ∀ d t, kept (act d t) = kept t) : kept (turnstileDesc s h id op micro act) = kept s := by
  unfold turnstileDesc
  split <;> simp [ha]

@[simp] theorem execTrnThresh_kept (h id : Nat) (micro : Option (List Byte)) (s : State) : keptOut (execTrnThresh h id micro s) = some (kept s) := by
  simp [execTrnThresh]

@[simp] theorem execTrnSpillFree_kept (h id : Nat) (micro : Option (List Byte)) (s : State) :
    keptOut (execTrnSpillFree h id micro s) = some (kept s) := by simp [execTrnSpillFree]

@[simp] theorem execTrnDrain_kept (h id : Nat) (micro : Option (List Byte)) (s : State) :
    keptOut (execTrnDrain h id micro s) = some (kept s) := by
  refine keptOut_of_next (turnstileDesc_kept _ _ _ _ _ _ fun d t => ?_)
  simp only []
  repeat' split
  all_goals simp

/-! ### Machine/HallMem.lean -/

@[simp] theorem setHeat_kept (s : State) (h new : Nat) : kept (setHeat s h new) = kept s := by simp [setHeat]
@[simp] theorem execTempSample_kept (h : Nat) (t : Int) (s : State) : keptOut (execTempSample h t s) = some (kept s) := by simp [execTempSample]
@[simp] theorem execSensorTimeout_kept (h : Nat) (s : State) : keptOut (execSensorTimeout h s) = some (kept s) := by simp [execSensorTimeout]
@[simp] theorem execRefreshRound_kept (h : Nat) (s : State) : keptOut (execRefreshRound h s) = some (kept s) := by simp [execRefreshRound]
@[simp] theorem startPass_kept (s : State) (h : Nat) : kept (startPass s h) = kept s := by simp [startPass]

@[simp] theorem tallyPin_kept (h pc : Nat) (s : State) (pin : Nat) : kept (tallyPin h pc s pin) = kept s := by
  unfold tallyPin
  split <;> simp

@[simp] theorem execScrubLine_kept (h : Nat) (at_ : Option LineAt) (e : LineErr) (s : State) : keptOut (execScrubLine h at_ e s) = some (kept s) := by
  simp only [execScrubLine]
  repeat' split
  all_goals simp

@[simp] theorem execRepair_kept (h : Nat) (e : LineErr) (s : State) : keptOut (execRepair h e s) = some (kept s) := by
  simp only [execRepair]
  repeat' split
  all_goals simp

@[simp] theorem execWcbPartialWrite_kept (u : Option Nat) (line mask : Nat) (data : List Byte) (s : State) :
    keptOut (execWcbPartialWrite u line mask data s) = some (kept s) := by simp [execWcbPartialWrite]

@[simp] theorem execWcbTimeout_kept (line : Nat) (s : State) : keptOut (execWcbTimeout line s) = some (kept s) := by
  unfold execWcbTimeout
  split <;> simp

@[simp] theorem execWcbCloseRequest_kept (line : Nat) (s : State) : keptOut (execWcbCloseRequest line s) = some (kept s) := by
  simp [execWcbCloseRequest]

/-! ### Machine/Namespace.lean -/

@[simp] theorem nsCreateBody_kept (c : Cmd) (s : State) : kept (nsCreateBody c s) = kept s := by simp [nsCreateBody]
@[simp] theorem execNsCreate_kept (id : Nat) (s : State) : keptOut (execNsCreate id s) = some (kept s) := by simp [execNsCreate]

@[simp] theorem nsSetBody_kept (c : Cmd) (s : State) : kept (nsSetBody c s) = kept s := by
  simp only [nsSetBody, orElse_kept]
  split
  · rfl
  · refine stageOrWait_kept _ _ _ _ _ fun t => ?_
    split <;> simp

@[simp] theorem execNsSet_kept (id : Nat) (s : State) : keptOut (execNsSet id s) = some (kept s) := by simp [execNsSet]

@[simp] theorem nsInfoBody_kept (c : Cmd) (s : State) : kept (nsInfoBody c s) = kept s := by
  simp only [nsInfoBody]
  repeat' split
  all_goals simp

@[simp] theorem execNsInfo_kept (id : Nat) (s : State) : keptOut (execNsInfo id s) = some (kept s) := by simp [execNsInfo]

@[simp] theorem nsDestroyBody_kept (c : Cmd) (s : State) : kept (nsDestroyBody c s) = kept s := by
  simp only [nsDestroyBody]
  repeat' split
  all_goals simp

@[simp] theorem execNsDestroy_kept (id : Nat) (s : State) : keptOut (execNsDestroy id s) = some (kept s) := by simp [execNsDestroy]

/-! ### Machine/Journal.lean -/

@[simp] theorem cutCommit_kept (s : State) (w : Nat) : kept (cutCommit s w) = kept s := by simp [cutCommit]

@[simp] theorem refuseWaiter_kept (s : State) (w id : Nat) : kept (refuseWaiter s w id) = kept s := by
  simp only [refuseWaiter]
  repeat' split
  all_goals simp

@[simp] theorem landJournal_kept (s : State) (w : Nat) : kept (landJournal s w) = kept s := by simp [landJournal]
@[simp] theorem flushBody_kept (c : Cmd) (s : State) : kept (flushBody c s) = kept s := by simp [flushBody]
@[simp] theorem execFlush_kept (id : Nat) (s : State) : keptOut (execFlush id s) = some (kept s) := by simp [execFlush]
@[simp] theorem execAutoCommit_kept (w : Nat) (s : State) : keptOut (execAutoCommit w s) = some (kept s) := by simp [execAutoCommit]

@[simp] theorem countCheckpoints_kept (s : State) (w seq : Nat) : kept (countCheckpoints s w seq) = kept s := by
  simp only [countCheckpoints]
  repeat' split
  all_goals simp

@[simp] theorem commitBlocks_kept (s : State) (img : Image) : kept (commitBlocks s img) = kept s := by simp [commitBlocks]

@[simp] theorem finishFlushes_kept (s : State) (w seq : Nat) : kept (finishFlushes s w seq) = kept s := by
  refine (modJournal_kept ..).trans (foldl_kept _ (fun t f => ?_) _ _)
  split <;> simp

@[simp] theorem commitDone_kept (s : State) (w : Nat) : kept (commitDone s w) = kept s := by simp [commitDone]

@[simp] theorem execCommitComplete_kept (w spare : Nat) (res : ProgResult) (s : State) :
    keptOut (execCommitComplete w spare res s) = some (kept s) := by
  unfold execCommitComplete
  split <;> simp

@[simp] theorem execCheckpoint_kept (w bytes : Nat) (s : State) : keptOut (execCheckpoint w bytes s) = some (kept s) := by simp [execCheckpoint]

@[simp] theorem resumeCmd_kept (s : State) (c : Cmd) : kept (resumeCmd s c) = kept s := by
  unfold resumeCmd
  split <;> simp

@[simp] theorem settleGrant_kept (s : State) (w id : Nat) : kept (settleGrant s w id) = kept s := by
  unfold settleGrant
  split <;> simp

@[simp] theorem execJournalCreditsFree_kept (w : Nat) (s : State) : keptOut (execJournalCreditsFree w s) = some (kept s) := by
  simp only [execJournalCreditsFree]
  repeat' split
  all_goals simp

@[simp] theorem postDelayed_kept (s : State) (c : Cmd) (a : Nat) : kept (postDelayed s c a) = kept s := by simp [postDelayed]

@[simp] theorem execCreditWaitDelay_kept (id : Nat) (s : State) : keptOut (execCreditWaitDelay id s) = some (kept s) := by
  unfold execCreditWaitDelay
  split <;> simp

@[simp] theorem recoverWing_kept (s : State) (w : Nat) : kept (recoverWing s w) = kept s := by simp [recoverWing]
@[simp] theorem execWingRecovery_kept (w : Nat) (s : State) : keptOut (execWingRecovery w s) = some (kept s) := by simp [execWingRecovery]

/-! ### Machine/Power.lean -/

@[simp] theorem modPower_kept (s : State) (f : PowerState → PowerState) : kept (modPower s f) = kept s := by simp [modPower]

@[simp] theorem powerReply_kept (s : State) (id from_ accepted during at_ : Nat) : kept (powerReply s id from_ accepted during at_) = kept s := by
  unfold powerReply
  split <;> simp

@[simp] theorem powerStateBody_kept (c : Cmd) (s : State) : kept (powerStateBody c s) = kept s := by simp [powerStateBody]
@[simp] theorem execPowerState_kept (id : Nat) (s : State) : keptOut (execPowerState id s) = some (kept s) := by simp [execPowerState]
@[simp] theorem enterSelfRefresh_kept (s : State) : kept (enterSelfRefresh s) = kept s := by simp [enterSelfRefresh]
@[simp] theorem leaveSelfRefresh_kept (s : State) : kept (leaveSelfRefresh s) = kept s := by simp [leaveSelfRefresh]
@[simp] theorem setParking_kept (s : State) (b : Bool) : kept (setParking s b) = kept s := by simp [setParking]
@[simp] theorem enterPower_kept (s : State) (target : Nat) : kept (enterPower s target) = kept s := by simp [enterPower]
@[simp] theorem powerReached_kept (s : State) (id target accepted : Nat) : kept (powerReached s id target accepted) = kept s := by simp [powerReached]

@[simp] theorem execPowerStateQuiet_kept (s : State) : keptOut (execPowerStateQuiet s) = some (kept s) := by
  simp only [execPowerStateQuiet]
  repeat' split
  all_goals simp

@[simp] theorem execPowerStateTimeout_kept (s : State) : keptOut (execPowerStateTimeout s) = some (kept s) := by
  simp only [execPowerStateTimeout]
  repeat' split
  all_goals simp

@[simp] theorem execPowerStateExit_kept (s : State) : keptOut (execPowerStateExit s) = some (kept s) := by
  simp only [execPowerStateExit]
  repeat' split
  all_goals simp

/-! ### Machine/Search.lean -/

@[simp] theorem addNewel_kept (s : State) (q : NewelQuery) : kept (addNewel s q) = kept s := by simp [addNewel]

@[simp] theorem sendDown_kept (s : State) (q : NewelQuery) (t : Tree) (want : Nat) (select : Option Nat) :
    kept (sendDown s q t want select) = kept s := by
  simp only [sendDown]
  repeat' split
  all_goals simp

theorem admitOwn_kept {s t : State} {q : Query} {own : Bool} (h : admitOwn s q own = .ok t) : kept t = kept s := by
  unfold admitOwn at h
  repeat' split at h
  case _ => exact admitQuery_kept h
  all_goals cases h
  rfl

@[simp] theorem searchBody_kept (c : Cmd) (s : State) : kept (searchBody c s) = kept s := by
  simp only [searchBody]
  repeat' split
  all_goals first | (have := admitOwn_kept ‹_›; simp_all) | simp

@[simp] theorem execSearch_kept (id : Nat) (s : State) : keptOut (execSearch id s) = some (kept s) := by simp [execSearch]
@[simp] theorem countMsg_kept (s : State) (st : Nat) : kept (countMsg s st) = kept s := by simp [countMsg]

theorem takeMsg_kept {s t : State} {p vc type : Nat} {b : List Byte} (h : takeMsg s p vc type = some (b, t)) : kept t = kept s := by
  unfold takeMsg at h
  repeat' split at h
  all_goals cases h
  simp

@[simp] theorem refuseMsg_kept (s : State) (p : Nat) (b : List Byte) (h : NewelHead) (st : Nat) : kept (refuseMsg s p b h st) = kept s := by
  simp [refuseMsg]

@[simp] theorem takeQuery_kept (s : State) (p : Nat) (b : List Byte) : kept (takeQuery s p b) = kept s := by
  simp only [takeQuery]
  repeat' split
  all_goals first | (have := admitOwn_kept ‹_›; simp_all) | simp

@[simp] theorem execQuery_kept (p : Nat) (s : State) : keptOut (execQuery p s) = some (kept s) := by
  unfold execQuery
  split
  · rfl
  · simp [takeMsg_kept ‹_›]

@[simp] theorem lateResult_kept (s : State) (p : Nat) (h : NewelHead) : kept (lateResult s p h) = kept s := by simp [lateResult]

@[simp] theorem mergeResult_kept (s : State) (q : NewelQuery) (b : List Byte) (cover : Nat) : kept (mergeResult s q b cover) = kept s := by
  simp [mergeResult]

@[simp] theorem relayResult_kept (s : State) (q : NewelQuery) (h : NewelHead) (b : List Byte) : kept (relayResult s q h b) = kept s := by
  simp [relayResult]

@[simp] theorem takeResult_kept (s : State) (p : Nat) (b : List Byte) (h : NewelHead) : kept (takeResult s p b h) = kept s := by
  unfold takeResult
  split <;> simp

@[simp] theorem refuseHere_kept (s : State) (h : NewelHead) (st shards : Nat) : kept (refuseHere s h st shards) = kept s := by
  unfold refuseHere
  split <;> simp

@[simp] theorem resultBody'_kept (s : State) (p : Nat) (b : List Byte) : kept (resultBody' s p b) = kept s := by
  simp only [resultBody']
  repeat' split
  all_goals simp

@[simp] theorem execResult_kept (p : Nat) (s : State) : keptOut (execResult p s) = some (kept s) := by
  unfold execResult
  split
  · rfl
  · simp [takeMsg_kept ‹_›]

@[simp] theorem takeLate_kept (s : State) (q : NewelQuery) (shards eta : Nat) : kept (takeLate s q shards eta) = kept s := by simp [takeLate]

@[simp] theorem takeNotice_kept (s : State) (h : NewelHead) (b : List Byte) : kept (takeNotice s h b) = kept s := by
  unfold takeNotice
  split <;> simp

@[simp] theorem execNotice_kept (p : Nat) (s : State) : keptOut (execNotice p s) = some (kept s) := by
  unfold execNotice
  split
  · rfl
  · simp only []
    repeat' split
    all_goals simp [takeMsg_kept ‹_›]

@[simp] theorem execRefusal_kept (p : Nat) (s : State) : keptOut (execRefusal p s) = some (kept s) := by
  unfold execRefusal
  split
  · rfl
  · simp only []
    repeat' split
    all_goals simp [takeMsg_kept ‹_›]

@[simp] theorem execDiscard_kept (p : Nat) (s : State) : keptOut (execDiscard p s) = some (kept s) := by
  unfold execDiscard
  split
  · rfl
  · simp [takeMsg_kept ‹_›]

@[simp] theorem ownSupplement_kept (s : State) (q : NewelQuery) (m : Merged) (sh : Nat) : kept (ownSupplement s q m sh) = kept s := by
  simp [ownSupplement]

@[simp] theorem ownDone_kept (s : State) (q : NewelQuery) : kept (ownDone s q) = kept s := by simp [ownDone]

@[simp] theorem execLocalMerge_kept (queryId tree : Nat) (s : State) : keptOut (execLocalMerge queryId tree s) = some (kept s) := by
  simp only [execLocalMerge]
  repeat' split
  all_goals simp

@[simp] theorem execSendLimit_kept (queryId tree : Nat) (s : State) : keptOut (execSendLimit queryId tree s) = some (kept s) := by
  unfold execSendLimit
  split <;> simp

@[simp] theorem execSearchDeadline_kept (queryId : Nat) (s : State) : keptOut (execSearchDeadline queryId s) = some (kept s) := by
  unfold execSearchDeadline
  split <;> simp

@[simp] theorem execRerank_kept (queryId : Nat) (vecs : List VecRead) (errs : List (LineAt × LineErr)) (s : State) :
    keptOut (execRerank queryId vecs errs s) = some (kept s) := by
  unfold execRerank
  split <;> simp

@[simp] theorem execSearchResultWrite_kept (queryId : Nat) (s : State) : keptOut (execSearchResultWrite queryId s) = some (kept s) := by
  simp only [execSearchResultWrite]
  repeat' split
  all_goals simp

@[simp] theorem execDeadlineAtShard_kept (queryId tree : Nat) (s : State) : keptOut (execDeadlineAtShard queryId tree s) = some (kept s) := by
  unfold execDeadlineAtShard
  split <;> simp

/-! ### Machine/UsherOps.lean -/

@[simp] theorem UStep.bind_kept {α : Type} (r : UStep α) (k : State → α → URes) (hk : ∀ t x, kept (k t x).state = kept t) :
    kept (r.bind k).state = kept r.state := by
  cases r <;> simp [UStep.bind, hk]

@[simp] theorem UStep.andThen_kept {α β : Type} (r : UStep α) (k : State → α → UStep β) (hk : ∀ t x, kept (k t x).state = kept t) :
    kept (r.andThen k).state = kept r.state := by
  cases r <;> simp [UStep.andThen, hk]

@[simp] theorem guardU_kept (s : State) (l : List (Bool × UFault)) (k : URes) :
    kept (guardU s l k).state = if (firstFault l).isSome then kept s else kept k.state := by
  unfold guardU
  split <;> simp [*]

@[simp] theorem putS_kept (s : State) (u i v : Nat) : kept (putS s u i v) = kept s := by simp [putS]
@[simp] theorem putV_kept (s : State) (u i : Nat) (b : List Byte) : kept (putV s u i b) = kept s := by simp [putV]
@[simp] theorem putP_kept (s : State) (u i v : Nat) : kept (putP s u i v) = kept s := by simp [putP]
@[simp] theorem putFlags_kept (s : State) (u : Nat) (acc : Nat × Nat) : kept (putFlags s u acc) = kept s := by simp [putFlags]
@[simp] theorem closeUsherLine_kept (s : State) (l : Nat) : kept (closeUsherLine s l) = kept s := by simp [closeUsherLine]
@[simp] theorem drainUsher_kept (s : State) (u : Nat) : kept (drainUsher s u) = kept s := by simp [drainUsher]
@[simp] theorem drainLine_kept (s : State) (u l : Nat) : kept (drainLine s u l) = kept s := by simp [drainLine]
@[simp] theorem dropWaiter_kept (s : State) (u : Nat) : kept (dropWaiter s u) = kept s := by simp [dropWaiter]

@[simp] theorem enterFaulted_kept (s : State) (u : Nat) (f : UFault) (pc addr cause : Nat) : kept (enterFaulted s u f pc addr cause) = kept s := by
  simp only [enterFaulted]
  repeat' split
  all_goals simp

@[simp] theorem raiseFault_kept (s : State) (u : Nat) (f : UFault) (deferred : Option Nat) : kept (raiseFault s u f deferred) = kept s := by
  simp [raiseFault]

@[simp] theorem raiseDeferred_kept (s : State) (u : Nat) : kept (raiseDeferred s u) = kept s := by
  unfold raiseDeferred
  split <;> simp

@[simp] theorem usherReq_kept (s : State) (u : Nat) (k : ReqKind) (l : Nat) : kept (usherReq s u k l) = kept s := by simp [usherReq]
@[simp] theorem useLine_kept (s : State) (u l : Nat) (c : CLine) : kept (useLine s u l c) = kept s := by simp [useLine]

@[simp] theorem loadLine_kept (s : State) (u l : Nat) : kept (loadLine s u l).1 = kept s := by
  simp only [loadLine]
  repeat' split
  all_goals simp

@[simp] theorem gainLine_kept (s : State) (u l : Nat) (whole : Bool) : kept (gainLine s u l whole).1 = kept s := by
  simp only [gainLine]
  repeat' split
  all_goals simp

@[simp] theorem putLine_kept (s : State) (u l mask : Nat) (data : List Byte) : kept (putLine s u l mask data) = kept s := by
  simp only [putLine]
  repeat' split
  all_goals simp

@[simp] theorem loadLines_kept (u a : Nat) (s : State) (ls : List Nat) (acc : List Byte) : kept (loadLines u a s ls acc).state = kept s := by
  induction ls generalizing s acc with
  | nil => rfl
  | cons l ls ih => simp [loadLines, ih]

@[simp] theorem loadBytes_kept (s : State) (u a n : Nat) : kept (loadBytes s u a n).state = kept s := by
  simp only [loadBytes]
  repeat' split
  all_goals simp

@[simp] theorem gainLines_kept (u : Nat) (s : State) (ps : List (Nat × Nat × List Byte)) : kept (gainLines u s ps).state = kept s := by
  induction ps generalizing s with
  | nil => rfl
  | cons p ps ih => simp [gainLines, ih]

@[simp] theorem storeLines_kept (s : State) (u : Nat) (ps : List (Nat × Nat × List Byte)) : kept (storeLines s u ps).state = kept s := by
  simp [storeLines]

@[simp] theorem storeBytes_kept (s : State) (u a : Nat) (bs : List Byte) : kept (storeBytes s u a bs).state = kept s := by
  unfold storeBytes
  split <;> simp

@[simp] theorem fetchLine_kept (s : State) (u l : Nat) : kept (fetchLine s u l).1 = kept s := by
  simp only [fetchLine]
  repeat' split
  all_goals simp

@[simp] theorem fetchWord_kept (s : State) (u a : Nat) : kept (fetchWord s u a).state = kept s := by
  unfold fetchWord
  split <;> simp

@[simp] theorem fetchInsn_kept (s : State) (u a : Nat) : kept (fetchInsn s u a).state = kept s := by
  refine (UStep.andThen_kept _ _ fun t w => ?_).trans (by simp)
  simp

@[simp] theorem waitOver_kept (old : Usher) (s : State) (u : Nat) : kept (waitOver old s u) = kept s := by simp [waitOver]

theorem isaRow_kept_of {u : Nat} {op : UOp} {s : State} {body : State → Nat → Nat → URes}
    (hb : ∀ t pc w, kept t = kept s → kept (body t pc w).state = kept s) : kept (isaRow u op s body) = kept s := by
  have hf := fetchInsn_kept s u (usher s u).pc.toNat
  simp only [isaRow]
  split
  · rfl
  · split
    case _ t f he =>
      rw [he, UStep.state_fault] at hf
      simpa using hf
    case _ t w he =>
      rw [he, UStep.state_ok] at hf
      have hr := hb t (usher s u).pc.toNat w hf
      split
      · simpa using hf
      · split
        · cases hx : body t (usher s u).pc.toNat w <;> rw [hx] at hr <;> simpa using hr
        · rfl

@[simp] theorem isaRow_kept (u : Nat) (op : UOp) (s : State) (body : State → Nat → Nat → URes)
    (hb : ∀ t pc w, kept (body t pc w).state = kept t) : kept (isaRow u op s body) = kept s :=
  isaRow_kept_of fun t pc w ht => (hb t pc w).trans ht

@[simp] theorem encoding_kept (s : State) (reserved zero : List Bool) (k : URes) :
    kept (encoding s reserved zero k).state =
      if (firstFault ((reserved.map fun b => (b, illegalOp)) ++ zero.map fun b => (b, illegalSet))).isSome then kept s else kept k.state :=
  guardU_kept ..

/-! ### Machine/UsherScalar.lean -/

@[simp] theorem scalarRow_kept (u : Nat) (op : UOp) (s : State) (reserved zero : Nat → List Bool) (val : State → Nat → Nat → Nat) :
    kept (scalarRow u op s reserved zero val) = kept s := by simp [scalarRow]

@[simp] theorem execAlu_kept (u : Nat) (s : State) : keptOut (execAlu u s) = some (kept s) := by simp [execAlu]
@[simp] theorem immRow_kept (u : Nat) (op : UOp) (s : State) (f : Nat → Nat → Nat) : kept (immRow u op s f) = kept s := by simp [immRow]
@[simp] theorem execAddi_kept (u : Nat) (s : State) : keptOut (execAddi u s) = some (kept s) := by simp [execAddi]
@[simp] theorem execAndi_kept (u : Nat) (s : State) : keptOut (execAndi u s) = some (kept s) := by simp [execAndi]
@[simp] theorem execOri_kept (u : Nat) (s : State) : keptOut (execOri u s) = some (kept s) := by simp [execOri]
@[simp] theorem execXori_kept (u : Nat) (s : State) : keptOut (execXori u s) = some (kept s) := by simp [execXori]
@[simp] theorem execSlti_kept (u : Nat) (s : State) : keptOut (execSlti u s) = some (kept s) := by simp [execSlti]
@[simp] theorem execShi_kept (u : Nat) (s : State) : keptOut (execShi u s) = some (kept s) := by simp [execShi]
@[simp] theorem execLi_kept (u : Nat) (s : State) : keptOut (execLi u s) = some (kept s) := by simp [execLi]
@[simp] theorem execLih_kept (u : Nat) (s : State) : keptOut (execLih u s) = some (kept s) := by simp [execLih]
@[simp] theorem jumpLink_kept (s : State) (u d link target : Nat) : kept (jumpLink s u d link target).state = kept s := by simp [jumpLink]
@[simp] theorem execBr_kept (u : Nat) (s : State) : keptOut (execBr u s) = some (kept s) := by simp [execBr]
@[simp] theorem execJal_kept (u : Nat) (s : State) : keptOut (execJal u s) = some (kept s) := by simp [execJal]
@[simp] theorem execJalr_kept (u : Nat) (s : State) : keptOut (execJalr u s) = some (kept s) := by simp [execJalr]
@[simp] theorem execJl_kept (u : Nat) (s : State) : keptOut (execJl u s) = some (kept s) := by simp [execJl]
@[simp] theorem execFpu_kept (u : Nat) (s : State) : keptOut (execFpu u s) = some (kept s) := by simp [execFpu]

/-! ### Machine/UsherVector.lean -/

@[simp] theorem putLanes_kept (s : State) (u d e : Nat) (g : List Bool) (l : List Lane) : kept (putLanes s u d e g l) = kept s := by simp [putLanes]
@[simp] theorem execVarith_kept (u : Nat) (s : State) : keptOut (execVarith u s) = some (kept s) := by simp [execVarith]
@[simp] theorem execVcmp_kept (u : Nat) (s : State) : keptOut (execVcmp u s) = some (kept s) := by simp [execVcmp]
@[simp] theorem execVcvt_kept (u : Nat) (s : State) : keptOut (execVcvt u s) = some (kept s) := by simp [execVcvt]

@[simp] theorem runVperm_kept (t : State) (u pc w : Nat) : kept (runVperm t u pc w).state = kept t := by
  unfold runVperm
  split <;> simp

@[simp] theorem execVperm_kept (u : Nat) (s : State) : keptOut (execVperm u s) = some (kept s) := by simp [execVperm]
@[simp] theorem execVred_kept (u : Nat) (s : State) : keptOut (execVred u s) = some (kept s) := by simp [execVred]

@[simp] theorem execVld_kept (u : Nat) (s : State) : keptOut (execVld u s) = some (kept s) := by
  refine keptOut_of_next (isaRow_kept _ _ _ _ fun t pc w => ?_)
  simp

@[simp] theorem execVst_kept (u : Nat) (s : State) : keptOut (execVst u s) = some (kept s) := by
  refine keptOut_of_next (isaRow_kept _ _ _ _ fun t pc w => ?_)
  simp only [guardU_kept]
  repeat' split
  all_goals simp

@[simp] theorem combRun_kept (u mode base stride : Nat) (g : List Bool) (n i : Nat) (s : State) (c : Comb) :
    kept (combRun u mode base stride g n i s c).state = kept s := by
  induction n generalizing i s c with
  | zero => rfl
  | succ n ih => exact (UStep.andThen_kept _ _ fun t b => ih ..).trans (by simp)

@[simp] theorem execVcomb_kept (u : Nat) (s : State) : keptOut (execVcomb u s) = some (kept s) := by simp [execVcomb]

/-! ### Machine/UsherSelect.lean -/

@[simp] theorem selectOut_kept (t : State) (u vd kt idxA sumA : Nat) (r : SelOut) (threshold ids : Bool) (pc : Nat) :
    kept (selectOut t u vd kt idxA sumA r threshold ids pc).state = kept t := by
  simp only [selectOut]
  repeat' split
  all_goals simp

@[simp] theorem execSelect_kept (u : Nat) (s : State) : keptOut (execSelect u s) = some (kept s) := by
  refine keptOut_of_next (isaRow_kept _ _ _ _ fun t pc w => ?_)
  simp only [encoding_kept, guardU_kept]
  split
  · rfl
  · split
    · rfl
    · refine (UStep.bind_kept _ _ fun t1 keys => ?_).trans (by simp)
      split <;> simp

@[simp] theorem execArgmax_kept (u : Nat) (s : State) : keptOut (execArgmax u s) = some (kept s) := by
  refine keptOut_of_next (isaRow_kept _ _ _ _ fun t pc w => ?_)
  simp only [encoding_kept, guardU_kept]
  split
  · rfl
  · split
    · rfl
    · refine (UStep.bind_kept _ _ fun t1 keys => ?_).trans (by simp)
      split <;> simp

@[simp] theorem atomicAt_kept (t : State) (u a : Nat) (o : AtomOp) : kept (atomicAt t u a o).1 = kept t := by
  simp only [atomicAt]
  repeat' split
  all_goals simp

@[simp] theorem execAtom_kept (u : Nat) (s : State) : keptOut (execAtom u s) = some (kept s) := by
  refine keptOut_of_next (isaRow_kept _ _ _ _ fun t pc w => ?_)
  simp only []
  repeat' split
  all_goals simp

/-! ### Machine/UsherSys.lean -/

@[simp] theorem orderingPoint_kept (t : State) (u : Nat) (k : URes) :
    kept (orderingPoint t u k).state = if (deferredOf t u).isEmpty then kept k.state else kept t := by
  simp [orderingPoint]

@[simp] theorem execSysNop_kept (u : Nat) (s : State) : keptOut (execSysNop u s) = some (kept s) := by simp [execSysNop]

@[simp] theorem execHalt_kept (u : Nat) (s : State) : keptOut (execHalt u s) = some (kept s) := by
  refine keptOut_of_next (isaRow_kept _ _ _ _ fun t pc w => ?_)
  simp only []
  repeat' split
  all_goals simp

@[simp] theorem execCsrr_kept (u : Nat) (s : State) : keptOut (execCsrr u s) = some (kept s) := by simp [execCsrr]
@[simp] theorem csrWrite_kept (t : State) (u n v : Nat) : kept (csrWrite t u n v) = kept t := by simp [csrWrite]
@[simp] theorem execCsrw_kept (u : Nat) (s : State) : keptOut (execCsrw u s) = some (kept s) := by simp [execCsrw]
@[simp] theorem execFence_kept (u : Nat) (s : State) : keptOut (execFence u s) = some (kept s) := by simp [execFence]
@[simp] theorem execXret_kept (u : Nat) (s : State) : keptOut (execXret u s) = some (kept s) := by simp [execXret]
@[simp] theorem execTrap_kept (u : Nat) (s : State) : keptOut (execTrap u s) = some (kept s) := by simp [execTrap]
@[simp] theorem execIflush_kept (u : Nat) (s : State) : keptOut (execIflush u s) = some (kept s) := by simp [execIflush]

@[simp] theorem handOver_kept (s : State) (u cls inst q : Nat) (bs : List Byte) (d : Nat) : kept (handOver s u cls inst q bs d) = kept s := by
  simp [handOver]

@[simp] theorem joinWaiters_kept (s : State) (u cls inst q : Nat) : kept (joinWaiters s u cls inst q) = kept s := by simp [joinWaiters]

@[simp] theorem issueBody_kept (u : Nat) (blocking : Bool) (t : State) (pc w : Nat) : kept (issueBody u blocking t pc w).state = kept t := by
  simp [issueBody]

@[simp] theorem execIssue_kept (u : Nat) (s : State) : keptOut (execIssue u s) = some (kept s) := by simp [execIssue]
@[simp] theorem execIssuenb_kept (u : Nat) (s : State) : keptOut (execIssuenb u s) = some (kept s) := by simp [execIssuenb]
@[simp] theorem consumeToken_kept (s : State) (u v d st : Nat) : kept (consumeToken s u v d st) = kept s := by simp [consumeToken]

@[simp] theorem execWait_kept (u : Nat) (s : State) : keptOut (execWait u s) = some (kept s) := by
  refine keptOut_of_next (isaRow_kept _ _ _ _ fun t pc w => ?_)
  simp only []
  repeat' split
  all_goals simp

@[simp] theorem execWaitTimeout_kept (u : Nat) (s : State) : keptOut (execWaitTimeout u s) = some (kept s) := by
  unfold execWaitTimeout
  split
  · refine keptOut_of_next (isaRow_kept_of fun t pc w ht => ?_)
    split
    · simpa using ht
    · rfl
  · rfl

@[simp] theorem execTest_kept (u : Nat) (s : State) : keptOut (execTest u s) = some (kept s) := by
  refine keptOut_of_next (isaRow_kept _ _ _ _ fun t pc w => ?_)
  simp only []
  repeat' split
  all_goals simp

@[simp] theorem startUsher_kept (s : State) (u : Nat) (cmd : Option Nat) (args : List Nat) : kept (startUsher s u cmd args) = kept s := by
  simp [startUsher]

@[simp] theorem usherGo_kept (s : State) (u : Nat) : kept (usherGo s u) = kept s := by
  unfold usherGo
  split <;> simp

@[simp] theorem usherStop_kept (s : State) (u : Nat) : kept (usherStop s u) = kept s := by
  simp only [usherStop]
  repeat' split
  all_goals simp

@[simp] theorem emptyL1_kept (s : State) (u : Nat) : kept (emptyL1 s u) = kept s := by simp [emptyL1]

@[simp] theorem usherReset_kept (s : State) (u : Nat) (drop : Bool) : kept (usherReset s u drop) = kept s := by
  simp only [usherReset]
  repeat' split
  all_goals simp

@[simp] theorem execUsherGo_kept (u : Nat) (s : State) : keptOut (execUsherGo u s) = some (kept s) := by simp [execUsherGo]
@[simp] theorem execUsherStop_kept (u : Nat) (s : State) : keptOut (execUsherStop u s) = some (kept s) := by simp [execUsherStop]
@[simp] theorem execUsherReset_kept (u : Nat) (s : State) : keptOut (execUsherReset u s) = some (kept s) := by simp [execUsherReset]

/-! ### Machine/Vestibule.lean -/

@[simp] theorem hostStore_kept (s : State) (a : Nat) (bs : List Byte) : kept (hostStore s a bs) = kept s := by simp [hostStore]

@[simp] theorem execSqDoorbell_kept (f q value : Nat) (writes : List HostWrite) (s : State) :
    keptOut (execSqDoorbell f q value writes s) = some (kept s) := by simp [execSqDoorbell]

@[simp] theorem consume_kept (s : State) (f e v : Nat) : kept (consume s f e v) = kept s := by simp [consume]
@[simp] theorem execEqDoorbell_kept (f e value : Nat) (s : State) : keptOut (execEqDoorbell f e value s) = some (kept s) := by simp [execEqDoorbell]
@[simp] theorem landIdle_kept (s : State) (f q : Nat) : kept (landIdle s f q) = kept s := by simp [landIdle]
@[simp] theorem queueFault_kept (s : State) (f q status : Nat) : kept (queueFault s f q status) = kept s := by simp [queueFault]
@[simp] theorem takeEntry_kept (s : State) (f q : Nat) (bs : List Byte) : kept (takeEntry s f q bs) = kept s := by simp [takeEntry]
@[simp] theorem fetchFrom_kept (s : State) (f q : Nat) : kept (fetchFrom s f q) = kept s := by simp [fetchFrom]

@[simp] theorem execEntryFetch_kept (f : Nat) (s : State) : keptOut (execEntryFetch f s) = some (kept s) := by
  simp only [execEntryFetch]
  repeat' split
  all_goals simp

@[simp] theorem execHostReadCompletion_kept (what : ReadFor) (poisoned : Bool) (s : State) :
    keptOut (execHostReadCompletion what poisoned s) = some (kept s) := by
  simp only [execHostReadCompletion]
  repeat' split
  all_goals simp

@[simp] theorem complete_kept (s : State) (c : Cmd) (d : Done) : kept (complete s c d) = kept s := by simp [complete]

@[simp] theorem execCommandCompletion_kept (id : Nat) (s : State) : keptOut (execCommandCompletion id s) = some (kept s) := by
  simp only [execCommandCompletion]
  repeat' split
  all_goals simp

@[simp] theorem execNop_kept (id : Nat) (s : State) : keptOut (execNop id s) = some (kept s) := by simp [execNop]
@[simp] theorem runBody_kept (c : Cmd) (s : State) : kept (runBody c s) = kept s := by simp [runBody]
@[simp] theorem execRun_kept (id : Nat) (s : State) : keptOut (execRun id s) = some (kept s) := by simp [execRun]

@[simp] theorem carry_kept (s : State) (c : Cmd) (cls inst : Nat) (d : Desc) (fail : Option Nat) : kept (carry s c cls inst d fail) = kept s := by
  simp [carry]

@[simp] theorem lntLoadBody_kept (c : Cmd) (s : State) : kept (lntLoadBody c s) = kept s := by simp [lntLoadBody]

@[simp] theorem execLntLoad_kept (id : Nat) (s : State) : keptOut (execLntLoad id s) = some (kept s) := by
  unfold execLntLoad
  split <;> simp

@[simp] theorem lntInjectBody_kept (c : Cmd) (s : State) : kept (lntInjectBody c s) = kept s := by simp [lntInjectBody]

@[simp] theorem execLntInject_kept (id : Nat) (s : State) : keptOut (execLntInject id s) = some (kept s) := by
  unfold execLntInject
  split <;> simp

@[simp] theorem dmaCommand_kept (s : State) (id op descOp : Nat) : kept (dmaCommand s id op descOp) = kept s := by
  simp only [dmaCommand]
  repeat' split
  all_goals simp

@[simp] theorem execCopy_kept (id : Nat) (s : State) : keptOut (execCopy id s) = some (kept s) := by simp [execCopy]
@[simp] theorem execFill_kept (id : Nat) (s : State) : keptOut (execFill id s) = some (kept s) := by simp [execFill]

@[simp] theorem dropSearches_kept (s : State) (ids : List Nat) : kept (dropSearches s ids) = kept s := by
  refine (kept_update ..).trans (foldl_kept _ (fun t q => ?_) _ _)
  split <;> simp

@[simp] theorem dropDescs_kept (s : State) (ids : List Nat) (tenant : Option Nat) : kept (dropDescs s ids tenant) = kept s := by
  refine (foldl_kept _ (fun t c => ?_) _ _).trans ((foldl_kept _ (fun t q => ?_) _ _).trans (kept_update ..))
  · split <;> simp
  · simp

@[simp] theorem dropContexts_kept (s : State) (ids : List Nat) (t : Nat) : kept (dropContexts s ids t) = kept s := by simp [dropContexts]

@[simp] theorem dropStores_kept (s : State) (dropped : List Nat) : kept (dropStores s dropped) = kept s := by
  refine (foldl_kept _ (fun t h => ?_) _ _).trans (kept_update ..)
  split <;> simp

@[simp] theorem dropPower_kept (s : State) (ids : List Nat) : kept (dropPower s ids) = kept s := by simp [dropPower]
@[simp] theorem dropMaps_kept (s : State) (ids : List Nat) : kept (dropMaps s ids) = kept s := by simp [dropMaps]
@[simp] theorem resetFunction_kept (s : State) (f : Nat) : kept (resetFunction s f) = kept s := by simp [resetFunction]

@[simp] theorem dropFunction_kept (s : State) (f : Nat) : kept (dropFunction s f) = kept s := by
  unfold dropFunction
  split <;> simp

@[simp] theorem dropAll_kept (s : State) : kept (dropAll s) = kept s := (kept_update ..).trans (foldl_kept _ (fun t f => by simp) _ _)
@[simp] theorem execFlr_kept (f : Nat) (s : State) : keptOut (execFlr f s) = some (kept s) := by simp [execFlr]
@[simp] theorem linkLost_kept (s : State) : kept (linkLost s) = kept s := by simp [linkLost]
@[simp] theorem execLinkDown_kept (s : State) : keptOut (execLinkDown s) = some (kept s) := by simp [execLinkDown]

@[simp] theorem execLinkTrained_kept (rate width : Nat) (flit cxl : Bool) (s : State) :
    keptOut (execLinkTrained rate width flit cxl s) = some (kept s) := by simp [execLinkTrained]

@[simp] theorem execVfEnable_kept (n : Nat) (s : State) : keptOut (execVfEnable n s) = some (kept s) := by
  refine keptOut_of_next ?_
  split
  · exact (afterRate_kept _).trans (foldl_kept _ (fun t f => by simp) _ _)
  · rfl

@[simp] theorem bar2Chunk_kept (s : State) (l lo : Nat) (bs : List Byte) : kept (bar2Chunk s l lo bs) = kept s := by
  simp only [bar2Chunk]
  repeat' split
  all_goals simp

@[simp] theorem bar2Chunks_kept (a : Nat) (bs : List Byte) (s : State) : kept (bar2Chunks a bs s).1 = kept s := by
  refine foldl_fst_kept _ (fun t l => ?_) _ _
  simp only []
  split <;> simp

@[simp] theorem execBar2Write_kept (addr : Nat) (data : List Byte) (poisoned : Bool) (s : State) :
    keptOut (execBar2Write addr data poisoned s) = some (kept s) := by simp [execBar2Write]

@[simp] theorem execBar2Read_kept (addr n : Nat) (s : State) : keptOut (execBar2Read addr n s) = some (kept s) := by
  refine congrArg some ?_
  split
  · rfl
  · refine (hostReply_kept ..).trans (foldl_fst_kept _ (fun t l => ?_) _ _)
    simp only []
    repeat' split
    all_goals simp_all

/-! ### Machine/Bringup.lean -/

@[simp] theorem standbyGone_kept (s : State) : kept (standbyGone s) = kept s := by simp [standbyGone]

@[simp] theorem execStandbyPowerOn_kept (address : Nat) (s : State) : keptOut (execStandbyPowerOn address s) = some (kept s) := by
  simp [execStandbyPowerOn]

@[simp] theorem execStandbyPowerLoss_kept (s : State) : keptOut (execStandbyPowerLoss s) = some (kept s) := by simp [execStandbyPowerLoss]
@[simp] theorem execPwrEnAssert_kept (s : State) : keptOut (execPwrEnAssert s) = some (kept s) := by simp [execPwrEnAssert]
@[simp] theorem execPwrEnDeassert_kept (s : State) : keptOut (execPwrEnDeassert s) = some (kept s) := by simp [execPwrEnDeassert]
@[simp] theorem execRailRegulated_kept (s : State) : keptOut (execRailRegulated s) = some (kept s) := by simp [execRailRegulated]
@[simp] theorem execRailFault_kept (s : State) : keptOut (execRailFault s) = some (kept s) := by simp [execRailFault]
@[simp] theorem execRailRetry_kept (s : State) : keptOut (execRailRetry s) = some (kept s) := by simp [execRailRetry]
@[simp] theorem execPowerFail_kept (s : State) : keptOut (execPowerFail s) = some (kept s) := by simp [execPowerFail]
@[simp] theorem execInputRestored_kept (s : State) : keptOut (execInputRestored s) = some (kept s) := by simp [execInputRestored]
@[simp] theorem failUnit_kept (s : State) (k : UnitKind) (i : Nat) : kept (failUnit s k i) = kept s := by simp [failUnit]
@[simp] theorem bringupFails_kept (s : State) (stage : Nat) : kept (bringupFails s stage) = kept s := by simp [bringupFails]

@[simp] theorem loadMicrocode_kept (s : State) (passes : Bool) : kept (loadMicrocode s passes).1 = kept s := by
  simp only [loadMicrocode]
  repeat' split
  all_goals simp

@[simp] theorem execMainBringup_kept (tests : DieTests) (s : State) : keptOut (execMainBringup tests s) = some (kept s) := by simp [execMainBringup]
@[simp] theorem applyMarks_kept (s : State) (h : Nat) : kept (applyMarks s h) = kept s := by simp [applyMarks]

@[simp] theorem execStackTraining_kept (h : Nat) (trained : Bool) (s : State) : keptOut (execStackTraining h trained s) = some (kept s) := by
  simp [execStackTraining]

@[simp] theorem failTested_kept (s : State) (x : TestedUnit) : kept (failTested s x) = kept s := by
  unfold failTested
  split <;> simp

@[simp] theorem restoreWings_kept (s : State) : kept (restoreWings s) = kept s := by
  unfold restoreWings
  split <;> simp

@[simp] theorem execBringupReady_kept (failed : List TestedUnit) (s : State) : keptOut (execBringupReady failed s) = some (kept s) := by
  simp [execBringupReady]

@[simp] theorem execPerstAssert_kept (s : State) : keptOut (execPerstAssert s) = some (kept s) := by simp [execPerstAssert]
@[simp] theorem execPerstDeassert_kept (s : State) : keptOut (execPerstDeassert s) = some (kept s) := by simp [execPerstDeassert]

@[simp] theorem execColdReset_kept (cause : ResetCause) (s : State) : keptOut (execColdReset cause s) = some (kept s) := by
  simp only [execColdReset]
  repeat' split
  all_goals simp

@[simp] theorem abortDescs_kept (s : State) (cls inst : Nat) : kept (abortDescs s cls inst) = kept s := by simp [abortDescs]

@[simp] theorem abortFlight_kept (s : State) (ctx : Nat) : kept (abortFlight s ctx) = kept s := by
  unfold abortFlight
  split <;> simp

@[simp] theorem clearBlock_kept (s : State) (lo n : Nat) : kept (clearBlock s lo n) = kept s := by simp [clearBlock]
@[simp] theorem clearStair_kept (s : State) (h : Nat) : kept (clearStair s h) = kept s := by simp [clearStair]
@[simp] theorem clearEngine_kept (s : State) (e : Nat) : kept (clearEngine s e) = kept s := by simp [clearEngine]
@[simp] theorem clearCore_kept (s : State) (c : Nat) : kept (clearCore s c) = kept s := by simp [clearCore]

@[simp] theorem resetUnit_kept (s : State) (cls inst : Nat) (pass : Bool) : kept (resetUnit s cls inst pass) = kept s := by
  unfold resetUnit
  split <;> simp

@[simp] theorem execPwrbrkAssert_kept (s : State) : keptOut (execPwrbrkAssert s) = some (kept s) := by simp [execPwrbrkAssert]
@[simp] theorem execPwrbrkRelease_kept (s : State) : keptOut (execPwrbrkRelease s) = some (kept s) := by simp [execPwrbrkRelease]

@[simp] theorem execThermalTrip_kept (comparator : Bool) (sensor : Nat) (s : State) :
    keptOut (execThermalTrip comparator sensor s) = some (kept s) := by simp [execThermalTrip]

@[simp] theorem execTripRelease_kept (s : State) : keptOut (execTripRelease s) = some (kept s) := by simp [execTripRelease]

/-! ### Machine/Invalidate.lean -/

theorem stateAfter_kept {s : State} {o : Out} (h : keptOut o = some (kept s)) : kept (stateAfter s o) = kept s := by
  cases o with
  | next t => exact Option.some.inj h
  | fault r => rfl
  | refused r => rfl

@[simp] theorem wholeRun_kept (s : State) (cls inst id op : Nat) : kept (wholeRun s cls inst id op) = kept s := by
  refine stateAfter_kept ?_
  split <;> simp

@[simp] theorem takeLines_kept (s t : State) (ls : List Nat) : kept (takeLines s t ls) = kept s := by simp [takeLines]

@[simp] theorem stopDesc_kept (s : State) (cls inst id lines : Nat) (d : Desc) : kept (stopDesc s cls inst id lines d) = kept s := by
  unfold stopDesc
  split
  · refine withDesc_kept _ _ _ _ _ _ fun d t => ?_
    split <;> simp
  · simp

@[simp] theorem execTranslationInvalidate_kept (cls inst id lines : Nat) (s : State) :
    keptOut (execTranslationInvalidate cls inst id lines s) = some (kept s) := by
  simp only [execTranslationInvalidate]
  repeat' split
  all_goals simp

/-! ### Machine/Pldm.lean -/

@[simp] theorem pldmReply_kept (s : State) (code result : Nat) (nums : List Nat) : kept (pldmReply s code result nums) = kept s := by simp [pldmReply]

@[simp] theorem platform_kept (s : State) (m : Mgmt) (k : State → State) (hk : ∀ t, kept (k t) = kept t) : kept (platform s m k) = kept s := by
  simp [platform, hk]

@[simp] theorem updating_kept (s : State) (m : Mgmt) (k : State → State) (hk : ∀ t, kept (k t) = kept t) : kept (updating s m k) = kept s := by
  simp [updating, hk]

@[simp] theorem execGetPdr_kept (m : Mgmt) (record : Nat) (s : State) : keptOut (execGetPdr m record s) = some (kept s) := by
  refine keptOut_of_next (platform_kept _ _ _ fun t => ?_)
  simp only []
  split <;> simp

@[simp] theorem execGetPdrRepositoryInfo_kept (m : Mgmt) (s : State) : keptOut (execGetPdrRepositoryInfo m s) = some (kept s) := by
  simp [execGetPdrRepositoryInfo]

@[simp] theorem execGetSensorReading_kept (m : Mgmt) (sensor : Nat) (s : State) : keptOut (execGetSensorReading m sensor s) = some (kept s) := by
  simp [execGetSensorReading]

@[simp] theorem execGetStateSensorReadings_kept (m : Mgmt) (sensor : Nat) (s : State) :
    keptOut (execGetStateSensorReadings m sensor s) = some (kept s) := by simp [execGetStateSensorReadings]

@[simp] theorem execSetNumericSensorEnable_kept (m : Mgmt) (sensor : Nat) (enable events : Bool) (s : State) :
    keptOut (execSetNumericSensorEnable m sensor enable events s) = some (kept s) := by simp [execSetNumericSensorEnable]

@[simp] theorem execGetSensorThresholds_kept (m : Mgmt) (sensor : Nat) (s : State) :
    keptOut (execGetSensorThresholds m sensor s) = some (kept s) := by simp [execGetSensorThresholds]

@[simp] theorem execSetSensorThresholds_kept (m : Mgmt) (sensor : Nat) (values : List Int) (s : State) :
    keptOut (execSetSensorThresholds m sensor values s) = some (kept s) := by simp [execSetSensorThresholds]

@[simp] theorem execSetEventReceiver_kept (m : Mgmt) (receiver : Option Nat) (s : State) :
    keptOut (execSetEventReceiver m receiver s) = some (kept s) := by simp [execSetEventReceiver]

@[simp] theorem execPollForPlatformEventMessage_kept (m : Mgmt) (s : State) :
    keptOut (execPollForPlatformEventMessage m s) = some (kept s) := by
  refine keptOut_of_next (platform_kept _ _ _ fun t => ?_)
  split <;> simp

@[simp] theorem execEventMessageSupported_kept (m : Mgmt) (s : State) : keptOut (execEventMessageSupported m s) = some (kept s) := by
  simp [execEventMessageSupported]

@[simp] theorem execSetNumericEffecterValue_kept (m : Mgmt) (effecter value : Nat) (s : State) :
    keptOut (execSetNumericEffecterValue m effecter value s) = some (kept s) := by simp [execSetNumericEffecterValue]

@[simp] theorem execSetStateEffecterStates_kept (m : Mgmt) (effecter state : Nat) (s : State) :
    keptOut (execSetStateEffecterStates m effecter state s) = some (kept s) := by simp [execSetStateEffecterStates]

@[simp] theorem execQueryDeviceIdentifiers_kept (m : Mgmt) (s : State) : keptOut (execQueryDeviceIdentifiers m s) = some (kept s) := by
  simp [execQueryDeviceIdentifiers]

@[simp] theorem execGetFirmwareParameters_kept (m : Mgmt) (s : State) : keptOut (execGetFirmwareParameters m s) = some (kept s) := by
  simp [execGetFirmwareParameters]

@[simp] theorem execRequestUpdate_kept (m : Mgmt) (components : Nat) (s : State) : keptOut (execRequestUpdate m components s) = some (kept s) := by
  simp [execRequestUpdate]

@[simp] theorem withUpdate_kept (s : State) (m : Mgmt) (code : Nat) (k : Update → State → State) (hk : ∀ u t, kept (k u t) = kept t) :
    kept (withUpdate s m code k) = kept s := by
  refine updating_kept _ _ _ fun t => ?_
  split <;> simp [hk]

@[simp] theorem setUpdate_kept (s : State) (u : Option Update) : kept (setUpdate s u) = kept s := by simp [setUpdate]

@[simp] theorem execPassComponentTable_kept (m : Mgmt) (component : Nat) (last : Bool) (s : State) :
    keptOut (execPassComponentTable m component last s) = some (kept s) := by simp [execPassComponentTable]

@[simp] theorem execUpdateComponent_kept (m : Mgmt) (component size : Nat) (s : State) :
    keptOut (execUpdateComponent m component size s) = some (kept s) := by simp [execUpdateComponent]

@[simp] theorem verifyImage_kept (s : State) (u : Update) (data : List Byte) : kept (verifyImage s u data) = kept s := by simp [verifyImage]

@[simp] theorem execRequestFirmwareData_kept (data : List Byte) (s : State) : keptOut (execRequestFirmwareData data s) = some (kept s) := by
  simp only [execRequestFirmwareData]
  repeat' split
  all_goals simp

@[simp] theorem execActivateFirmware_kept (m : Mgmt) (s : State) : keptOut (execActivateFirmware m s) = some (kept s) := by
  simp [execActivateFirmware]

@[simp] theorem execGetStatus_kept (m : Mgmt) (s : State) : keptOut (execGetStatus m s) = some (kept s) := by
  refine keptOut_of_next (updating_kept _ _ _ fun t => ?_)
  split <;> simp

@[simp] theorem execCancelUpdateComponent_kept (m : Mgmt) (s : State) : keptOut (execCancelUpdateComponent m s) = some (kept s) := by
  simp [execCancelUpdateComponent]

@[simp] theorem execCancelUpdate_kept (m : Mgmt) (s : State) : keptOut (execCancelUpdate m s) = some (kept s) := by simp [execCancelUpdate]

/-! ### Machine/RegRead.lean -/

@[simp] theorem setLatch_kept (s : State) (who : Requester) (r : Reg) (i j v : Nat) : kept (setLatch s who r i j v) = kept s := by simp [setLatch]
@[simp] theorem snapshot_kept (s : State) (who : Requester) (r : Reg) (i j : Nat) : kept (snapshot s who r i j) = kept s := by simp [snapshot]

@[simp] theorem readSnap_kept (s : State) (who : Requester) (r : Reg) (i j o n : Nat) : kept (readSnap s who r i j o n).1 = kept s := by
  simp only [readSnap]
  repeat' split
  all_goals simp

@[simp] theorem readElem_kept (s : State) (who : Requester) (r : Reg) (i j o n hwSet : Nat) : kept (readElem s who r i j o n hwSet).1 = kept s := by
  unfold readElem
  split <;> simp

@[simp] theorem readWord_kept (s : State) (who : Requester) (off n hwSet : Nat) : kept (readWord s who off n hwSet).1 = kept s := by
  simp only [readWord]
  repeat' split
  all_goals simp

@[simp] theorem regRead_kept (s : State) (who : Requester) (off n hwSet : Nat) : kept (regRead s who off n hwSet).1 = kept s := by
  unfold regRead
  split <;> simp

@[simp] theorem barRead_kept (s : State) (who : Requester) (off n hwSet : Nat) : kept (barRead s who off n hwSet) = kept s := by simp [barRead]

@[simp] theorem execRcRead_kept (who : Requester) (off : Nat) (hwSet : W64) (s : State) : keptOut (execRcRead who off hwSet s) = some (kept s) := by
  simp [execRcRead]

@[simp] theorem execSnapLowRead_kept (who : Requester) (off size : Nat) (s : State) : keptOut (execSnapLowRead who off size s) = some (kept s) := by
  simp [execSnapLowRead]

@[simp] theorem paceMonitor_kept (s : State) (n count : Nat) : kept (paceMonitor s n count) = kept s := by simp [paceMonitor]
@[simp] theorem execPaceWindow_kept (counts : List Nat) (s : State) : keptOut (execPaceWindow counts s) = some (kept s) := by simp [execPaceWindow]

/-! ### Machine/StairCmds.lean -/

@[simp] theorem sweepEnable_kept (s : State) (who : Requester) (h : Nat) : kept (sweepEnable s who h) = kept s := by simp [sweepEnable]
@[simp] theorem sweepPause_kept (s : State) (h : Nat) : kept (sweepPause s h) = kept s := by simp [sweepPause]

@[simp] theorem execSweepEnable_kept (who : Requester) (h : Nat) (s : State) : keptOut (execSweepEnable who h s) = some (kept s) := by
  simp [execSweepEnable]

@[simp] theorem execSweepPause_kept (h : Nat) (s : State) : keptOut (execSweepPause h s) = some (kept s) := by simp [execSweepPause]
@[simp] theorem readSwept_kept (s : State) (h : Nat) (errs : List (LineAt × LineErr)) : kept (readSwept s h errs) = kept s := by simp [readSwept]

@[simp] theorem execBayStream_kept (h : Nat) (errs : List (LineAt × LineErr)) (s : State) : keptOut (execBayStream h errs s) = some (kept s) := by
  simp [execBayStream]

@[simp] theorem execFinalSelection_kept (h ctx : Nat) (errs : List (LineAt × LineErr)) (s : State) :
    keptOut (execFinalSelection h ctx errs s) = some (kept s) := by simp [execFinalSelection]

@[simp] theorem execSpillFinish_kept (h ctx units : Nat) (errs : List (LineAt × LineErr)) (s : State) :
    keptOut (execSpillFinish h ctx units errs s) = some (kept s) := by simp [execSpillFinish]

@[simp] theorem delayedRecord_kept (s : State) (q : Query) (a : Nat) : kept (delayedRecord s q a) = kept s := by
  simp only [delayedRecord]
  repeat' split
  all_goals simp

@[simp] theorem execDelayThreshold_kept (ctx : Nat) (s : State) : keptOut (execDelayThreshold ctx s) = some (kept s) := by
  unfold execDelayThreshold
  split <;> simp

/-! ### Machine/RegWrite.lean -/

@[simp] theorem stageOrApply_kept (s : State) (runs : Bool) (f : Nat) (r : Reg) (i j v : Nat) : kept (stageOrApply s runs f r i j v) = kept s := by
  unfold stageOrApply
  split <;> simp

@[simp] theorem plainWrite_kept (s : State) (f : Nat) (r : Reg) (i j v : Nat) : kept (plainWrite s f r i j v) = kept s := by simp [plainWrite]
@[simp] theorem sqCfgWritten_kept (s : State) (f q v : Nat) : kept (sqCfgWritten s f q v) = kept s := by simp [sqCfgWritten]
@[simp] theorem eqCfgWritten_kept (s : State) (f e v : Nat) : kept (eqCfgWritten s f e v) = kept s := by simp [eqCfgWritten]
@[simp] theorem msixCtrlWritten_kept (s : State) (f e v : Nat) : kept (msixCtrlWritten s f e v) = kept s := by simp [msixCtrlWritten]
@[simp] theorem coreCfgWritten_kept (s : State) (c v : Nat) : kept (coreCfgWritten s c v) = kept s := by simp [coreCfgWritten]
@[simp] theorem portCtrlWritten_kept (s : State) (p v : Nat) : kept (portCtrlWritten s p v) = kept s := by simp [portCtrlWritten]
@[simp] theorem ushCtrlWritten_kept (s : State) (u v : Nat) : kept (ushCtrlWritten s u v) = kept s := by simp [ushCtrlWritten]
@[simp] theorem unitResetWritten_kept (s : State) (v : Nat) : kept (unitResetWritten s v) = kept s := by simp [unitResetWritten]
@[simp] theorem mbxCtrlWritten_kept (s : State) (v : Nat) : kept (mbxCtrlWritten s v) = kept s := by simp [mbxCtrlWritten]
@[simp] theorem windowHeld_kept (s : State) (r : Reg) (i v : Nat) : kept (windowHeld s r i v) = kept s := by simp [windowHeld]

@[simp] theorem applyWrite_kept (s : State) (who : Requester) (r : Reg) (i j v : Nat) : kept (applyWrite s who r i j v) = kept s := by
  unfold applyWrite
  split <;> simp

@[simp] theorem dropHeld_kept (s : State) (r : Reg) (i : Nat) : kept (dropHeld s r i) = kept s := by simp [dropHeld]

@[simp] theorem writeElem_kept (s : State) (who : Requester) (off : Nat) (r : Reg) (i j o n value : Nat) :
    kept (writeElem s who off r i j o n value) = kept s := by
  simp only [writeElem]
  repeat' split
  all_goals simp

@[simp] theorem writeWord_kept (s : State) (who : Requester) (off n value : Nat) : kept (writeWord s who off n value) = kept s := by
  simp only [writeWord]
  repeat' split
  all_goals simp

@[simp] theorem regWrite_kept (s : State) (who : Requester) (off n value : Nat) : kept (regWrite s who off n value) = kept s := by simp [regWrite]

@[simp] theorem collideSet_kept (s : State) (r : Reg) (i m : Nat) : kept (collideSet s r i m) = kept s := by
  unfold collideSet
  split <;> simp

@[simp] theorem collide_kept (s : State) (who : Requester) (off hwSet hwInc : Nat) : kept (collide s who off hwSet hwInc) = kept s := by
  unfold collide
  split <;> simp

@[simp] theorem barWrite_kept (s : State) (who : Requester) (off n value hwSet hwInc : Nat) :
    kept (barWrite s who off n value hwSet hwInc) = kept s := by simp [barWrite]

@[simp] theorem execRegisterWrite_kept (who : Requester) (off size : Nat) (value hwSet : W64) (hwInc : Nat) (s : State) :
    keptOut (execRegisterWrite who off size value hwSet hwInc s) = some (kept s) := by simp [execRegisterWrite]

@[simp] theorem fnWrite_kept (s : State) (f : Nat) (r : Reg) (i n value : Nat) : kept (fnWrite s f r i n value) = kept s := by simp [fnWrite]
@[simp] theorem execSqEnable_kept (f q : Nat) (cfg : W64) (s : State) : keptOut (execSqEnable f q cfg s) = some (kept s) := by simp [execSqEnable]
@[simp] theorem execSqDisable_kept (f q : Nat) (s : State) : keptOut (execSqDisable f q s) = some (kept s) := by simp [execSqDisable]
@[simp] theorem execEqEnable_kept (f e : Nat) (cfg : W64) (s : State) : keptOut (execEqEnable f e cfg s) = some (kept s) := by simp [execEqEnable]
@[simp] theorem execEqDisable_kept (f e : Nat) (s : State) : keptOut (execEqDisable f e s) = some (kept s) := by simp [execEqDisable]
@[simp] theorem execCold_kept (who : Requester) (s : State) : keptOut (execCold who s) = some (kept s) := by simp [execCold]

@[simp] theorem execUnitReset_kept (who : Requester) (cls inst : Nat) (pass : Bool) (s : State) :
    keptOut (execUnitReset who cls inst pass s) = some (kept s) := by
  refine keptOut_of_next ?_
  repeat' split
  · rfl
  · exact discardWrite_kept ..
  · exact discardWrite_kept ..
  · exact resetUnit_kept ..

/-! ### Machine/Spdm.lean -/

@[simp] theorem spdmReply_kept (s : State) (code : Nat) (nums : List Nat) (bytes : List Byte) : kept (spdmReply s code nums bytes) = kept s := by
  simp [spdmReply]

@[simp] theorem spdmError_kept (s : State) (code : Nat) : kept (spdmError s code) = kept s := by simp [spdmError]

@[simp] theorem spdmServe_kept (s : State) (via : SpdmVia) (stage : Nat) (k : State → State) (hk : ∀ t, kept (k t) = kept t) :
    kept (spdmServe s via stage k) = kept s := by
  simp [spdmServe, hk]

@[simp] theorem setStage_kept (s : State) (via : SpdmVia) (n : Nat) : kept (setStage s via n) = kept s := by simp [setStage]
@[simp] theorem freeReply_kept (s : State) (code : Nat) (nums : List Nat) (n : Nat) : kept (freeReply s code nums n) = kept s := by simp [freeReply]
@[simp] theorem execGetVersion_kept (via : SpdmVia) (s : State) : keptOut (execGetVersion via s) = some (kept s) := by simp [execGetVersion]

@[simp] theorem execGetCapabilities_kept (via : SpdmVia) (s : State) : keptOut (execGetCapabilities via s) = some (kept s) := by
  simp [execGetCapabilities]

@[simp] theorem execNegotiateAlgorithms_kept (via : SpdmVia) (agreed : Bool) (s : State) :
    keptOut (execNegotiateAlgorithms via agreed s) = some (kept s) := by simp [execNegotiateAlgorithms]

@[simp] theorem execGetDigests_kept (via : SpdmVia) (s : State) : keptOut (execGetDigests via s) = some (kept s) := by simp [execGetDigests]

@[simp] theorem execGetCertificate_kept (via : SpdmVia) (slot offset length : Nat) (s : State) :
    keptOut (execGetCertificate via slot offset length s) = some (kept s) := by simp [execGetCertificate]

@[simp] theorem execChallenge_kept (via : SpdmVia) (slot : Nat) (s : State) : keptOut (execChallenge via slot s) = some (kept s) := by
  simp [execChallenge]

@[simp] theorem execGetMeasurements_kept (via : SpdmVia) (index : Nat) (s : State) : keptOut (execGetMeasurements via index s) = some (kept s) := by
  simp [execGetMeasurements]

@[simp] theorem execKeyExchange_kept (via : SpdmVia) (slot requester : Nat) (s : State) :
    keptOut (execKeyExchange via slot requester s) = some (kept s) := by simp [execKeyExchange]

@[simp] theorem inSession_kept (s : State) (via : SpdmVia) (id : Nat) (established : Bool) (k : SpdmSession → State → State)
    (hk : ∀ x t, kept (k x t) = kept t) : kept (inSession s via id established k) = kept s := by
  refine spdmServe_kept _ _ _ _ fun t => ?_
  split <;> simp [hk]

@[simp] theorem modSession_kept (s : State) (id : Nat) (f : SpdmSession → SpdmSession) : kept (modSession s id f) = kept s := by simp [modSession]
@[simp] theorem dropSession_kept (s : State) (id : Nat) : kept (dropSession s id) = kept s := by simp [dropSession]

@[simp] theorem execFinish_kept (via : SpdmVia) (session : Nat) (verified : Bool) (s : State) :
    keptOut (execFinish via session verified s) = some (kept s) := by simp [execFinish]

@[simp] theorem execKeyUpdate_kept (via : SpdmVia) (session : Nat) (s : State) : keptOut (execKeyUpdate via session s) = some (kept s) := by
  simp [execKeyUpdate]

@[simp] theorem execHeartbeat_kept (via : SpdmVia) (session : Nat) (s : State) : keptOut (execHeartbeat via session s) = some (kept s) := by
  simp [execHeartbeat]

@[simp] theorem execEndSession_kept (via : SpdmVia) (session : Nat) (s : State) : keptOut (execEndSession via session s) = some (kept s) := by
  simp [execEndSession]

/-! ### Machine/UsherMem.lean -/

@[simp] theorem loadScalar_kept (s : State) (u a n : Nat) : kept (loadScalar s u a n).state = kept s := by
  unfold loadScalar
  repeat' split
  all_goals simp

@[simp] theorem storeScalar_kept (s : State) (u a n v : Nat) : kept (storeScalar s u a n v).state = kept s := by
  unfold storeScalar
  repeat' split
  all_goals simp

@[simp] theorem execLd_kept (u : Nat) (s : State) : keptOut (execLd u s) = some (kept s) := by simp [execLd]
@[simp] theorem execSt_kept (u : Nat) (s : State) : keptOut (execSt u s) = some (kept s) := by simp [execSt]

/-! ### Machine/Step.lean -/

@[simp] theorem idle_kept (s : State) : kept (idle s) = kept s := by simp [idle]

/-! ### Every command and every step -/

/-- Every command goes on and keeps queue and variant. -/
theorem exec_kept (i : Instr) (s : State) : keptOut (exec i s) = some (kept s) := by
  cases i <;> simp [exec]

/-- What a command keeps, read off the state that it leads to. -/
theorem kept_of_exec {i : Instr} {s t : State} (h : exec i s = .next t) : t.pending = s.pending ∧ t.variant = s.variant := by
  have hk := exec_kept i s
  rw [h, keptOut_next] at hk
  exact Prod.mk.inj (Option.some.inj hk)

end Sys2Proof.Machine

section
open Sys2Proof Sys2Proof.Machine

/-- Settles O4: on an empty queue the step idles, which touches neither queue nor variant; otherwise it takes the front command off and runs
it, and `exec_kept` says of every command that it touches neither. -/
theorem stepsKeepQueueAndVariant : Obligations.StepsKeepQueueAndVariant := by
  intro s t h
  unfold step at h
  split at h
  case _ hp =>
    cases h
    obtain ⟨hq, hv⟩ := Prod.mk.inj (idle_kept s)
    exact ⟨by rw [hq, hp, List.tail_nil], hv⟩
  case _ c rest hp =>
    obtain ⟨hq, hv⟩ := kept_of_exec h
    exact ⟨by rw [hq, hp, List.tail_cons], hv⟩

end

/-! ## The sweep of a hall -/

namespace Sys2Proof.Machine

open Sys2Proof.Safety

/-! ### Fields of a register -/

/-- A field inside the width of a value survives the cut to that width. -/
theorem bits_mod_two_pow (x lo w n : Nat) (h : lo + w ≤ n) : bits (x % 2 ^ n) lo w = bits x lo w := by
  obtain ⟨k, rfl⟩ := Nat.exists_eq_add_of_le h
  rw [bits, bits, Nat.add_assoc, Nat.pow_add 2 lo, Nat.mod_mul_right_div_self, Nat.mod_mod_of_dvd _ (Nat.pow_dvd_pow 2 (Nat.le_add_right w k))]

/-- A value whose field is taken out and replaced reads the new field there. -/
theorem bits_replace (x lo w v : Nat) : bits (x - bits x lo w * 2 ^ lo + v % 2 ^ w * 2 ^ lo) lo w = v % 2 ^ w := by
  have hlow : x % 2 ^ lo < 2 ^ lo := Nat.mod_lt _ (Nat.two_pow_pos lo)
  have hx : 2 ^ lo * (x / 2 ^ lo) + x % 2 ^ lo = x := Nat.div_add_mod ..
  have hq : 2 ^ w * (x / 2 ^ lo / 2 ^ w) + bits x lo w = x / 2 ^ lo := Nat.div_add_mod ..
  have key : x - bits x lo w * 2 ^ lo + v % 2 ^ w * 2 ^ lo = x % 2 ^ lo + 2 ^ lo * (v % 2 ^ w + 2 ^ w * (x / 2 ^ lo / 2 ^ w)) := by
    rw [← hq, Nat.mul_add] at hx
    rw [Nat.mul_add, Nat.mul_comm (bits x lo w), Nat.mul_comm (v % 2 ^ w)]
    omega
  rw [key, bits, Nat.add_mul_div_left _ _ (Nat.two_pow_pos lo), Nat.div_eq_of_lt hlow, Nat.zero_add, Nat.add_mul_mod_self_left, Nat.mod_mod]

/-- A field that was set reads as the value in its width. -/
theorem fieldR_setField_same (s : State) (r : Reg) (lo w v i j f : Nat) (h : lo + w ≤ 8 * (regSpec r).bytes) :
    fieldR (setField s r lo w v i j f) r lo w i j f = v % 2 ^ w := by
  rw [fieldR, setField, getR_setR_same, bits_mod_two_pow _ _ _ _ h]
  exact bits_replace (getR s r i j f) lo w v

/-! ### Places of registers -/

/-- Two registers of blocks that repeat alike lie apart in every block where they lie apart in the first. -/
theorem regKey_ne_of_base {r q : Reg} (f i j : Nat) (h1 : (regSpec r).stride = (regSpec q).stride)
    (h2 : (regSpec r).stride2 = (regSpec q).stride2) (hb : (regSpec r).base ≠ (regSpec q).base) : regKey f r i j ≠ regKey f q i j := by
  simp [regKey, regOff, h1, h2, hb]

/-- An element of a register lies at or above the register's first element. -/
theorem le_regKey_of_base {r : Reg} {n : Nat} (f i j : Nat) (h : n ≤ (regSpec r).base) : n ≤ regKey f r i j := by
  simp only [regKey, regOff]
  omega

/-! ### The hold of a head (R86, R90) -/

/-- Noting a hold changes registers and halls alone. -/
theorem noteStall_frame (s : State) (h : Nat) :
    noteStall s h = { s with regs := (noteStall s h).regs, halls := (noteStall s h).halls } := by
  simp only [noteStall]
  split <;> split <;> rfl

@[simp] theorem noteStall_store (s : State) (h : Nat) : (noteStall s h).store = s.store := by rw [noteStall_frame]

/-- Of the hall's Stair, noting a hold changes the time since which the head is held, and nothing else. -/
theorem stair_noteStall (s : State) (h : Nat) : ∃ b, stair (noteStall s h) h = { stair s h with stallSince := b } := by
  simp only [noteStall]
  split
  case h_1 =>
    split
    · exact ⟨_, stair_modStair ..⟩
    · exact ⟨_, rfl⟩
  case h_2 =>
    split
    · exact ⟨_, rfl⟩
    · exact ⟨_, stair_modStair ..⟩

/-- Noting a hold writes no register but STR_STALL_NS. -/
theorem getR_noteStall_other (s : State) (h : Nat) (q : Reg) (a b g : Nat) (hk : regKey g q a b ≠ regKey 0 .strStallNs h 0) :
    getR (noteStall s h) q a b g = getR s q a b g := by
  simp only [noteStall]
  split <;> split <;> simp only [getR_modStair, getR_addR_other _ _ _ _ _ _ _ _ _ _ hk]

/-- Noting a hold leaves STR_CTRL. -/
theorem fieldR_noteStall_strCtrl (s : State) (h lo w : Nat) : fieldR (noteStall s h) .strCtrl lo w h = fieldR s .strCtrl lo w h := by
  rw [fieldR, fieldR, getR_noteStall_other]
  exact regKey_ne_of_base 0 h 0 rfl rfl (by decide)

/-! ### Enable and pause (R46, R90) -/

/-- With a spill ring set, SWEEP_ENABLE makes the Stair run, sets SWEEP_EN and keeps the treads (R46, R86). -/
theorem exec_sweepEnable (s : State) (who : Requester) (h : Nat) (hp : present s .hall h = true)
    (hr : (stagedR s .trnSpillSize h).getD (getR s .trnSpillSize h) ≠ 0) :
    ∃ t, exec (.sweepEnable who h) s = .next t ∧ (stair t h).running = true ∧ fieldR t .strCtrl 0 1 h = 1 ∧
      (stair t h).treads = (stair s h).treads ∧ t = { s with regs := t.regs, halls := t.halls } := by
  have he : exec (.sweepEnable who h) s = .next (sweepEnable s who h) := by simp only [exec, execSweepEnable, hp, if_true]
  simp only [he, sweepEnable, hr, if_false]
  obtain ⟨b, hb⟩ := stair_noteStall (modStair (setField s .strCtrl 0 1 1 h) h fun t =>
    { t with running := true, revStart := if (!(stair s h).running) = true then s.now else t.revStart }) h
  rw [stair_modStair] at hb
  refine ⟨_, rfl, by rw [hb], ?_, by rw [hb]; rfl, noteStall_frame _ h⟩
  rw [fieldR_noteStall_strCtrl]
  exact fieldR_setField_same s .strCtrl 0 1 1 h 0 0 (by decide)

/-- SWEEP_PAUSE clears SWEEP_EN; the Stair stays running, with its treads (R90). -/
theorem exec_sweepPause (s : State) (h : Nat) (hp : present s .hall h = true) :
    ∃ t, exec (.sweepPause h) s = .next t ∧ (stair t h).running = (stair s h).running ∧ fieldR t .strCtrl 0 1 h = 0 ∧
      (stair t h).treads = (stair s h).treads ∧ t = { s with regs := t.regs, halls := t.halls } := by
  have he : exec (.sweepPause h) s = .next (sweepPause s h) := by simp only [exec, execSweepPause, hp, if_true]
  simp only [he, sweepPause]
  obtain ⟨b, hb⟩ := stair_noteStall (setField s .strCtrl 0 1 0 h) h
  refine ⟨_, rfl, by rw [hb]; rfl, ?_, by rw [hb]; rfl, noteStall_frame _ h⟩
  rw [fieldR_noteStall_strCtrl]
  exact fieldR_setField_same s .strCtrl 0 1 0 h 0 0 (by decide)

/-! ### A bay boundary of a hall without treads (R55, R70) -/

/-- Nothing alights where no tread is aboard. -/
theorem alightWhere_of_no_treads (s : State) (h : Nat) (p : Tread → Bool) (thermal : Bool) (ht : (stair s h).treads = []) :
    alightWhere s h p thermal = s := by
  simp only [alightWhere, ht]
  rfl

/-- A hall that parks with no tread aboard has parked: its head does not move (R91). -/
theorem parking_of_mayMove (s : State) (h : Nat) (hm : mayMove s h = true) (ht : (stair s h).treads = []) : (stair s h).parking = false := by
  have hc : countTreads (stair s h) .aboard = 0 := by simp [countTreads, ht]
  simp only [mayMove, hc, Bool.and_eq_true] at hm
  simpa using hm.2

/-- A loop with an extent that holds bays is not empty. -/
theorem loopBays_ne_zero (s : State) (h n : Nat) (x : Extent) (hx : (stair s h).extents[n]? = some x) (hb : 0 < x.bays) : loopBays s h ≠ 0 := by
  have hm : x.bays ∈ (stair s h).extents.map Extent.bays := List.mem_map_of_mem (List.mem_of_getElem? hx)
  exact Nat.ne_of_gt (List.sum_pos_iff_exists_pos_nat.mpr ⟨x.bays, hm, hb⟩)

/-- A bay that streams past no tread compares nothing. -/
theorem compareAll_of_no_treads (s : State) (h uid bay i : Nat) (c : Coll) (coll : Nat) (ht : (stair s h).treads = []) :
    compareAll s h uid bay i c coll = s := by
  simp only [compareAll, ht, List.filter_nil, List.foldl_nil]

/-- Streaming records past no tread compares nothing. -/
theorem foldl_compareAll_of_no_treads (s : State) (h uid bay base : Nat) (c : Coll) (coll : Nat) (l : List Nat) (ht : (stair s h).treads = []) :
    l.foldl (fun s j => compareAll s h uid bay (base + j) c coll) s = s := by
  induction l with
  | nil => rfl
  | cons j l ih => rw [List.foldl_cons, compareAll_of_no_treads _ _ _ _ _ _ _ ht, ih]

/-- No tread, no selection pass. -/
theorem stair_queuePasses_of_no_treads (s : State) (h : Nat) (ht : (stair s h).treads = []) :
    stair (queuePasses s h) h = stair s h := by
  simp only [queuePasses, stair_modStair, ht, List.map_nil]
  rw [← ht]

@[simp] theorem queuePasses_store (s : State) (h : Nat) : (queuePasses s h).store = s.store := rfl

/-- A bay that streams past no tread leaves the store and, of the Stair, changes the compare-limited mark alone. -/
theorem streamBay_of_no_treads (s : State) (h : Nat) (x : Extent) (hx : (stair s h).extents[(stair s h).headExt]? = some x)
    (hc : (collOf s x.coll).isSome) (ht : (stair s h).treads = []) (hr : getR s .trnSpillSize h = 0) :
    ∃ b, stair (streamBay s h) h = { stair s h with limited := b } ∧ (streamBay s h).store = s.store := by
  obtain ⟨c, hc⟩ := Option.isSome_iff_exists.mp hc
  simp only [streamBay, hx, hc, foldl_compareAll_of_no_treads _ _ _ _ _ _ _ _ ht, hr, ne_eq, not_true_eq_false, false_and, if_false]
  refine ⟨(stair s h).limited || compareLimited s h c.width, ?_, rfl⟩
  rw [stair_queuePasses_of_no_treads _ _ (by simp [ht]), stair_modStair, ht, List.map_nil]

/-- Inside an extent the head steps to the next bay (R55). -/
theorem advanceHead_inside (s : State) (h : Nat) (x : Extent) (hx : (stair s h).extents[(stair s h).headExt]? = some x)
    (hb : (stair s h).headBay + 1 < x.bays) : advanceHead s h = modStair s h fun t => { t with headBay := t.headBay + 1 } := by
  simp only [advanceHead, hx, hb, if_true]

/-- Where no query boards, alights or waits, a bay boundary inside an extent only streams the bay and moves the head by one (R55, R70). -/
theorem bayStep_inside (s : State) (h : Nat) (x : Extent) (hm : mayMove s h = true) (ht : (stair s h).treads = [])
    (hl : (stair s h).landing = []) (hr : getR s .trnSpillSize h = 0) (hx : (stair s h).extents[(stair s h).headExt]? = some x)
    (hc : (collOf s x.coll).isSome) (hb : (stair s h).headBay + 1 < x.bays) :
    ∃ b, stair (bayStep s h) h = { stair s h with headBay := (stair s h).headBay + 1, limited := b } ∧ (bayStep s h).store = s.store := by
  have hp := parking_of_mayMove s h hm ht
  have hloop := loopBays_ne_zero s h _ x hx (by omega)
  have hhold : holdGroups (stair s h) = stair s h := by simp only [holdGroups, ht, List.filter_nil, List.foldl_nil]
  let s1 := modStair s h holdGroups
  have hs1 : stair s1 h = stair s h := (stair_modStair ..).trans hhold
  obtain ⟨b, hst, hstore⟩ := streamBay_of_no_treads s1 h x (hs1 ▸ hx) hc (hs1 ▸ ht) hr
  have hstep : bayStep s h = advanceHead (streamBay s1 h) h := by
    simp [bayStep, hloop, alightWhere_of_no_treads _ _ _ _ ht, hp, hl, grantAll, s1, hhold]
  rw [hs1] at hst
  rw [hstep, advanceHead_inside _ _ x (by rw [hst]; exact hx) (by rw [hst]; exact hb)]
  exact ⟨b, by rw [stair_modStair, hst], hstore⟩

/-- In a quiet device a bay boundary inside an extent moves the head by one bay and leaves the extent table (R55, R70). -/
theorem exec_bayStream_inside (s : State) (h : Nat) (x : Extent) (hpr : present s .hall h = true) (hm : mayMove s h = true) (hq : quiet s)
    (ht : (stair s h).treads = []) (hl : (stair s h).landing = []) (hr : getR s .trnSpillSize h = 0)
    (hx : (stair s h).extents[(stair s h).headExt]? = some x) (hc : (collOf s x.coll).isSome) (hb : (stair s h).headBay + 1 < x.bays) :
    ∃ t, exec (.bayStream h []) s = .next t ∧ (stair t h).headBay = (stair s h).headBay + 1 ∧
      (stair t h).headExt = (stair s h).headExt ∧ (stair t h).extents = (stair s h).extents := by
  obtain ⟨b, hst, hstore⟩ := bayStep_inside s h x hm ht hl hr hx hc hb
  obtain ⟨n, hns⟩ := stair_noteStall (bayStep s h) h
  have hq' : quiet (noteStall (bayStep s h) h) := by rw [quiet, noteStall_store, hstore]; exact hq
  have he : exec (.bayStream h []) s = .next (noteStall (bayStep s h) h) := by
    simp only [exec, execBayStream, readSwept, List.foldl_nil, hpr, hm, Bool.and_self, if_true, afterRate_quiet _ hq']
  rw [hst] at hns
  exact ⟨_, he, by rw [hns], by rw [hns], by rw [hns]⟩

/-! ### A record against a tread (R82) -/

/-- A tread reads as it was set. -/
@[simp] theorem treadOf_setTread (t : Stair) (n : Nat) (x : Tread) : treadOf (setTread t n x) n = x := by simp [treadOf, setTread]

/-- While the pool has a free entry, a tread takes a record within its threshold and the query's radius among its candidates, and adds the
distance of another to the remainder (R82). -/
theorem treadOf_takeRecord (t : Stair) (n : Nat) (x : Tread) (d slot radius : Nat) (hp : poolBlocks t < 16384) :
    treadOf (takeRecord t n x d slot radius) n =
      if d ≤ min x.thresh radius then { x with examined := x.examined + 1, cands := x.cands ++ [⟨d, slot⟩] }
      else { x with examined := x.examined + 1, remSum := x.remSum + d } := by
  simp only [takeRecord, Nat.not_le.mpr hp, and_false, if_false]
  split <;> exact treadOf_setTread ..

/-- While the pool has a free entry, a record taken spills nothing (R85). -/
theorem spillProd_takeRecord (t : Stair) (n : Nat) (x : Tread) (d slot radius : Nat) (hp : poolBlocks t < 16384) :
    (takeRecord t n x d slot radius).spillProd = t.spillProd := by
  simp only [takeRecord, Nat.not_le.mpr hp, and_false, if_false]
  split <;> rfl

/-- A sound record that the query sees and is permitted is taken by the tread of a flight that is not split (R57, R82, R92). -/
theorem compareRecord_taken (s : State) (h uid bay i n : Nat) (c : Coll) (q : Query) (hqr : (treadOf (stair s h) n).quarter = none)
    (hf : findQuery s (treadOf (stair s h) n).ctx = some q) (hs : recordSkipped s h uid bay i c.width q.permitVer = false)
    (hv : (c.slot h i).visible (q.view.getD 0) = true) (hpm : permitted s h i q = true) (hp : poolBlocks (stair s h) < 16384) :
    compareRecord s h uid bay i c n =
      modStair s h fun t => takeRecord t n (treadOf (stair s h) n) (hamming c.width (c.slot h i).code q.code) i q.radius := by
  simp only [compareRecord, hf, hqr, hs, hv, hpm, Bool.not_true, Bool.false_eq_true, if_false, Bool.or_false, stair_modStair,
    spillProd_takeRecord _ _ _ _ _ _ hp, if_true]

end Sys2Proof.Machine

section
open Sys2Proof Sys2Proof.Machine

/-- Settles O11: enable and pause set one field and note the hold of the head; with no tread aboard and no entry waiting a bay boundary
is the head's step alone; a record goes to the pool, which has a free entry, or to the remainder. -/
theorem stairStreamsBays : Obligations.StairStreamsBays := by
  refine ⟨?enable, ?pause, ?stream, ?record⟩
  case enable => exact fun s who h _ hp hr => exec_sweepEnable s who h hp hr
  case pause => exact fun s h _ hp => exec_sweepPause s h hp
  case stream => exact fun s h x _ hpr hm hq ht hl hr hx hc hb => exec_bayStream_inside s h x hpr hm hq ht hl hr hx hc hb
  case record =>
    intro s h uid bay i n c q x hx hqr hf hs hv hpm hp
    subst hx
    simp only [compareRecord_taken s h uid bay i n c q hqr hf hs hv hpm hp, stair_modStair]
    exact treadOf_takeRecord _ _ _ _ _ _ hp

end

/-! ## The Lantern's events -/

namespace Sys2Proof.Machine

/-! ### What a posted event and a sticky bit leave of the registers

The registers of event queue 0 that a posted event writes lie in its function's block, which ends below 0x140000; the units' registers lie
above. -/

/-- A nudge writes no register above the function's block. -/
theorem getR_nudge_above (s : State) (f : Nat) (q : Reg) (a b g : Nat) (h : f * 2 ^ 32 + 0x140000 ≤ regKey g q a b) :
    getR (nudge s f 0) q a b g = getR s q a b g := by
  have ht : regKey g q a b ≠ regKey f .vstEqTail 0 0 := Nat.ne_of_gt (Nat.lt_of_lt_of_le (Nat.add_lt_add_left (by decide) _) h)
  have hp : regKey g q a b ≠ regKey f .msixPending 0 0 := Nat.ne_of_gt (Nat.lt_of_lt_of_le (Nat.add_lt_add_left (by decide) _) h)
  simp only [nudge]
  split
  · split
    · rw [getR_setR_other _ _ _ _ _ _ _ _ _ _ hp, getR_setField_other _ _ _ _ _ _ _ _ _ _ _ _ ht]
    · exact getR_setField_other _ _ _ _ _ _ _ _ _ _ _ _ ht
  · rfl

/-- A dropped record is counted inside the function's block. -/
theorem getR_dropRecord_above (s : State) (f : Nat) (q : Reg) (a b g : Nat) (h : f * 2 ^ 32 + 0x140000 ≤ regKey g q a b) :
    getR (dropRecord s f) q a b g = getR s q a b g :=
  getR_addR_other _ _ _ _ _ _ _ _ _ _ (Nat.ne_of_gt (Nat.lt_of_lt_of_le (Nat.add_lt_add_left (by decide) _) h))

/-- A record written to event queue 0 writes no register above the function's block. -/
theorem getR_writeRecord_above (s : State) (f : Nat) (r : EventRec) (q : Reg) (a b g : Nat) (h : f * 2 ^ 32 + 0x140000 ≤ regKey g q a b) :
    getR (writeRecord s f 0 r) q a b g = getR s q a b g := by
  have ht : regKey g q a b ≠ regKey f .vstEqTail 0 0 := Nat.ne_of_gt (Nat.lt_of_lt_of_le (Nat.add_lt_add_left (by decide) _) h)
  simp only [writeRecord]
  split
  · rw [getR_nudge_above _ _ _ _ _ _ h]
    split <;> simp only [getR_setField_other _ _ _ _ _ _ _ _ _ _ _ _ ht, getR_hostPut]
  · exact getR_dropRecord_above _ _ _ _ _ _ h

/-- A posted event writes no register above the function's block. -/
theorem getR_postEvent_above (s : State) (f ty st a b c d : Nat) (q : Reg) (i j g : Nat) (h : f * 2 ^ 32 + 0x140000 ≤ regKey g q i j) :
    getR (postEvent s f ty st a b c d) q i j g = getR s q i j g := by
  simp only [postEvent, postRecord]
  split
  · exact getR_dropRecord_above _ _ _ _ _ _ h
  · split
    · split
      · exact getR_setHeld ..
      · exact getR_dropRecord_above _ _ _ _ _ _ h
    · exact getR_writeRecord_above _ _ _ _ _ _ _ h

/-- Of the registers above the physical function's block, setting sticky bits writes their own alone. -/
theorem getR_setSticky_above (s : State) (ev en : Reg) (m i : Nat) (q : Reg) (a b g : Nat) (h : 0x140000 ≤ regKey g q a b) :
    getR (setSticky s ev en m i) q a b g = getR (setR s ev (getR s ev i ||| m) i) q a b g := by
  simp only [setSticky]
  split
  · rfl
  · exact getR_postEvent_above _ _ _ _ _ _ _ _ _ _ _ _ (by omega)

/-! ### A core's state -/

/-- A core depends on the table of cores alone. -/
theorem lcore_congr {s t : State} (h : t.cores = s.cores) (c : Nat) : lcore t c = lcore s c := by rw [lcore, lcore, h]

@[simp] theorem lcore_addR (s : State) (r : Reg) (n i j f c : Nat) : lcore (addR s r n i j f) c = lcore s c := rfl
@[simp] theorem lcore_lntEvent (s : State) (k m c : Nat) : lcore (lntEvent s k m) c = lcore s c := lcore_congr (setSticky_cores ..) c

/-- A core after a change of it. -/
@[simp] theorem lcore_modCore_same (s : State) (c : Nat) (g : LCore → LCore) : lcore (modCore s c g) c = g (lcore s c) := by
  simp [lcore, modCore, tmod]

/-- Changing a core leaves every other core. -/
theorem lcore_modCore_other (s : State) (c k : Nat) (g : LCore → LCore) (h : k ≠ c) : lcore (modCore s c g) k = lcore s k := by
  simp [lcore, modCore, tmod, tget_tset_other _ _ _ _ _ h]

/-- A neuron reads as it was set, in its 16 bytes. -/
@[simp] theorem neuronOf_setNeuron_same (x : LCore) (i v : Nat) : neuronOf (setNeuron x i v) i = v % 2 ^ 128 := by
  simp [neuronOf, setNeuron]

/-- Setting a neuron leaves every other neuron. -/
theorem neuronOf_setNeuron_other (x : LCore) (i j v : Nat) (h : j ≠ i) : neuronOf (setNeuron x i v) j = neuronOf x j := by
  simp [neuronOf, setNeuron, tget_tset_other _ _ _ _ _ h]

/-- Landing a register changes registers and staged values alone. -/
theorem landR_frame (s : State) (r : Reg) (i j f : Nat) :
    landR s r i j f = { s with regs := (landR s r i j f).regs, staged := (landR s r i j f).staged } := by
  simp only [landR]
  split <;> rfl

/-- Landing a register leaves every other register. -/
theorem getR_landR_other (s : State) (r q : Reg) (i j f a b g : Nat) (h : regKey g q a b ≠ regKey f r i j) :
    getR (landR s r i j f) q a b g = getR s q a b g := by
  simp only [landR]
  split
  · rfl
  · exact getR_setR_other _ _ _ _ _ _ _ _ _ _ h

/-- A Landing of a core leaves every core. -/
@[simp] theorem lcore_coreLanding (s : State) (c k : Nat) : lcore (coreLanding s c) k = lcore s k :=
  lcore_congr (by rw [coreLanding, landR_frame, landR_frame s]) k

/-- Presence depends on the fuses and on what bring-up found failed (R511). -/
theorem present_congr {s t : State} (hv : t.variant = s.variant) (hf : t.failed = s.failed) (u : UnitKind) (i : Nat) :
    present t u i = present s u i := by
  simp only [present, presenceWord, hv, hf]

/-- A Landing of a core leaves the presence of units. -/
theorem present_coreLanding (s : State) (c : Nat) (u : UnitKind) (i : Nat) : present (coreLanding s c) u i = present s u i := by
  rw [coreLanding, landR_frame, landR_frame s]
  exact present_congr rfl rfl u i

/-- A Landing of a core writes no register but its two staged ones. -/
theorem getR_coreLanding_other (s : State) (c : Nat) (q : Reg) (a b g : Nat) (h1 : regKey g q a b ≠ regKey 0 .lntHorizonNs c 0)
    (h2 : regKey g q a b ≠ regKey 0 .lntPolicy c 0) : getR (coreLanding s c) q a b g = getR s q a b g := by
  rw [coreLanding, getR_landR_other _ _ _ _ _ _ _ _ _ h2, getR_landR_other _ _ _ _ _ _ _ _ _ h1]

/-! ### Arrival (R212) -/

/-- A drop counter has 64 bits and lies above the functions' blocks, apart from LNT_EVENTS. -/
theorem dropReg_spec (n c : Nat) :
    (regSpec (dropReg n)).bytes = 8 ∧ 0x140000 ≤ regKey 0 (dropReg n) c 0 ∧ regKey 0 (dropReg n) c 0 ≠ regKey 0 .lntEvents c 0 := by
  unfold dropReg
  split <;> exact ⟨rfl, le_regKey_of_base 0 c 0 (by decide), regKey_ne_of_base 0 c 0 rfl rfl (by decide)⟩

/-- The first event of a sender leaves the network as it arrives. -/
theorem exec_lanternEventArrival (s : State) (c sender : Nat) (e : Nat × LEvent) (h : (lcore s c).net.find? (fun x => x.1 == sender) = some e) :
    exec (.lanternEventArrival c sender) s = .next (arriveEvent (modCore s c fun x => { x with net := x.net.erase e }) c e.2) := by
  simp only [exec, execLanternEventArrival, h]

/-- What drops an arriving event is read off the core's buffer, the registers and the power state, not off the network. -/
theorem wouldDrop_erase (s : State) (c : Nat) (e : Nat × LEvent) :
    wouldDrop (modCore s c fun x => { x with net := x.net.erase e }) c = wouldDrop s c := by
  simp only [wouldDrop, lcore_modCore_same]
  rfl

/-- An event that is not dropped enters the input buffer behind the others. -/
theorem arriveEvent_enters (s : State) (c : Nat) (e : LEvent) (h : wouldDrop s c = false) :
    arriveEvent s c e = modCore s c fun x => { x with buffer := x.buffer ++ [e] } := by
  rw [wouldDrop] at h
  simp only [arriveEvent, h, Bool.false_eq_true, if_false]

/-- A dropped event is counted by its class and noted in LNT_EVENTS. -/
theorem arriveEvent_dropped (s : State) (c : Nat) (e : LEvent) (h : wouldDrop s c = true) :
    arriveEvent s c e = lntEvent (addR s (dropReg (srcClass e.src)) 1 c) c 1 := by
  rw [wouldDrop] at h
  simp only [arriveEvent, h, if_true]

/-- LNT_EVENTS.0 shows that an event was dropped. -/
theorem bit_lntEvents_lntEvent (s : State) (c : Nat) : bit (getR (lntEvent s c 1) .lntEvents c) 0 = true := by
  have hk : 0x140000 ≤ regKey 0 .lntEvents c 0 := le_regKey_of_base 0 c 0 (by decide)
  rw [lntEvent, getR_setSticky_above _ _ _ _ _ _ _ _ _ hk, getR_setR_same]
  have hodd : (getR s .lntEvents c ||| 1) % 2 ^ 32 % 2 = 1 := by
    rw [Nat.mod_mod_of_dvd _ (by decide)]
    exact Nat.or_mod_two_eq_one.mpr (.inr rfl)
  rw [bit, Nat.pow_zero, Nat.div_one]
  exact beq_iff_eq.mpr hodd

/-- A dropped event counts one in the drop counter of its class. -/
theorem getR_dropReg_lntEvent (s : State) (n c m : Nat) :
    getR (lntEvent (addR s (dropReg n) 1 c) c m) (dropReg n) c = (getR s (dropReg n) c + 1) % 2 ^ 64 := by
  obtain ⟨hb, hk, hne⟩ := dropReg_spec n c
  rw [lntEvent, getR_setSticky_above _ _ _ _ _ _ _ _ _ hk, getR_setR_other _ _ _ _ _ _ _ _ _ _ hne, getR_addR_same, hb]

/-! ### A due event and its synapses (R203, R204) -/

/-- A state differs from another in registers and cores at most. -/
def onlyRegsAndCores (s t : State) : Prop := t = { s with regs := t.regs, cores := t.cores }

/-- Adding to a counter changes registers alone. -/
theorem onlyRegsAndCores.addR {s t : State} {r : Reg} {n i j f : Nat} (h : onlyRegsAndCores s t) :
    onlyRegsAndCores s (Machine.addR t r n i j f) := by
  rw [onlyRegsAndCores] at h
  generalize t.regs = a, t.cores = b at h
  subst h
  rfl

/-- Changing a core changes cores alone. -/
theorem onlyRegsAndCores.modCore {s t : State} {c : Nat} {g : LCore → LCore} (h : onlyRegsAndCores s t) :
    onlyRegsAndCores s (Machine.modCore t c g) := by
  rw [onlyRegsAndCores] at h
  generalize t.regs = a, t.cores = b at h
  subst h
  rfl

/-- The state in which a core has landed its settings and taken an event out of its buffer, and counted it. -/
def eventTaken (s : State) (c : Nat) (e : LEvent) : State :=
  addR (modCore (coreLanding s c) c fun x => { x with buffer := x.buffer.erase e }) .lntInEvents 1 c

/-- Taking an event changes, beside the Landing, registers and cores alone. -/
theorem onlyRegsAndCores_eventTaken (s : State) (c : Nat) (e : LEvent) : onlyRegsAndCores (coreLanding s c) (eventTaken s c e) := by
  have h : onlyRegsAndCores (coreLanding s c) (coreLanding s c) := rfl
  exact h.modCore.addR

/-- The core that took the event has it no longer in its buffer. -/
@[simp] theorem lcore_eventTaken (s : State) (c : Nat) (e : LEvent) :
    lcore (eventTaken s c e) c = { lcore s c with buffer := (lcore s c).buffer.erase e } := by
  simp only [eventTaken, lcore_addR, lcore_modCore_same, lcore_coreLanding]

/-- Taking an event leaves every other core. -/
theorem lcore_eventTaken_other (s : State) (c k : Nat) (e : LEvent) (h : k ≠ c) : lcore (eventTaken s c e) k = lcore s k := by
  rw [eventTaken, lcore_addR, lcore_modCore_other _ _ _ _ h, lcore_coreLanding]

/-- Taking an event writes, after the Landing, no register but LNT_IN_EVENTS. -/
theorem getR_eventTaken_other (s : State) (c : Nat) (e : LEvent) (q : Reg) (a b g : Nat) (h : regKey g q a b ≠ regKey 0 .lntInEvents c 0) :
    getR (eventTaken s c e) q a b g = getR (coreLanding s c) q a b g := by
  rw [eventTaken, getR_addR_other _ _ _ _ _ _ _ _ _ _ h, getR_modCore]

/-- Taking an event leaves the neurons that have spiked and the group counters. -/
theorem lcore_eventTaken_keeps (s : State) (c : Nat) (e : LEvent) :
    (lcore (eventTaken s c e) c).spiked = (lcore s c).spiked ∧ (lcore (eventTaken s c e) c).active = (lcore s c).active := by
  rw [lcore_eventTaken]
  exact ⟨rfl, rfl⟩

/-- The state in which a core has handled an event of this time. -/
def lastSet (s : State) (c time : Nat) : State := modCore s c fun x => { x with last := time }

/-- Keeping the event's time changes the core's LAST. -/
theorem lcore_lastSet (s : State) (c time : Nat) : lcore (lastSet s c time) c = { lcore s c with last := time } := lcore_modCore_same ..

/-- Keeping the event's time leaves every other core. -/
theorem lcore_lastSet_other (s : State) (c k time : Nat) (h : k ≠ c) : lcore (lastSet s c time) k = lcore s k :=
  lcore_modCore_other _ _ _ _ h

/-- Keeping the event's time changes nothing of a core but that. -/
theorem lcore_lastSet_keeps (s : State) (c k time : Nat) :
    (lcore (lastSet s c time) k).neurons = (lcore s k).neurons ∧ (lcore (lastSet s c time) k).spiked = (lcore s k).spiked ∧
      (lcore (lastSet s c time) k).active = (lcore s k).active ∧ (lcore (lastSet s c time) k).net = (lcore s k).net := by
  by_cases hk : k = c
  · subst hk
    rw [lcore_lastSet]
    exact ⟨rfl, rfl, rfl, rfl⟩
  · rw [lcore_lastSet_other _ _ _ _ hk]
    exact ⟨rfl, rfl, rfl, rfl⟩

/-- A neuron depends on the table of neurons alone. -/
theorem neuronOf_congr {x y : LCore} (h : y.neurons = x.neurons) (i : Nat) : neuronOf y i = neuronOf x i := by rw [neuronOf, neuronOf, h]

/-- Keeping the event's time leaves the neurons. -/
@[simp] theorem neuronOf_lastSet (s : State) (c k time i : Nat) : neuronOf (lcore (lastSet s c time) k) i = neuronOf (lcore s k) i :=
  have ⟨h, _⟩ := lcore_lastSet_keeps s c k time
  neuronOf_congr h i

/-- Keeping the event's time writes no register. -/
@[simp] theorem getR_lastSet (s : State) (c time : Nat) (q : Reg) (a b g : Nat) : getR (lastSet s c time) q a b g = getR s q a b g := rfl

/-- An event taken is counted once. -/
theorem getR_lntInEvents_eventTaken (s : State) (c : Nat) (e : LEvent) :
    getR (eventTaken s c e) .lntInEvents c = (getR s .lntInEvents c + 1) % 2 ^ 64 := by
  have hl : getR (coreLanding s c) .lntInEvents c = getR s .lntInEvents c := by
    rw [getR_coreLanding_other] <;> exact regKey_ne_of_base 0 c 0 rfl rfl (by decide)
  rw [eventTaken, getR_addR_same, getR_modCore, hl]
  rfl

/-- Where no word is in error, none of an event's words is. -/
theorem badWords_none (s : State) (c : Nat) (e : LEvent) : badWords s c e LntBad.none = 0 := by
  simp only [badWords, LntBad.none, List.filter_nil, List.length_nil, ite_self, Bool.false_eq_true, if_false, Nat.add_zero]
  split
  · rfl
  · rfl
  · split <;> rfl

/-- What an event's synapses are does not depend on the input buffer. -/
theorem synapsesOf_modBuffer (s : State) (c : Nat) (e : LEvent) (bad : LntBad) (g : List LEvent → List LEvent) :
    synapsesOf (modCore s c fun x => { x with buffer := g x.buffer }) c e bad = synapsesOf s c e bad := by
  simp only [synapsesOf, kernelSynapses, listSynapses, lcore_modCore_same, getR_modCore]
  rfl

/-- Where no word is in error, a core handles an event by applying its synapses in order (R204). -/
theorem handleEvent_none (s : State) (c : Nat) (e : LEvent) :
    handleEvent s c e LntBad.none =
      lastSet ((synapsesOf s c e LntBad.none).foldl (synapse LntBad.none c e.time) (addR s .lntInEvents 1 c)) c e.time := by
  simp only [handleEvent, badWords_none, List.range_zero, List.foldl_nil]
  rfl

/-- A running core takes the event that is due, applies its synapses and keeps its time (R204 to R206). -/
theorem exec_lanternEvent_due (s : State) (c : Nat) (e : LEvent) (hon : coreOn s c = true) (hf : lanternFrozen s = false)
    (hd : dueEvent (coreLanding s c) c = some (e, false)) :
    exec (.lanternEvent c LntBad.none) s =
      .next (lastSet ((synapsesOf (coreLanding s c) c e LntBad.none).foldl (synapse LntBad.none c e.time) (eventTaken s c e)) c e.time) := by
  simp only [exec, execLanternEvent, hon, hf, Bool.not_true, Bool.or_self, Bool.false_eq_true, if_false, hd, handleEvent_none]
  rw [synapsesOf_modBuffer (coreLanding s c) c e LntBad.none fun b => b.erase e]
  rfl

/-- A neuron leaks by the core's mode and tick alone (R203). -/
theorem leakTo_congr {s t : State} (c n time : Nat) (h1 : getR t .lntCoreCfg c = getR s .lntCoreCfg c)
    (h2 : getR t .lntTickNs c = getR s .lntTickNs c) : leakTo t c n time = leakTo s c n time := by
  have hm : timed t c = timed s c := by rw [timed, timed, h1]
  simp only [leakTo, hm, h2]

/-- Taking an event does not change how a neuron leaks. -/
theorem leakTo_eventTaken (s : State) (c n time : Nat) (e : LEvent) : leakTo (eventTaken s c e) c n time = leakTo (coreLanding s c) c n time :=
  leakTo_congr c n time (getR_eventTaken_other _ _ _ _ _ _ _ (regKey_ne_of_base 0 c 0 rfl rfl (by decide)))
    (getR_eventTaken_other _ _ _ _ _ _ _ (regKey_ne_of_base 0 c 0 rfl rfl (by decide)))

/-- The state in which a synapse operation is counted and its neuron holds a value. -/
def synapseDone (s : State) (c i v : Nat) : State := modCore (addR s .lntSynops 1 c) c fun x => setNeuron x i v

/-- Below its threshold a neuron keeps the potential that the synapse gives it (R204). -/
theorem synapse_below (s : State) (c i time : Nat) (w : Int) (n : Nat) (hn : leakTo s c (neuronOf (lcore s c) i) time = n)
    (h : bits n 16 15 = 0 ∨ sat16 (potOf n + w) < (bits n 16 15 : Int)) :
    synapse LntBad.none c time s (i, w) = synapseDone s c i (withPot n (sat16 (potOf n + w)) (bits n 64 64)) := by
  have hno : (decide (bits n 16 15 ≠ 0) && decide ((bits n 16 15 : Int) ≤ sat16 (potOf n + w))) = false := by
    rcases h with h | h
    · simp [h]
    · simp [Int.not_le.mpr h]
  simp only [synapse, hn, hno, Bool.false_eq_true, if_false, synapseDone]

/-- At or above its threshold a neuron is reset and spikes (R204). -/
theorem synapse_fires (s : State) (c i time : Nat) (w : Int) (n : Nat) (hn : leakTo s c (neuronOf (lcore s c) i) time = n)
    (h0 : bits n 16 15 ≠ 0) (h : (bits n 16 15 : Int) ≤ sat16 (potOf n + w)) :
    synapse LntBad.none c time s (i, w) =
      spike (synapseDone s c i (withPot n (if bit n 31 then sat16 (sat16 (potOf n + w) - bits n 16 15) else 0) (bits n 64 64))) c i time
        LntBad.none := by
  have hyes : (decide (bits n 16 15 ≠ 0) && decide ((bits n 16 15 : Int) ≤ sat16 (potOf n + w))) = true := by simp [h0, h]
  simp only [synapse, hn, hyes, if_true, synapseDone]

/-- A synapse operation sets its neuron. -/
@[simp] theorem lcore_synapseDone (s : State) (c i v : Nat) : lcore (synapseDone s c i v) c = setNeuron (lcore s c) i v := by
  rw [synapseDone, lcore_modCore_same, lcore_addR]

/-- A synapse operation leaves the neurons that have spiked and the group counters. -/
theorem lcore_synapseDone_keeps (s : State) (c i v : Nat) :
    (lcore (synapseDone s c i v) c).spiked = (lcore s c).spiked ∧ (lcore (synapseDone s c i v) c).active = (lcore s c).active := by
  rw [lcore_synapseDone]
  exact ⟨rfl, rfl⟩

/-- A synapse operation leaves every other core. -/
theorem lcore_synapseDone_other (s : State) (c i v k : Nat) (h : k ≠ c) : lcore (synapseDone s c i v) k = lcore s k := by
  rw [synapseDone, lcore_modCore_other _ _ _ _ h, lcore_addR]

/-- A synapse operation is counted once, from the count before the event. -/
theorem getR_lntSynops_synapseDone (s : State) (c i v : Nat) (e : LEvent) :
    getR (synapseDone (eventTaken s c e) c i v) .lntSynops c = (getR s .lntSynops c + 1) % 2 ^ 64 := by
  have ht : getR (eventTaken s c e) .lntSynops c = getR s .lntSynops c := by
    rw [getR_eventTaken_other, getR_coreLanding_other] <;> exact regKey_ne_of_base 0 c 0 rfl rfl (by decide)
  rw [synapseDone, getR_modCore, getR_addR_same, ht]
  rfl

/-- A synapse operation of an event leaves the count of spikes. -/
theorem getR_lntSpikes_synapseDone (s : State) (c i v : Nat) (e : LEvent) :
    getR (synapseDone (eventTaken s c e) c i v) .lntSpikes c = getR s .lntSpikes c := by
  rw [synapseDone, getR_modCore, getR_addR_other, getR_eventTaken_other, getR_coreLanding_other] <;> exact regKey_ne_of_base 0 c 0 rfl rfl (by decide)

/-- An event with one synapse leaves the presence of units. -/
theorem present_synapseDone (s : State) (c i v : Nat) (e : LEvent) (u : UnitKind) (k : Nat) :
    present (synapseDone (eventTaken s c e) c i v) u k = present s u k := by
  rw [← present_coreLanding s c]
  exact present_congr (by simp [synapseDone, eventTaken]) (by simp [synapseDone, eventTaken]) u k

/-- A neuron does not change with the input buffer. -/
@[simp] theorem neuronOf_modBuffer (x : LCore) (l : List LEvent) (i : Nat) : neuronOf { x with buffer := l } i = neuronOf x i :=
  neuronOf_congr rfl i

/-- An event with one synapse sets the synapse's neuron in its core. -/
theorem neuronOf_synapseDone_same (s : State) (c i v : Nat) (e : LEvent) :
    neuronOf (lcore (synapseDone (eventTaken s c e) c i v) c) i = v % 2 ^ 128 := by
  rw [lcore_synapseDone, neuronOf_setNeuron_same]

/-- An event with one synapse leaves every other neuron of its core. -/
theorem neuronOf_synapseDone_other (s : State) (c i v j : Nat) (e : LEvent) (h : j ≠ i) :
    neuronOf (lcore (synapseDone (eventTaken s c e) c i v) c) j = neuronOf (lcore s c) j := by
  rw [lcore_synapseDone, neuronOf_setNeuron_other _ _ _ _ h, lcore_eventTaken, neuronOf_modBuffer]

/-- A due event whose only synapse reaches neuron `i`, which has leaked to `n`: the core applies that synapse. -/
theorem exec_lanternEvent_synapse (s : State) (c i n : Nat) (w : Int) (e : LEvent) (hon : coreOn s c = true) (hf : lanternFrozen s = false)
    (hd : dueEvent (coreLanding s c) c = some (e, false)) (hs : synapsesOf (coreLanding s c) c e LntBad.none = [(i, w)])
    (hn : leakTo (coreLanding s c) c (neuronOf (lcore s c) i) e.time = n) :
    exec (.lanternEvent c LntBad.none) s =
        .next (lastSet (synapse LntBad.none c e.time (eventTaken s c e) (i, w)) c e.time) ∧
      leakTo (eventTaken s c e) c (neuronOf (lcore (eventTaken s c e) c) i) e.time = n := by
  have hex := exec_lanternEvent_due s c e hon hf hd
  rw [hs, List.foldl_cons, List.foldl_nil] at hex
  refine ⟨hex, ?_⟩
  rw [leakTo_eventTaken, lcore_eventTaken, neuronOf_modBuffer]
  exact hn

/-- Below its threshold the neuron keeps the potential that the event's synapse gives it, and no neuron spikes (R203, R204). -/
theorem exec_lanternEvent_below (s : State) (c i n : Nat) (w : Int) (e : LEvent) (hon : coreOn s c = true) (hf : lanternFrozen s = false)
    (hd : dueEvent (coreLanding s c) c = some (e, false)) (hs : synapsesOf (coreLanding s c) c e LntBad.none = [(i, w)])
    (hn : leakTo (coreLanding s c) c (neuronOf (lcore s c) i) e.time = n)
    (hb : bits n 16 15 = 0 ∨ sat16 (potOf n + w) < (bits n 16 15 : Int)) :
    ∃ t, exec (.lanternEvent c LntBad.none) s = .next t ∧
      neuronOf (lcore t c) i = withPot n (sat16 (potOf n + w)) (bits n 64 64) % 2 ^ 128 ∧
      (∀ j, j ≠ i → neuronOf (lcore t c) j = neuronOf (lcore s c) j) ∧ (lcore t c).spiked = (lcore s c).spiked ∧
      getR t .lntSynops c = (getR s .lntSynops c + 1) % 2 ^ 64 ∧ getR t .lntSpikes c = getR s .lntSpikes c ∧
      (∀ k, k ≠ c → lcore t k = lcore s k) ∧ t = { coreLanding s c with regs := t.regs, cores := t.cores } := by
  obtain ⟨hex, hn⟩ := exec_lanternEvent_synapse s c i n w e hon hf hd hs hn
  rw [synapse_below _ _ _ _ _ n hn hb] at hex
  generalize withPot n (sat16 (potOf n + w)) (bits n 64 64) = v at hex ⊢
  obtain ⟨-, hspk, -, -⟩ := lcore_lastSet_keeps (synapseDone (eventTaken s c e) c i v) c c e.time
  obtain ⟨hsyn, -⟩ := lcore_synapseDone_keeps (eventTaken s c e) c i v
  obtain ⟨htaken, -⟩ := lcore_eventTaken_keeps s c e
  refine ⟨_, hex, ?_, fun j hj => ?_, ?_, ?_, ?_, fun k hk => ?_, (onlyRegsAndCores_eventTaken s c e).addR.modCore.modCore⟩
  · rw [neuronOf_lastSet, neuronOf_synapseDone_same]
  · rw [neuronOf_lastSet, neuronOf_synapseDone_other _ _ _ _ _ _ hj]
  · rw [hspk, hsyn, htaken]
  · rw [getR_lastSet, getR_lntSynops_synapseDone]
  · rw [getR_lastSet, getR_lntSpikes_synapseDone]
  · rw [lcore_lastSet_other _ _ _ _ hk, lcore_synapseDone_other _ _ _ _ _ hk, lcore_eventTaken_other _ _ _ _ hk]

/-! ### Spikes (R204, R217) -/

/-- Sending an event changes cores alone. -/
theorem sendEvent_frame (s : State) (sender k : Nat) (e : LEvent) : sendEvent s sender k e = { s with cores := (sendEvent s sender k e).cores } := by
  simp only [sendEvent]
  split <;> rfl

/-- Sending an event appends to what is on its way to a core, and changes nothing else of it. -/
theorem lcore_sendEvent (s : State) (sender k d : Nat) (e : LEvent) :
    ∃ ms, lcore (sendEvent s sender k e) d = { lcore s d with net := (lcore s d).net ++ ms } := by
  have hsame : lcore s d = { lcore s d with net := (lcore s d).net ++ [] } := by rw [List.append_nil]
  simp only [sendEvent]
  split
  · by_cases hd : d = k
    · exact ⟨[(sender, e)], by rw [hd, lcore_modCore_same]⟩
    · exact ⟨[], by rw [lcore_modCore_other _ _ _ _ hd]; exact hsame⟩
  · exact ⟨[], hsame⟩

/-- An event sent to a present core is on its way there. -/
theorem mem_net_sendEvent (s : State) (sender k : Nat) (e : LEvent) (hp : present s .lantern k = true) :
    (sender, e) ∈ (lcore (sendEvent s sender k e) k).net := by
  simp [sendEvent, hp]

/-- An event sent to several cores. -/
def sendAll (s : State) (sender : Nat) (e : LEvent) (ks : List Nat) : State := ks.foldl (fun t k => sendEvent t sender k e) s

/-- Sending an event to several cores changes cores alone. -/
theorem sendAll_frame (s : State) (sender : Nat) (e : LEvent) (ks : List Nat) :
    sendAll s sender e ks = { s with cores := (sendAll s sender e ks).cores } := by
  induction ks generalizing s with
  | nil => rfl
  | cons k ks ih =>
    have h := ih (sendEvent s sender k e)
    rw [sendEvent_frame s] at h
    simpa only [sendAll, List.foldl_cons, ← sendEvent_frame s] using h

/-- Sending an event to several cores appends to what is on its way to a core, and changes nothing else of it. -/
theorem lcore_sendAll (s : State) (sender d : Nat) (e : LEvent) (ks : List Nat) :
    ∃ ms, lcore (sendAll s sender e ks) d = { lcore s d with net := (lcore s d).net ++ ms } := by
  induction ks generalizing s with
  | nil => exact ⟨[], by rw [List.append_nil]; rfl⟩
  | cons k ks ih =>
    obtain ⟨as, ha⟩ := lcore_sendEvent s sender k d e
    obtain ⟨bs, hb⟩ := ih (sendEvent s sender k e)
    refine ⟨as ++ bs, ?_⟩
    rw [← List.append_assoc]
    simp only [ha] at hb
    exact hb

/-- Presence does not change with the cores. -/
theorem present_sendEvent (s : State) (sender k d : Nat) (e : LEvent) : present (sendEvent s sender k e) .lantern d = present s .lantern d := by
  rw [sendEvent_frame]
  rfl

/-- An event sent to several cores is on its way to each of them that is present. -/
theorem mem_net_sendAll (s : State) (sender k : Nat) (e : LEvent) (ks : List Nat) (hk : k ∈ ks) (hp : present s .lantern k = true) :
    (sender, e) ∈ (lcore (sendAll s sender e ks) k).net := by
  induction ks generalizing s with
  | nil => cases hk
  | cons j ks ih =>
    rcases List.mem_cons.mp hk with rfl | hk
    · obtain ⟨ms, hms⟩ := lcore_sendAll (sendEvent s sender k e) sender k e ks
      have := mem_net_sendEvent s sender k e hp
      simp only [sendAll, List.foldl_cons] at hms ⊢
      rw [hms]
      exact List.mem_append_left _ this
    · exact ih _ hk (by rwa [present_sendEvent])

/-- Issuing an action changes, of the cores, the queue towards the Cloister alone. -/
theorem lcore_issueAction (s : State) (c code i d : Nat) : ∃ l, lcore (issueAction s c code i) d = { lcore s d with queue := l } := by
  simp only [issueAction]
  split
  · exact ⟨_, rfl⟩
  · split
    · by_cases hd : d = c
      · exact ⟨_, by rw [hd, lcore_modCore_same]; rfl⟩
      · exact ⟨_, by rw [lcore_modCore_other _ _ _ _ hd]; rfl⟩
    · exact ⟨_, by rw [lcore_lntEvent]; rfl⟩

/-- Of the registers above the functions' blocks, issuing an action writes its two counters and LNT_EVENTS alone. -/
theorem getR_issueAction_other (s : State) (c code i : Nat) (q : Reg) (a b g : Nat) (h : 0x140000 ≤ regKey g q a b)
    (h1 : regKey g q a b ≠ regKey 0 .lntActions c 0) (h2 : regKey g q a b ≠ regKey 0 .lntActionDrops c 0)
    (h3 : regKey g q a b ≠ regKey 0 .lntEvents c 0) : getR (issueAction s c code i) q a b g = getR s q a b g := by
  simp only [issueAction]
  split
  · rfl
  · split
    · rw [getR_modCore, getR_addR_other _ _ _ _ _ _ _ _ _ _ h1]
    · rw [lntEvent, getR_setSticky_above _ _ _ _ _ _ _ _ _ h, getR_setR_other _ _ _ _ _ _ _ _ _ _ h3,
        getR_addR_other _ _ _ _ _ _ _ _ _ _ h2, getR_addR_other _ _ _ _ _ _ _ _ _ _ h1]

/-- The state in which a spike of a neuron is counted: in LNT_SPIKES, in its group's bank, and among the neurons that have spiked. -/
def spikeCounted (s : State) (c i : Nat) : State :=
  modCore (addR s .lntSpikes 1 c) c fun x =>
    { x with active := tmod (fun _ => 0) x.active (bits (neuronOf (lcore s c) i) 40 8) fun k => min (k + 1) 0xFFFFFFFF
             spiked := if x.spiked.contains i then x.spiked else x.spiked ++ [i] }

/-- A spike is counted, sent to the cores that the neuron names, and issues the action of the neuron's group (R204). -/
theorem spike_none (s : State) (c i time : Nat) :
    ∃ code, spike s c i time LntBad.none =
      issueAction (sendAll (spikeCounted s c i) c ⟨c * 65536 + i, time + 1⟩ (maskHalls (bits (neuronOf (lcore s c) i) 48 16))) c code i :=
  ⟨_, rfl⟩

/-- What a spike leaves of its core: its neurons, and the neuron among those that have spiked, counted in its group's bank. -/
theorem lcore_spike (s : State) (c i time : Nat) :
    (lcore (spike s c i time LntBad.none) c).neurons = (lcore s c).neurons ∧ i ∈ (lcore (spike s c i time LntBad.none) c).spiked ∧
      (lcore (spike s c i time LntBad.none) c).active =
        tmod (fun _ => 0) (lcore s c).active (bits (neuronOf (lcore s c) i) 40 8) fun k => min (k + 1) 0xFFFFFFFF := by
  obtain ⟨code, hc⟩ := spike_none s c i time
  obtain ⟨l, hl⟩ := lcore_issueAction
    (sendAll (spikeCounted s c i) c ⟨c * 65536 + i, time + 1⟩ (maskHalls (bits (neuronOf (lcore s c) i) 48 16))) c code i c
  obtain ⟨ms, hms⟩ := lcore_sendAll (spikeCounted s c i) c c ⟨c * 65536 + i, time + 1⟩ (maskHalls (bits (neuronOf (lcore s c) i) 48 16))
  rw [hc, hl, hms, spikeCounted, lcore_modCore_same, lcore_addR]
  refine ⟨rfl, ?_, rfl⟩
  by_cases h : i ∈ (lcore s c).spiked
  · simp [h]
  · simp [h]

/-- A spike is on its way to every present core that the neuron names (R204). -/
theorem mem_net_spike (s : State) (c i time k : Nat) (hk : k ∈ maskHalls (bits (neuronOf (lcore s c) i) 48 16))
    (hp : present s .lantern k = true) : (c, ⟨c * 65536 + i, time + 1⟩) ∈ (lcore (spike s c i time LntBad.none) k).net := by
  obtain ⟨code, hc⟩ := spike_none s c i time
  obtain ⟨l, hl⟩ := lcore_issueAction
    (sendAll (spikeCounted s c i) c ⟨c * 65536 + i, time + 1⟩ (maskHalls (bits (neuronOf (lcore s c) i) 48 16))) c code i k
  rw [hc, hl]
  exact mem_net_sendAll _ _ _ _ _ hk hp

/-- A spike is counted once in LNT_SPIKES. -/
theorem getR_lntSpikes_spike (s : State) (c i time : Nat) :
    getR (spike s c i time LntBad.none) .lntSpikes c = (getR s .lntSpikes c + 1) % 2 ^ 64 := by
  obtain ⟨code, hc⟩ := spike_none s c i time
  rw [hc, getR_issueAction_other]
  · rw [sendAll_frame]
    exact getR_addR_same ..
  · exact le_regKey_of_base 0 c 0 (by decide)
  all_goals exact regKey_ne_of_base 0 c 0 rfl rfl (by decide)

/-- A spike leaves the count of synapse operations. -/
theorem getR_lntSynops_spike (s : State) (c i time : Nat) : getR (spike s c i time LntBad.none) .lntSynops c = getR s .lntSynops c := by
  obtain ⟨code, hc⟩ := spike_none s c i time
  rw [hc, getR_issueAction_other]
  · rw [sendAll_frame]
    exact getR_addR_other _ _ _ _ _ _ _ _ _ _ (regKey_ne_of_base 0 c 0 rfl rfl (by decide))
  · exact le_regKey_of_base 0 c 0 (by decide)
  all_goals exact regKey_ne_of_base 0 c 0 rfl rfl (by decide)

/-- At or above its threshold the neuron is reset and spikes: counted in its group's bank, and sent to each present core that it names
(R203, R204). -/
theorem exec_lanternEvent_fires (s : State) (c i n : Nat) (w : Int) (e : LEvent) (hon : coreOn s c = true) (hf : lanternFrozen s = false)
    (hd : dueEvent (coreLanding s c) c = some (e, false)) (hs : synapsesOf (coreLanding s c) c e LntBad.none = [(i, w)])
    (hn : leakTo (coreLanding s c) c (neuronOf (lcore s c) i) e.time = n) (h0 : bits n 16 15 ≠ 0)
    (hth : (bits n 16 15 : Int) ≤ sat16 (potOf n + w)) :
    ∃ t, exec (.lanternEvent c LntBad.none) s = .next t ∧
      neuronOf (lcore t c) i =
        withPot n (if bit n 31 then sat16 (sat16 (potOf n + w) - bits n 16 15) else 0) (bits n 64 64) % 2 ^ 128 ∧
      (∀ j, j ≠ i → neuronOf (lcore t c) j = neuronOf (lcore s c) j) ∧ i ∈ (lcore t c).spiked ∧
      getR t .lntSynops c = (getR s .lntSynops c + 1) % 2 ^ 64 ∧ getR t .lntSpikes c = (getR s .lntSpikes c + 1) % 2 ^ 64 ∧
      tget (fun _ => 0) (lcore t c).active (bits (neuronOf (lcore t c) i) 40 8) =
        min (tget (fun _ => 0) (lcore s c).active (bits (neuronOf (lcore t c) i) 40 8) + 1) 0xFFFFFFFF ∧
      (∀ k ∈ maskHalls (bits (neuronOf (lcore t c) i) 48 16), present s .lantern k = true →
        (c, ⟨c * 65536 + i, e.time + 1⟩) ∈ (lcore t k).net) := by
  obtain ⟨hex, hn⟩ := exec_lanternEvent_synapse s c i n w e hon hf hd hs hn
  rw [synapse_fires _ _ _ _ _ n hn h0 hth] at hex
  generalize withPot n (if bit n 31 then sat16 (sat16 (potOf n + w) - bits n 16 15) else 0) (bits n 64 64) = v at hex ⊢
  obtain ⟨hneu, hspk, hact⟩ := lcore_spike (synapseDone (eventTaken s c e) c i v) c i e.time
  obtain ⟨-, hsyn⟩ := lcore_synapseDone_keeps (eventTaken s c e) c i v
  obtain ⟨-, htaken⟩ := lcore_eventTaken_keeps s c e
  obtain ⟨-, hspk', hact', -⟩ := lcore_lastSet_keeps (spike (synapseDone (eventTaken s c e) c i v) c i e.time LntBad.none) c c e.time
  have hneuron : ∀ j, neuronOf (lcore (lastSet (spike (synapseDone (eventTaken s c e) c i v) c i e.time LntBad.none) c e.time) c) j =
      neuronOf (lcore (synapseDone (eventTaken s c e) c i v) c) j := fun j => by rw [neuronOf_lastSet, neuronOf_congr hneu]
  refine ⟨_, hex, ?_, fun j hj => ?_, ?_, ?_, ?_, ?_, fun k hk hp => ?_⟩
  · rw [hneuron, neuronOf_synapseDone_same]
  · rw [hneuron, neuronOf_synapseDone_other _ _ _ _ _ _ hj]
  · rw [hspk']
    exact hspk
  · rw [getR_lastSet, getR_lntSynops_spike, getR_lntSynops_synapseDone]
  · rw [getR_lastSet, getR_lntSpikes_spike, getR_lntSpikes_synapseDone]
  · rw [hneuron, hact', hact, tmod, tget_tset_same, hsyn, htaken]
  · obtain ⟨-, -, -, hnet⟩ := lcore_lastSet_keeps (spike (synapseDone (eventTaken s c e) c i v) c i e.time LntBad.none) c k e.time
    rw [hneuron] at hk
    rw [hnet]
    exact mem_net_spike _ c i e.time k hk (by rwa [present_synapseDone])

end Sys2Proof.Machine

section
open Sys2Proof Sys2Proof.Machine Sys2Proof.Safety

/-- Settles O35: an arriving event is kept or counted as dropped; a due event without synapses only leaves the buffer, and one with a synapse
sets the synapse's neuron, which spikes from its threshold on. -/
theorem lanternHandlesEvents : Obligations.LanternHandlesEvents := by
  refine ⟨?arrival, ?drop, ?plain, ?synapse⟩
  case arrival =>
    intro s c sender e he hw
    rw [← wouldDrop_erase s c e] at hw
    refine ⟨_, exec_lanternEventArrival s c sender e he, ?_⟩
    rw [arriveEvent_enters _ _ _ hw]
    refine ⟨by simp only [lcore_modCore_same], fun k hk => ?_, rfl⟩
    rw [lcore_modCore_other _ _ _ _ hk, lcore_modCore_other _ _ _ _ hk]
  case drop =>
    intro s c sender e _ he hw
    rw [← wouldDrop_erase s c e] at hw
    refine ⟨_, exec_lanternEventArrival s c sender e he, ?_⟩
    rw [arriveEvent_dropped _ _ _ hw]
    refine ⟨by simp only [lcore_lntEvent, lcore_addR, lcore_modCore_same], fun k hk => ?_, bit_lntEvents_lntEvent _ c, ?_⟩
    · rw [lcore_lntEvent, lcore_addR, lcore_modCore_other _ _ _ _ hk]
    · rw [getR_dropReg_lntEvent, getR_modCore]
  case plain =>
    intro s c e hon hf u hd hs
    refine ⟨_, exec_lanternEvent_due s c e hon hf hd, ?_⟩
    rw [hs, List.foldl_nil]
    refine ⟨by rw [lcore_lastSet, lcore_eventTaken], fun k hk => ?_, ?_, fun r i j f h => ?_,
      (onlyRegsAndCores_eventTaken s c e).modCore⟩
    · rw [lcore_lastSet_other _ _ _ _ hk, lcore_eventTaken_other _ _ _ _ hk]
    · rw [getR_lastSet, getR_lntInEvents_eventTaken]
    · rw [getR_lastSet, getR_eventTaken_other _ _ _ _ _ _ _ h]
  case synapse =>
    intro s c i w e hon hf u n pot th hd hs
    exact ⟨exec_lanternEvent_below s c i n w e hon hf hd hs rfl, exec_lanternEvent_fires s c i n w e hon hf hd hs rfl⟩

end

/-! ## Collections: creation, change, compaction and rebase -/

namespace Sys2Proof.Machine

open Sys2Proof.Safety

/-! ### The state beside the store and the commands -/

/-- A state with its store and its commands blanked: what a store command leaves alone. -/
def offStore (s : State) : State := { s with vst := State.reset.vst, store := State.reset.store }

/-- Two states that agree beside the store and the commands differ in these two fields alone. -/
theorem eq_of_offStore {s t : State} (h : offStore t = offStore s) : t = { s with vst := t.vst, store := t.store } :=
  congrArg (fun r : State => { r with vst := t.vst, store := t.store }) h

@[simp] theorem offStore_started (s : State) (id : Nat) : offStore (started s id) = offStore s := rfl
@[simp] theorem offStore_finish (s : State) (id st a b c d p : Nat) : offStore (finish s id st a b c d p) = offStore s := rfl
@[simp] theorem offStore_setColl (s : State) (c : Nat) (x : Option Coll) : offStore (setColl s c x) = offStore s := rfl
@[simp] theorem offStore_modJournal (s : State) (w : Nat) (g : Journal → Journal) : offStore (modJournal s w g) = offStore s := rfl
@[simp] theorem offStore_modColl (s : State) (c : Nat) (g : Coll → Coll) : offStore (modColl s c g) = offStore s := by
  rw [modColl_frame]; rfl
@[simp] theorem offStore_stageCredits (s : State) (w id n : Nat) : offStore (stageCredits s w id n) = offStore s := by
  rw [stageCredits_frame]; rfl
@[simp] theorem offStore_commitAtHalf (s : State) (w : Nat) : offStore (commitAtHalf s w) = offStore s := by
  rw [commitAtHalf_frame]; rfl

/-- The bays of a segment lie beside the store. -/
theorem segBays_of_offStore {s t : State} (h : offStore t = offStore s) (c k : Nat) : segBays t c k = segBays s c k := by
  show segBays (offStore t) c k = segBays (offStore s) c k
  rw [h]

/-- What a read of memory gives lies beside the store. -/
theorem memRead_of_offStore {s t : State} (h : offStore t = offStore s) (a n : Nat) : memRead t a n = memRead s a n := by
  show memRead (offStore t) a n = memRead (offStore s) a n
  rw [h]

/-- How the maps of a source are read depends on the segments' bays, which lie beside the store. -/
theorem readMaps_of_offStore {s t : State} (h : offStore t = offStore s) (c : Nat) (hs : List Nat) (bs : List Byte) :
    readMaps t c hs bs = readMaps s c hs bs := by
  induction hs generalizing bs with
  | nil => rfl
  | cons k hs ih => simp only [readMaps, permitBytes, segBays_of_offStore h, ih]

/-! ### What the steps of a metadata command leave -/

@[simp] theorem collOf_started (s : State) (id c : Nat) : collOf (started s id) c = collOf s c := rfl
@[simp] theorem collOf_modJournal (s : State) (w c : Nat) (g : Journal → Journal) : collOf (modJournal s w g) c = collOf s c := rfl
@[simp] theorem collOf_hostPut (s : State) (a : Nat) (bs : List Byte) (c : Nat) : collOf (hostPut s a bs) c = collOf s c := rfl
@[simp] theorem collOf_modCompaction (s : State) (id c : Nat) (g : Compaction → Compaction) : collOf (modCompaction s id g) c = collOf s c := rfl
@[simp] theorem collOf_stageCredits (s : State) (w id n c : Nat) : collOf (stageCredits s w id n) c = collOf s c :=
  collOf_congr _ _ _ (by rw [stageCredits_frame])
@[simp] theorem collOf_commitAtHalf (s : State) (w c : Nat) : collOf (commitAtHalf s w) c = collOf s c :=
  collOf_congr _ _ _ (by rw [commitAtHalf_frame])

@[simp] theorem modColl_vst (s : State) (c : Nat) (g : Coll → Coll) : (modColl s c g).vst = s.vst := by rw [modColl_frame]
@[simp] theorem stageCredits_vst (s : State) (w id n : Nat) : (stageCredits s w id n).vst = s.vst := by rw [stageCredits_frame]
@[simp] theorem commitAtHalf_vst (s : State) (w : Nat) : (commitAtHalf s w).vst = s.vst := by rw [commitAtHalf_frame]

/-! ### A metadata change whose credits are free (R389, R390) -/

/-- The state in which a change's data is staged. -/
def stagedFor (s : State) (w id bytes : Nat) : State := stageCredits s w id (creditsFor s bytes)

/-- The state in which a change has completed, after the commit that half the credits in use may begin. -/
def completed (s : State) (w id : Nat) : State := commitAtHalf (finish s id stOk) w

@[simp] theorem offStore_stagedFor (s : State) (w id bytes : Nat) : offStore (stagedFor s w id bytes) = offStore s := offStore_stageCredits ..
@[simp] theorem collOf_stagedFor (s : State) (w id bytes c : Nat) : collOf (stagedFor s w id bytes) c = collOf s c := collOf_stageCredits ..
@[simp] theorem stagedFor_vst (s : State) (w id bytes : Nat) : (stagedFor s w id bytes).vst = s.vst := stageCredits_vst ..
@[simp] theorem stagedFor_nextVer (s : State) (w id bytes : Nat) : (stagedFor s w id bytes).store.nextVer = s.store.nextVer := by
  rw [stagedFor, stageCredits_frame]

@[simp] theorem offStore_completed (s : State) (w id : Nat) : offStore (completed s w id) = offStore s := offStore_commitAtHalf ..
@[simp] theorem collOf_completed (s : State) (w id c : Nat) : collOf (completed s w id) c = collOf s c := collOf_commitAtHalf ..
@[simp] theorem completed_permits (s : State) (w id : Nat) : (completed s w id).store.permits = s.store.permits := by
  rw [completed, commitAtHalf_frame]; rfl

/-- A change whose credits are free is staged, applied and completed. -/
theorem stageOrWait_completed (s : State) (w id bytes : Nat) (f : State → State) (h : creditsReady s w id bytes) :
    stageOrWait s w id bytes (fun r => finish (f r) id stOk) = completed (f (stagedFor s w id bytes)) w id := by
  obtain ⟨hfull, hfree⟩ := h
  exact stageOrWait_go s w id bytes _ hfull hfree

/-- A command that completes right after it was started ends with 0x0000. -/
theorem ended_completed (s t : State) (w id op : Nat) (c : Cmd) (hr : ready s id op c) (ht : t.vst = (started s id).vst) :
    ended (completed t w id) id = some (plain 0x0000) := by
  rw [completed, ended_congr (finish t id stOk) _ _ (by rw [commitAtHalf_vst])]
  exact ended_finish_started s t id op _ _ _ _ _ _ c hr (by rw [ht])

/-- A command that was only started has not ended. -/
theorem ended_of_vst_started {s t : State} {id op : Nat} {c : Cmd} (hr : ready s id op c) (ht : t.vst = (started s id).vst) :
    ended t id = none := by
  rw [ended_congr (started s id) t id (by rw [ht]), ended_started, ended_of_ready s id op c hr]

/-! ### COLL_CREATE and COLL_INFO (R49) -/

/-- A COLL_CREATE that passes its checks sets the collection of its descriptor. -/
theorem exec_collCreate (s : State) (id : Nat) (c : Cmd) (d : List Byte) (hr : ready s id 0x01 c)
    (hd : hostRead (started s id) (hostOf (c.num 16 8)) 64 = d) (hf : collCreateFail c (started s id) = none)
    (hc : creditsReady (started s id) (cmdWing (started s id) c) id (64 + 2 * numAt d 6 2)) :
    exec (.collCreate id) s = .next (completed
      (setColl (stagedFor (started s id) (cmdWing (started s id) c) id (64 + 2 * numAt d 6 2)) (numAt d 0 2)
        (some (newColl c d (wordsOf 2 (numAt d 6 2) (hostRead (started s id) (hostOf (c.num 24 8)) (2 * numAt d 6 2))))))
      (cmdWing (started s id) c) id) := by
  refine congrArg Host.Outcome.next ?_
  subst hd
  rw [withCmd_ready _ _ _ _ _ hr, collCreateBody, hf, orElse_none, id_of_ready _ _ _ _ hr]
  exact stageOrWait_completed _ _ _ _ (fun r => setColl r _ _) hc

/-- The descriptor has 64 bytes. -/
theorem length_collDescriptor (s : State) (k : Nat) (x : Coll) : (collDescriptor s k x).length = 64 := by
  simp only [collDescriptor, List.length_append, length_bytesOf]

/-- A COLL_INFO that passes its checks writes the collection's descriptor. -/
theorem exec_collInfo (s : State) (id : Nat) (c : Cmd) (x : Coll) (hr : ready s id 0x04 c) (hf : collInfoFail c (started s id) = none)
    (hx : collOf s (c.num 16 2) = some x) :
    exec (.collInfo id) s =
      .next (finish (hostPut (started s id) (hostOf (c.num 24 8)) (collDescriptor s (c.num 16 2) x)) id stOk) := by
  refine congrArg Host.Outcome.next ?_
  rw [withCmd_ready _ _ _ _ _ hr, collInfoBody, hf, orElse_none, id_of_ready _ _ _ _ hr, collOf_started, hx]
  rfl

end Sys2Proof.Machine

section
open Sys2Proof Sys2Proof.Machine Sys2Proof.Safety

/-- Settles O6: COLL_CREATE sets one collection of the store; COLL_INFO writes 64 bytes of host memory. -/
theorem collectionsAreCreatedAndShown : Obligations.CollectionsAreCreatedAndShown := by
  refine ⟨?create, ?info⟩
  case create =>
    intro s id c hr u d hf hc
    refine ⟨_, exec_collCreate s id c d hr rfl hf hc, ended_completed s _ _ id _ c hr (by simp), ?_, fun k hk => ?_,
      eq_of_offStore (by simp)⟩
    · rw [collOf_completed, collOf_setColl]
    · rw [collOf_completed, collOf_setColl_other _ _ _ _ hk, collOf_stagedFor, collOf_started]
  case info =>
    intro s id c x hr hf hx
    have hlen := length_collDescriptor s (c.num 16 2) x
    have hex := exec_collInfo s id c x hr hf hx
    generalize collDescriptor s (c.num 16 2) x = bs at hlen hex ⊢
    refine ⟨_, hex, ended_finish_started s _ id _ _ _ _ _ _ _ c hr rfl, ?_, ?_, rfl⟩
    · exact hostRead_hostPut (started s id) _ 64 _ hlen
    · exact hlen ▸ hostKeptOutside_hostPut (started s id) (hostOf (c.num 24 8)) bs

end

namespace Sys2Proof.Machine

open Sys2Proof.Safety

/-! ### COLL_SET (R50) -/

/-- What a COLL_SET makes of its collection. -/
def collSetFields (c : Cmd) (x : Coll) : Coll :=
  { x with halls := if bit (c.num 18 1) 0 then c.num 20 2 else x.halls
           mapId := if bit (c.num 18 1) 1 then (if c.num 19 1 = 0xFF then none else some (c.num 19 1)) else x.mapId }

/-- A COLL_SET of the map alone binds the collection to it. -/
theorem collSetFields_map (c : Cmd) (x : Coll) (h : c.num 18 1 = 2) (hm : c.num 19 1 ≠ 0xFF) :
    collSetFields c x = { x with mapId := some (c.num 19 1) } := by
  simp [collSetFields, h, hm, bit]

/-- A COLL_SET that passes its checks changes its collection. -/
theorem exec_collSet (s : State) (id : Nat) (c : Cmd) (x : Coll) (hr : ready s id 0x02 c) (hf : collSetFail c (started s id) = none)
    (hx : collOf s (c.num 16 2) = some x) (hc : creditsReady (started s id) x.wing id 64) :
    exec (.collSet id) s =
      .next (completed (modColl (stagedFor (started s id) x.wing id 64) (c.num 16 2) (collSetFields c)) x.wing id) := by
  refine congrArg Host.Outcome.next ?_
  rw [withCmd_ready _ _ _ _ _ hr, collSetBody, hf, orElse_none, id_of_ready _ _ _ _ hr, collOf_started, hx]
  exact stageOrWait_completed _ _ _ _ (fun r => modColl r _ (collSetFields c)) hc

/-! ### COLL_EXTEND (R56) -/

/-- A command without a failure exceeds no quota. -/
@[simp] theorem noteQuota_none (s : State) (c : Cmd) : noteQuota s c none = s := by simp [noteQuota]

/-- An extent added to a hall lies at the end of its table (R55). -/
theorem stair_addExtent (s : State) (h c n : Nat) :
    stair (addExtent s h c n) h = { stair s h with extents := (stair s h).extents ++ [⟨s.store.nextUid, c, n⟩] } :=
  stair_modStair s h fun t => { t with extents := t.extents ++ [⟨s.store.nextUid, c, n⟩] }

/-- An extent added to a segment lengthens it by its bays (R55). -/
theorem segBays_addExtent (s : State) (h c n : Nat) : segBays (addExtent s h c n) c h = segBays s c h + n := by
  simp [segBays, stair_addExtent]

/-- States that agree beside the store with one that differs in its halls alone. -/
theorem eq_of_offStore_halls {s r t : State} (h : offStore t = offStore r) (hr : offStore r = offStore { s with halls := r.halls }) :
    t = { s with vst := t.vst, store := t.store, halls := t.halls } := by
  have hh : t.halls = r.halls := by
    show (offStore t).halls = (offStore r).halls
    rw [h]
  exact eq_of_offStore (s := { s with halls := t.halls }) (by rw [h, hr, hh])

/-- A COLL_EXTEND that adds bays and passes its checks leaves an addition for the hall. -/
theorem exec_collExtend_add (s : State) (id : Nat) (c : Cmd) (hr : ready s id 0x03 c) (hf : collExtendFail c (started s id) = none)
    (h0 : c.num 19 1 = 0) :
    exec (.collExtend id) s = .next (stageChange (started s id) (c.num 18 1) (.add id (c.num 16 2) (c.num 20 4))) := by
  refine congrArg Host.Outcome.next ?_
  simp only [withCmd_ready _ _ _ _ _ hr, collExtendBody, hf, noteQuota_none, orElse_none, id_of_ready _ _ _ _ hr, h0, if_true]

/-- While the Stair runs a change waits for the hall's Landing (R56). -/
theorem stageChange_running (s : State) (h : Nat) (x : ExtChange) (hs : (stair s h).running = true) :
    stageChange s h x = modStair s h fun t => { t with changes := t.changes ++ [x] } := by
  simp only [stageChange, hs, if_true]

/-- With the Stair at rest an addition joins the loop at once and the command completes (R56). -/
theorem stageChange_add_stopped (s : State) (h id coll n : Nat) (x : Coll) (hs : (stair s h).running = false)
    (hx : collOf s coll = some x) (hc : creditsReady (addExtent s h coll n) x.wing id 64) :
    stageChange s h (.add id coll n) = completed (stagedFor (addExtent s h coll n) x.wing id 64) x.wing id := by
  have hx' : collOf (addExtent s h coll n) coll = some x := hx
  simp only [stageChange, hs, Bool.false_eq_true, if_false, applyChange, extendDone, hx']
  exact stageOrWait_completed _ _ _ _ (fun r => r) hc

/-! ### COLL_DESTROY (R549) -/

/-- A collection's number is free and its permit maps are no longer current. -/
def freed (s : State) (c : Nat) : State :=
  let s1 := setColl s c none
  gcPermits { s1 with store := { s1.store with permits := s1.store.permits.map fun e =>
    (e.1, match e.2 with | some v => if v.coll = c then some { v with current := false } else some v | none => none) } }

@[simp] theorem offStore_freed (s : State) (c : Nat) : offStore (freed s c) = offStore s := rfl
@[simp] theorem freed_vst (s : State) (c : Nat) : (freed s c).vst = s.vst := rfl

/-- Of the collections, the freed one is gone and no other. -/
theorem collOf_freed (s : State) (c k : Nat) : collOf (freed s c) k = collOf (setColl s c none) k := rfl

/-- Whether a change's credits are free does not depend on the collections. -/
theorem creditsReady_modColl (s : State) (c w id n : Nat) (g : Coll → Coll) :
    creditsReady (modColl s c g) w id n ↔ creditsReady s w id n := by
  rw [modColl_frame]; rfl

/-- A closed collection without bays is freed, and the command that closed it completes (R549). -/
theorem destroyDone_of_no_bays (s : State) (c id : Nat) (x : Coll) (hx : collOf s c = some x) (hcl : x.closing = some id)
    (hb : ∀ h, h < 16 → segBays s c h = 0) (hc : creditsReady s x.wing id 64) :
    destroyDone s c = completed (freed (stagedFor s x.wing id 64) c) x.wing id := by
  have hnone : ((List.range 16).any fun h => decide (segBays s c h ≠ 0)) = false := by
    rw [List.any_eq_false]
    intro h hh
    simp [hb h (List.mem_range.mp hh)]
  simp only [destroyDone, hx, hcl, hnone, Bool.false_eq_true, if_false]
  exact stageOrWait_completed _ _ _ _ (fun r => freed r c) hc

/-- A collection closed by a command. -/
def closedBy (s : State) (c id : Nat) : State := modColl s c fun x => { x with closing := some id }

@[simp] theorem offStore_closedBy (s : State) (c id : Nat) : offStore (closedBy s c id) = offStore s := offStore_modColl ..
@[simp] theorem closedBy_vst (s : State) (c id : Nat) : (closedBy s c id).vst = s.vst := modColl_vst ..

/-- Closing a collection leaves every other one. -/
theorem collOf_closedBy_other (s : State) (c id k : Nat) (h : k ≠ c) : collOf (closedBy s c id) k = collOf s k :=
  collOf_modColl_other _ _ _ _ h

/-- A COLL_DESTROY of a collection without bays, once it passes its checks, closes and frees it: no hall's loop holds it. -/
theorem exec_collDestroy_no_bays (s : State) (id : Nat) (c : Cmd) (x : Coll) (hr : ready s id 0x05 c)
    (hf : collDestroyFail c (started s id) = none) (hx : collOf s (c.num 16 2) = some x)
    (hb : ∀ h, h < 16 → segBays s (c.num 16 2) h = 0) (hc : creditsReady (started s id) x.wing id 64) :
    exec (.collDestroy id) s = .next (completed
      (freed (stagedFor (closedBy (started s id) (c.num 16 2) id) x.wing id 64) (c.num 16 2)) x.wing id) := by
  have hclosed : collOf (closedBy (started s id) (c.num 16 2) id) (c.num 16 2) = some { x with closing := some id } := by
    rw [closedBy, collOf_modColl, collOf_started, hx, Option.map_some]
  have hbays : ∀ h, h < 16 → segBays (closedBy (started s id) (c.num 16 2) id) (c.num 16 2) h = 0 := fun h hh => by
    rw [segBays_of_offStore (s := s) (by simp), hb h hh]
  rw [← destroyDone_of_no_bays _ _ id _ hclosed rfl hbays ((creditsReady_modColl ..).mpr hc)]
  refine congrArg Host.Outcome.next ?_
  simp only [withCmd_ready _ _ _ _ _ hr, collDestroyBody, hf, noteQuota_none, orElse_none, id_of_ready _ _ _ _ hr]
  refine congrArg (destroyDone · (c.num 16 2)) ?_
  refine List.foldlRecOn (motive := fun t => t = closedBy (started s id) (c.num 16 2) id) _ _ rfl fun t ht h hh => ?_
  simp only [ht, hbays h (List.mem_range.mp hh), if_true]

/-! ### PERMIT_WRITE (R367) -/

/-- A permit map has a new current version with these maps, under the next version number. -/
def permitPut (s : State) (coll m : Nat) (maps : Tbl (Nat × Nat)) : State :=
  let s1 := retirePermit s coll m
  { s1 with store := { s1.store with
      permits := tput s1.store.permits s1.store.nextVer (some ⟨coll, m, true, maps⟩), nextVer := s1.store.nextVer + 1 } }

@[simp] theorem offStore_permitPut (s : State) (coll m : Nat) (maps : Tbl (Nat × Nat)) : offStore (permitPut s coll m maps) = offStore s := rfl
@[simp] theorem permitPut_vst (s : State) (coll m : Nat) (maps : Tbl (Nat × Nat)) : (permitPut s coll m maps).vst = s.vst := rfl

/-- The new version stands under the version number that was next. -/
theorem tget_permitPut (s : State) (coll m : Nat) (maps : Tbl (Nat × Nat)) :
    tget (fun _ => none) (permitPut s coll m maps).store.permits s.store.nextVer = some ⟨coll, m, true, maps⟩ :=
  tget_tput_same ..

/-- A PERMIT_WRITE that removes no map and passes its checks puts the maps that its source holds. -/
theorem exec_permitWrite (s : State) (id len : Nat) (c : Cmd) (x : Coll) (hr : ready s id 0x08 c)
    (hf : permitWriteFail c (started s id) = none) (hx : collOf s (c.num 16 2) = some x) (h0 : c.num 20 1 = 0)
    (hlen : ((maskHalls x.halls).map (permitBytes (started s id) (c.num 16 2))).sum = len)
    (hc : creditsReady (started s id) (cmdWing (started s id) c) id (64 + len)) :
    exec (.permitWrite id) s = .next (completed
      (permitPut (stagedFor (started s id) (cmdWing (started s id) c) id (64 + len)) (c.num 16 2) (c.num 18 2)
        (readMaps s (c.num 16 2) (maskHalls x.halls) (memRead s (c.num 24 8) len))) (cmdWing (started s id) c) id) := by
  refine congrArg Host.Outcome.next ?_
  have hread : ∀ r, offStore r = offStore s → readMaps r (c.num 16 2) (maskHalls x.halls) (memRead r (c.num 24 8) len) =
      readMaps s (c.num 16 2) (maskHalls x.halls) (memRead s (c.num 24 8) len) := fun r h => by
    rw [readMaps_of_offStore h, memRead_of_offStore h]
  have hdel : bit 0 0 = false := rfl
  rw [← hread (stagedFor (started s id) (cmdWing (started s id) c) id (64 + len)) (by simp)]
  simp only [withCmd_ready _ _ _ _ _ hr, permitWriteBody, hf, orElse_none, id_of_ready _ _ _ _ hr, collOf_started, hx, h0, hdel,
    Bool.false_eq_true, if_false, hlen]
  exact stageOrWait_completed _ _ _ _
    (fun r => permitPut r _ _ (readMaps r (c.num 16 2) (maskHalls x.halls) (memRead r (c.num 24 8) len))) hc

end Sys2Proof.Machine

section
open Sys2Proof Sys2Proof.Machine Sys2Proof.Safety

/-- Settles O7: each command but a COLL_EXTEND in a running hall is one change of the store whose credits are free; that COLL_EXTEND
only joins the hall's list of changes. -/
theorem collectionsChange : Obligations.CollectionsChange := by
  refine ⟨?set, ?extend, ?destroy, ?permit⟩
  case set =>
    intro s id c x hr hf hx hch hm hc
    refine ⟨_, exec_collSet s id c x hr hf hx hc, ended_completed s _ _ id _ c hr (by simp), ?_, fun k hk => ?_, eq_of_offStore (by simp)⟩
    · rw [collOf_completed, collOf_modColl, collOf_stagedFor, collOf_started, hx, Option.map_some, collSetFields_map c x hch hm]
    · rw [collOf_completed, collOf_modColl_other _ _ _ _ hk, collOf_stagedFor, collOf_started]
  case extend =>
    intro s id c x hr hf hx h0 hc
    have hex := exec_collExtend_add s id c hr hf h0
    cases hrun : (stair s (c.num 18 1)).running with
    | false =>
      rw [stageChange_add_stopped (started s id) _ _ _ _ x hrun hx hc] at hex
      refine ⟨_, hex, eq_of_offStore_halls (r := addExtent (started s id) (c.num 18 1) (c.num 16 2) (c.num 20 4)) (by simp) rfl,
        fun _ => ⟨ended_completed s _ _ id _ c hr (by rw [stagedFor_vst]; rfl), ?_⟩, by simp⟩
      rw [segBays_of_offStore (s := addExtent (started s id) (c.num 18 1) (c.num 16 2) (c.num 20 4)) (by simp), segBays_addExtent]
      rfl
    | true =>
      rw [stageChange_running (started s id) _ _ hrun] at hex
      refine ⟨_, hex, rfl, by simp, fun _ => ⟨ended_of_vst_started hr rfl, ?_, ?_⟩⟩
      · rw [segBays, stair_modStair]; rfl
      · rw [stair_modStair]; rfl
  case destroy =>
    intro s id c x hr hf hx hb hc
    refine ⟨_, exec_collDestroy_no_bays s id c x hr hf hx hb hc, ended_completed s _ _ id _ c hr (by simp), ?_, fun k hk => ?_,
      eq_of_offStore (by simp)⟩
    · rw [collOf_completed, collOf_freed, collOf_setColl]
    · rw [collOf_completed, collOf_freed, collOf_setColl_other _ _ _ _ hk, collOf_stagedFor, collOf_closedBy_other _ _ _ _ hk,
        collOf_started]
  case permit =>
    intro s id c x hr u len hf hx h0 hc
    refine ⟨_, exec_permitWrite s id len c x hr hf hx h0 rfl hc, ended_completed s _ _ id _ c hr (by simp), ?_, eq_of_offStore (by simp)⟩
    have hver : (stagedFor u (cmdWing u c) id (64 + len)).store.nextVer = s.store.nextVer := stagedFor_nextVer ..
    rw [completed_permits, ← hver]
    exact tget_permitPut ..

end

namespace Sys2Proof.Machine

open Sys2Proof.Safety

/-! ### COMPACT (R66, R551) -/

/-- The compaction that a COMPACT starts. -/
def compactionOf (c : Cmd) (x : Coll) : Compaction :=
  ⟨c.id, c.num 16 2, c.num 18 2, hostOf (c.num 24 8), if x.directory then 2 ^ 34 else c.num 32 4, 0, 0, [], false, false⟩

/-- A compaction is put behind the others. -/
def compactionAdded (s : State) (k : Compaction) : State := { s with store := { s.store with compactions := s.store.compactions ++ [k] } }

@[simp] theorem offStore_compactionAdded (s : State) (k : Compaction) : offStore (compactionAdded s k) = offStore s := rfl
@[simp] theorem collOf_compactionAdded (s : State) (k : Compaction) (c : Nat) : collOf (compactionAdded s k) c = collOf s c := rfl
@[simp] theorem compactionAdded_vst (s : State) (k : Compaction) : (compactionAdded s k).vst = s.vst := rfl
@[simp] theorem modColl_compactions (s : State) (c : Nat) (g : Coll → Coll) : (modColl s c g).store.compactions = s.store.compactions := by
  rw [modColl_frame]

/-- A COMPACT that passes its checks takes its place at the write point and starts a compaction. -/
theorem exec_compact (s : State) (id : Nat) (c : Cmd) (x : Coll) (hr : ready s id 0x06 c) (hf : compactFail c (started s id) = none)
    (hx : collOf s (c.num 16 2) = some x) :
    exec (.compact id) s = .next (compactionAdded (modColl (started s id) (c.num 16 2) fun x =>
      { x with writers := x.writers ++ [id], compactHalls := c.num 18 2, compactUid := s.store.nextUid }) (compactionOf c x)) := by
  refine congrArg Host.Outcome.next ?_
  simp only [withCmd_ready _ _ _ _ _ hr, compactBody, hf, orElse_none, collOf_started, hx, Option.getD_some, compactionOf,
    id_of_ready _ _ _ _ hr]
  rfl

/-! ### Moves of a compaction pass (R65) -/

/-- Two slots of a hall have the same key only if they are the same. -/
theorem slotKey_inj {h i j : Nat} : slotKey h i = slotKey h j ↔ i = j := Nat.add_left_cancel_iff

/-- A slot reads back as it was set. -/
@[simp] theorem slot_setSlot_same (x : Coll) (h i : Nat) (r : Slot) : (x.setSlot h i r).slot h i = r := tget_tset_same ..

/-- Setting a slot leaves every other slot of the hall. -/
theorem slot_setSlot_other (x : Coll) (h i j : Nat) (r : Slot) (hj : j ≠ i) : (x.setSlot h i r).slot h j = x.slot h j :=
  tget_tset_other _ _ _ _ _ fun h' => hj (slotKey_inj.mp h')

/-- The copy that a move makes is the record with a new insert epoch. -/
theorem slot_moveRecord_copy (x : Coll) (h e l f : Nat) (hne : l ≠ f) :
    (moveRecord x h e (l, f)).slot h f = { x.slot h l with ins := e } := by
  rw [moveRecord, slot_setSlot_other _ _ _ _ _ hne.symm, slot_setSlot_same]

/-- A move deletes the original. -/
theorem slot_moveRecord_original (x : Coll) (h e l f : Nat) : (moveRecord x h e (l, f)).slot h l = { x.slot h l with del := e } :=
  slot_setSlot_same ..

/-- A move leaves every other slot of its hall. -/
theorem slot_moveRecord_other (x : Coll) (h e l f i : Nat) (hl : i ≠ l) (hf : i ≠ f) :
    (moveRecord x h e (l, f)).slot h i = x.slot h i := by
  rw [moveRecord, slot_setSlot_other _ _ _ _ _ hl, slot_setSlot_other _ _ _ _ _ hf]

/-- With no move abandoned a pass makes every move of its plan. -/
theorem keptMoves_nil (ms : List (Nat × Nat)) : keptMoves ms [] = ms := by
  have hall : ∀ e ∈ (List.range ms.length).zip ms, (!([] : List Nat).contains e.1) = true := fun _ _ => rfl
  rw [keptMoves, List.filter_eq_self.mpr hall, List.map_snd_zip (Nat.le_of_eq List.length_range.symm)]

/-! ### The epoch's advance (R59) -/

@[simp] theorem collOf_epochHighEvents (s : State) (coll owner e c : Nat) : collOf (epochHighEvents s coll owner e) c = collOf s c :=
  collOf_congr _ _ _ (by simp [epochHighEvents])

/-- The advance of a collection's epoch adds one to it and changes nothing else of the collection but EPOCH_HIGH. -/
theorem collOf_advanceEpoch (s : State) (c : Nat) (x : Coll) (hx : collOf s c = some x) :
    ∃ b, collOf (advanceEpoch s c) c = some { x with epoch := x.epoch + 1, epochHigh := b } := by
  simp only [advanceEpoch, hx]
  split
  · exact ⟨_, by rw [collOf_epochHighEvents, collOf_setColl]⟩
  · exact ⟨_, collOf_setColl ..⟩

/-- The advance of a collection's epoch leaves every other collection. -/
theorem collOf_advanceEpoch_other (s : State) (c k : Nat) (h : k ≠ c) : collOf (advanceEpoch s c) k = collOf s k := by
  simp only [advanceEpoch]
  split
  · rfl
  · split
    · rw [collOf_epochHighEvents, collOf_setColl_other _ _ _ _ h]
    · exact collOf_setColl_other _ _ _ _ h

/-! ### A compaction pass (R65) -/

/-- A collection after the moves of a pass that are not abandoned, before its epoch advances. -/
def moved (x : Coll) (k : Compaction) (abandoned : List Nat) : Coll :=
  (keptMoves k.plan abandoned).foldl (fun z m => moveRecord z k.hall (x.epoch + 1) m) x

/-- A pass that makes a move leaves the collection's slots as moved, and its epoch advances by one. -/
theorem collOf_runPass (s : State) (coll : Nat) (x : Coll) (k : Compaction) (abandoned : List Nat) (hx : collOf s coll = some x)
    (hm : (keptMoves k.plan abandoned).isEmpty = false) :
    ∃ y, collOf (runPass s coll x k abandoned) coll = some y ∧ y.epoch = (moved x k abandoned).epoch + 1 ∧
      y.slots = (moved x k abandoned).slots := by
  generalize hs1 : stageCredits (modColl s coll fun y => (keptMoves k.plan abandoned).foldl (fun z m => moveRecord z k.hall (x.epoch + 1) m) y)
    x.wing k.cmd (creditsFor s (moveBytes x k.hall k.plan)) = s1
  have h1 : collOf s1 coll = some (moved x k abandoned) := by
    rw [← hs1, collOf_stageCredits, collOf_modColl, hx, Option.map_some, moved]
  obtain ⟨b, hb⟩ := collOf_advanceEpoch s1 coll _ h1
  simp only [runPass, hm, Bool.false_eq_true, if_false, hs1, collOf_commitAtHalf, collOf_modCompaction, collOf_modColl]
  split <;> simp only [collOf_hostPut, hb, Option.map_some] <;> exact ⟨_, rfl, rfl, rfl⟩

/-- Giving back a grant leaves the collections. -/
@[simp] theorem collOf_dropGrant (s : State) (w id c : Nat) : collOf (dropGrant s w id) c = collOf s c := rfl

/-- A pass leaves every other collection: with or without a report, with or without a move. -/
theorem collOf_runPass_other (s : State) (coll n : Nat) (x : Coll) (k : Compaction) (abandoned : List Nat) (hn : n ≠ coll) :
    collOf (runPass s coll x k abandoned) n = collOf s n := by
  simp only [runPass, collOf_commitAtHalf, collOf_modCompaction, collOf_modColl_other _ _ _ _ hn]
  split <;> split <;>
    simp only [collOf_hostPut, collOf_dropGrant, collOf_advanceEpoch_other _ _ _ hn, collOf_stageCredits, collOf_modColl_other _ _ _ _ hn]

/-- A planned pass that holds its credits runs at a Landing of its hall. -/
theorem exec_compactionPass (s : State) (id : Nat) (abandoned : List Nat) (k : Compaction) (x : Coll) (hk : findCompaction s id = some k)
    (hx : collOf s k.coll = some x) (hp : k.planned = true) (hl : atLanding s k.hall = true)
    (hg : (journal s x.wing).granted.any (fun g => g.1 == id) = true) :
    exec (.compactionPass id abandoned) s = .next (runPass s k.coll x k abandoned) := by
  refine congrArg Host.Outcome.next ?_
  simp only [hk, hx, hp, hl, hg, Bool.or_true, Bool.and_self, if_true]

/-! ### REBASE and its rewrite (R68, R69) -/

/-- A REBASE that passes its checks and finds no rebase under way takes its place at the write point. -/
theorem exec_rebase (s : State) (id : Nat) (c : Cmd) (x : Coll) (hr : ready s id 0x07 c) (hf : rebaseFail c (started s id) = none)
    (hx : collOf s (c.num 16 2) = some x) (hi : x.rebase = .idle) (hn : x.rebaseCmds = []) :
    exec (.rebase id) s =
      .next (setColl (started s id) (c.num 16 2) (some { x with rebaseCmds := [id], writers := x.writers ++ [id] })) := by
  refine congrArg Host.Outcome.next ?_
  rw [withCmd_ready _ _ _ _ _ hr, rebaseBody, hf, orElse_none, id_of_ready _ _ _ _ hr]
  simp only [modColl, collOf_started, hx, hi, hn, List.isEmpty_nil, and_self, if_true]

/-- A live record keeps everything in a rebase but its insert epoch, which becomes 1. -/
theorem rebaseSlot_live (e : Nat) (r : Slot) (h : r.live = true) : rebaseSlot e r = { r with ins := 1 } := by
  simp only [Slot.live, Bool.and_eq_true, decide_eq_true_eq] at h
  simp only [rebaseSlot, h.1, h.2, ne_eq, not_false_eq_true, and_self, if_true]

/-- The slots that a rebase at an epoch leaves: rewritten, without those that it frees. -/
def rebasedSlots (e : Nat) (l : Tbl Slot) : Tbl Slot := (l.map fun p => (p.1, rebaseSlot e p.2)).filter fun p => p.2 ≠ freeSlot

/-- A slot that a rebase leaves is not free and is the rewrite of a slot that was there. -/
theorem mem_rebasedSlots (e : Nat) (l : Tbl Slot) (p : Nat × Slot) :
    p ∈ rebasedSlots e l ↔ (∃ r ∈ l, (r.1, rebaseSlot e r.2) = p) ∧ p.2 ≠ freeSlot := by
  simp [rebasedSlots]

/-- A collection whose rebase is done. -/
def rebased (x : Coll) : Coll :=
  { x with slots := rebasedSlots x.rebaseE x.slots, epoch := 1, epochHigh := false, rebase := .idle, rebaseCmds := [] }

/-- Once no view epoch is held a rebase rewrites its collection and completes its commands. -/
theorem exec_rebaseRewrite (s : State) (coll : Nat) (x : Coll) (hx : collOf s coll = some x) (hi : x.rebase ≠ .idle)
    (hv : heldViews s coll = []) :
    exec (.rebaseRewrite coll) s =
      .next (finishAll (modJournal (setColl s coll (some (rebased x))) x.wing fun j => { j with dirty := j.dirty || hasUndercroft s })
        x.rebaseCmds stOk) := by
  refine congrArg Host.Outcome.next ?_
  simp only [hx, hi, hv, ne_eq, not_false_eq_true, List.isEmpty_nil, and_self, if_true]
  rfl

/-! ### Commands that finish one after another -/

/-- Finishing one command leaves what is found under another number. -/
theorem findCmd_finish_other (s : State) (i k st : Nat) (h : k ≠ i) : findCmd (finish s i st) k = findCmd s k := by
  rw [finish, findCmd_modCmd_other _ _ _ _ _ h]
  intro x; rfl

/-- A command that has ended keeps its end when any command is finished: a command ends once (R373). -/
theorem ended_finish_of_ended (s : State) (id i st : Nat) (d : Done) (h : ended s id = some d) : ended (finish s i st) id = some d := by
  by_cases hi : id = i
  · subst hi
    obtain ⟨c, hc, hd⟩ := Option.bind_eq_some_iff.mp h
    rw [ended, finish, findCmd_modCmd_same]
    · simp [hc, hd]
    · intro x; rfl
  · rw [ended, findCmd_finish_other _ _ _ _ hi]
    exact h

@[simp] theorem offStore_finishAll (s : State) (ids : List Nat) (st : Nat) : offStore (finishAll s ids st) = offStore s := by
  induction ids generalizing s with
  | nil => rfl
  | cons i ids ih => exact ih (finish s i st)

@[simp] theorem collOf_finishAll (s : State) (ids : List Nat) (st c : Nat) : collOf (finishAll s ids st) c = collOf s c := by
  induction ids generalizing s with
  | nil => rfl
  | cons i ids ih => exact ih (finish s i st)

/-- A command that has ended keeps its end when commands are finished one after another. -/
theorem ended_finishAll_of_ended (s : State) (ids : List Nat) (id st : Nat) (d : Done) (h : ended s id = some d) :
    ended (finishAll s ids st) id = some d := by
  induction ids generalizing s with
  | nil => exact h
  | cons i ids ih => exact ih _ (ended_finish_of_ended s id i st d h)

/-- A command in flight among those finished, if it had no end, ends with their status. -/
theorem ended_finishAll (s : State) (ids : List Nat) (id st : Nat) (hm : id ∈ ids) (hs : (findCmd s id).isSome) (he : ended s id = none) :
    ended (finishAll s ids st) id = some (plain st) := by
  induction ids generalizing s with
  | nil => cases hm
  | cons i ids ih =>
    by_cases hi : id = i
    · subst hi
      exact ended_finishAll_of_ended _ ids id st _ (ended_finish s id st 0 0 0 0 0 hs he)
    · have hf := findCmd_finish_other s i id st hi
      exact ih _ ((List.mem_cons.mp hm).resolve_left hi) (by rw [hf]; exact hs) (by rw [ended, hf]; exact he)

end Sys2Proof.Machine

section
open Sys2Proof Sys2Proof.Machine Sys2Proof.Safety

/-- Settles O8: COMPACT and REBASE append to the write point; a pass of one move is that move and the epoch's advance; the rewrite maps every
slot and finishes the commands that wait for it. -/
theorem compactionAndRebase : Obligations.CompactionAndRebase := by
  refine ⟨?compact, ?pass, ?rebase, ?rewrite⟩
  case compact =>
    intro s id c x hr hf hx
    refine ⟨_, exec_compact s id c x hr hf hx, ended_of_vst_started hr (by simp), ?_,
      ⟨compactionOf c x, id_of_ready s id _ c hr, rfl, rfl, ?_⟩, eq_of_offStore (by simp)⟩
    · rw [collOf_compactionAdded, collOf_modColl, collOf_started, hx, Option.map_some]
    · rw [compactionAdded, modColl_compactions]; rfl
  case pass =>
    intro s id l f k x hk _ hx hp hl hg hplan hne
    have hms : keptMoves k.plan [] = [(l, f)] := by rw [keptMoves_nil, hplan]
    obtain ⟨y, hy, hepoch, hslots⟩ := collOf_runPass s k.coll x k [] hx (by rw [hms]; rfl)
    have hmoved : moved x k [] = moveRecord x k.hall (x.epoch + 1) (l, f) := by rw [moved, hms, List.foldl_cons, List.foldl_nil]
    rw [hmoved] at hepoch hslots
    have hslot : ∀ i, y.slot k.hall i = (moveRecord x k.hall (x.epoch + 1) (l, f)).slot k.hall i := fun i => by
      rw [Coll.slot, hslots]; rfl
    refine ⟨_, y, exec_compactionPass s id [] k x hk hx hp hl hg, hy, hepoch, ?_, ?_, fun i hil hif => ?_,
      fun n hn => collOf_runPass_other s k.coll n x k [] hn⟩
    · rw [hslot, slot_moveRecord_copy _ _ _ _ _ hne]
    · rw [hslot, slot_moveRecord_original]
    · rw [hslot, slot_moveRecord_other _ _ _ _ _ _ hil hif]
  case rebase =>
    intro s id c x hr hf hx hi hn
    refine ⟨_, exec_rebase s id c x hr hf hx hi hn, ended_of_vst_started hr rfl, collOf_setColl .., fun n hn => ?_, eq_of_offStore (by simp)⟩
    rw [collOf_setColl_other _ _ _ _ hn, collOf_started]
  case rewrite =>
    intro s coll x hx hi hv
    refine ⟨_, rebased x, exec_rebaseRewrite s coll x hx hi hv, by simp, rfl, rfl, rfl, fun p hp => ?_, fun r hr hlive => ?_,
      fun id hid hs he => ended_finishAll _ _ _ _ hid hs he, eq_of_offStore (by simp)⟩
    · obtain ⟨⟨r, hr, rfl⟩, hfree⟩ := (mem_rebasedSlots _ _ _).mp hp
      exact ⟨r, hr, rfl, hfree, rebaseSlot_live _ _⟩
    · refine (mem_rebasedSlots _ _ _).mpr ⟨⟨r, hr, by rw [rebaseSlot_live _ _ hlive]⟩, fun h => ?_⟩
      exact absurd (congrArg Slot.ins h) (show 1 ≠ noEpoch by decide)

end

/-! ## Selection, spill and the delay threshold -/

namespace Sys2Proof.Machine

open Sys2Proof.Safety

/-! ### Queries and halls read back -/

/-- A query found bears its context number. -/
theorem findQuery_ctx (s : State) (ctx : Nat) (q : Query) (h : findQuery s ctx = some q) : q.ctx = ctx := by
  simpa using List.find?_some h

/-- A changed query is found changed. -/
theorem findQuery_modQuery_same (s : State) (ctx : Nat) (g : Query → Query) (hg : ∀ x, (g x).ctx = x.ctx) :
    findQuery (modQuery s ctx g) ctx = (findQuery s ctx).map g := by
  have hp : ((fun q : Query => q.ctx == ctx) ∘ fun q => if (q.ctx == ctx) = true then g q else q) = fun q => q.ctx == ctx := by
    funext x
    simp only [Function.comp]
    split <;> simp only [hg]
  simp only [findQuery, modQuery, List.find?_map, hp]
  refine Option.map_congr fun q hq => ?_
  rw [if_pos (List.find?_some hq)]

/-- Changing one query leaves what is found under another number. -/
theorem findQuery_modQuery_other (s : State) (ctx k : Nat) (g : Query → Query) (hg : ∀ x, (g x).ctx = x.ctx) (hk : k ≠ ctx) :
    findQuery (modQuery s ctx g) k = findQuery s k := by
  have hp : ((fun q : Query => q.ctx == k) ∘ fun q => if (q.ctx == ctx) = true then g q else q) = fun q => q.ctx == k := by
    funext x
    simp only [Function.comp]
    split <;> simp only [hg]
  simp only [findQuery, modQuery, List.find?_map, hp]
  refine (Option.map_congr fun q hq => ?_).trans Option.map_id'
  have hc : q.ctx = k := by simpa using List.find?_some hq
  rw [if_neg (by simpa [hc] using hk)]

/-- A hall's Stair is read off the halls. -/
theorem stair_congr {s t : State} (h : Nat) (hh : t.halls = s.halls) : stair t h = stair s h := by rw [stair, stair, getHall, getHall, hh]

/-- Setting a tread leaves every other one. -/
theorem treadOf_setTread_other (t : Stair) (n m : Nat) (x : Tread) (h : m ≠ n) : treadOf (setTread t n x) m = treadOf t m :=
  tget_tset_other _ _ _ _ _ h

/-- Noting a hold leaves the hall's controller. -/
theorem ctl_noteStall (s : State) (h : Nat) : ctl (noteStall s h) h = ctl s h := by
  simp only [noteStall]
  split <;> split
  · exact ctl_modStair ..
  · rfl
  · rfl
  · exact ctl_modStair ..

/-! ### Selections that read no bad line (R97, R99) -/

/-- A hall without bad lines has no uncorrectable ID line. -/
theorem idBad_of_no_badLines (s : State) (c h i : Nat) (hb : (ctl s h).badLines = []) : idBad s c h i = false := by
  rw [idBad, lineHeld, hb]; rfl

/-- With every needed ID line sound a selection splits the order after its first k. -/
theorem selectBest_of_sound (bad : Ranked → Bool) (hb : ∀ c, bad c = false) (k : Nat) (final : Bool) (n : Nat) (l out : List Ranked) :
    selectBest bad k final n l out = ⟨l.take k, l.drop k, out⟩ := by
  cases n with
  | zero => rfl
  | succ n =>
    have hhit : (needIds k final l).filter bad = [] := List.filter_eq_nil_iff.mpr fun c _ => by simp [hb c]
    simp only [selectBest, hhit, List.isEmpty_nil, if_true]

/-- In a hall without bad lines a selection keeps the first k in the order of R97, drops the others and removes none. -/
theorem selectIn_of_no_badLines (s : State) (coll h k : Nat) (final : Bool) (l : List Cand) (hb : (ctl s h).badLines = []) :
    selectIn s coll h k final l =
      ⟨(sortBy Ranked.before (rankAll s coll h l)).take k, (sortBy Ranked.before (rankAll s coll h l)).drop k, []⟩ :=
  selectBest_of_sound _ (fun _ => idBad_of_no_badLines _ _ _ _ hb) ..

/-- An intermediate pass leaves the tread the k best of its candidates; its threshold does not rise (R83, R100). -/
theorem passTread_of_no_badLines (s : State) (h n : Nat) (q : Query) (hq : findQuery s (treadOf (stair s h) n).ctx = some q)
    (hb : (ctl s h).badLines = []) :
    let x := treadOf (stair s h) n
    ∃ y : Tread, passTread s h n = modStair s h (fun t => setTread t n y) ∧ y.passQueued = false ∧ y.thresh ≤ x.thresh ∧
      y.skipped = x.skipped ∧
      y.cands = ((sortBy Ranked.before (rankAll s q.coll h (withinRadius q.radius x.cands))).take q.k).map fun c => ⟨c.dist, c.slot⟩ := by
  simp only [passTread, hq, selectIn_of_no_badLines _ _ _ _ _ _ hb, List.isEmpty_nil, if_true, List.length_nil, Nat.add_zero]
  refine ⟨_, rfl, rfl, ?_, rfl, rfl⟩
  show (if _ then _ else _) ≤ _
  split
  · exact Nat.min_le_left ..
  · exact Nat.le_refl _

/-- A queued pass of a tread aboard runs (R83). -/
theorem exec_selectionPass (s : State) (h n : Nat) (hs : (treadOf (stair s h) n).state = .aboard)
    (hp : (treadOf (stair s h) n).passQueued = true) : exec (.selectionPass h n []) s = .next (passTread s h n) := by
  refine congrArg Host.Outcome.next ?_
  exact if_pos ⟨hs, hp⟩

/-! ### Final selection (R81, R101) -/

/-- A flight found has alighted under its context number. -/
theorem alightedOf_ctx (s : State) (h ctx : Nat) (a : Alighted) (ha : alightedOf s h ctx = some a) : a.ctx = ctx := by
  simpa using List.find?_some ha

/-- The hall's state after a flight's candidates have left its pool. -/
def candidatesFreed (s : State) (h : Nat) (a : Alighted) : State :=
  modStair s h fun t => { t with alighted := t.alighted.filter fun y => y.ctx ≠ a.ctx }

/-- A flight whose candidates have left the pool is no longer among those that have alighted. -/
theorem alightedOf_candidatesFreed (s : State) (h : Nat) (a : Alighted) : alightedOf (candidatesFreed s h a) h a.ctx = none := by
  rw [alightedOf, candidatesFreed, stair_modStair, List.find?_eq_none]
  intro y hy
  simpa using (List.mem_filter.mp hy).2

/-- Settling a flight adds the hall's record to its query, whatever it skipped. -/
theorem settleAlighted_store (s : State) (h : Nat) (q : Query) (a : Alighted) :
    (settleAlighted s h q a).store = (addRec s q.ctx (finalRecord s h q a)).store := by
  simp only [settleAlighted]
  split
  · rfl
  · rw [setSticky_store, addR_store]; rfl

/-- Settling a flight frees its candidates, whatever it skipped. -/
theorem settleAlighted_halls (s : State) (h : Nat) (q : Query) (a : Alighted) :
    (settleAlighted s h q a).halls = (candidatesFreed s h a).halls := by
  simp only [settleAlighted]
  split
  · rfl
  · rw [setSticky_halls, addR_halls]; rfl

/-- Settling a flight without a new skip touches nothing else. -/
theorem settleAlighted_of_skipped (s : State) (h : Nat) (q : Query) (a : Alighted) (hs : (finalRecord s h q a).skipped = a.skipped) :
    settleAlighted s h q a = addRec (candidatesFreed s h a) q.ctx (finalRecord s h q a) := by
  simp only [settleAlighted, hs, if_true]; rfl

/-- In a hall without bad lines a record counts what its treads skipped, as far as its field reaches. -/
theorem finalRecord_skipped (s : State) (h : Nat) (q : Query) (a : Alighted) (hb : (ctl s h).badLines = []) :
    (finalRecord s h q a).skipped = min a.skipped 0xFFFF := by
  simp only [finalRecord, selectIn_of_no_badLines _ _ _ _ _ _ hb, List.length_nil, Nat.add_zero]

/-- The entries of a record follow from the collections, the query and the candidates, in halls without bad lines. -/
theorem finalRecord_entries_congr (s t : State) (h : Nat) (q : Query) (a : Alighted) (hs : (ctl s h).badLines = [])
    (ht : (ctl t h).badLines = []) (hst : t.store = s.store) : (finalRecord t h q a).entries = (finalRecord s h q a).entries := by
  have hr : ∀ l, rankAll t q.coll h l = rankAll s q.coll h l := fun l => by simp only [rankAll, itemOf, collOf, hst]
  simp only [finalRecord, selectIn_of_no_badLines _ _ _ _ _ _ hs, selectIn_of_no_badLines _ _ _ _ _ _ ht, hr]

/-! ### A boarded flight that still waits for records -/

/-- The device holds one query, boarded and with records still to come, and no requester is to be told of an end. -/
def onlyBoarded (s : State) (q : Query) : Prop :=
  s.store.queries = [q] ∧ s.store.newel = [] ∧ s.store.ended = [] ∧ (∃ d, q.source = .board d) ∧ q.recs.length < q.halls

/-- A boarded flight that waits for records keeps waiting, and nobody is told anything. -/
theorem settleFlights_of_onlyBoarded (s : State) (q : Query) (h : onlyBoarded s q) : settleFlights s = s := by
  obtain ⟨hq, hn, he, ⟨d, hd⟩, hr⟩ := h
  have hrest : { s with store := { s.store with ended := [] } } = s := by rw [← he]
  have hnewel : settleNewel s = s := by
    refine Eq.trans ?_ hrest
    simp only [settleNewel, he, List.filter_nil, List.foldl_nil, reapFlights, hq, List.foldl_cons, hd]
  have hboard : settleBoard s = s := by
    refine Eq.trans ?_ hrest
    simp only [settleBoard, he, List.filter_nil, List.foldl_nil, hq, List.foldl_cons, hd, Nat.ne_of_lt hr, if_false]
  rw [settleFlights, hnewel, hboard]

/-- One more record of several leaves the flight waiting. -/
theorem onlyBoarded_settleAlighted (s : State) (h : Nat) (q : Query) (a : Alighted) (hb : onlyBoarded s q)
    (hr : q.recs.length + 1 < q.halls) :
    onlyBoarded (settleAlighted s h q a) { q with recs := q.recs ++ [finalRecord s h q a] } := by
  obtain ⟨hq, hn, he, hd, -⟩ := hb
  refine ⟨?_, ?_, ?_, hd, by simpa using hr⟩
  · rw [settleAlighted_store]
    simp [addRec, modQuery, hq]
  · rw [settleAlighted_store]; exact hn
  · rw [settleAlighted_store]; exact he

/-- A flight's query has the hall's record once the flight is settled. -/
theorem findQuery_settleAlighted (s : State) (h ctx : Nat) (q : Query) (a : Alighted) (hq : findQuery s ctx = some q) :
    findQuery (settleAlighted s h q a) ctx = some { q with recs := q.recs ++ [finalRecord s h q a] } := by
  have hc := findQuery_ctx s ctx q hq
  have hst := findQuery_modQuery_same s ctx (fun q' => { q' with recs := q'.recs ++ [finalRecord s h q a] }) fun _ => rfl
  rw [hq, Option.map_some] at hst
  rw [← hst, findQuery, settleAlighted_store, hc]
  rfl

/-- A settled flight has left the hall. -/
theorem alightedOf_settleAlighted (s : State) (h : Nat) (q : Query) (a : Alighted) : alightedOf (settleAlighted s h q a) h a.ctx = none := by
  rw [alightedOf, stair_congr h (settleAlighted_halls s h q a)]
  exact alightedOf_candidatesFreed s h a

/-- Final selection of a flight without spilled candidates settles it. -/
theorem exec_finalSelection (s : State) (h ctx : Nat) (a : Alighted) (q : Query) (ha : alightedOf s h ctx = some a)
    (hq : findQuery s ctx = some q) (hs : a.spilled = false) :
    exec (.finalSelection h ctx []) s = .next (settleFlights (settleAlighted s h q a)) := by
  refine congrArg (fun t => Host.Outcome.next (settleFlights t)) ?_
  simp only [finalSelection, ha, hq, hs, Bool.false_eq_true, if_false]
  rfl

/-! ### Spill (R85, R86) -/

/-- Freeing units of the ring moves its consumer end; of the Stair only the hold may change beside it. -/
theorem stair_freeSpill (s : State) (h units : Nat) : ∃ r b, stair (freeSpill s h units) h =
    { stair s h with spillCons := min (stair s h).spillProd ((stair s h).spillCons + 256 * units), ringHeld := r, stallSince := b } := by
  obtain ⟨b, hb⟩ := stair_noteStall (modStair s h fun t =>
    { t with spillCons := min t.spillProd (t.spillCons + 256 * units)
             ringHeld := t.ringHeld && decide (min t.spillProd (t.spillCons + 256 * units) = t.spillCons) }) h
  rw [stair_modStair] at hb
  exact ⟨_, b, hb⟩

/-- Freeing units of the ring changes registers and halls alone. -/
theorem freeSpill_frame (s : State) (h units : Nat) :
    freeSpill s h units = { s with regs := (freeSpill s h units).regs, halls := (freeSpill s h units).halls } := noteStall_frame _ h

@[simp] theorem freeSpill_store (s : State) (h units : Nat) : (freeSpill s h units).store = s.store := by rw [freeSpill_frame]

/-- Freeing units of the ring leaves the hall's controller. -/
theorem ctl_freeSpill (s : State) (h units : Nat) : ctl (freeSpill s h units) h = ctl s h :=
  (ctl_noteStall _ h).trans (ctl_modStair ..)

/-- Freeing units of the ring leaves the flights that have alighted. -/
theorem alightedOf_freeSpill (s : State) (h ctx units : Nat) : alightedOf (freeSpill s h units) h ctx = alightedOf s h ctx := by
  obtain ⟨r, b, hs⟩ := stair_freeSpill s h units
  rw [alightedOf, hs, alightedOf]

/-- The spill path frees its units and settles a flight that has alighted. -/
theorem exec_spillFinish_alighted (s : State) (h ctx units : Nat) (a : Alighted) (q : Query) (ha : alightedOf s h ctx = some a)
    (hq : findQuery s ctx = some q) :
    exec (.spillFinish h ctx units []) s = .next (settleFlights (settleAlighted (freeSpill s h units) h q a)) := by
  have ha' : alightedOf (freeSpill (readIdLines s h []) h units) h ctx = some a := (alightedOf_freeSpill s h ctx units).trans ha
  refine congrArg (fun t => Host.Outcome.next (settleFlights t)) ?_
  simp only [spillFinish, hq, ha']
  rfl

/-! ### The delay threshold (R470) -/

/-- A nudge writes an event tail and the pending vectors, neither of which lies where a WNG_T_DELAYED does. -/
theorem getR_wngTDelayed_nudge (s : State) (f e i : Nat) : getR (nudge s f e) .wngTDelayed i = getR s .wngTDelayed i := by
  have ht : regKey 0 .wngTDelayed i 0 ≠ regKey f .vstEqTail e 0 := by simp [regKey, regOff, regSpec]; omega
  have hp : regKey 0 .wngTDelayed i 0 ≠ regKey f .msixPending 0 0 := by simp [regKey, regOff, regSpec]; omega
  simp only [nudge]
  split
  · split
    · rw [getR_setR_other _ _ _ _ _ _ _ _ _ _ hp, getR_setField_other _ _ _ _ _ _ _ _ _ _ _ _ ht]
    · exact getR_setField_other _ _ _ _ _ _ _ _ _ _ _ _ ht
  · rfl

/-- The count of lost records is no WNG_T_DELAYED. -/
theorem getR_wngTDelayed_dropRecord (s : State) (f i : Nat) : getR (dropRecord s f) .wngTDelayed i = getR s .wngTDelayed i :=
  getR_addR_other _ _ _ _ _ _ _ _ _ _ (by simp [regKey, regOff, regSpec]; omega)

/-- A posted record writes event tails, pending vectors and the count of lost records, and no WNG_T_DELAYED. -/
theorem getR_wngTDelayed_postRecord (s : State) (f e i : Nat) (r : EventRec) :
    getR (postRecord s f e r) .wngTDelayed i = getR s .wngTDelayed i := by
  have ht : regKey 0 .wngTDelayed i 0 ≠ regKey f .vstEqTail e 0 := by simp [regKey, regOff, regSpec]; omega
  simp only [postRecord]
  split
  · exact getR_wngTDelayed_dropRecord ..
  · split
    · split
      · exact getR_setHeld ..
      · exact getR_wngTDelayed_dropRecord ..
    · simp only [writeRecord]
      split
      · rw [getR_wngTDelayed_nudge]
        split <;> simp only [getR_setField_other _ _ _ _ _ _ _ _ _ _ _ _ ht, getR_hostPut]
      · exact getR_wngTDelayed_dropRecord ..

/-- The DELAYED record of a flight leaves the store and the counts of delayed flights. -/
theorem delayedRecord_keeps (s : State) (q : Query) (a i : Nat) :
    (delayedRecord s q a).store = s.store ∧ getR (delayedRecord s q a) .wngTDelayed i = getR s .wngTDelayed i := by
  simp only [delayedRecord]
  split
  · rw [postDelayed]
    split
    · exact ⟨rfl, rfl⟩
    · exact ⟨postRecord_store .., getR_wngTDelayed_postRecord ..⟩
  · split
    · exact ⟨rfl, rfl⟩
    · exact ⟨postRecord_store .., getR_wngTDelayed_postRecord ..⟩

/-- A flight whose wait has passed its account's threshold: marked, and counted for the account. -/
def delayCounted (s : State) (q : Query) : State :=
  addR (modQuery { s with now := max s.now (q.admitted + 1000 * getR s .wngTDelay (q.index s)) } q.ctx fun x => { x with delayed := true })
    .wngTDelayed 1 (q.index s)

/-- The delay threshold marks and counts a flight that waits, and posts its record. -/
theorem exec_delayThreshold (s : State) (q : Query) (hq : findQuery s q.ctx = some q) (hw : q.waiting ≠ 0) (hd : q.delayed = false) :
    exec (.delayThreshold q.ctx) s = .next (delayedRecord (delayCounted s q) q (lastGrant (delayCounted s q) q)) := by
  simp only [exec, execDelayThreshold, hq, hw, hd, Bool.false_eq_true, or_self, if_false]
  rfl

end Sys2Proof.Machine

section
open Sys2Proof Sys2Proof.Machine Sys2Proof.Safety

/-- Settles O12: without bad lines every selection takes the first k of the order; a settled flight adds its record and leaves the hall, and
its query, which waits for more records, stays; a posted record leaves the account's count. -/
theorem turnstileSelects : Obligations.TurnstileSelects := by
  refine ⟨?pass, ?final, ?spill, ?delay⟩
  case pass =>
    intro s h n x q hx hs hp hq hb best
    subst hx
    obtain ⟨y, hy, hpq, hth, hsk, hc⟩ := passTread_of_no_badLines s h n q hq hb
    refine ⟨_, y, (exec_selectionPass s h n hs hp).trans (congrArg _ hy), ?_, hc, hpq, hth, hsk, fun m hm => ?_, rfl⟩
    · rw [stair_modStair, treadOf_setTread]
    · rw [stair_modStair, treadOf_setTread_other _ _ _ _ hm]
  case final =>
    intro s h ctx d a q ha hq hs hsk hb hqs hn he hd hr
    have hon := onlyBoarded_settleAlighted s h q a ⟨hqs, hn, he, ⟨d, hd⟩, by omega⟩ hr
    have hrec : (finalRecord s h q a).skipped = a.skipped := by rw [finalRecord_skipped _ _ _ _ hb, Nat.min_eq_left hsk]
    refine ⟨settleAlighted s h q a, ?_, findQuery_settleAlighted s h ctx q a hq, ?_, ?_⟩
    · rw [exec_finalSelection s h ctx a q ha hq hs, settleFlights_of_onlyBoarded _ _ hon]
    · rw [← alightedOf_ctx s h ctx a ha]
      exact alightedOf_settleAlighted s h q a
    · rw [settleAlighted_of_skipped s h q a hrec]
      rfl
  case spill =>
    intro s h ctx d units a q _ ha hq hb hqs hn he hd hr
    let s1 := freeSpill s h units
    have hst : s1.store = s.store := freeSpill_store s h units
    have hb1 : (ctl s1 h).badLines = [] := by rw [ctl_freeSpill]; exact hb
    have hon := onlyBoarded_settleAlighted s1 h q a (by rw [onlyBoarded, hst]; exact ⟨hqs, hn, he, ⟨d, hd⟩, by omega⟩) hr
    refine ⟨settleAlighted s1 h q a, _, ?_, findQuery_settleAlighted s1 h ctx q a (by rw [findQuery, hst]; exact hq),
      finalRecord_entries_congr s s1 h q a hb hb1 hst, ?_, ?_⟩
    · rw [exec_spillFinish_alighted s h ctx units a q ha hq, settleFlights_of_onlyBoarded _ _ hon]
    · rw [← alightedOf_ctx s h ctx a ha]
      exact alightedOf_settleAlighted s1 h q a
    · obtain ⟨r, b, hfree⟩ := stair_freeSpill s h units
      rw [stair_congr h (settleAlighted_halls s1 h q a), candidatesFreed, stair_modStair, hfree]
  case delay =>
    intro s ctx q hq hw hd hacc
    have hc := findQuery_ctx s ctx q hq
    subst hc
    obtain ⟨hst, hreg⟩ := delayedRecord_keeps (delayCounted s q) q (lastGrant (delayCounted s q) q) q.account
    have hi : q.index s = q.account := if_pos hacc
    refine ⟨_, exec_delayThreshold s q hq hw hd, ?_, ?_⟩
    · have hm := findQuery_modQuery_same s q.ctx (fun x => { x with delayed := true }) fun _ => rfl
      rw [hq] at hm
      rw [findQuery, hst]
      exact (congrArg (Option.any fun x => x.delayed) hm).trans rfl
    · rw [hreg, delayCounted, hi, getR_addR_same]
      rfl

end

/-! ## Power states -/

namespace Sys2Proof.Machine

open Sys2Proof.Safety

/-! ### Folds -/

/-- What every step of a fold keeps, the fold keeps. -/
theorem foldl_keeps {α β : Type} (p : State → β) (f : State → α → State) (hf : ∀ t a, p (f t a) = p t) (l : List α) (s : State) :
    p (l.foldl f s) = p s :=
  List.foldlRecOn (motive := fun t => p t = p s) l f rfl fun t ht a _ => (hf t a).trans ht

/-- What one step of a fold brings about and every step keeps holds after the fold. -/
theorem foldl_reaches {α : Type} (P : State → Prop) (f : State → α → State) (a : α) (hset : ∀ t, P (f t a))
    (hkeep : ∀ t b, P t → P (f t b)) (l : List α) (ha : a ∈ l) (s : State) : P (l.foldl f s) := by
  induction l generalizing s with
  | nil => cases ha
  | cons b l ih =>
    rcases List.mem_cons.mp ha with rfl | h
    · exact List.foldlRecOn (motive := P) l f (hset s) fun t ht c _ => hkeep t c ht
    · exact ih h (f s b)

/-! ### The answer of POWER_STATE (R402) -/

/-- OUT has 64 bytes. -/
theorem length_powerOut (reached from_ delay during at_ : Nat) : (powerOut reached from_ delay during at_).length = 64 := by
  simp only [powerOut, List.length_append, length_bytesOf]

/-- OUT fills its 64 bytes. -/
theorem putOut_powerOut (s : State) (c : Cmd) (reached from_ delay during at_ : Nat) :
    putOut s c (powerOut reached from_ delay during at_) = hostPut s (hostOf (c.num 24 8)) (powerOut reached from_ delay during at_) := by
  rw [putOut, length_powerOut, Nat.sub_self, List.replicate_zero, List.append_nil]

/-- The answer to a command in flight writes OUT and completes it with the state reached and the delay. -/
theorem powerReply_found (s : State) (id from_ acc during at_ : Nat) (c : Cmd) (hc : findCmd s id = some c) :
    powerReply s id from_ acc during at_ =
      finish (hostPut s (hostOf (c.num 24 8)) (powerOut s.store.power.current from_ (s.now - acc) during at_)) id stOk 0 0
        s.store.power.current (s.now - acc) := by
  simp only [powerReply, hc, putOut_powerOut]

/-- An answer changes commands and host memory alone. -/
theorem powerReply_frame (s : State) (id from_ acc during at_ : Nat) :
    powerReply s id from_ acc during at_ =
      { s with vst := (powerReply s id from_ acc during at_).vst, host := (powerReply s id from_ acc during at_).host } := by
  cases hc : findCmd s id with
  | none => simp only [powerReply, hc]
  | some c =>
    rw [powerReply_found s id _ _ _ _ c hc]
    generalize powerOut _ _ _ _ _ = bs
    rfl

@[simp] theorem powerReply_store (s : State) (id from_ acc during at_ : Nat) : (powerReply s id from_ acc during at_).store = s.store := by
  rw [powerReply_frame]

@[simp] theorem stair_powerReply (s : State) (id from_ acc during at_ h : Nat) : stair (powerReply s id from_ acc during at_) h = stair s h := by
  rw [powerReply_frame]; rfl

@[simp] theorem selfRefresh_powerReply (s : State) (id from_ acc during at_ h : Nat) :
    selfRefresh (powerReply s id from_ acc during at_) h = selfRefresh s h := by
  rw [powerReply_frame]; rfl

/-- A command in flight without an end ends with the state reached and the delay. -/
theorem ended_powerReply (s : State) (id from_ acc during at_ : Nat) (c : Cmd) (hc : findCmd s id = some c) (hd : c.done = none) :
    ended (powerReply s id from_ acc during at_) id = some ⟨0x0000, 0, 0, s.store.power.current, s.now - acc, 0⟩ := by
  rw [powerReply_found s id _ _ _ _ c hc]
  generalize powerOut _ _ _ _ _ = bs
  have hf : findCmd (hostPut s (hostOf (c.num 24 8)) bs) id = some c := hc
  exact ended_finish _ id _ _ _ _ _ _ (by rw [hf]; rfl) (by rw [ended, hf]; exact hd)

/-- The answer stands in host memory. -/
theorem hostRead_powerReply (s : State) (id from_ acc during at_ : Nat) (c : Cmd) (hc : findCmd s id = some c) :
    hostRead (powerReply s id from_ acc during at_) (hostOf (c.num 24 8)) 64 =
      powerOut s.store.power.current from_ (s.now - acc) during at_ := by
  have hlen := length_powerOut s.store.power.current from_ (s.now - acc) during at_
  rw [powerReply_found s id _ _ _ _ c hc]
  generalize powerOut _ _ _ _ _ = bs at hlen ⊢
  exact hostRead_hostPut s _ 64 bs hlen

/-- The answer touches no other byte of host memory. -/
theorem hostKeptOutside_powerReply (s : State) (id from_ acc during at_ : Nat) (c : Cmd) (hc : findCmd s id = some c) :
    hostKeptOutside s (powerReply s id from_ acc during at_) (hostOf (c.num 24 8)) 64 := by
  have hlen := length_powerOut s.store.power.current from_ (s.now - acc) during at_
  rw [powerReply_found s id _ _ _ _ c hc]
  generalize powerOut _ _ _ _ _ = bs at hlen ⊢
  exact hlen ▸ hostKeptOutside_hostPut s (hostOf (c.num 24 8)) bs

/-! ### POWER_STATE (R402) -/

/-- A POWER_STATE that names another state and passes its checks begins a move. -/
theorem exec_powerState_move (s : State) (id : Nat) (c : Cmd) (hr : ready s id 0x60 c) (hf : powerStateFail c (started s id) = none)
    (ht : numAt (argBytes s c) 0 1 ≠ s.store.power.current) :
    exec (.powerState id) s = .next (modPower (started s id) fun x =>
      { x with moving := some (id, numAt (argBytes s c) 0 1, numAt (argBytes s c) 8 8, s.now), during := 0, paused := false }) := by
  refine congrArg Host.Outcome.next ?_
  rw [withCmd_ready _ _ _ _ _ hr, powerStateBody, hf, orElse_none, id_of_ready _ _ _ _ hr]
  exact if_neg ht

/-- A POWER_STATE that names the state of the device and passes its checks is answered at once. -/
theorem exec_powerState_stay (s : State) (id : Nat) (c : Cmd) (hr : ready s id 0x60 c) (hf : powerStateFail c (started s id) = none)
    (ht : numAt (argBytes s c) 0 1 = s.store.power.current) :
    exec (.powerState id) s = .next (powerReply (started s id) id s.store.power.current s.now 0 0) := by
  refine congrArg Host.Outcome.next ?_
  rw [withCmd_ready _ _ _ _ _ hr, powerStateBody, hf, orElse_none, id_of_ready _ _ _ _ hr]
  exact if_pos ht

/-- A command that may start has not ended. -/
theorem done_of_ready (s : State) (id op : Nat) (c : Cmd) (hr : ready s id op c) : c.done = none := by
  have h := ended_of_ready s id op c hr
  rwa [ended, hr.1] at h

/-- A command that was started is in flight as started. -/
theorem findCmd_started (s : State) (id op : Nat) (c : Cmd) (hr : ready s id op c) :
    findCmd (started s id) id = some { c with started := true } := by
  rw [started, findCmd_modCmd_same, hr.1, Option.map_some]
  intro x; rfl

/-! ### Parking (R91) -/

/-- What parking does to a hall. -/
def parkHall (b : Bool) (t : State) (h : Nat) : State := if present t .hall h then modStair t h fun x => { x with parking := b } else t

/-- Parking goes hall by hall. -/
theorem setParking_eq_foldl (s : State) (b : Bool) : setParking s b = (List.range 16).foldl (parkHall b) s := rfl

/-- Parking a hall changes the halls alone. -/
theorem parkHall_frame (b : Bool) (t : State) (h : Nat) : parkHall b t h = { t with halls := (parkHall b t h).halls } := by
  rw [parkHall]
  split <;> rfl

/-- Parking every hall changes the halls alone. -/
theorem setParking_frame (s : State) (b : Bool) : setParking s b = { s with halls := (setParking s b).halls } :=
  List.foldlRecOn (motive := fun t : State => t = { s with halls := t.halls }) (List.range 16) (parkHall b) rfl fun t ht h _ => by
    rw [parkHall_frame, ht]

/-- Parking leaves which units are present. -/
theorem present_parkHall (b : Bool) (t : State) (k : Nat) (u : UnitKind) (h : Nat) : present (parkHall b t k) u h = present t u h := by
  rw [parkHall_frame]; rfl

/-- A present hall parks, or goes on. -/
theorem stair_parkHall_same (b : Bool) (t : State) (h : Nat) (hp : present t .hall h = true) :
    stair (parkHall b t h) h = { stair t h with parking := b } := by
  rw [parkHall, if_pos hp, stair_modStair]

/-- Parking one hall leaves the Stair of another. -/
theorem stair_parkHall_other (b : Bool) (t : State) (h k : Nat) (hk : h ≠ k) : stair (parkHall b t k) h = stair t h := by
  rw [parkHall]
  split
  · rw [stair, stair, getHall_modStair_other _ _ _ _ hk]
  · rfl

/-- Of a list of halls the present ones park, and the others stay. -/
theorem stair_foldl_parkHall (b : Bool) (l : List Nat) (s : State) (h : Nat) (hp : present s .hall h = true) :
    stair (l.foldl (parkHall b) s) h = if h ∈ l then { stair s h with parking := b } else stair s h := by
  induction l generalizing s with
  | nil => rfl
  | cons k l ih =>
    rw [List.foldl_cons, ih _ (by rw [present_parkHall]; exact hp)]
    by_cases hk : h = k
    · subst hk
      rw [stair_parkHall_same b s h hp]
      simp
    · rw [stair_parkHall_other b s h k hk]
      simp [hk]

/-- Every present hall parks, or goes on. -/
theorem stair_setParking (s : State) (b : Bool) (h : Nat) (hh : h < 16) (hp : present s .hall h = true) :
    stair (setParking s b) h = { stair s h with parking := b } := by
  rw [setParking_eq_foldl, stair_foldl_parkHall b _ s h hp, if_pos (List.mem_range.mpr hh)]

/-! ### Self-refresh (R276) -/

/-- What entering self-refresh does to a hall. -/
def refreshHall (t : State) (h : Nat) : State :=
  if present t .hall h then setField (landR t .halScrubCfg h) .halStatus 5 1 1 h else t

/-- Self-refresh is entered hall by hall. -/
theorem enterSelfRefresh_eq_foldl (s : State) : enterSelfRefresh s = (List.range 16).foldl refreshHall s := rfl

/-- Entering self-refresh in a hall changes registers and their staged values alone. -/
theorem refreshHall_frame (t : State) (h : Nat) :
    refreshHall t h = { t with regs := (refreshHall t h).regs, staged := (refreshHall t h).staged } := by
  rw [refreshHall]
  split
  · rw [landR_frame]; rfl
  · rfl

/-- Entering self-refresh in every hall changes registers and their staged values alone. -/
theorem enterSelfRefresh_frame (s : State) :
    enterSelfRefresh s = { s with regs := (enterSelfRefresh s).regs, staged := (enterSelfRefresh s).staged } :=
  List.foldlRecOn (motive := fun t : State => t = { s with regs := t.regs, staged := t.staged }) (List.range 16) refreshHall rfl
    fun t ht h _ => by rw [refreshHall_frame, ht]

/-- Entering self-refresh leaves which units are present. -/
theorem present_refreshHall (t : State) (k : Nat) (u : UnitKind) (h : Nat) : present (refreshHall t k) u h = present t u h := by
  rw [refreshHall_frame]; rfl

/-- A present hall is in self-refresh once it has entered it. -/
theorem selfRefresh_refreshHall_same (t : State) (h : Nat) (hp : present t .hall h = true) : selfRefresh (refreshHall t h) h = true := by
  have hf : bits (getR (setField (landR t .halScrubCfg h) .halStatus 5 1 1 h) .halStatus h) 5 1 = 1 :=
    fieldR_setField_same (landR t .halScrubCfg h) .halStatus 5 1 1 h 0 0 (by decide)
  rw [refreshHall, if_pos hp, selfRefresh, bit, beq_iff_eq]
  exact hf

/-- The self-refresh of one hall leaves that of another. -/
theorem selfRefresh_refreshHall_other (t : State) (h k : Nat) (hk : h ≠ k) : selfRefresh (refreshHall t k) h = selfRefresh t h := by
  have hs : regKey 0 .halStatus h 0 ≠ regKey 0 .halStatus k 0 := by simp [regKey, regOff, regSpec]; omega
  have hc : regKey 0 .halStatus h 0 ≠ regKey 0 .halScrubCfg k 0 := by simp [regKey, regOff, regSpec]; omega
  rw [refreshHall]
  split
  · rw [selfRefresh, selfRefresh, getR_setField_other _ _ _ _ _ _ _ _ _ _ _ _ hs, getR_landR_other _ _ _ _ _ _ _ _ _ hc]
  · rfl

/-- Every present hall is in self-refresh once all have entered it. -/
theorem selfRefresh_enterSelfRefresh (s : State) (h : Nat) (hh : h < 16) (hp : present s .hall h = true) :
    selfRefresh (enterSelfRefresh s) h = true := by
  have hp' : present (enterSelfRefresh s) .hall h = true := by rw [enterSelfRefresh_frame]; exact hp
  refine foldl_reaches (fun t => present t .hall h = true → selfRefresh t h = true) refreshHall h (fun t ht => ?_) (fun t k hk ht => ?_)
    (List.range 16) (List.mem_range.mpr hh) s hp'
  · exact selfRefresh_refreshHall_same t h (by rwa [present_refreshHall] at ht)
  · rw [present_refreshHall] at ht
    by_cases he : h = k
    · subst he
      exact selfRefresh_refreshHall_same t h ht
    · rw [selfRefresh_refreshHall_other t h k he]
      exact hk ht

/-! ### The store beside the Lantern -/

theorem lntEvent_store (s : State) (c m : Nat) : (lntEvent s c m).store = s.store := setSticky_store ..

theorem lntEcc_store (s : State) (c : Nat) : (lntEcc s c).store = s.store := (lntEvent_store ..).trans (addR_store ..)

theorem issueAction_store (s : State) (c code i : Nat) : (issueAction s c code i).store = s.store := by
  simp only [issueAction]
  split
  · rfl
  · split
    · exact (modCore_store ..).trans (addR_store ..)
    · exact (lntEvent_store ..).trans ((addR_store ..).trans (addR_store ..))

theorem scanNeuron_store (c e : Nat) (bad : LntBad) (s : State) (i : Nat) : (scanNeuron c e bad s i).store = s.store := by
  have hset : ∀ (m code : Nat) (p : Prop) [Decidable p],
      (if p then issueAction (modCore s c fun x => setNeuron x i m) c code i else modCore s c fun x => setNeuron x i m).store = s.store := by
    intro m code p _
    split
    · exact (issueAction_store ..).trans (modCore_store ..)
    · exact modCore_store ..
  simp only [scanNeuron]
  split
  · rfl
  · split
    · exact lntEcc_store ..
    · split
      · exact (lntEcc_store ..).trans (modCore_store ..)
      · exact hset ..

theorem silentScan_store (s : State) (c e : Nat) (bad : LntBad) : (silentScan s c e bad).store = s.store := by
  rw [silentScan]
  split
  · exact foldl_keeps State.store (scanNeuron c e bad) (scanNeuron_store c e bad) _ s
  · rfl
/-- The close of a Lantern window leaves the store. -/
theorem closeWindow_store (s : State) (c : Nat) (bad : LntBad) : (closeWindow s c bad).store = s.store := by
  have hcounts : ∀ (g : Nat → Nat) (t : State), ((List.range 256).foldl (fun t k => setR t .lntCount (g k) c k) t).store = t.store :=
    fun g t => foldl_keeps State.store (fun t k => setR t .lntCount (g k) c k) (fun _ _ => setR_store ..) (List.range 256) t
  rw [closeWindow, lntEvent_store, addR_store, setR_store, modCore_store, hcounts, silentScan_store]

theorem thawCore_store (s : State) (c : Nat) : (thawCore s c).store = s.store := by
  rw [thawCore]
  split
  · exact foldl_keeps State.store (fun t _ => closeWindow t c LntBad.none) (fun t _ => closeWindow_store t c _) _ s
  · rfl

theorem leaveSelfRefresh_store (s : State) : (leaveSelfRefresh s).store = s.store :=
  foldl_keeps State.store (fun t h => setField t .halStatus 5 1 0 h) (fun _ _ => setField_store ..) (List.range 16) s
/-! ### A state is entered (R401) -/

/-- The device in a power state, no move under way. -/
def entered (s : State) (target : Nat) : State := modPower s fun x => { x with current := target, moving := none, paused := false }

/-- Whatever the state that is left, the state entered is the target, and no move is under way. -/
theorem enterPower_store (s : State) (target : Nat) : (enterPower s target).store = (entered s target).store := by
  have hpark : ∀ b, (setParking (entered s target) b).store = (entered s target).store := fun b => by rw [setParking_frame]
  simp only [enterPower]
  split
  · rw [enterSelfRefresh_frame]; exact hpark _
  · split
    · refine (foldl_keeps State.store (fun t c => if present t .lantern c then thawCore t c else t) (fun t c => ?_) (List.range 16) _).trans
        ((leaveSelfRefresh_store _).trans (hpark _))
      split
      · exact thawCore_store ..
      · rfl
    · exact hpark _

/-- Between P0 and P1 a move parks the halls, or lets them go on. -/
theorem enterPower_park (s : State) (target : Nat) (ht : target ≠ 2) (hc : s.store.power.current ≠ 2) :
    enterPower s target = setParking (entered s target) (decide (1 ≤ target)) := by
  simp only [enterPower, ht, hc, if_false, entered]

/-- Into P2 the halls park and enter self-refresh. -/
theorem enterPower_p2 (s : State) : enterPower s 2 = enterSelfRefresh (setParking (entered s 2) true) := by
  simp only [enterPower, if_true, entered]; rfl

/-- Entering P2 leaves commands and time. -/
theorem enterPower_p2_frame (s : State) : enterPower s 2 =
    { entered s 2 with halls := (enterPower s 2).halls, regs := (enterPower s 2).regs, staged := (enterPower s 2).staged } := by
  rw [enterPower_p2, enterSelfRefresh_frame, setParking_frame]

/-- Between P0 and P1 a move changes the halls and the power state alone. -/
theorem enterPower_park_frame (s : State) (target : Nat) (ht : target ≠ 2) (hc : s.store.power.current ≠ 2) :
    enterPower s target = { entered s target with halls := (enterPower s target).halls } := by
  rw [enterPower_park s target ht hc, setParking_frame]

/-- A move that ends in its target leaves the device there. -/
theorem powerReached_store (s : State) (id target acc : Nat) : (powerReached s id target acc).store = (entered s target).store := by
  rw [powerReached, powerReply_store, enterPower_store]

/-- A command whose move ends in its target ends with that state and its delay. -/
theorem ended_powerReached (s : State) (id target acc : Nat) (c : Cmd) (hc : findCmd s id = some c) (hd : c.done = none)
    (hv : (enterPower s target).vst = s.vst) (hn : (enterPower s target).now = s.now) :
    ended (powerReached s id target acc) id = some ⟨0x0000, 0, 0, target, s.now - acc, 0⟩ := by
  have hc' : findCmd (enterPower s target) id = some c := by rw [findCmd, hv]; exact hc
  rw [powerReached, ended_powerReply _ _ _ _ _ _ c hc' hd, enterPower_store, hn]
  rfl

/-! ### Quiet (R403) -/

/-- A move to P1 is entered once quiet is reached. -/
theorem exec_powerStateQuiet_p1 (s : State) (id limit acc : Nat) (hm : s.store.power.moving = some (id, 1, limit, acc))
    (hc : s.store.power.current = 0) (hq : powerQuiet s id = true) :
    exec .powerStateQuiet s = .next (powerReached s id 1 acc) := by
  simp [exec, execPowerStateQuiet, hm, hc, hq]

/-- What quiet does to a wing before P2: its commit begins, or runs again once the running one has ended. -/
def commitOrAgain (t : State) (w : Nat) : State :=
  if (journal t w).running then modJournal t w fun j => { j with again := true } else cutCommit t w

/-- Before P2 fetching pauses and every wing commits. -/
theorem exec_powerStateQuiet_pause (s : State) (id limit acc : Nat) (hm : s.store.power.moving = some (id, 2, limit, acc))
    (hc : s.store.power.current < 2) (hq : powerQuiet s id = true) (hp : s.store.power.paused = false) :
    exec .powerStateQuiet s = .next ((committingWings s).foldl commitOrAgain (modPower s fun x => { x with paused := true })) := by
  simp [exec, execPowerStateQuiet, hm, Nat.not_le.mpr hc, hq, hp]
  rfl

/-- P2 is entered once fetching has paused and no commit runs. -/
theorem exec_powerStateQuiet_p2 (s : State) (id limit acc : Nat) (hm : s.store.power.moving = some (id, 2, limit, acc))
    (hc : s.store.power.current < 2) (hq : powerQuiet s id = true) (hp : s.store.power.paused = true)
    (hr : ∀ w ∈ committingWings s, (journal s w).running = false) :
    exec .powerStateQuiet s = .next (powerReached s id 2 acc) := by
  have hany : (committingWings s).any (fun w => (journal s w).running) = false := by
    rw [List.any_eq_false]
    exact fun w hw => by simp [hr w hw]
  simp [exec, execPowerStateQuiet, hm, Nat.not_le.mpr hc, hq, hp, hany]

/-! ### Commits of every wing -/

/-- A journal reads as the store's. -/
theorem journal_congr {s t : State} (w : Nat) (h : t.store = s.store) : journal t w = journal s w := by rw [journal, journal, h]

@[simp] theorem journal_modJournal_other (s : State) (v w : Nat) (g : Journal → Journal) (h : w ≠ v) :
    journal (modJournal s v g) w = journal s w := tget_tset_other _ _ _ _ _ h

/-- A change of a journal that leaves whether it runs leaves that of every journal. -/
theorem running_modJournal (s : State) (v w : Nat) (g : Journal → Journal) (hg : ∀ j, (g j).running = j.running) :
    (journal (modJournal s v g) w).running = (journal s w).running := by
  by_cases h : w = v
  · rw [h, journal_modJournal, hg]
  · rw [journal_modJournal_other _ _ _ _ h]

/-- Wear up to 90% leaves the store: HEALTH becomes WARN, in which commits go on (R398, R399). -/
@[simp] theorem programmed_store (s : State) (n : Nat) : (programmed s n).store = s.store := by
  simp only [programmed]
  split
  · simp only [enterHealth]
    split <;> simp
  · rfl

@[simp] theorem flashUsed_store (s : State) (w : Nat) (grow : Bool) (n : Nat) : (flashUsed s w grow n).store = s.store := by
  simp only [flashUsed]
  split <;> simp

@[simp] theorem deleteBlock_store (s : State) (b : Block) : (deleteBlock s b).store = s.store := by
  simp only [deleteBlock]
  repeat' split
  all_goals simp [modNs]

@[simp] theorem makeFlashRoom_store (s : State) (n : Ns) (k : Nat) : (makeFlashRoom s n k).store = s.store := by
  induction k generalizing s with
  | zero => rfl
  | succ k ih =>
    simp only [makeFlashRoom]
    split
    · rfl
    · split
      · rfl
      · rw [ih, deleteBlock_store]

/-- Writing a block's flash copy marks its wing's journal dirty and changes nothing else of the store. -/
theorem journalBlock_store (s : State) (n : Ns) (b : Block) :
    (journalBlock s n b).store = s.store ∨ (journalBlock s n b).store = (modJournal s n.wing fun j => { j with dirty := true }).store := by
  simp only [journalBlock]
  split
  · exact .inl rfl
  · split
    · refine .inr ?_
      simp only [modJournal, journal, flashUsed_store, modBlock, modCloister_store, makeFlashRoom_store]
    · exact .inl (makeFlashRoom_store ..)

@[simp] theorem journalBlock_power (s : State) (n : Ns) (b : Block) : (journalBlock s n b).store.power = s.store.power := by
  rcases journalBlock_store s n b with h | h
  · rw [h]
  · rw [h]
    rfl

@[simp] theorem running_journalBlock (s : State) (n : Ns) (b : Block) (w : Nat) :
    (journal (journalBlock s n b) w).running = (journal s w).running := by
  rcases journalBlock_store s n b with h | h
  · rw [journal_congr w h]
  · rw [journal_congr w h]
    exact running_modJournal s n.wing w (fun j => { j with dirty := true }) fun _ => rfl

@[simp] theorem cutCommit_power (s : State) (w : Nat) : (cutCommit s w).store.power = s.store.power :=
  foldl_keeps (fun t => t.store.power) _ (fun _ _ => journalBlock_power ..) _ s

/-- A commit that begins runs. -/
theorem running_cutCommit (s : State) (w : Nat) : (journal (cutCommit s w) w).running = true := by
  rw [cutCommit, beginCommit, journal_modJournal]

/-- A commit that begins leaves those that run. -/
theorem running_cutCommit_of_running (s : State) (v w : Nat) (h : (journal s w).running = true) :
    (journal (cutCommit s v) w).running = true := by
  by_cases hv : w = v
  · rw [hv, running_cutCommit]
  · rw [cutCommit, beginCommit, journal_modJournal_other _ _ _ _ hv]
    exact (foldl_keeps (fun t => (journal t w).running) _ (fun _ _ => running_journalBlock ..) _ s).trans h

theorem commitOrAgain_power (t : State) (w : Nat) : (commitOrAgain t w).store.power = t.store.power := by
  rw [commitOrAgain]
  split
  · rfl
  · exact cutCommit_power ..

/-- After it the wing's commit runs. -/
theorem running_commitOrAgain (t : State) (w : Nat) : (journal (commitOrAgain t w) w).running = true := by
  rw [commitOrAgain]
  split
  · rw [journal_modJournal]; assumption
  · exact running_cutCommit ..

/-- It leaves the commits that run. -/
theorem running_commitOrAgain_of_running (t : State) (v w : Nat) (h : (journal t w).running = true) :
    (journal (commitOrAgain t v) w).running = true := by
  rw [commitOrAgain]
  split
  · exact (running_modJournal t v w (fun j => { j with again := true }) fun _ => rfl).trans h
  · exact running_cutCommit_of_running _ _ _ h

/-- While the Undercroft takes commits every wing of the device commits before P2. -/
theorem mem_committingWings (s : State) (w : Nat) (hu : hasUndercroft s = true) (hh : health s < 2) (hw : w < wingCount s) :
    w ∈ committingWings s := by
  simp [committingWings, hu, hh, hw]

/-! ### Timeout and exit (R403) -/

/-- An entry whose limit passes before quiet is abandoned. -/
theorem exec_powerStateTimeout (s : State) (id target limit acc : Nat) (hm : s.store.power.moving = some (id, target, limit, acc))
    (hc : s.store.power.current < target) (hl : limit ≠ 0) (hp : s.store.power.paused = false) :
    exec .powerStateTimeout s = .next (powerReply
      (modPower { s with now := max s.now (acc + limit) } fun x => { x with moving := none }) id s.store.power.current acc
        s.store.power.during 0) := by
  simp only [exec, execPowerStateTimeout, hm, Nat.not_le.mpr hc, hl, hp, decide_false, Bool.or_self, Bool.false_eq_true, if_false]

/-- A move to a lower-numbered state ends in it. -/
theorem exec_powerStateExit (s : State) (id target limit acc : Nat) (hm : s.store.power.moving = some (id, target, limit, acc))
    (hc : target < s.store.power.current) : exec .powerStateExit s = .next (powerReached s id target acc) := by
  simp only [exec, execPowerStateExit, hm, Nat.not_le.mpr hc, if_false]

end Sys2Proof.Machine

section
open Sys2Proof Sys2Proof.Machine Sys2Proof.Safety

/-- Settles O30: a move is noted in the power state alone; quiet, timeout and exit are the entry of a state, whose halls park and which the
store records, and the command's answer, which writes OUT and ends it. -/
theorem powerStatesChange : Obligations.PowerStatesChange := by
  refine ⟨?command, ?p1, ?pause, ?p2, ?timeout, ?exit, ?exitP2⟩
  case command =>
    intro s id c hr hf target cur
    refine ⟨fun ht => ?_, fun ht => ?_⟩
    · exact ⟨_, exec_powerState_move s id c hr hf ht, ended_of_vst_started hr rfl, rfl, rfl⟩
    · have hc := findCmd_started s id _ c hr
      have hd : ({ c with started := true } : Cmd).done = none := done_of_ready s id _ c hr
      refine ⟨_, exec_powerState_stay s id c hr hf ht, (ended_powerReply _ _ _ _ _ _ _ hc hd).trans ?_,
        (hostRead_powerReply _ _ _ _ _ _ _ hc).trans ?_, hostKeptOutside_powerReply (started s id) id cur s.now 0 0 { c with started := true } hc, powerReply_frame ..⟩
      · simp [cur, started]
      · simp [cur, started]
  case p1 =>
    intro s id limit acc c hm hcur hq hc hd
    have hfr := enterPower_park_frame s 1 (by decide) (by rw [hcur]; decide)
    have hst : ∀ h, stair (enterPower s 1) h = stair (setParking (entered s 1) true) h := fun h => by
      rw [enterPower_park s 1 (by decide) (by rw [hcur]; decide)]; rfl
    have hc' : findCmd (enterPower s 1) id = some c := by rw [hfr]; exact hc
    refine ⟨_, exec_powerStateQuiet_p1 s id limit acc hm hcur hq, ended_powerReached s id 1 acc c hc hd (by rw [hfr]; rfl) (by rw [hfr]; rfl),
      by rw [powerReached_store]; rfl, by rw [powerReached_store]; rfl, fun h hh hp => ?_, ?_, ?_, ?_⟩
    · rw [powerReached, stair_powerReply, hst]
      exact stair_setParking (entered s 1) true h hh hp
    · rw [powerReached, hostRead_powerReply _ _ _ _ _ _ c hc', enterPower_store, hcur, hfr]
      rfl
    · have hk := hostKeptOutside_powerReply (enterPower s 1) id s.store.power.current acc s.store.power.during s.now c hc'
      intro x hx
      exact (hk x hx).trans (by rw [hfr]; rfl)
    · rw [powerReached, powerReply_frame, hfr]; rfl
  case pause =>
    intro s id limit acc hm hcur hq hp
    refine ⟨_, exec_powerStateQuiet_pause s id limit acc hm hcur hq hp, ?_, fun hu hh w hw => ?_⟩
    · exact foldl_keeps (fun t => t.store.power) _ commitOrAgain_power _ _
    · exact foldl_reaches (fun t => (journal t w).running = true) commitOrAgain w (running_commitOrAgain · w)
        (fun t v => running_commitOrAgain_of_running t v w) _ (mem_committingWings s w hu hh hw) _
  case p2 =>
    intro s id limit acc c hm hcur hq hp hrun hc hd
    have hfr := enterPower_p2_frame s
    refine ⟨_, exec_powerStateQuiet_p2 s id limit acc hm hcur hq hp hrun, ended_powerReached s id 2 acc c hc hd (by rw [hfr]; rfl)
      (by rw [hfr]; rfl), by rw [powerReached_store]; rfl, fun h hh hp => ⟨?_, ?_⟩⟩
    · show selfRefresh _ h = true
      rw [powerReached, selfRefresh_powerReply, enterPower_p2]
      exact selfRefresh_enterSelfRefresh _ h hh (by rw [setParking_frame]; exact hp)
    · rw [powerReached, stair_powerReply, enterPower_p2, enterSelfRefresh_frame]
      show (stair (setParking (entered s 2) true) h).parking = true
      rw [stair_setParking (entered s 2) true h hh hp]
  case timeout =>
    intro s id target limit acc c hm hcur hl hp hc hd
    exact ⟨_, exec_powerStateTimeout s id target limit acc hm hcur hl hp, ended_powerReply _ _ _ _ _ _ c hc hd, by rw [powerReply_store]; rfl,
      by rw [powerReply_frame]; rfl, by rw [powerReply_frame]; rfl⟩
  case exit =>
    intro s id limit acc c hm hcur hc hd
    have h0 : s.store.power.current ≠ 2 := by rw [hcur]; decide
    have hfr := enterPower_park_frame s 0 (by decide) h0
    refine ⟨_, exec_powerStateExit s id 0 limit acc hm (by rw [hcur]; decide), ended_powerReached s id 0 acc c hc hd (by rw [hfr]; rfl)
      (by rw [hfr]; rfl), by rw [powerReached_store]; rfl, by rw [powerReached_store]; rfl, fun h hh hp => ?_⟩
    rw [powerReached, stair_powerReply, enterPower_park s 0 (by decide) h0]
    exact stair_setParking (entered s 0) false h hh hp
  case exitP2 =>
    intro s id target limit acc hm hcur ht
    exact ⟨_, exec_powerStateExit s id target limit acc hm (by rw [hcur]; exact ht), by rw [powerReached_store]; rfl,
      by rw [powerReached_store]; rfl⟩

end

/-! ## The descriptors of halls -/

namespace Sys2Proof.Machine

open Sys2Proof.Safety

/-! ### Descriptors of a hall: taken, refused, ended (R328, R331, R333) -/

/-- A unit acts on the descriptor that it takes next, once it has accepted it. -/
theorem withDesc_taking (s : State) (cls inst id op : Nat) (d : Desc) (act : Desc → State → State) (h : taking s cls inst id op d) :
    withDesc s cls inst id op act = act d (acceptDesc s cls inst d) := by
  obtain ⟨hn, hid, hop⟩ := h
  simp only [withDesc, hn, hid, hop, decide_true, Bool.and_self, if_true]

/-- The end of a hall's descriptor counts nothing: it is its result. -/
theorem endDesc_hall (s : State) (h id st n : Nat) : endDesc s 0 h id st n = descResult s 0 h id st n := rfl

/-- A refused descriptor of a hall counts nothing: its result is the status. -/
theorem refuseDesc_hall (s : State) (h id st : Nat) : refuseDesc s 0 h id st = descResult s 0 h id st 0 := rfl

/-- A result changes the units alone. -/
theorem descResult_frame (s : State) (cls inst id st n : Nat) :
    descResult s cls inst id st n = { s with units := (descResult s cls inst id st n).units } := rfl

/-- A result leaves every Stair. -/
@[simp] theorem stair_descResult (s : State) (cls inst id st n h : Nat) : stair (descResult s cls inst id st n) h = stair s h := rfl

/-- A unit's queues read back as they were changed. -/
@[simp] theorem unitOf_modUnit (s : State) (cls inst : Nat) (f : UnitQ → UnitQ) :
    unitOf (modUnit s cls inst f) cls inst = f (unitOf s cls inst) := by
  simp only [unitOf, modUnit, tmod, tget_tset_same]

/-- A descriptor accepted is among those that its unit has accepted. -/
theorem mem_accepted_acceptDesc (s : State) (cls inst : Nat) (d : Desc) : d ∈ (unitOf (acceptDesc s cls inst d) cls inst).accepted := by
  rw [acceptDesc, unitOf_modUnit]
  exact List.mem_append_right _ (List.mem_singleton.mpr rfl)

/-- An accepted descriptor has the result that its work ended with. -/
theorem worked_descResult (s : State) (cls inst id st n : Nat) (d : Desc) (hd : d ∈ (unitOf s cls inst).accepted) (hid : d.id = id) :
    worked (descResult s cls inst id st n) cls inst id = some (st, n) := by
  have hp : ((fun x : Desc => x.id == id) ∘ fun x => if (x.id == id) = true then { x with result := some (st, n) } else x) =
      fun x => x.id == id := by
    funext x
    simp only [Function.comp]
    split <;> rfl
  have hsome : ((unitOf s cls inst).accepted.find? fun x => x.id == id).isSome := List.find?_isSome.mpr ⟨d, hd, beq_iff_eq.mpr hid⟩
  obtain ⟨x, hx⟩ := Option.isSome_iff_exists.mp hsome
  have hxid : (x.id == id) = true := List.find?_some (p := fun x : Desc => x.id == id) hx
  rw [worked, descResult, unitOf_modUnit]
  simp only [List.find?_map, hp, hx, Option.map_some, Option.bind_some, hxid, if_true]

/-! ### Admission to one hall (R76, R79, R466) -/

/-- The query as it waits in the Landing of one hall. -/
def waitingInOne (s : State) (q : Query) : Query := { q with waiting := 1, halls := 1, admitted := s.now }

/-- With room in the Landing nothing is shed. -/
theorem shedAll_single (s : State) (q : Query) (h : Nat) (hl : (stair s h).landing.length < 4096) : shedAll s q [h] = some s := by
  simp only [shedAll, hl, if_true]

/-- A flight that admission takes into the one hall of its collection joins that hall's Landing. -/
theorem admitQuery_single (s : State) (h : Nat) (q : Query) (x : Coll) (hx : collOf s q.coll = some x) (hm : maskHalls x.halls = [h])
    (hb : boardingHalls s q.coll = [h]) (ha : admitFail s q [h] = none) (hl : (stair s h).landing.length < 4096) :
    admitQuery s q =
      .ok (joinLanding { s with store := { s.store with queries := s.store.queries ++ [waitingInOne s q] } } h (waitingInOne s q)) := by
  have hin : (!([h] : List Nat).contains h) = false := by simp
  simp only [admitQuery, hb, ha, shedAll_single s q h hl, placeFlight, hx, hm, List.filter_cons, hin, Bool.false_eq_true, if_false,
    List.filter_nil, List.foldl_nil, List.foldl_cons]
  rfl

/-- Joining a Landing leaves the queries. -/
@[simp] theorem joinLanding_queries (s : State) (h : Nat) (q : Query) : (joinLanding s h q).store.queries = s.store.queries := rfl

/-- An entry joins a Landing behind the others. -/
theorem landing_joinLanding (s : State) (h : Nat) (q : Query) :
    (stair (joinLanding s h q) h).landing = (stair s h).landing ++ [⟨q.ctx, s.store.nextSeq⟩] := by
  rw [joinLanding, stair_modStair]
  rfl

/-- Joining one Landing leaves the Stairs of the other halls. -/
theorem stair_joinLanding_other (s : State) (h n : Nat) (q : Query) (hn : n ≠ h) : stair (joinLanding s h q) n = stair s n := by
  rw [joinLanding, stair, getHall_modStair_other _ _ _ _ hn]
  rfl

/-! ### BOARD and TREAD_SET (R335, R338) -/

/-- A BOARD that passes its checks is judged by admission: refused with its status, or placed. -/
theorem exec_board (s : State) (h id : Nat) (d : Desc) (x : Coll) (ht : taking s 0 h id 0x01 d)
    (hf : boardFail (acceptDesc s 0 h d) h d = none) (hx : collOf s (d.num 24 2) = some x) :
    let s2 := touchRead (acceptDesc s 0 h d) (some d.wing) (d.num 40 8) (x.width / 8)
    exec (.board h id) s = .next (match admitQuery (bumpCtx s2) (boardQuery s2 d x.width) with
      | .error st => refuseDesc (countRefused s2 (boardQuery s2 d x.width) st) 0 h id st
      | .ok s3 => settleFlights s3) := by
  have hx' : collOf (acceptDesc s 0 h d) (d.num 24 2) = some x := hx
  refine congrArg Host.Outcome.next ?_
  rw [withDesc_taking _ _ _ _ _ _ _ ht]
  simp only [hf, hx'] <;> rfl

/-- A TREAD_SET that passes its checks lowers the radius of its issuer's flight. -/
theorem exec_treadSet (s : State) (h id u tok : Nat) (d : Desc) (x : Query) (ht : taking s 0 h id 0x02 d) (hu : d.issuer = .usher u tok)
    (hb : boardedBy (acceptDesc s 0 h d) u (d.num 16 8) = some x) (hf : treadSetFail (acceptDesc s 0 h d) h d (some x) = none) :
    exec (.treadSet h id) s =
      .next (descResult (modQuery (acceptDesc s 0 h d) x.ctx fun y => { y with radius := d.num 25 2 }) 0 h id stOk 0) := by
  refine congrArg Host.Outcome.next ?_
  rw [withDesc_taking _ _ _ _ _ _ _ ht]
  simp only [hu, hb, hf]
  rfl

/-! ### The Turnstile's descriptors (R339) -/

/-- Microcode's Turnstile descriptor as the hall acts on it. -/
def microDesc (s : State) (h : Nat) (b : List Byte) : Desc := ⟨s.nextDesc, 3, .micro, 0, (groupWing s h).getD 0, b, none⟩

/-- A Turnstile descriptor of the microcode takes effect in a present hall. -/
theorem turnstileDesc_micro (s : State) (h id op : Nat) (b : List Byte) (act : Desc → State → State) (hp : present s .hall h = true) :
    turnstileDesc s h id op (some b) act = act (microDesc s h b) s := if_pos hp

/-- A program's Turnstile descriptor is refused (R326, R339). -/
theorem turnstileDesc_program (s : State) (h id op : Nat) (d : Desc) (act : Desc → State → State) (ht : taking s 0 h id op d)
    (hq : d.queue ≠ 3) :
    turnstileDesc s h id op none act = refuseDesc (acceptDesc s 0 h d) 0 h id
      ((descFail (acceptDesc s 0 h d) 0 h d { named := [(16, 48)] }).getD stBadField) := by
  rw [turnstileDesc, withDesc_taking _ _ _ _ _ _ _ ht]
  exact if_neg hq

/-- A status that a check answers is one of the list's. -/
theorem firstFail_mem (l : List (Bool × Nat)) (st : Nat) (h : firstFail l = some st) : ∃ e ∈ l, e.2 = st := by
  induction l with
  | nil => cases h
  | cons e l ih =>
    rw [firstFail] at h
    split at h
    · exact ⟨e, List.mem_cons_self, Option.some.inj h⟩
    · obtain ⟨e', he', hst⟩ := ih h
      exact ⟨e', List.mem_cons_of_mem _ he', hst⟩

/-- A check that every unit makes answers an error (R331). -/
theorem descFail_ne_zero (s : State) (cls inst st : Nat) (d : Desc) (n : List (Nat × Nat))
    (h : descFail s cls inst d { named := n } = some st) : st ≠ 0 := by
  rw [descFail] at h
  obtain ⟨e, he, rfl⟩ := firstFail_mem _ _ h
  simp only [List.append_nil, List.mem_append, List.mem_cons, List.not_mem_nil, or_false] at he
  rcases he with (((((rfl | rfl) | rfl) | rfl) | rfl) | rfl) | rfl
  all_goals simp

/-- TRN_THRESH of the microcode lowers the threshold of a tread that serves its context (R100). -/
theorem exec_trnThresh_micro (s : State) (h id : Nat) (b : List Byte) (hp : present s .hall h = true) (hn : numAt b 16 2 < 1024)
    (hs : (treadOf (stair s h) (numAt b 16 2)).state = .aboard) (hc : (treadOf (stair s h) (numAt b 16 2)).ctx % 65536 = numAt b 18 2) :
    exec (.trnThresh h id (some b)) s = .next (descResult (modStair s h fun t => setTread t (numAt b 16 2)
      { treadOf (stair s h) (numAt b 16 2) with thresh := min (treadOf (stair s h) (numAt b 16 2)).thresh (numAt b 20 2) })
      0 h s.nextDesc stOk 0) := by
  have hbits : bits (numAt b 16 2) 0 10 = numAt b 16 2 := by rw [bits, Nat.pow_zero, Nat.div_one]; exact Nat.mod_eq_of_lt hn
  refine congrArg Host.Outcome.next ?_
  rw [turnstileDesc_micro _ _ _ _ _ _ hp]
  simp only [Desc.num, microDesc, hbits, hs, hc, and_self, if_true]
  rfl

/-- TRN_SPILL_FREE of the microcode frees units that the ring holds (R86). -/
theorem exec_trnSpillFree_micro (s : State) (h id : Nat) (b : List Byte) (hp : present s .hall h = true)
    (hn : (stair s h).spillCons + 256 * numAt b 16 4 ≤ (stair s h).spillProd) :
    exec (.trnSpillFree h id (some b)) s = .next (descResult (freeSpill s h (numAt b 16 4)) 0 h s.nextDesc stOk 0) := by
  refine congrArg Host.Outcome.next ?_
  rw [turnstileDesc_micro _ _ _ _ _ _ hp]
  exact if_neg (by simp only [Desc.num, microDesc]; omega)

/-- What TRN_DRAIN does to a flight's entry: its pool entries are in memory. -/
def drained (ctx : Nat) (y : Alighted) : Alighted := if y.ctx == ctx then { y with cands := [], treads := [], spill := y.cands ++ y.spill } else y

/-- TRN_DRAIN of the microcode writes a flight's pool entries out and takes them off the pool. -/
theorem exec_trnDrain_micro (s : State) (h id : Nat) (b : List Byte) (x : Alighted) (hp : present s .hall h = true)
    (ha : numAt b 24 8 % 64 = 0) (hx : ((stair s h).alighted.find? fun y => y.ctx % 65536 == numAt b 16 2) = some x) :
    let w := runWrites s ((groupWing s h).getD 0) [(numAt b 24 8, padLines (drainBytes (numAt b 16 2) x.treads x.cands))]
    exec (.trnDrain h id (some b)) s = .next (endDesc (modStair w.1 h fun t => { t with alighted := t.alighted.map (drained x.ctx) })
      0 h s.nextDesc w.2 x.cands.length) := by
  refine congrArg Host.Outcome.next ?_
  rw [turnstileDesc_micro _ _ _ _ _ _ hp]
  simp only [Desc.num, microDesc, ha, ne_eq, not_true_eq_false, if_false, hx]
  rfl

/-- Writing nothing leaves the device. -/
theorem runWrites_nothing (s : State) (wing a : Nat) : (runWrites s wing [(a, [])]).1 = s := rfl

/-- The pool entries of a flight that has none are no bytes. -/
theorem padLines_drainBytes_nil (c : Nat) : padLines (drainBytes c [] []) = [] := by
  rw [drainBytes]; rfl

end Sys2Proof.Machine

section
open Sys2Proof Sys2Proof.Machine Sys2Proof.Safety

/-- Settles O23: BOARD is what admission makes of its flight, and one hall's Landing takes it; TREAD_SET changes one query; a Turnstile
descriptor of the microcode changes one tread, one ring or one flight of its hall, and a program's ends with an error. -/
theorem hallDescriptorsTakeEffect : Obligations.HallDescriptorsTakeEffect := by
  refine ⟨?board, ?admission, ?treadSet, ?thresh, ?spillFree, ?drainEmpty, ?drain, ?program⟩
  case board => exact fun s h id d x ht hf hx => exec_board s h id d x ht hf hx
  case admission =>
    intro s h q x _ hq hx hm hb _ ha hl
    obtain ⟨hqs, -, -⟩ := hq
    refine ⟨_, admitQuery_single s h q x hx hm hb ha hl, ?_, ?_, fun e he => ?_, fun n hn => stair_joinLanding_other _ _ _ _ hn⟩
    · rw [findQuery, joinLanding_queries, hqs]
      simp [waitingInOne]
    · rw [landing_joinLanding, List.length_append]
      rfl
    · rw [landing_joinLanding]
      exact List.mem_append_left _ he
  case treadSet =>
    intro s h id d x u tok ht hu s1 hb hf
    refine ⟨_, exec_treadSet s h id u tok d x ht hu hb hf, ?_, ?_, fun c hc => ?_, rfl⟩
    · exact worked_descResult _ 0 h id _ _ d (mem_accepted_acceptDesc s 0 h d) ht.2.1
    · exact findQuery_modQuery_same s1 x.ctx (fun y => { y with radius := d.num 25 2 }) fun _ => rfl
    · exact findQuery_modQuery_other s1 x.ctx c (fun y => { y with radius := d.num 25 2 }) (fun _ => rfl) hc
  case thresh =>
    intro s h id b x hp hn hx hs hc
    subst hx
    refine ⟨_, exec_trnThresh_micro s h id b hp hn hs hc, ?_, fun n hne => ?_, rfl⟩
    · rw [stair_descResult, stair_modStair, treadOf_setTread]
    · rw [stair_descResult, stair_modStair, treadOf_setTread_other _ _ _ _ hne]
  case spillFree =>
    intro s h id b hp hn
    obtain ⟨r, k, hfree⟩ := stair_freeSpill s h (numAt b 16 4)
    rw [Nat.min_eq_right hn] at hfree
    exact ⟨_, exec_trnSpillFree_micro s h id b hp hn, by rw [stair_descResult, hfree], by rw [stair_descResult, hfree],
      by rw [stair_descResult, hfree]⟩
  case drainEmpty =>
    intro s h id b x hp ha hal hc hcs hts
    have hx : ((stair s h).alighted.find? fun y => y.ctx % 65536 == numAt b 16 2) = some x := by simp [hal, hc]
    refine ⟨_, exec_trnDrain_micro s h id b x hp ha hx, ?_⟩
    rw [hcs, hts, padLines_drainBytes_nil]
    rw [endDesc_hall, stair_descResult, stair_modStair, runWrites_nothing, hal, List.map_singleton, drained, if_pos (beq_self_eq_true _), hcs]
    obtain ⟨⟩ := x
    subst hcs hts
    rfl
  case drain => exact fun s h id b x hp ha hx => exec_trnDrain_micro s h id b x hp ha hx
  case program =>
    intro s h id d ht hq
    refine ⟨_, congrArg Host.Outcome.next (turnstileDesc_program s h id 0x10 d _ ht hq), ?_⟩
    cases hf : descFail (acceptDesc s 0 h d) 0 h d { named := [(16, 48)] } with
    | none => decide
    | some st => exact descFail_ne_zero _ _ _ _ _ _ hf

end

/-! ## Searches at the root -/

namespace Sys2Proof.Machine

open Sys2Proof.Safety

/-! ### Queries of the merge read back (R117) -/

/-- Changing a query of the merge changes what is found under its number and tree. -/
theorem findNewel_modNewel (s : State) (id tree : Nat) (f : NewelQuery → NewelQuery)
    (hf : ∀ x, (f x).queryId = x.queryId ∧ (f x).tree = x.tree) : findNewel (modNewel s id tree f) id tree = (findNewel s id tree).map f := by
  have hp : ((fun q : NewelQuery => q.queryId == id && q.tree == tree) ∘ fun q => if (q.queryId == id && q.tree == tree) = true then f q else q) =
      fun q => q.queryId == id && q.tree == tree := by
    funext q
    simp only [Function.comp]
    split <;> simp only [hf]
  simp only [findNewel, modNewel, List.find?_map, hp]
  refine Option.map_congr fun q hq => ?_
  rw [if_pos (List.find?_some (p := fun q : NewelQuery => q.queryId == id && q.tree == tree) hq)]

/-- What is found of a root has its number, and is a root. -/
theorem root_of_findRoot (s : State) (id : Nat) (q : NewelQuery) (h : findRoot s id = some q) : q.queryId = id ∧ q.isRoot = true := by
  simpa using List.find?_some h

/-- Changing the root's query changes what is found of the root. -/
theorem findRoot_modNewel (s : State) (id : Nat) (q : NewelQuery) (f : NewelQuery → NewelQuery)
    (hf : ∀ x, (f x).queryId = x.queryId ∧ (f x).isRoot = x.isRoot) (h : findRoot s id = some q) :
    findRoot (modNewel s id q.tree f) id = some (f q) := by
  have hp : ((fun x : NewelQuery => x.queryId == id && x.isRoot) ∘ fun x => if (x.queryId == id && x.tree == q.tree) = true then f x else x) =
      fun x => x.queryId == id && x.isRoot := by
    funext x
    simp only [Function.comp]
    split <;> simp only [hf]
  have hid := (root_of_findRoot s id q h).1
  rw [findRoot] at h ⊢
  simp only [modNewel, List.find?_map, hp, h, Option.map_some, hid, beq_self_eq_true, Bool.and_self, if_true]

/-- Releasing a flight changes the queries and the permit versions that they hold. -/
theorem releaseFlight_frame (s : State) (q : NewelQuery) :
    releaseFlight s q =
      { s with store := { s.store with queries := (releaseFlight s q).store.queries, permits := (releaseFlight s q).store.permits } } := by
  unfold releaseFlight
  split <;> rfl

/-- Releasing a flight leaves the queries of the merge. -/
@[simp] theorem releaseFlight_newel (s : State) (q : NewelQuery) : (releaseFlight s q).store.newel = s.store.newel := by
  rw [releaseFlight_frame]

/-- Releasing a flight leaves the commands. -/
@[simp] theorem releaseFlight_vst (s : State) (q : NewelQuery) : (releaseFlight s q).vst = s.vst := by rw [releaseFlight_frame]

/-- Releasing a flight leaves host memory. -/
@[simp] theorem releaseFlight_host (s : State) (q : NewelQuery) : (releaseFlight s q).host = s.host := by rw [releaseFlight_frame]

/-- Releasing a flight leaves what is found of a root. -/
@[simp] theorem findRoot_releaseFlight (s : State) (q : NewelQuery) (id : Nat) : findRoot (releaseFlight s q) id = findRoot s id := by
  simp only [findRoot, releaseFlight_newel]

/-- The end of a flight's part leaves what is found of a query. -/
@[simp] theorem findNewel_ownDone (s : State) (q : NewelQuery) (id tree : Nat) : findNewel (ownDone s q) id tree = findNewel s id tree := by
  rw [ownDone]
  split
  · simp only [findNewel, releaseFlight_newel]
  · rfl

/-! ### SEARCH (R117, R368, R466) -/

/-- A SEARCH that fails a check ends with its status. -/
theorem exec_search_fails (s : State) (id st : Nat) (c : Cmd) (hr : ready s id 0x30 c)
    (hf : searchFail (started s id) c (readSearch (started s id) c) = some st) : exec (.search id) s = .next (finish (started s id) id st) := by
  refine congrArg Host.Outcome.next ?_
  rw [withCmd_ready _ _ _ _ _ hr, searchBody, hf]
  exact congrArg (finish (started s id) · st) (id_of_ready s id _ c hr)

/-- A search of an unsharded collection travels no tree. -/
theorem treeOf_of_map_none (s : State) (c : Cmd) (h : (readSearch s c).map = none) : (readSearch s c).treeOf = none := by
  simp only [readSearch] at h ⊢
  rw [h]
  rfl

/-- The query of a search of an unsharded collection, with the context of its own flight (R117). -/
def unshardedQuery (s : State) (c : Cmd) (x : Coll) : NewelQuery := { rootQuery s c (readSearch s c) x with ctx := some s.store.nextCtx }

/-- The flight of that query. -/
def unshardedFlight (s : State) (c : Cmd) (x : Coll) : Query :=
  newelFlight s (unshardedQuery s c x) c.tenant c.prio (rootLimit s (readSearch s c) x.wing)

/-- The search of an unsharded collection is judged by admission alone: ended with its status, or a query of this device with a flight. -/
theorem searchBody_unsharded (s : State) (c : Cmd) (x : Coll) (hf : searchFail s c (readSearch s c) = none)
    (hx : (readSearch s c).coll = some x) (hm : (readSearch s c).map = none) :
    searchBody c s = match admitQuery (bumpCtx s) (unshardedFlight s c x) with
      | .error st => finish (countRefused s (unshardedFlight s c x) st) c.id st
      | .ok v => settleFlights (addR { v with store := { v.store with
          newel := v.store.newel ++ [unshardedQuery s c x], rootSeq := s.store.rootSeq + 1 } } .nwlRooted 1) := by
  have ht := treeOf_of_map_none s c hm
  have hown : (rootQuery s c (readSearch s c) x).ownShard.isSome = true := by simp only [rootQuery, ht, Option.isSome_some]
  simp only [searchBody, hf, hx, hown, ht, if_true, admitOwn]
  rfl

/-- What SEARCH makes of the search of an unsharded collection. -/
theorem exec_search_unsharded (s : State) (id : Nat) (c : Cmd) (x : Coll) (hr : ready s id 0x30 c)
    (hf : searchFail (started s id) c (readSearch (started s id) c) = none) (hx : (readSearch (started s id) c).coll = some x)
    (hm : (readSearch (started s id) c).map = none) :
    exec (.search id) s = .next (match admitQuery (bumpCtx (started s id)) (unshardedFlight (started s id) c x) with
      | .error st => finish (countRefused (started s id) (unshardedFlight (started s id) c x) st) id st
      | .ok v => settleFlights (addR { v with store := { v.store with
          newel := v.store.newel ++ [unshardedQuery (started s id) c x], rootSeq := s.store.rootSeq + 1 } } .nwlRooted 1)) := by
  refine congrArg Host.Outcome.next ?_
  rw [withCmd_ready _ _ _ _ _ hr, searchBody_unsharded _ _ _ hf hx hm, id_of_ready s id _ c hr]
  rfl

/-! ### Shards that are covered (R124, R126, R128) -/

/-- A power of two has one bit. -/
theorem bit_two_pow (n : Nat) : bit (2 ^ n) n = true := by simp [bit, Nat.div_self (Nat.two_pow_pos n)]

/-- A shard is in a bitmap below the count. -/
theorem mem_bitmapShards (n b i : Nat) : i ∈ bitmapShards n b ↔ i < n ∧ bit b i = true := by simp [bitmapShards]

/-- The bitmap of shards in a state that none of them is in is 0. -/
theorem bitmap_eq_zero (q : NewelQuery) (p : ShardState → Bool)
    (h : ∀ i ∈ bitmapShards q.shardCount q.subtree, p (q.shard i) = false) : q.bitmap p = 0 := by
  rw [NewelQuery.bitmap]
  generalize bitmapShards q.shardCount q.subtree = l at h
  induction l with
  | nil => rfl
  | cons i l ih =>
    rw [List.foldl_cons, h i List.mem_cons_self, if_neg Bool.false_ne_true]
    exact ih fun j hj => h j (List.mem_cons_of_mem _ hj)

/-- A shard that is marked covered, or was covered, is covered. -/
theorem isCovered_mark (q : NewelQuery) (b i : Nat) (h : i ∈ bitmapShards q.shardCount b ∨ (q.shard i).isCovered = true) :
    ((q.mark b .covered).shard i).isCovered = true := by
  simp only [NewelQuery.mark, NewelQuery.shard] at h ⊢
  generalize bitmapShards q.shardCount b = l at h
  generalize q.shards = t at h
  induction l generalizing t with
  | nil => exact h.resolve_left List.not_mem_nil
  | cons j l ih =>
    rw [List.foldl_cons]
    refine ih _ ?_
    by_cases hj : i = j
    · subst hj
      refine .inr ?_
      split
      · assumption
      · rw [tget_tput_same]; rfl
    · refine h.imp (fun hm => (List.mem_cons.mp hm).resolve_left hj) fun hc => ?_
      split
      · exact hc
      · rwa [tget_tput_other _ _ _ _ _ hj]

/-- The test for covered shards. -/
theorem isCovered_iff (x : ShardState) : x.isCovered = true ↔ x = .covered := by cases x <;> simp [ShardState.isCovered]

/-- With every shard covered there is nothing to reroute (R134). -/
theorem reroute_of_covered (s : State) (q : NewelQuery)
    (h : ∀ i ∈ bitmapShards q.shardCount q.subtree, (q.shard i).isCovered = true) : reroute s q = s := by
  unfold reroute
  split
  · rfl
  · dsimp only
    rw [bitmap_eq_zero q _ fun i hi => by rw [(isCovered_iff _).mp (h i hi)]]
    exact if_pos (.inr (.inl (by rw [clearBits, Nat.zero_sub])))

/-- The root decides once every shard is covered (R128). -/
theorem rootCheck_of_covered (s : State) (id tree : Nat) (q : NewelQuery) (hq : findNewel s id tree = some q) (hd : q.decided = false)
    (h : ∀ i ∈ bitmapShards q.shardCount q.subtree, (q.shard i).isCovered = true) :
    rootCheck s id tree = modNewel s id tree fun x => { x with decided := true } := by
  have hdone : q.rootDone = true := List.all_eq_true.mpr fun i hi => by rw [h i hi, Bool.true_or]
  simp only [rootCheck, hq, hd, Bool.false_eq_true, if_false, reroute_of_covered s q h, hdone, if_true]

/-! ### LOCAL_MERGE and SEARCH_DEADLINE (R104, R128) -/

/-- A root that has not decided takes its own result in and judges where its query stands (R104, R128). -/
theorem exec_localMerge_root (s : State) (id tree sh : Nat) (q : NewelQuery) (x : Query) (hq : findNewel s id tree = some q)
    (hx : ownRecords s q = some x) (hs : q.ownShard = some sh) (hc : bit q.covered sh = false) (hr : q.isRoot = true) (hd : q.decided = false) :
    exec (.localMerge id tree) s =
      .next (rootCheck (ownDone (modNewel s id tree fun y => takeContribution y (localMerged sh q.k x.recs) (2 ^ sh)) q) id tree) := by
  show execLocalMerge id tree s = _
  simp only [execLocalMerge, hq, hx, hs, hc, hr, hd, Bool.false_eq_true, if_false, if_true]

/-- A root whose other shards are covered decides with its own result (R104, R128). -/
theorem findNewel_rootCheck_ownShard (s : State) (id tree sh : Nat) (q : NewelQuery) (m : Merged) (hq : findNewel s id tree = some q)
    (hd : q.decided = false) (h : ∀ i ∈ bitmapShards q.shardCount q.subtree, i = sh ∨ (q.shard i).isCovered = true) :
    findNewel (rootCheck (ownDone (modNewel s id tree fun y => takeContribution y m (2 ^ sh)) q) id tree) id tree =
      some { takeContribution q m (2 ^ sh) with decided := true } := by
  have hf : findNewel (ownDone (modNewel s id tree fun y => takeContribution y m (2 ^ sh)) q) id tree = some (takeContribution q m (2 ^ sh)) := by
    rw [findNewel_ownDone, findNewel_modNewel, hq]
    · rfl
    · exact fun _ => ⟨rfl, rfl⟩
  have hcov : ∀ i ∈ bitmapShards q.shardCount q.subtree, ((takeContribution q m (2 ^ sh)).shard i).isCovered = true := by
    refine fun i hi => isCovered_mark q (2 ^ sh) i ((h i hi).imp_left ?_)
    rintro rfl
    exact (mem_bitmapShards _ _ _).mpr ⟨((mem_bitmapShards _ _ _).mp hi).1, bit_two_pow i⟩
  rw [rootCheck_of_covered _ id tree _ hf hd hcov, findNewel_modNewel, hf]
  · rfl
  · exact fun _ => ⟨rfl, rfl⟩

/-- At its deadline the root decides with what it has (R128). -/
theorem exec_searchDeadline (s : State) (id : Nat) (q : NewelQuery) (hq : findRoot s id = some q) (hd : q.decided = false)
    (hl : q.deadline ≠ 0) :
    exec (.searchDeadline id) s =
      .next (modNewel { s with now := max s.now q.deadline } id q.tree fun x => { x with decided := true }) := by
  show execSearchDeadline id s = _
  simp only [execSearchDeadline, hq, hd, hl, Bool.false_eq_true, or_self, if_false]

/-! ### RERANK (R156, R157) -/

/-- A candidate takes its place among the others. -/
theorem insertScored_perm (a : Scored) (l : List Scored) : (insertScored a l).Perm (a :: l) := by
  induction l with
  | nil => exact .refl _
  | cons b l ih =>
    rw [insertScored]
    split
    · exact .refl _
    · exact (ih.cons b).trans (.swap a b l)

/-- A candidate without a score goes behind all others. -/
theorem insertScored_of_none (a : Scored) (l : List Scored) (h : a.score = none) : insertScored a l = l ++ [a] := by
  induction l with
  | nil => rfl
  | cons b l ih => simp only [insertScored, Scored.before, h, Bool.false_eq_true, if_false, ih, List.cons_append]

/-- The candidates of a merge with their scores, in merge order (R157). -/
def scoredEntries (s : State) (q : NewelQuery) (vecs : List VecRead) : List (Scored × Nat) :=
  (q.merged.entries.zip (List.range q.merged.entries.length)).map fun e => scoreEntry s q e.1 (vecs.getD e.2 .absent)

/-- Candidates in the order of R157. -/
def rerankOrder (l : List Scored) : List Scored := l.foldl (fun r x => insertScored x r) []

/-- The order of R157 neither adds a candidate nor loses one. -/
theorem rerankOrder_perm (l : List Scored) : (rerankOrder l).Perm l := by
  have key : ∀ r : List Scored, (l.foldl (fun r x => insertScored x r) r).Perm (r ++ l) := by
    induction l with
    | nil => exact fun r => by rw [List.append_nil]; exact .refl _
    | cons a l ih =>
      intro r
      exact (ih _).trans (((insertScored_perm a r).append_right l).trans List.perm_middle.symm)
  exact key []

/-- Candidates without scores keep their order (R157). -/
theorem rerankOrder_of_none (l : List Scored) (h : ∀ x ∈ l, x.score = none) : rerankOrder l = l := by
  have key : ∀ r : List Scored, l.foldl (fun r x => insertScored x r) r = r ++ l := by
    induction l with
    | nil => exact fun r => (List.append_nil r).symm
    | cons a l ih =>
      intro r
      rw [List.foldl_cons, insertScored_of_none a r (h a List.mem_cons_self), ih fun x hx => h x (List.mem_cons_of_mem _ hx),
        List.append_assoc, List.singleton_append]
  exact key []

/-- Scoring leaves the candidate what it is. -/
theorem entry_scoreEntry (s : State) (q : NewelQuery) (e : MergeEntry) (r : VecRead) : (scoreEntry s q e r).1.entry = e := by
  unfold scoreEntry
  repeat' split
  all_goals rfl

/-- The scored candidates are those of the merge. -/
theorem entries_scoredEntries (s : State) (q : NewelQuery) (vecs : List VecRead) :
    (scoredEntries s q vecs).map (fun x => x.1.entry) = q.merged.entries := by
  simp only [scoredEntries, List.map_map, Function.comp_def, entry_scoreEntry]
  exact List.map_fst_zip (Nat.le_of_eq List.length_range.symm)

/-- Without vectors no candidate has a score. -/
theorem score_scoredEntries_nil (s : State) (q : NewelQuery) (x : Scored) (h : x ∈ (scoredEntries s q []).map Prod.fst) : x.score = none := by
  simp only [scoredEntries, List.map_map, List.mem_map] at h
  obtain ⟨e, -, rfl⟩ := h
  rfl

/-- What a rerank keeps: the RERANK_K first candidates with their score words (R157, R158). -/
def rerankKept (s : State) (q : NewelQuery) (vecs : List VecRead) : List (Nat × MergeEntry) :=
  ((rerankOrder ((scoredEntries s q vecs).map Prod.fst)).take q.rerankK).map fun x => (x.word, x.entry)

/-- The ranked candidates are those of the merge in another order. -/
theorem rerankOrder_entries_perm (s : State) (q : NewelQuery) (vecs : List VecRead) :
    ((rerankOrder ((scoredEntries s q vecs).map Prod.fst)).map Scored.entry).Perm q.merged.entries := by
  have h := (rerankOrder_perm ((scoredEntries s q vecs).map Prod.fst)).map Scored.entry
  rwa [List.map_map, show (Scored.entry ∘ Prod.fst) = fun x : Scored × Nat => x.1.entry from rfl, entries_scoredEntries] at h

/-- A rerank keeps RERANK_K candidates, or all of them where there are fewer. -/
theorem length_rerankKept (s : State) (q : NewelQuery) (vecs : List VecRead) :
    (rerankKept s q vecs).length = min q.rerankK q.merged.entries.length := by
  have h := (rerankOrder_entries_perm s q vecs).length_eq
  rw [List.length_map] at h
  rw [rerankKept, List.length_map, List.length_take, h]

/-- A rerank keeps candidates of the merge. -/
theorem mem_rerankKept (s : State) (q : NewelQuery) (vecs : List VecRead) (e : Nat × MergeEntry) (h : e ∈ rerankKept s q vecs) :
    e.2 ∈ q.merged.entries := by
  obtain ⟨x, hx, rfl⟩ := List.mem_map.mp h
  exact (rerankOrder_entries_perm s q vecs).mem_iff.mp (List.mem_map_of_mem (List.mem_of_mem_take hx))

/-- Without vectors a rerank keeps the first candidates of the merge, with the default NaN for their scores. -/
theorem rerankKept_nil (s : State) (q : NewelQuery) :
    rerankKept s q [] = (q.merged.entries.take q.rerankK).map fun e => (0x7FC00000, e) := by
  have hnone := score_scoredEntries_nil s q
  rw [rerankKept, rerankOrder_of_none _ hnone]
  calc (((scoredEntries s q []).map Prod.fst).take q.rerankK).map (fun x => (x.word, x.entry))
      = (((scoredEntries s q []).map Prod.fst).take q.rerankK).map (fun x => (0x7FC00000, x.entry)) :=
        List.map_congr_left fun x hx => by rw [Scored.word, hnone x (List.mem_of_mem_take hx)]
    _ = ((((scoredEntries s q []).map fun x => x.1.entry)).take q.rerankK).map fun e => (0x7FC00000, e) := by
        simp only [List.map_take, List.map_map, Function.comp_def]
    _ = (q.merged.entries.take q.rerankK).map fun e => (0x7FC00000, e) := by rw [entries_scoredEntries]

/-- The halls whose vector lines a rerank found uncorrectable. -/
def rerankEcc (s : State) (q : NewelQuery) (vecs : List VecRead) : Nat := ((scoredEntries s q vecs).map Prod.snd).foldl (fun a b => a ||| b) 0

/-- The query after its rerank. -/
def rerankedQuery (s : State) (q : NewelQuery) (vecs : List VecRead) (x : NewelQuery) : NewelQuery :=
  { x with
    reranked := some (rerankKept s q vecs), merged := { x.merged with hallsEcc := x.merged.hallsEcc ||| rerankEcc s q vecs } }

/-- A rerank that meets no errors reads no lines again: what changes is the query, and its flight is released (R156). -/
theorem exec_rerank (s : State) (id : Nat) (vecs : List VecRead) (q : NewelQuery) (hq : findRoot s id = some q) (hd : q.decided = true)
    (hk : q.rerankK ≠ 0) (hr : q.reranked = none) :
    exec (.rerank id vecs []) s = .next (releaseFlight (modNewel s id q.tree (rerankedQuery s q vecs)) q) := by
  have hread : ∀ l : List Nat, l.foldl (fun t h => ([] : List (LineAt × LineErr)).foldl (fun u e => (readLine u h e.1 2 e.2).1) t) s = s := by
    intro l
    induction l with
    | nil => rfl
    | cons _ l ih => exact ih
  show execRerank id vecs [] s = _
  simp only [execRerank, hq, hd, hk, hr, Option.isSome_none, Bool.not_true, Bool.or_false, Bool.false_eq_true, decide_false, if_false, hread]
  rfl

/-! ### SEARCH_RESULT_WRITE (R136, R137, R158) -/

/-- The state with the scores of a rerank written (R158). -/
def scoresWritten (s : State) (q : NewelQuery) : State :=
  match q.reranked with
  | some l => hostPut s q.scoreAddr (padLines (l.map fun e => bytesOf 4 e.1).flatten)
  | none => s

/-- The state with a result that misses shards counted (R138). -/
def partialCounted (s : State) (q : NewelQuery) : State := if q.missing = 0 then s else addR s .nwlPartial 1

/-- The state with the result's blocks written and the root's query gone. -/
def resultWritten (s : State) (q : NewelQuery) : State :=
  dropNewel (hostPut (partialCounted (scoresWritten s q) q) q.resultAddr (searchBlock q)) q.queryId q.tree

/-- Another query of the same search goes, and its flight with it. -/
def dropMember (id : Nat) (t : State) (x : NewelQuery) : State := if x.queryId = id then dropNewel (releaseFlight t x) id x.tree else t

/-- The state in which the root's command ends. -/
def searchOver (s : State) (q : NewelQuery) : State :=
  let s4 := (resultWritten s q).store.newel.foldl (dropMember q.queryId) (resultWritten s q)
  if (ownRecords s4 q).isSome then releaseFlight s4 q else s4

/-- The root writes its result, forgets the search, and its command completes (R136, R137). -/
theorem exec_searchResultWrite (s : State) (id : Nat) (q : NewelQuery) (hq : findRoot s id = some q) (hd : q.decided = true)
    (hr : q.rerankK = 0 ∨ q.reranked.isSome = true) :
    exec (.searchResultWrite id) s =
      .next (finish (searchOver s q) q.cmd (searchStatus q) q.resultAddr q.merged.examined) := by
  have hid := (root_of_findRoot s id q hq).1
  subst hid
  have hgo : (!q.decided || (decide (q.rerankK ≠ 0) && q.reranked.isNone)) = false := by
    rcases hr with h | h <;> simp [hd, h]
  show execSearchResultWrite q.queryId s = _
  simp only [execSearchResultWrite, hq, hgo, Bool.false_eq_true, if_false]
  rfl

/-- Writing the scores leaves the commands. -/
theorem scoresWritten_vst (s : State) (q : NewelQuery) : (scoresWritten s q).vst = s.vst := by
  unfold scoresWritten
  split <;> rfl

/-- Counting the result leaves the commands. -/
theorem partialCounted_vst (s : State) (q : NewelQuery) : (partialCounted s q).vst = s.vst := by
  unfold partialCounted
  split <;> rfl

/-- Forgetting a query of the merge leaves the commands. -/
theorem dropNewel_vst (s : State) (id tree : Nat) : (dropNewel s id tree).vst = s.vst := rfl

/-- Writing the result leaves the commands. -/
theorem resultWritten_vst (s : State) (q : NewelQuery) : (resultWritten s q).vst = s.vst := by
  rw [resultWritten, dropNewel_vst, hostPut_vst, partialCounted_vst, scoresWritten_vst]

/-- The block reads back as it was written (R136). -/
theorem hostRead_resultWritten (s : State) (q : NewelQuery) :
    hostRead (resultWritten s q) q.resultAddr (searchBlock q).length = searchBlock q := by
  unfold resultWritten
  generalize searchBlock q = b
  rw [hostRead_congr (hostPut (partialCounted (scoresWritten s q) q) q.resultAddr b) (dropNewel _ _ _) _ _ rfl, hostRead_hostPut _ _ _ _ rfl]

/-- Forgetting another query of a search leaves the commands and host memory. -/
theorem dropMember_vst_host (id : Nat) (t : State) (x : NewelQuery) : ((dropMember id t x).vst, (dropMember id t x).host) = (t.vst, t.host) := by
  unfold dropMember
  split
  · simp only [dropNewel, releaseFlight_vst, releaseFlight_host]
  · rfl

/-- Forgetting the search leaves the commands and host memory as they were when the result was written. -/
theorem searchOver_vst_host (s : State) (q : NewelQuery) :
    ((searchOver s q).vst, (searchOver s q).host) = ((resultWritten s q).vst, (resultWritten s q).host) := by
  have h := foldl_keeps (fun t : State => (t.vst, t.host)) (dropMember q.queryId) (dropMember_vst_host q.queryId)
    (resultWritten s q).store.newel (resultWritten s q)
  unfold searchOver
  dsimp only
  split
  · rw [releaseFlight_vst, releaseFlight_host]; exact h
  · exact h

/-- What is left once the queries of a list have been forgotten. -/
theorem mem_foldl_dropMember (id : Nat) (l : List NewelQuery) (t : State) (y : NewelQuery)
    (hy : y ∈ (l.foldl (dropMember id) t).store.newel) : y ∈ t.store.newel ∧ ∀ x ∈ l, x.queryId = id → y.queryId = id → y.tree ≠ x.tree := by
  induction l generalizing t with
  | nil => exact ⟨hy, fun x hx => absurd hx List.not_mem_nil⟩
  | cons a l ih =>
    obtain ⟨hmem, hl⟩ := ih (dropMember id t a) hy
    rw [dropMember] at hmem
    split at hmem
    · simp only [dropNewel, releaseFlight_newel, List.mem_filter, Bool.not_eq_true', Bool.and_eq_false_iff, beq_eq_false_iff_ne] at hmem
      refine ⟨hmem.1, fun x hx hxid hyid => ?_⟩
      rcases List.mem_cons.mp hx with rfl | hx
      · exact hmem.2.resolve_left (absurd hyid)
      · exact hl x hx hxid hyid
    · rename_i hne
      refine ⟨hmem, fun x hx hxid hyid => ?_⟩
      rcases List.mem_cons.mp hx with rfl | hx
      · exact absurd hxid hne
      · exact hl x hx hxid hyid

/-- No query of the search is left. -/
theorem queryId_searchOver (s : State) (q y : NewelQuery) (hy : y ∈ (searchOver s q).store.newel) : y.queryId ≠ q.queryId := by
  have hy' : y ∈ ((resultWritten s q).store.newel.foldl (dropMember q.queryId) (resultWritten s q)).store.newel := by
    unfold searchOver at hy
    dsimp only at hy
    split at hy
    · rwa [releaseFlight_newel] at hy
    · exact hy
  obtain ⟨hmem, hdrop⟩ := mem_foldl_dropMember _ _ _ _ hy'
  exact fun hid => hdrop y hmem hid hid rfl

/-- Where no query of the merge has a number, none is found under it. -/
theorem find_queryId_eq_none (l : List NewelQuery) (id : Nat) (p : NewelQuery → Bool) (h : ∀ y ∈ l, y.queryId ≠ id) :
    (l.find? fun y => y.queryId == id && p y) = none := by
  refine List.find?_eq_none.mpr fun y hy => ?_
  simp [h y hy]

end Sys2Proof.Machine

section
open Sys2Proof Sys2Proof.Machine Sys2Proof.Safety

/-- Settles O46: a SEARCH is judged by its checks and by admission; a root whose shards are all covered has nothing to reroute and decides, and at
its deadline it decides in any case; a rerank reorders the merged candidates and keeps the first; the result's block is the last write to host
memory before the command ends, and every query of the search's number goes. -/
theorem searchesRunAtTheRoot : Obligations.SearchesRunAtTheRoot := by
  refine ⟨fun s id st c hr hf => exec_search_fails s id st c hr hf, ?admission, ?merge, ?deadline, ?rerank, ?result⟩
  case admission =>
    intro s id c x hr u o q f hf hx hm
    have hrun := exec_search_unsharded s id c x hr hf hx hm
    refine ⟨fun st ha => ?_, fun v ha => ?_⟩
    all_goals
      change admitQuery _ (unshardedFlight (started s id) c x) = _ at ha
      rw [hrun, ha]
      rfl
  case merge =>
    intro s id tree sh q x hq hx hs hc hr hd h
    exact ⟨_, exec_localMerge_root s id tree sh q x hq hx hs hc hr hd, findNewel_rootCheck_ownShard s id tree sh q _ hq hd h⟩
  case deadline =>
    intro s id q hq hd hl
    exact ⟨_, exec_searchDeadline s id q hq hd hl, rfl, findRoot_modNewel { s with now := max s.now q.deadline } id q _ (fun _ => ⟨rfl, rfl⟩) hq, rfl⟩
  case rerank =>
    intro s id vecs q hq hd hk hr
    refine ⟨_, rerankKept s q vecs, exec_rerank s id vecs q hq hd hk hr, ?_, length_rerankKept s q vecs, mem_rerankKept s q vecs, ?_⟩
    · rw [findRoot_releaseFlight, findRoot_modNewel s id q (rerankedQuery s q vecs) (fun _ => ⟨rfl, rfl⟩) hq]
      rfl
    · rintro rfl
      exact rerankKept_nil s q
  case result =>
    intro s id q c hq hd hr hc hdone
    obtain rfl := (root_of_findRoot s id q hq).1
    obtain ⟨hvst, hhost⟩ := Prod.mk.inj (searchOver_vst_host s q)
    rw [resultWritten_vst] at hvst
    have hcmd : findCmd (searchOver s q) q.cmd = some c := by rw [findCmd, hvst]; exact hc
    refine ⟨_, exec_searchResultWrite s _ q hq hd hr, ended_finish _ _ _ _ _ _ _ _ (by rw [hcmd]; rfl) ?_, ?_, ?_, fun k => ?_⟩
    · rw [ended, hcmd]; exact hdone
    · have hblock := hostRead_resultWritten s q
      generalize searchBlock q = b at hblock ⊢
      exact (hostRead_congr (resultWritten s q) (finish _ _ _ _ _) _ _ hhost).trans hblock
    · exact find_queryId_eq_none _ _ NewelQuery.isRoot (queryId_searchOver s q)
    · exact find_queryId_eq_none _ _ (fun y => y.tree == k) (queryId_searchOver s q)

end

/-! ## VCOMB into a vector register of too few bytes -/

namespace Sys2Proof.Machine

open Sys2Proof.Safety

/-- A vector register reads back as it was written. -/
@[simp] theorem getV_putV (s : State) (u i : Nat) (b : List Byte) : getV (putV s u i b) u i = b := by
  simp only [getV, putV, usher, modUsher, tmod, tget_tset_same]

/-- The end of an instruction leaves the vector registers. -/
@[simp] theorem getV_advanced (s r : State) (u w i : Nat) : getV (advanced s r u w) u i = getV r u i := by
  simp only [getV, advanced, retired, usher, addR_ushers, modUsher, tmod, tget_tset_same]

/-- A vector register after an instruction that goes on. -/
def vectorAfter (o : Out) (u i : Nat) : List Byte :=
  match o with
  | .next t => getV t u i
  | _ => []

/-- The bytes that a load answers. -/
def loadAnswer (r : UStep (List Byte)) : List Byte :=
  match r with
  | .ok _ b => b
  | .fault _ _ => []

/-- A load that answers bytes succeeds with them. -/
theorem ok_of_loadAnswer (r : UStep (List Byte)) (b : List Byte) (h : loadAnswer r = b) (hb : b ≠ []) : ∃ t, r = .ok t b := by
  cases r with
  | ok t x => exact ⟨t, congrArg (UStep.ok t) h⟩
  | fault t f => exact absurd h.symm hb

/-- VCOMB of INT32 lanes into v1 under p1: the partials at s2, their count in s3, their stride in s4. -/
def vcombWord : Nat := 1 + 4 * 2 + 1 * 2 ^ 7 + 2 * 2 ^ 12 + 3 * 2 ^ 17 + 4 * 2 ^ 22 + 1 * 2 ^ 27 + 2 * 2 ^ 32

/-- Usher 0 at that instruction: one partial at 0x2000, p1 takes lane 1 alone, and the data of v1 lists no byte at all. -/
def atVcomb : Usher :=
  { resetUsher with
    st := .running, pc := 0x1000, icache := [(64, bytesOf 64 vcombWord)], s := [(2, 0x2000), (3, 1), (4, 64)], p := [(1, 16)], v := [(1, [])] }

/-- A sound line of ones. -/
def lineOfOnes : CLine := ⟨.e, List.replicate 64 1, false, 0⟩

/-- The reset device with that Usher, whose L1 holds the partial. -/
def emptyTarget : State :=
  [128, 129, 130, 131].foldl (fun t l => setCache t 0 l (some lineOfOnes)) { State.reset with ushers := [(0, atVcomb)] }

/-- The instruction is fetched from the instruction cache. -/
theorem atInsn_emptyTarget : atInsn emptyTarget 0 .vcomb emptyTarget vcombWord :=
  ⟨by decide, by decide, by rfl, by decide⟩

set_option maxRecDepth 2000 in
/-- The partial is 256 ones. -/
theorem load_emptyTarget : ∃ r, loadBytes emptyTarget 0 (getS emptyTarget 0 (bits vcombWord 12 5)) 256 = .ok r (List.replicate 256 1) :=
  ok_of_loadAnswer _ _ (by decide) (by decide)

/-- VCOMB writes the four bytes of lane 1 and nothing before them, since the old lane 0 has no bytes. -/
theorem vcomb_emptyTarget : vectorAfter (exec (.vcomb 0) emptyTarget) 0 (fD vcombWord) = List.replicate 4 1 := by decide

end Sys2Proof.Machine

section
open Sys2Proof Sys2Proof.Machine Sys2Proof.Safety

/-- Refutes O17: the clause about VCOMB over one partial does not ask that the old value of the destination has its 256 bytes. In `emptyTarget` it
has none, and the guard takes lane 1 alone: the lane's bytes come first in the register, so that its place reads 0. -/
theorem not_ushersSelectAndCombine : ¬ Obligations.UshersSelectAndCombine := by
  unfold Obligations.UshersSelectAndCombine
  rintro ⟨-, -, onePartial, -⟩
  obtain ⟨r, hload⟩ := load_emptyTarget
  obtain ⟨v, hexec, hlanes⟩ := onePartial emptyTarget emptyTarget r 0 vcombWord _ atInsn_emptyTarget (by decide) (by decide) (by decide)
    (by decide) (by decide) (by decide) (by decide) hload List.length_replicate
  have hv : v = List.replicate 4 1 := by
    have h := vcomb_emptyTarget
    rw [hexec] at h
    simpa only [vectorAfter, getV_advanced, getV_putV] using h
  have hlane := hlanes 1 (by decide) (by decide)
  rw [hv] at hlane
  exact absurd hlane (by decide)

end

/-! ## Searches merged across devices -/

namespace Sys2Proof.Machine

open Sys2Proof.Safety

/-! ### A message of a port is taken (R123) -/

section

variable {s s1 : State} {p : Nat} {b : List Byte}

/-- A QUERY that is taken is counted as malformed, or checked and served. -/
theorem exec_query (h : takeMsg s p 2 1 = some (b, s1)) :
    exec (.query p) s = .next (if wellFormedMsg b then takeQuery s1 p b else countMalformed s1 p) := by
  show execQuery p s = _
  rw [execQuery, h]

/-- A RESULT that is taken is counted as malformed, or checked and merged. -/
theorem exec_result (h : takeMsg s p 3 2 = some (b, s1)) :
    exec (.result p) s = .next (if wellFormedMsg b then resultBody' s1 p b else countMalformed s1 p) := by
  show execResult p s = _
  rw [execResult, h]

/-- A malformed NOTICE is counted. -/
theorem exec_notice_malformed (h : takeMsg s p 4 3 = some (b, s1)) (hb : wellFormedMsg b = false) :
    exec (.notice p) s = .next (countMalformed s1 p) := by
  show execNotice p s = _
  simp only [execNotice, h, hb, Bool.not_false, if_true]

/-- A NOTICE that passes every check is heard. -/
theorem exec_notice_sound (h : takeMsg s p 4 3 = some (b, s1)) (hb : wellFormedMsg b = true) (hf : msgFail s1 p (readHead b) = none) :
    exec (.notice p) s = .next (takeNotice s1 (readHead b) b) := by
  show execNotice p s = _
  simp only [execNotice, h, hb, hf, Bool.not_true, Bool.false_eq_true, if_false]

/-- A malformed REFUSAL is counted. -/
theorem exec_refusal_malformed (h : takeMsg s p 4 4 = some (b, s1)) (hb : wellFormedMsg b = false) :
    exec (.refusal p) s = .next (countMalformed s1 p) := by
  show execRefusal p s = _
  simp only [execRefusal, h, hb, Bool.not_false, if_true]

/-- A REFUSAL that passes every check and names shards refuses them here. -/
theorem exec_refusal_sound (h : takeMsg s p 4 4 = some (b, s1)) (hb : wellFormedMsg b = true) (hf : msgFail s1 p (readHead b) = none)
    (hn : bitmapAt b 64 (readHead b).lines ≠ 0) :
    exec (.refusal p) s = .next (refuseHere s1 (readHead b) (readHead b).status (bitmapAt b 64 (readHead b).lines)) := by
  show execRefusal p s = _
  simp only [execRefusal, h, hb, hf, hn, Bool.not_true, Bool.false_eq_true, if_false]

/-- A DISCARD that is taken is counted as malformed, or as told late, or changes nothing more. -/
theorem exec_discard (h : takeMsg s p 4 5 = some (b, s1)) :
    exec (.discard p) s = .next (if wellFormedMsg b then if (readHead b).status = 0x0505 then addR s1 .nwlLateTold 1 else s1
      else countMalformed s1 p) := by
  show execDiscard p s = _
  rw [execDiscard, h]
  cases hb : wellFormedMsg b <;> simp only [hb, Bool.not_true, Bool.not_false, Bool.false_eq_true, if_true, if_false]

end

/-! ### QUERY (R117, R118) -/

/-- A QUERY that fails a check is counted and refused with its status. -/
theorem takeQuery_refused (s : State) (p st : Nat) (b : List Byte) (hf : msgFail s p (readHead b) = some st) :
    takeQuery s p b = refuseMsg (countMsg s st) p b (readHead b) st := by
  simp only [takeQuery, hf]

/-- A member without children sends a QUERY no further. -/
theorem sendDown_of_no_children (s : State) (q : NewelQuery) (t : Tree) (want : Nat) (select : Option Nat)
    (hc : t.children (deviceIndex s) = []) : sendDown s q t want select = s := by
  simp only [sendDown, forwardQuery, childPorts, hc, List.map_nil, List.foldl_nil, if_true]

/-- This device's index is read off the registers. -/
theorem deviceIndex_congr {s t : State} (h : t.regs = s.regs) : deviceIndex t = deviceIndex s := by
  rw [deviceIndex, deviceIndex, fieldR, fieldR, getR, getR, h]

/-- Counting for an account leaves this device's index: the accounts' blocks of 64 bytes never set a counter where it lies. -/
theorem deviceIndex_addR (s : State) (r : Reg) (n i : Nat) (hs : (regSpec r).stride = 64) (hb : (regSpec r).base % 64 ≠ 0) :
    deviceIndex (addR s r n i) = deviceIndex s := by
  have hk : regKey 0 .mrqDeviceIndex 0 0 ≠ regKey 0 r i 0 := by
    have hd : regKey 0 .mrqDeviceIndex 0 0 = 0x3400080 := rfl
    rw [hd, regKey, regOff, hs]
    omega
  rw [deviceIndex, fieldR, getR_addR_other _ _ _ _ _ _ _ _ _ _ hk]
  rfl

/-- Counting an outcome leaves this device's index. -/
theorem deviceIndex_countOutcome (s : State) (q : Query) (st : Nat) : deviceIndex (countOutcome s q st) = deviceIndex s := by
  unfold countOutcome
  dsimp only
  split
  · exact deviceIndex_addR _ _ _ _ rfl (by decide)
  split
  · exact deviceIndex_addR _ _ _ _ rfl (by decide)
  split
  · exact deviceIndex_addR _ _ _ _ rfl (by decide)
  split
  · exact deviceIndex_addR _ _ _ _ rfl (by decide)
  · rfl

/-- Leaving a Landing leaves the registers. -/
theorem leaveLanding_regs (s : State) (h ctx : Nat) : (leaveLanding s h ctx).regs = s.regs := by
  rw [leaveLanding]
  split <;> rfl

/-- Ending a flight leaves the registers. -/
theorem endQuery_regs (s : State) (ctx st : Nat) : (endQuery s ctx st).regs = s.regs := by
  rw [endQuery]
  split
  · rfl
  · dsimp only [dropQuery, gcPermits]
    exact foldl_keeps State.regs (fun t h => leaveLanding t h ctx) (fun t h => leaveLanding_regs t h ctx) (List.range 16) s

/-- Shedding flights leaves this device's index. -/
theorem deviceIndex_shedAll {s t : State} {q : Query} {hs : List Nat} (h : shedAll s q hs = some t) : deviceIndex t = deviceIndex s := by
  fun_induction shedAll s q hs with
  | case1 s => cases h; rfl
  | case2 s a hs _ ih => exact ih h
  | case3 s a hs _ _ => cases h
  | case4 s a hs _ v _ ih => exact (ih h).trans ((deviceIndex_congr (endQuery_regs ..)).trans (deviceIndex_countOutcome ..))

/-- Placing a flight leaves the registers. -/
theorem placeFlight_regs (s : State) (q : Query) (hs : List Nat) : (placeFlight s q hs).regs = s.regs := by
  refine (foldl_keeps State.regs _ ?_ _ _).trans ((foldl_keeps State.regs _ ?_ _ _).trans ?_) <;> intros <;> rfl

/-- Admission leaves this device's index. -/
theorem deviceIndex_admitOwn {s t : State} {q : Query} {own : Bool} (h : admitOwn s q own = .ok t) : deviceIndex t = deviceIndex s := by
  simp only [admitOwn, admitQuery] at h
  split at h
  case isTrue =>
    split at h
    · cases h
    · split at h
      · cases h
      · cases h
        exact (deviceIndex_congr (placeFlight_regs ..)).trans (deviceIndex_shedAll ‹_›)
  case isFalse =>
    split at h
    · cases h
    · cases h; rfl

/-- A member's record of a QUERY, with the context of its own flight where it serves a wanted shard. -/
def receivedQuery (s : State) (p : Nat) (b : List Byte) (m : Member) (t : Tree) : NewelQuery :=
  { memberQuery s p b (readHead b) m t with
    ctx := if (memberQuery s p b (readHead b) m t).ownShard.isSome then some s.store.nextCtx else none }

/-- The flight of that record. -/
def receivedFlight (s : State) (p : Nat) (b : List Byte) (m : Member) (t : Tree) : Query :=
  let q := receivedQuery s p b m t
  newelFlight s q 128 (peerPrio s q.coll) (some (sendLimitOf q))

/-- A leaf of the tree that admits a QUERY holds its record, and judges it at once. -/
theorem takeQuery_leaf (s v : State) (p : Nat) (b : List Byte) (t : Tree) (m : Member) (hf : msgFail s p (readHead b) = none)
    (ht : msgTree s (readHead b) = some t) (hm : t.member (deviceIndex s) = some m) (hc : t.children (deviceIndex s) = [])
    (hn : findNewel s (readHead b).queryId (readHead b).tree = none)
    (ha : admitOwn (if (receivedQuery s p b m t).ownShard.isSome then bumpCtx s else s) (receivedFlight s p b m t)
      (receivedQuery s p b m t).ownShard.isSome = .ok v) :
    takeQuery s p b = settleFlights
      (memberCheck (addNewel v (receivedQuery s p b m t)) (receivedQuery s p b m t).queryId (receivedQuery s p b m t).tree) := by
  have hv : deviceIndex v = deviceIndex s := by
    rw [deviceIndex_admitOwn ha]
    split <;> rfl
  have hc' : t.children (deviceIndex (addNewel v (receivedQuery s p b m t))) = [] := by
    rw [show deviceIndex (addNewel v _) = deviceIndex v from rfl, hv, hc]
  simp only [takeQuery, hf, ht, hm, hn, Option.isSome_none, Bool.false_eq_true, if_false]
  split
  case h_1 st he => cases he.symm.trans ha
  case h_2 u hu =>
    obtain rfl : u = v := Except.ok.inj (hu.symm.trans ha)
    exact congrArg (fun x => settleFlights (memberCheck x (receivedQuery s p b m t).queryId (receivedQuery s p b m t).tree))
      (sendDown_of_no_children _ (receivedQuery s p b m t) t _ _ hc')

/-! ### What is known of a shard after a mark -/

/-- A mark reaches the shards of its bitmap that are not covered. -/
theorem shard_mark (q : NewelQuery) (b i : Nat) (st : ShardState) :
    (q.mark b st).shard i = if i ∈ bitmapShards q.shardCount b ∧ (q.shard i).isCovered = false then st else q.shard i := by
  -- Written out, so that the test of the `if` names the table that the induction varies.
  show tget (fun _ => .unsettled) (List.foldl _ q.shards (bitmapShards q.shardCount b)) i =
    if i ∈ bitmapShards q.shardCount b ∧ (tget (fun _ => ShardState.unsettled) q.shards i).isCovered = false then st
    else tget (fun _ => .unsettled) q.shards i
  generalize bitmapShards q.shardCount b = l
  generalize q.shards = t
  induction l generalizing t with
  | nil => simp
  | cons j l ih =>
    rw [List.foldl_cons, ih]
    by_cases hc : (tget (fun _ => ShardState.unsettled) t j).isCovered = true
    · rw [if_pos hc]
      by_cases hj : i = j
      · subst hj
        rw [if_neg fun h => Bool.false_ne_true (h.2.symm.trans hc), if_neg fun h => Bool.false_ne_true (h.2.symm.trans hc)]
      · simp only [List.mem_cons, hj, false_or]
    · rw [if_neg hc]
      by_cases hj : i = j
      · subst hj; simp [hc]
      · simp [hj, tget_tput_other _ _ _ _ _ hj]

/-- A shard that a mark names is covered already, or takes the mark. -/
theorem covered_or_marked (q : NewelQuery) (b i : Nat) (st : ShardState) (h : i ∈ bitmapShards q.shardCount b) :
    (q.shard i).isCovered = true ∨ (q.mark b st).shard i = st := by
  rw [shard_mark]
  cases hc : (q.shard i).isCovered with
  | true => exact .inl rfl
  | false => exact .inr (if_pos ⟨h, rfl⟩)

/-- Marking twice is marking once, to each shard. -/
theorem shard_mark_mark (q : NewelQuery) (b i : Nat) (st : ShardState) : ((q.mark b st).mark b st).shard i = (q.mark b st).shard i := by
  rw [shard_mark, ite_eq_right_iff]
  rintro ⟨hi, hc⟩
  refine ((covered_or_marked q b i st hi).resolve_left fun h => ?_).symm
  rw [shard_mark, if_neg (by simp [h]), h] at hc
  cases hc

/-- A query that is changed reads back as changed. -/
theorem findNewel_changed {s : State} {id tree : Nat} {q : NewelQuery} (f : NewelQuery → NewelQuery) (hq : findNewel s id tree = some q)
    (hf : ∀ x, (f x).queryId = x.queryId ∧ (f x).tree = x.tree) : findNewel (modNewel s id tree f) id tree = some (f q) :=
  (findNewel_modNewel s id tree f hf).trans (congrArg (Option.map f) hq)

/-! ### A root without a fallback tree (R128, R134) -/

/-- Without a fallback tree nothing is rerouted (R134). -/
theorem reroute_of_no_fallback (s : State) (q : NewelQuery) (h : ∀ t, newelTree s q = some t → t.fallback = 0xFF) : reroute s q = s := by
  unfold reroute
  split
  · rfl
  · exact if_pos (.inl (h _ ‹_›))

/-- Judging a root without a fallback tree can only decide its query (R128). -/
theorem findNewel_rootCheck_of_no_fallback (s : State) (id tree : Nat) (q : NewelQuery) (hq : findNewel s id tree = some q)
    (hd : q.decided = false) (h : ∀ t, newelTree s q = some t → t.fallback = 0xFF) :
    findNewel (rootCheck s id tree) id tree = some { q with decided := q.rootDone } := by
  simp only [rootCheck, hq, hd, reroute_of_no_fallback s q h, Bool.false_eq_true, if_false]
  cases hr : q.rootDone with
  | true =>
    rw [if_pos rfl]
    exact findNewel_changed _ hq fun _ => ⟨rfl, rfl⟩
  | false => rw [if_neg Bool.false_ne_true, hq, ← hd]

section

variable {s : State} {q : NewelQuery} (hq : findNewel s q.queryId q.tree = some q) (hr : q.isRoot = true) (hd : q.decided = false)
  (hf : ∀ t, newelTree s q = some t → t.fallback = 0xFF)
include hq hr hd hf

/-- Lost shards are marked at a root without a fallback tree, and its merge stays (R133). -/
theorem findNewel_markLost_root (b : Nat) :
    ∃ r, findNewel (markLost s q b) q.queryId q.tree = some r ∧ r.merged = q.merged ∧
      ∀ i ∈ bitmapShards q.shardCount b, (q.shard i).isCovered = true ∨ r.shard i = .lost := by
  have hmarked := findNewel_changed (fun x => x.mark b .lost) hq fun _ => ⟨rfl, rfl⟩
  simp only [markLost, judge, hr, if_true]
  exact ⟨_, findNewel_rootCheck_of_no_fallback _ _ _ _ hmarked hd hf, rfl, fun i hi => covered_or_marked q b i .lost hi⟩

/-- Refused shards are marked at a root without a fallback tree, and its merge stays (R118). -/
theorem findNewel_markRefused_root (hroot : findRoot s q.queryId = some q) (b st : Nat) :
    ∃ r, findNewel (markRefused s q b st) q.queryId q.tree = some r ∧ r.merged = q.merged ∧
      ∀ i ∈ bitmapShards q.shardCount b, (q.shard i).isCovered = true ∨ r.shard i = .refused st := by
  have hmarked := findNewel_changed (fun x => x.mark b (.refused st)) hq fun _ => ⟨rfl, rfl⟩
  by_cases hp : q.parentPort = 255
  · -- The root's own record is found again under its number, and takes the same mark once more.
    have hroot' : findRoot (modNewel s q.queryId q.tree fun x => x.mark b (.refused st)) q.queryId = some (q.mark b (.refused st)) :=
      findRoot_modNewel s q.queryId q (fun x => x.mark b (.refused st)) (fun _ => ⟨rfl, rfl⟩) hroot
    have htwice := findNewel_changed (fun x => x.mark b (.refused st)) hmarked fun _ => ⟨rfl, rfl⟩
    simp only [markRefused, hr, hp, true_or, if_true, hroot']
    exact ⟨_, findNewel_rootCheck_of_no_fallback _ _ _ _ htwice hd hf, rfl,
      fun i hi => (covered_or_marked q b i (.refused st) hi).imp_right (shard_mark_mark q b i (.refused st)).trans⟩
  · simp only [markRefused, judge, hr, hp, true_or, if_true, if_false]
    exact ⟨_, findNewel_rootCheck_of_no_fallback _ _ _ _ hmarked hd hf, rfl, fun i hi => covered_or_marked q b i (.refused st) hi⟩

end

/-- With nothing rerouted and nothing covered again, the shards of a LOST notice are lost at a root that still waits. -/
theorem takeNotice_lost (s : State) (h : NewelHead) (b : List Byte) (q : NewelQuery) (hq : recordFor s h = some q)
    (hd : q.decided = false) (hre : q.rerouted = 0) (hc : numAt b 64 1 = 2) (hn : clearBits (bitmapAt b 128 h.lines) q.covered ≠ 0) :
    takeNotice s h b = markLost s q (clearBits (bitmapAt b 128 h.lines) q.covered) := by
  simp only [takeNotice, hq, hd, hre, hc, hn, clearBits_zero, ite_self, Bool.false_eq_true, and_false, or_self, if_false, if_true]

/-- With nothing rerouted, shards of which one is not covered are refused at a root that still waits. -/
theorem refuseHere_waiting (s : State) (h : NewelHead) (st b : Nat) (q : NewelQuery) (hq : recordFor s h = some q)
    (hd : q.decided = false) (hre : q.rerouted = 0) (hn : clearBits b q.covered ≠ 0) : refuseHere s h st b = markRefused s q b st := by
  simp only [refuseHere, hq, hd, hre, hn, clearBits_zero, ite_self, Bool.false_eq_true, and_false, or_self, if_false]

/-! ### RESULT at the root (R124, R128, R129, R135) -/

/-- A RESULT for a query that waits at its root is merged or is a duplicate. -/
theorem resultBody'_root (s : State) (p : Nat) (b : List Byte) (q : NewelQuery) (hf : msgFail s p (readHead b) = none)
    (hq : recordFor s (readHead b) = some q) (hr : q.isRoot = true) (hd : q.decided = false) (hl : s.now ≤ q.deadline) :
    resultBody' s p b = mergeResult s q b (bitmapAt b 128 (readHead b).lines) := by
  simp only [resultBody', hf, hq, Option.isNone_some, Bool.false_eq_true, false_and, if_false, takeResult, hr, hd, Nat.not_lt.mpr hl, or_self,
    if_true]

/-- A RESULT for a query that its root holds no more is late. -/
theorem resultBody'_late (s : State) (p : Nat) (b : List Byte) (hf : msgFail s p (readHead b) = none)
    (hq : recordFor s (readHead b) = none) (hid : (readHead b).queryId % 4096 = deviceIndex s) :
    resultBody' s p b = lateResult s p (readHead b) := by
  simp only [resultBody', hf, hq, hid, ne_eq, not_true_eq_false, false_and, and_false, if_false, takeResult]

/-- The root decides with a contribution that covers every shard that was open (R128). -/
theorem findNewel_rootCheck_contribution (s : State) (id tree cover : Nat) (q : NewelQuery) (m : Merged)
    (hq : findNewel s id tree = some (takeContribution q m cover)) (hd : q.decided = false)
    (h : ∀ i ∈ bitmapShards q.shardCount q.subtree, bit cover i = true ∨ (q.shard i).isCovered = true) :
    rootCheck s id tree = modNewel s id tree (fun x => { x with decided := true }) ∧
      findNewel (rootCheck s id tree) id tree = some { takeContribution q m cover with decided := true } := by
  have hcov : ∀ i ∈ bitmapShards q.shardCount q.subtree, ((takeContribution q m cover).shard i).isCovered = true := fun i hi =>
    isCovered_mark q cover i ((h i hi).imp_left fun hb => (mem_bitmapShards _ _ _).mpr ⟨((mem_bitmapShards _ _ _).mp hi).1, hb⟩)
  have hroot := rootCheck_of_covered s id tree _ hq hd hcov
  exact ⟨hroot, hroot ▸ findNewel_changed (fun x => { x with decided := true }) hq fun _ => ⟨rfl, rfl⟩⟩

/-- A RESULT that covers every shard that was open is merged and counted, and the root decides. -/
theorem mergeResult_last (s : State) (q : NewelQuery) (b : List Byte) (cover : Nat) (hq : findNewel s q.queryId q.tree = some q)
    (hr : q.isRoot = true) (hd : q.decided = false) (hc : cover &&& q.covered = 0)
    (h : ∀ i ∈ bitmapShards q.shardCount q.subtree, bit cover i = true ∨ (q.shard i).isCovered = true) :
    getR (mergeResult s q b cover) .nwlMerged = (getR s .nwlMerged + 1) % 2 ^ 64 ∧
      findNewel (mergeResult s q b cover) q.queryId q.tree =
        some { takeContribution q (readMerged b (readHead b).lines) cover with decided := true } := by
  have hmerged := findNewel_changed (s := addR s .nwlMerged 1) (fun x => takeContribution x (readMerged b (readHead b).lines) cover) hq
    fun _ => ⟨rfl, rfl⟩
  obtain ⟨hroot, hfind⟩ := findNewel_rootCheck_contribution _ _ _ cover q _ hmerged hd h
  simp only [mergeResult, hc, ne_eq, not_true_eq_false, if_false, judge, hr, if_true]
  exact ⟨by rw [hroot, getR_modNewel, getR_modNewel, getR_addR_same]; rfl, hfind⟩

/-! ### SEND_LIMIT and DEADLINE_AT_SHARD (R126, R60) -/

/-- What is found of a query has its number and its tree. -/
theorem key_of_findNewel (s : State) (id tree : Nat) (q : NewelQuery) (h : findNewel s id tree = some q) : q.queryId = id ∧ q.tree = tree := by
  simpa using List.find?_some h

/-- The member's query once its RESULT is sent: marked, and its flight released where nothing more is to come of it (R60). -/
def markedSent (s : State) (q : NewelQuery) : State :=
  let t := modNewel s q.queryId q.tree fun x => { x with sent := true }
  if q.rerankK = 0 ∧ q.ownCovered then releaseFlight t q else t

/-- Marking a query as sent changes the store alone. -/
theorem markedSent_frame (s : State) (q : NewelQuery) : markedSent s q = { s with store := (markedSent s q).store } := by
  simp only [markedSent]
  split
  · rw [releaseFlight_frame]; rfl
  · rfl

/-- The merge's queries after the mark. -/
theorem markedSent_newel (s : State) (q : NewelQuery) :
    (markedSent s q).store.newel = (modNewel s q.queryId q.tree fun x => { x with sent := true }).store.newel := by
  simp only [markedSent]
  split
  · exact releaseFlight_newel ..
  · rfl

/-- The RESULT of a member: what it has merged, with the shards that it covers and those that are late (R122, R126). -/
def resultOf (s : State) (q : NewelQuery) : List Byte :=
  headBytes (newelHead s q 2 (4 * b2n (decide (q.rerankK ≠ 0))) 0) 0 ++
    resultBody q q.merged (q.bitmap ShardState.isCovered) (q.bitmap fun x => match x with | .late _ => true | _ => false)

/-- A member whose parent's port carries its level sends its RESULT there on VC 3, and counts it (R119, R126). -/
theorem memberSend_carried (s : State) (q : NewelQuery) (hp : q.parentPort ≠ 255) (hc : carries s q.parentPort q.level = true) :
    memberSend s q = addR (sendOn (markedSent s q) q.parentPort 3 (resultOf s q)) .nwlResultsSent 1 := by
  have hc' : carries (markedSent s q) q.parentPort q.level = true := by rw [markedSent_frame]; exact hc
  simp only [markedSent] at hc'
  simp only [memberSend, hp, if_false, hc', if_true]
  rfl

/-- A payload that is put into a send queue waits behind what was there (R413). -/
theorem waitingOn_sendOn (s : State) (p v : Nat) (b : List Byte) : (portOf (sendOn s p v b) p).waitingOn v = (portOf s p).waitingOn v ++ [b] := by
  simp only [sendOn, modPort, portOf, tget_tset_same, Port.waitingOn, tmod]

/-- At its limit a member with children sends, if it has not. -/
theorem exec_sendLimit (s : State) (id tree : Nat) (q : NewelQuery) (t : Tree) (hq : findNewel s id tree = some q) (hr : q.isRoot = false)
    (hs : q.sent = false) (hp : q.parentPort ≠ 255) (ht : newelTree s q = some t) (hk : t.children (deviceIndex s) ≠ []) :
    exec (.sendLimit id tree) s = .next (memberSend { s with now := max s.now (sendLimitOf q) } q) := by
  show execSendLimit id tree s = _
  simp [execSendLimit, hq, hr, hs, hp, ht, hk]

/-- A member without a flight of its own forgets a query at its deadline. -/
theorem exec_deadlineAtShard (s : State) (id tree : Nat) (q : NewelQuery) (hq : findNewel s id tree = some q) (hr : q.isRoot = false)
    (hc : q.ctx = none) : exec (.deadlineAtShard id tree) s = .next (dropNewel { s with now := max s.now (q.deadline + 1) } id tree) := by
  show execDeadlineAtShard id tree s = _
  simp [execDeadlineAtShard, hq, hr, hc, ownRecords, releaseFlight]

/-- A query that is dropped is found no more. -/
theorem findNewel_dropNewel (s : State) (id tree : Nat) : findNewel (dropNewel s id tree) id tree = none := by
  rw [findNewel, List.find?_eq_none]
  intro x hx
  have hkept := (List.mem_filter.mp hx).2
  cases hk : x.queryId == id && x.tree == tree with
  | true => rw [hk] at hkept; cases hkept
  | false => exact Bool.false_ne_true

end Sys2Proof.Machine

section
open Sys2Proof Sys2Proof.Machine Sys2Proof.Safety

/-- Settles O47: each message is a lemma about its instruction. A leaf has no children to forward to, and its admission leaves its device
index; a root merges or marks, and judges: with every shard covered it decides, and without a fallback tree there is nothing to reroute. -/
theorem searchesMergeAcrossDevices : Obligations.SearchesMergeAcrossDevices := by
  refine ⟨?malformed, ?query, ?result, ?late, ?lost, ?refused, ?discard, ?limit, ?deadline⟩
  case malformed =>
    intro s s1 p b hb
    have hnot : ¬ wellFormedMsg b = true := Bool.eq_false_iff.mp hb
    exact ⟨fun h => by rw [exec_query h, if_neg hnot], fun h => by rw [exec_result h, if_neg hnot], fun h => exec_notice_malformed h hb,
      fun h => exec_refusal_malformed h hb, fun h => by rw [exec_discard h, if_neg hnot]⟩
  case query =>
    intro s s1 p b hb h
    rw [exec_query h, if_pos hb]
    exact ⟨fun st hf => congrArg _ (takeQuery_refused s1 p st b hf),
      fun t m hf ht hm hc hn v ha => congrArg _ (takeQuery_leaf s1 v p b t m hf ht hm hc hn ha)⟩
  case result =>
    intro s s1 p b q hb h head cover hf hq hfind hr hd hl
    rw [exec_result h, if_pos hb, resultBody'_root s1 p b q hf hq hr hd hl]
    refine ⟨fun hc => ⟨addR s1 .nwlDuplicates 1, ?_, getR_addR_same .., rfl⟩, fun hc hcov => ⟨_, rfl, ?_⟩⟩
    · rw [mergeResult, if_pos hc]
    · exact mergeResult_last s1 q b cover hfind hr hd hc hcov
  case late =>
    intro s s1 p b hb h head hf hq hid ha
    rw [exec_result h, if_pos hb, resultBody'_late s1 p b hf hq hid, lateResult, if_neg (Bool.eq_false_iff.mp ha)]
  case lost =>
    intro s s1 p b q hb h head sh hf hq hfind hr hd hre hfb hc hn
    obtain ⟨r, hr', hm, hi⟩ := findNewel_markLost_root hfind hr hd hfb sh
    exact ⟨_, r, by rw [exec_notice_sound h hb hf, takeNotice_lost s1 head b q hq hd hre hc hn], hr', hm,
      fun i hlt hbit => hi i ((mem_bitmapShards _ _ _).mpr ⟨hlt, hbit⟩)⟩
  case refused =>
    intro s s1 p b q hb h head sh hf hq hfind hroot hr hd hre hfb hne hn
    obtain ⟨r, hr', hm, hi⟩ := findNewel_markRefused_root hfind hr hd hfb hroot sh head.status
    exact ⟨_, r, by rw [exec_refusal_sound h hb hf hne, refuseHere_waiting s1 head _ sh q hq hd hre hn], hr', hm,
      fun i hlt hbit => hi i ((mem_bitmapShards _ _ _).mpr ⟨hlt, hbit⟩)⟩
  case discard =>
    intro s s1 p b hb h
    rw [exec_discard h, if_pos hb]
  case limit =>
    intro s id tree q tr hq hr hs hp ht hk hc
    obtain ⟨rfl, rfl⟩ := key_of_findNewel s id tree q hq
    refine ⟨_, (exec_sendLimit s _ _ q tr hq hr hs hp ht hk).trans (congrArg _ (memberSend_carried _ q hp hc)), ?_, ?_, ?_, ?_⟩
    · show (markedSent _ q).now = _
      rw [markedSent_frame]
    · show (markedSent _ q).store.newel.find? _ = _
      rw [markedSent_newel]
      exact findNewel_changed (s := { s with now := _ }) (fun x => { x with sent := true }) hq fun _ => ⟨rfl, rfl⟩
    · rw [getR_addR_same, markedSent_frame]
      rfl
    · refine (waitingOn_sendOn ..).trans ?_
      rw [markedSent_frame]
      rfl
  case deadline =>
    intro s id tree q hq hr hc
    exact ⟨_, exec_deadlineAtShard s id tree q hq hr hc, rfl, findNewel_dropNewel .., rfl⟩

end

/-! ## The Lantern's windows and descriptors -/

namespace Sys2Proof.Machine

open Sys2Proof.Safety

/-! ### The close of a window (R213) -/

/-- A register shows a bit that was set in it, inside its width. -/
theorem bit_or_two_pow_mod (x n w : Nat) (h : n < w) : bit ((x ||| 2 ^ n) % 2 ^ w) n = true := by
  have ht : ((x ||| 2 ^ n) % 2 ^ w).testBit n = true := by
    simp only [Nat.testBit_mod_two_pow, Nat.testBit_or, Nat.testBit_two_pow_self, h, decide_true, Bool.or_true, Bool.and_true]
  rw [Nat.testBit_eq_decide_div_mod_eq] at ht
  exact beq_iff_eq.mpr (of_decide_eq_true ht)

/-- LNT_EVENTS shows a bit that an event of the core set. -/
theorem bit_lntEvents_two_pow (s : State) (c n : Nat) (h : n < 32) : bit (getR (lntEvent s c (2 ^ n)) .lntEvents c) n = true := by
  have hk : 0x140000 ≤ regKey 0 .lntEvents c 0 := le_regKey_of_base 0 c 0 (by decide)
  rw [lntEvent, getR_setSticky_above _ _ _ _ _ _ _ _ _ hk, getR_setR_same]
  exact bit_or_two_pow_mod _ n 32 h

/-- Of the registers above the functions' blocks, an event of a core writes LNT_EVENTS alone. -/
theorem getR_lntEvent_other (s : State) (c m : Nat) (q : Reg) (a b g : Nat) (hk : 0x140000 ≤ regKey g q a b)
    (h : regKey g q a b ≠ regKey 0 .lntEvents c 0) : getR (lntEvent s c m) q a b g = getR s q a b g := by
  rw [lntEvent, getR_setSticky_above _ _ _ _ _ _ _ _ _ hk, getR_setR_other _ _ _ _ _ _ _ _ _ _ h]

/-- A group counter of a core lies apart from the core's registers below the counters. -/
theorem regKey_lntCount_ne {q : Reg} (c g : Nat) (h1 : (regSpec q).stride = 0x10000) (h2 : (regSpec q).base < 0x2400400) :
    regKey 0 .lntCount c g ≠ regKey 0 q c 0 := by
  have hb : (regSpec .lntCount).base = 0x2400400 := rfl
  have hs : (regSpec .lntCount).stride = 0x10000 := rfl
  simp only [regKey, regOff, hb, hs, h1]
  omega

/-- The group counters of a core lie apart from each other. -/
theorem regKey_lntCount_inj (c g b : Nat) (h : g ≠ b) : regKey 0 .lntCount c g ≠ regKey 0 .lntCount c b := by
  have hs : (regSpec .lntCount).stride2 = 4 := rfl
  simp only [regKey, regOff, hs]
  omega

/-- The state in which LNT_COUNT shows a bank of group counts. -/
def countsShown (s : State) (c : Nat) (bank : Tbl Nat) : State :=
  (List.range 256).foldl (fun t g => setR t .lntCount (tget (fun _ => 0) bank g) c g) s

/-- Showing a bank leaves the cores. -/
@[simp] theorem lcore_countsShown (s : State) (c k : Nat) (bank : Tbl Nat) : lcore (countsShown s c bank) k = lcore s k :=
  lcore_congr (foldl_keeps State.cores _ (fun _ _ => setR_cores ..) _ s) k

/-- Showing a bank takes no time. -/
theorem countsShown_now (s : State) (c : Nat) (bank : Tbl Nat) : (countsShown s c bank).now = s.now :=
  foldl_keeps State.now _ (fun _ _ => setR_now ..) _ s

/-- A group counter that was set reads as the count in its 32 bits. -/
theorem getR_setR_lntCount (s : State) (c g v : Nat) : getR (setR s .lntCount v c g) .lntCount c g = v % 2 ^ 32 := by
  rw [getR_setR_same]
  rfl

/-- Each of the 256 counters shows its count of the bank: writing another group's leaves it. -/
theorem getR_countsShown (s : State) (c g : Nat) (bank : Tbl Nat) (hg : g < 256) :
    getR (countsShown s c bank) .lntCount c g = tget (fun _ => 0) bank g % 2 ^ 32 := by
  refine foldl_reaches (fun t => getR t .lntCount c g = tget (fun _ => 0) bank g % 2 ^ 32) _ g (fun t => getR_setR_lntCount ..)
    (fun t b ht => ?_) _ (List.mem_range.mpr hg) s
  by_cases hb : g = b
  · subst hb
    exact getR_setR_lntCount ..
  · rw [getR_setR_other _ _ _ _ _ _ _ _ _ _ (regKey_lntCount_inj c g b hb)]
    exact ht

/-- Showing a bank leaves the core's registers below the counters. -/
theorem getR_countsShown_other (s : State) (c : Nat) (bank : Tbl Nat) (q : Reg) (h1 : (regSpec q).stride = 0x10000)
    (h2 : (regSpec q).base < 0x2400400) : getR (countsShown s c bank) q c = getR s q c :=
  foldl_keeps (fun t => getR t q c) _ (fun _ g => getR_setR_other _ _ _ _ _ _ _ _ _ _ (regKey_lntCount_ne c g h1 h2).symm) _ s

/-- The core as its next window opens: empty banks, and no neuron has spiked. -/
def nextWindow (x : LCore) : LCore := { x with active := [], window := x.window + 1, spiked := [] }

/-- The state in which a window's counts and its end show, and the next one is open. -/
def windowShown (s : State) (c e : Nat) : State := setR (modCore (countsShown s c (lcore s c).active) c nextWindow) .lntWindowEnd e c

/-- Setting a register leaves every core. -/
@[simp] theorem lcore_setR (s : State) (r : Reg) (v i j f c : Nat) : lcore (setR s r v i j f) c = lcore s c := rfl

/-- The core whose window closed has its next one open. -/
theorem lcore_windowShown (s : State) (c e : Nat) : lcore (windowShown s c e) c = nextWindow (lcore s c) := by
  rw [windowShown, lcore_setR, lcore_modCore_same, lcore_countsShown]

/-- The close of a window leaves every other core. -/
theorem lcore_windowShown_other (s : State) (c k e : Nat) (h : k ≠ c) : lcore (windowShown s c e) k = lcore s k := by
  rw [windowShown, lcore_setR, lcore_modCore_other _ _ _ _ h, lcore_countsShown]

/-- Showing a window takes no time. -/
theorem windowShown_now (s : State) (c e : Nat) : (windowShown s c e).now = s.now := by
  rw [windowShown, setR_now, modCore_now, countsShown_now]

/-- The state in which a core's window is closed: shown, counted in LNT_WINDOW_SEQ and noted in LNT_EVENTS. -/
def windowClosed (s : State) (c : Nat) : State := lntEvent (addR (windowShown s c (windowEnd s c)) .lntWindowSeq 1 c) c 8

/-- Where no group has a SILENT action, closing a window is no more than that. -/
theorem closeWindow_silentless (s : State) (c : Nat) (bad : LntBad)
    (h : ((lcore s c).actions.any fun e => decide (bits e.2.toNat 4 4 ≠ 0)) = false) : closeWindow s c bad = windowClosed s c := by
  simp only [closeWindow, silentScan, h, Bool.false_eq_true, if_false]
  rfl

/-- The close of a window takes no time. -/
theorem windowClosed_now (s : State) (c : Nat) : (windowClosed s c).now = s.now := by
  rw [windowClosed, lntEvent, setSticky_now, addR_now, windowShown_now]

/-- The core whose window closed has its next one open. -/
theorem lcore_windowClosed (s : State) (c : Nat) : lcore (windowClosed s c) c = nextWindow (lcore s c) := by
  rw [windowClosed, lcore_lntEvent, lcore_addR, lcore_windowShown]

/-- The close of a window leaves every other core. -/
theorem lcore_windowClosed_other (s : State) (c k : Nat) (h : k ≠ c) : lcore (windowClosed s c) k = lcore s k := by
  rw [windowClosed, lcore_lntEvent, lcore_addR, lcore_windowShown_other _ _ _ _ h]

/-- LNT_COUNT shows the closed window's count of each group. -/
theorem getR_lntCount_windowClosed (s : State) (c g : Nat) (hg : g < 256) :
    getR (windowClosed s c) .lntCount c g = tget (fun _ => 0) (lcore s c).active g % 2 ^ 32 := by
  have hne : ∀ q : Reg, (regSpec q).stride = 0x10000 → (regSpec q).base < 0x2400400 → regKey 0 .lntCount c g ≠ regKey 0 q c 0 :=
    fun q => regKey_lntCount_ne c g
  rw [windowClosed, getR_lntEvent_other _ _ _ _ _ _ _ (le_regKey_of_base 0 c g (by decide)) (hne _ rfl (by decide)),
    getR_addR_other _ _ _ _ _ _ _ _ _ _ (hne .lntWindowSeq rfl (by decide)), windowShown,
    getR_setR_other _ _ _ _ _ _ _ _ _ _ (hne .lntWindowEnd rfl (by decide)), getR_modCore, getR_countsShown _ _ _ _ hg]

/-- LNT_WINDOW_END shows the end of the closed window. -/
theorem getR_lntWindowEnd_windowClosed (s : State) (c : Nat) : getR (windowClosed s c) .lntWindowEnd c = windowEnd s c % 2 ^ 64 := by
  rw [windowClosed, getR_lntEvent_other, getR_addR_other, windowShown, getR_setR_same]
  · rfl
  · exact regKey_ne_of_base 0 c 0 rfl rfl (by decide)
  · exact le_regKey_of_base 0 c 0 (by decide)
  · exact regKey_ne_of_base 0 c 0 rfl rfl (by decide)

/-- LNT_WINDOW_SEQ counts the closed window. -/
theorem getR_lntWindowSeq_windowClosed (s : State) (c : Nat) :
    getR (windowClosed s c) .lntWindowSeq c = (getR s .lntWindowSeq c + 1) % 2 ^ 64 := by
  rw [windowClosed, getR_lntEvent_other, getR_addR_same, windowShown, getR_setR_other, getR_modCore, getR_countsShown_other]
  · rfl
  · rfl
  · decide
  · exact regKey_ne_of_base 0 c 0 rfl rfl (by decide)
  · exact le_regKey_of_base 0 c 0 (by decide)
  · exact regKey_ne_of_base 0 c 0 rfl rfl (by decide)

/-- A Landing of a core takes no time. -/
theorem coreLanding_now (s : State) (c : Nat) : (coreLanding s c).now = s.now := by
  rw [coreLanding, landR_frame, landR_frame s]

/-- The state in which a core stands at a Landing when its window is due to close. -/
def windowLanding (s : State) (c : Nat) : State :=
  coreLanding { s with now := max s.now (windowEnd s c + if timed s c then getR s .lntHorizonNs c else 0) } c

/-- The Landing is no earlier than the window's end, behind the horizon in timed mode. -/
theorem windowLanding_now (s : State) (c : Nat) :
    (windowLanding s c).now = max s.now (windowEnd s c + if timed s c then getR s .lntHorizonNs c else 0) := coreLanding_now ..

/-- Waiting for the window's end, and the Landing there, leave every core. -/
@[simp] theorem lcore_windowLanding (s : State) (c k : Nat) : lcore (windowLanding s c) k = lcore s k := lcore_coreLanding ..

/-- The settings staged for a Landing are not those that the end of a window follows from. -/
theorem windowEnd_windowLanding (s : State) (c : Nat) : windowEnd (windowLanding s c) c = windowEnd s c := by
  have hw : getR (windowLanding s c) .lntWindowNs c = getR s .lntWindowNs c :=
    getR_coreLanding_other _ _ _ _ _ _ (regKey_ne_of_base 0 c 0 rfl rfl (by decide)) (regKey_ne_of_base 0 c 0 rfl rfl (by decide))
  rw [windowEnd, windowEnd, lcore_windowLanding, hw]

/-- The number of windows closed is not staged. -/
theorem getR_lntWindowSeq_windowLanding (s : State) (c : Nat) : getR (windowLanding s c) .lntWindowSeq c = getR s .lntWindowSeq c :=
  getR_coreLanding_other _ _ _ _ _ _ (regKey_ne_of_base 0 c 0 rfl rfl (by decide)) (regKey_ne_of_base 0 c 0 rfl rfl (by decide))

/-- A running core that is done with the window's events closes the window at its Landing. -/
theorem exec_windowClose (s : State) (c : Nat) (bad : LntBad) (hon : coreOn s c = true) (hf : lanternFrozen s = false)
    (hb : windowBusy s c = false) : exec (.windowClose c bad) s = .next (closeWindow (windowLanding s c) c bad) := by
  simp only [exec, execWindowClose, hon, hf, hb, Bool.not_true, Bool.or_self, Bool.false_eq_true, if_false]
  rfl

/-! ### The descriptors of a core (R329, R333) -/

/-- The end of a core's descriptor counts nothing: it is its result. -/
theorem endDesc_lantern (s : State) (c id st n : Nat) : endDesc s 2 c id st n = descResult s 2 c id st n := rfl

/-- A result leaves every core. -/
@[simp] theorem lcore_descResult (s : State) (cls inst id st n c : Nat) : lcore (descResult s cls inst id st n) c = lcore s c := rfl

/-- Every accepted descriptor of the number has the result. -/
theorem result_of_mem_descResult (s : State) (cls inst id st n : Nat) :
    ∀ x ∈ (unitOf (descResult s cls inst id st n) cls inst).accepted, x.id = id → x.result = some (st, n) := by
  intro x hx hid
  rw [descResult, unitOf_modUnit] at hx
  obtain ⟨d, -, rfl⟩ := List.mem_map.mp hx
  by_cases hd : d.id = id
  · simp only [hd, BEq.rfl, if_true]
  · rw [if_neg fun h => hd (beq_iff_eq.mp h)] at hid
    exact absurd hid hd

/-! ### Table loads (R218, R346) -/

/-- A load that passes its checks waits at a running core for its Landing, and takes effect at once on another. -/
theorem exec_lntLoadDesc (s : State) (c id : Nat) (d : Desc) (ht : taking s 2 c id 0x30 d) (hi : lanternIdle s c = true)
    (hf : loadFail (acceptDesc s 2 c d) c d = none) :
    let sh := tableShape (d.num 16 1)
    let es := loadEntries sh.1 (d.num 24 4) (memRead (acceptDesc s 2 c d) (d.num 28 8) (d.num 24 4 * sh.1))
    let r := touchRead (acceptDesc s 2 c d) (some d.wing) (d.num 28 8) (d.num 24 4 * sh.1)
    exec (.lntLoadDesc c id) s =
      .next (if coreOn r c then modCore r c fun x => { x with loads := x.loads ++ [⟨id, d.num 16 1, d.num 20 4, es⟩] }
        else descResult (modCore r c fun x => applyLoad x (d.num 16 1) (d.num 20 4) es) 2 c id stOk 0) := by
  simp only [exec, execLntLoadDesc, hi, Bool.not_true, Bool.false_eq_true, if_false, withDesc_taking _ _ _ _ _ _ _ ht, hf, endDesc_lantern]

/-- At a Landing the oldest load that waits takes effect. -/
theorem exec_lntLoadApply (s : State) (c : Nat) (l : LLoad) (ls : List LLoad) (h : (lcore s c).loads = l :: ls) :
    exec (.lntLoadApply c) s =
      .next (descResult (modCore (coreLanding s c) c fun x => applyLoad { x with loads := ls } l.kind l.first l.entries) 2 c l.desc stOk 0) := by
  simp only [exec, execLntLoadApply, h, endDesc_lantern]

/-! ### Injections (R219, R347) -/

/-- A load's source gives as many entries as it is asked for. -/
theorem length_loadEntries (n k : Nat) (b : List Byte) : (loadEntries n k b).length = k := by
  induction k generalizing b with
  | zero => rfl
  | succ k ih => rw [loadEntries, List.length_cons, ih]

/-- An injection of a descriptor has as many events as it names. -/
theorem length_injectEvents (s : State) (d : Desc) (now : Nat) : (injectEvents now (injectEntries s d)).length = d.num 16 2 := by
  rw [injectEvents, List.length_map, injectEntries, length_loadEntries]

/-- A running core with room in its input buffer drops nothing. -/
theorem wouldDrop_room (s : State) (c : Nat) (hon : coreOn s c = true) (hf : lanternFrozen s = false) (hl : (lcore s c).buffer.length < 4096) :
    wouldDrop s c = false := by
  simp only [wouldDrop, hon, hf, Bool.not_true, Bool.or_self, Bool.false_or, decide_eq_false_iff_not]
  omega

/-- The events of an injection arrive one after another, and the dropped ones are counted. -/
def injectAll (c : Nat) (a : State × Nat) (es : List LEvent) : State × Nat :=
  es.foldl (fun a e => (arriveEvent a.1 c e, a.2 + b2n (wouldDrop a.1 c))) a

/-- Events for which a running core has room enter its input buffer in order; none is dropped. -/
theorem injectAll_room (c n : Nat) (s : State) (es : List LEvent) (hon : coreOn s c = true) (hf : lanternFrozen s = false)
    (hl : (lcore s c).buffer.length + es.length ≤ 4096) :
    ∃ t, injectAll c (s, n) es = (t, n) ∧ lcore t c = { lcore s c with buffer := (lcore s c).buffer ++ es } ∧
      t = { s with cores := t.cores } := by
  induction es generalizing s with
  | nil => exact ⟨s, rfl, by rw [List.append_nil], rfl⟩
  | cons e es ih =>
    rw [List.length_cons] at hl
    have hd : wouldDrop s c = false := wouldDrop_room s c hon hf (by omega)
    obtain ⟨t, hall, hc, ht⟩ := ih (modCore s c fun x => { x with buffer := x.buffer ++ [e] }) hon hf (by
      rw [lcore_modCore_same, List.length_append, List.length_singleton]
      omega)
    rw [lcore_modCore_same, List.append_assoc] at hc
    refine ⟨t, ?_, hc, ht⟩
    rw [← hall, ← arriveEvent_enters s c e hd]
    simp only [injectAll, List.foldl_cons, hd]
    rfl

/-- An injection that passes its checks has its events arrive, and ends with the number of dropped ones. -/
theorem exec_lntInjectDesc (s : State) (c id : Nat) (d : Desc) (ht : taking s 2 c id 0x31 d) (hi : lanternIdle s c = true)
    (hf : injectFail (acceptDesc s 2 c d) c d = none) :
    let r := touchRead (acceptDesc s 2 c d) (some d.wing) (d.num 24 8) (16 * d.num 16 2)
    let a := injectAll c (r, 0) (injectEvents s.now (injectEntries (acceptDesc s 2 c d) d))
    exec (.lntInjectDesc c id) s = .next (descResult a.1 2 c id stOk a.2) := by
  simp only [exec, execLntInjectDesc, hi, Bool.not_true, Bool.false_eq_true, if_false, withDesc_taking _ _ _ _ _ _ _ ht, hf, endDesc_lantern]
  rfl

end Sys2Proof.Machine

section
open Sys2Proof Sys2Proof.Machine

/-- Settles O36: what the close of a window, a load and an injection make of a core stands above; a window without SILENT actions shows its
counts and opens the next, a load waits only where the core runs, and an injection's events enter one behind the other. -/
theorem lanternWindowsAndTables : Obligations.LanternWindowsAndTables := by
  refine ⟨?window, ?load, ?apply, ?inject⟩
  case window =>
    intro s c bad hon hf hb hs
    rw [← lcore_windowLanding s c c] at hs
    refine ⟨_, (exec_windowClose s c bad hon hf hb).trans (congrArg _ (closeWindow_silentless _ c bad hs)), ?_, ?_, fun k hk => ?_, fun g hg => ?_,
      ?_, ?_, bit_lntEvents_two_pow _ c 3 (by decide)⟩
    · rw [windowClosed_now, windowLanding_now]
    · rw [lcore_windowClosed, lcore_windowLanding, nextWindow]
    · rw [lcore_windowClosed_other _ _ _ hk, lcore_windowLanding]
    · rw [getR_lntCount_windowClosed _ _ _ hg, lcore_windowLanding]
    · rw [getR_lntWindowEnd_windowClosed, windowEnd_windowLanding]
    · rw [getR_lntWindowSeq_windowClosed, getR_lntWindowSeq_windowLanding]
  case load =>
    intro s c id d ht hi s1 n es r hf
    have hex := exec_lntLoadDesc s c id d ht hi hf
    refine ⟨fun hoff => ?_, fun hon => ?_⟩
    · exact ⟨_, hex.trans (congrArg _ (if_neg (Bool.eq_false_iff.mp hoff))), (lcore_descResult ..).trans (lcore_modCore_same ..),
        result_of_mem_descResult _ _ _ _ _ _, rfl⟩
    · exact ⟨_, hex.trans (congrArg _ (if_pos hon)), lcore_modCore_same .., rfl⟩
  case apply =>
    intro s c l ls h
    refine ⟨_, exec_lntLoadApply s c l ls h, ?_, fun k hk => ?_, result_of_mem_descResult _ _ _ _ _ _, rfl⟩
    · rw [lcore_descResult, lcore_modCore_same, lcore_coreLanding]
    · rw [lcore_descResult, lcore_modCore_other _ _ _ _ hk, lcore_coreLanding]
  case inject =>
    intro s c id d ht hi s1 r hf hon hfr hl
    obtain ⟨t, hall, hc, hframe⟩ := injectAll_room c 0 r (injectEvents s.now (injectEntries s1 d)) hon hfr (by rw [length_injectEvents]; exact hl)
    refine ⟨descResult t 2 c id stOk 0, (exec_lntInjectDesc s c id d ht hi hf).trans ?_, hc, result_of_mem_descResult _ _ _ _ _ _, ?_⟩
    · rw [hall]
    · rw [hframe]
      rfl

end

/-! ## The homes of the Mezzanine -/

namespace Sys2Proof.Machine

open Sys2Proof.Safety

/-! ### What each operation of the Mezzanine reads back as -/

section
variable (s : State) (l k a b n : Nat) (f : LineRec → LineRec) (c : Option CLine) (w : Option WbLine) (x : Option ArrLine) (m : Msg) (r : Reg)
  (i j g v : Nat)

@[simp] theorem lineRec_modRec : lineRec (modRec s l f) l = f (lineRec s l) := tget_tset_same ..
@[simp] theorem lineRec_setCache : lineRec (setCache s a k c) l = lineRec s l := rfl
@[simp] theorem lineRec_setWb : lineRec (setWb s a k w) l = lineRec s l := rfl
@[simp] theorem lineRec_setArray : lineRec (setArray s k x) l = lineRec s l := rfl
@[simp] theorem lineRec_sendMzn : lineRec (sendMzn s m) l = lineRec s l := rfl
@[simp] theorem lineRec_tickMzn : lineRec (tickMzn s) l = lineRec s l := rfl
@[simp] theorem lineRec_addR : lineRec (addR s r n i j g) l = lineRec s l := rfl

@[simp] theorem cacheLine_setCache : cacheLine (setCache s a l c) a l = c := tget_tset_same ..
@[simp] theorem cacheLine_modRec : cacheLine (modRec s k f) a l = cacheLine s a l := rfl
@[simp] theorem cacheLine_setWb : cacheLine (setWb s b k w) a l = cacheLine s a l := rfl
@[simp] theorem cacheLine_setArray : cacheLine (setArray s k x) a l = cacheLine s a l := rfl
@[simp] theorem cacheLine_sendMzn : cacheLine (sendMzn s m) a l = cacheLine s a l := rfl
@[simp] theorem cacheLine_tickMzn : cacheLine (tickMzn s) a l = cacheLine s a l := rfl
@[simp] theorem cacheLine_addR : cacheLine (addR s r n i j g) a l = cacheLine s a l := rfl

@[simp] theorem wbLine_setWb : wbLine (setWb s a l w) a l = w := tget_tset_same ..
@[simp] theorem wbLine_modRec : wbLine (modRec s k f) a l = wbLine s a l := rfl
@[simp] theorem wbLine_setCache : wbLine (setCache s b k c) a l = wbLine s a l := rfl
@[simp] theorem wbLine_setArray : wbLine (setArray s k x) a l = wbLine s a l := rfl
@[simp] theorem wbLine_sendMzn : wbLine (sendMzn s m) a l = wbLine s a l := rfl
@[simp] theorem wbLine_tickMzn : wbLine (tickMzn s) a l = wbLine s a l := rfl
@[simp] theorem wbLine_addR : wbLine (addR s r n i j g) a l = wbLine s a l := rfl

@[simp] theorem arrayLine_setArray : arrayLine (setArray s l x) l = x := tget_tset_same ..
@[simp] theorem arrayLine_modRec : arrayLine (modRec s k f) l = arrayLine s l := rfl
@[simp] theorem arrayLine_setCache : arrayLine (setCache s a k c) l = arrayLine s l := rfl
@[simp] theorem arrayLine_setWb : arrayLine (setWb s a k w) l = arrayLine s l := rfl
@[simp] theorem arrayLine_sendMzn : arrayLine (sendMzn s m) l = arrayLine s l := rfl
@[simp] theorem arrayLine_tickMzn : arrayLine (tickMzn s) l = arrayLine s l := rfl
@[simp] theorem arrayLine_addR : arrayLine (addR s r n i j g) l = arrayLine s l := rfl

@[simp] theorem modRec_regs : (modRec s l f).regs = s.regs := rfl
@[simp] theorem setCache_regs : (setCache s a l c).regs = s.regs := rfl
@[simp] theorem setWb_regs : (setWb s a l w).regs = s.regs := rfl
@[simp] theorem sendMzn_answer : (sendMzn s m).mzn.answer = s.mzn.answer := rfl
@[simp] theorem sendMzn_answerStatus : (sendMzn s m).mzn.answerStatus = s.mzn.answerStatus := rfl
@[simp] theorem sendMzn_halls : (sendMzn s m).halls = s.halls := rfl
@[simp] theorem modRec_halls : (modRec s l f).halls = s.halls := rfl
@[simp] theorem sendMzn_regs : (sendMzn s m).regs = s.regs := rfl
@[simp] theorem tickMzn_regs : (tickMzn s).regs = s.regs := rfl

@[simp] theorem getR_modRec : getR (modRec s l f) r i j g = getR s r i j g := rfl
@[simp] theorem getR_setCache : getR (setCache s a l c) r i j g = getR s r i j g := rfl

@[simp] theorem modRec_msgs : (modRec s l f).mzn.msgs = s.mzn.msgs := rfl
@[simp] theorem setCache_msgs : (setCache s a l c).mzn.msgs = s.mzn.msgs := rfl
@[simp] theorem setWb_msgs : (setWb s a l w).mzn.msgs = s.mzn.msgs := rfl
@[simp] theorem setArray_msgs : (setArray s l x).mzn.msgs = s.mzn.msgs := rfl
@[simp] theorem sendMzn_msgs : (sendMzn s m).mzn.msgs = s.mzn.msgs ++ [m] := rfl
@[simp] theorem modRec_caches : (modRec s l f).mzn.caches = s.mzn.caches := rfl
@[simp] theorem sendMzn_caches : (sendMzn s m).mzn.caches = s.mzn.caches := rfl
@[simp] theorem tickMzn_msgs : (tickMzn s).mzn.msgs = s.mzn.msgs := rfl

/-! ### What the homes' work leaves alone -/

/-- A state without its registers and its Mezzanine. -/
def besideMzn (s : State) : State := { s with regs := [], mzn := resetMezz }

/-- A state without its registers, its Mezzanine and its halls. -/
def besideHalls (s : State) : State := { s with regs := [], mzn := resetMezz, halls := [] }

@[simp] theorem besideMzn_addR : besideMzn (addR s r n i j g) = besideMzn s := rfl
@[simp] theorem besideMzn_modMzn (h : Mezz → Mezz) : besideMzn (modMzn s h) = besideMzn s := rfl
@[simp] theorem besideMzn_modRec : besideMzn (modRec s l f) = besideMzn s := rfl
@[simp] theorem besideMzn_setCache : besideMzn (setCache s a l c) = besideMzn s := rfl
@[simp] theorem besideMzn_setWb : besideMzn (setWb s a l w) = besideMzn s := rfl
@[simp] theorem besideMzn_setArray : besideMzn (setArray s l x) = besideMzn s := rfl
@[simp] theorem besideMzn_sendMzn : besideMzn (sendMzn s m) = besideMzn s := rfl
@[simp] theorem besideMzn_tickMzn : besideMzn (tickMzn s) = besideMzn s := rfl
@[simp] theorem besideHalls_addR : besideHalls (addR s r n i j g) = besideHalls s := rfl
@[simp] theorem besideHalls_modRec : besideHalls (modRec s l f) = besideHalls s := rfl
@[simp] theorem besideHalls_setCache : besideHalls (setCache s a l c) = besideHalls s := rfl
@[simp] theorem besideHalls_setWb : besideHalls (setWb s a l w) = besideHalls s := rfl
@[simp] theorem besideHalls_setArray : besideHalls (setArray s l x) = besideHalls s := rfl
@[simp] theorem besideHalls_sendMzn : besideHalls (sendMzn s m) = besideHalls s := rfl
@[simp] theorem besideHalls_tickMzn : besideHalls (tickMzn s) = besideHalls s := rfl
@[simp] theorem besideHalls_modCtl (h : HallCtl → HallCtl) : besideHalls (modCtl s k h) = besideHalls s := rfl

end

/-- Where all but registers and Mezzanine stays, these two make the difference. -/
theorem eq_of_besideMzn {s t : State} (h : besideMzn t = besideMzn s) : t = { s with regs := t.regs, mzn := t.mzn } :=
  congrArg (fun u : State => { u with regs := t.regs, mzn := t.mzn }) h

/-- Where the registers stay too, the Mezzanine makes the difference. -/
theorem eq_of_besideMzn_regs {s t : State} (h : besideMzn t = besideMzn s) (hr : t.regs = s.regs) : t = { s with mzn := t.mzn } :=
  (eq_of_besideMzn h).trans (by rw [hr])

/-- Where all but registers, Mezzanine and halls stays, these three make the difference. -/
theorem eq_of_besideHalls {s t : State} (h : besideHalls t = besideHalls s) : t = { s with regs := t.regs, mzn := t.mzn, halls := t.halls } :=
  congrArg (fun u : State => { u with regs := t.regs, mzn := t.mzn, halls := t.halls }) h

/-- What leaves the halls too leaves what lies beside them. -/
theorem besideHalls_of_besideMzn {s t : State} (h : besideMzn t = besideMzn s) : besideHalls t = besideHalls s :=
  congrArg (fun u : State => { u with halls := [] }) h

/-- Taking a line out of the bad-line table changes the halls alone. -/
theorem clearBad_frame (s : State) (h : Nat) (y : LineAt) : clearBad s h y = { s with halls := (clearBad s h y).halls } := by
  unfold clearBad
  split <;> rfl

@[simp] theorem clearBad_mzn (s : State) (h : Nat) (y : LineAt) : (clearBad s h y).mzn = s.mzn := by rw [clearBad_frame]

@[simp] theorem lineRec_clearBad (s : State) (h : Nat) (y : LineAt) (l : Nat) : lineRec (clearBad s h y) l = lineRec s l := by
  rw [lineRec, clearBad_mzn, lineRec]

@[simp] theorem cacheLine_clearBad (s : State) (h : Nat) (y : LineAt) (a l : Nat) : cacheLine (clearBad s h y) a l = cacheLine s a l := by
  rw [cacheLine, clearBad_mzn, cacheLine]

@[simp] theorem wbLine_clearBad (s : State) (h : Nat) (y : LineAt) (a l : Nat) : wbLine (clearBad s h y) a l = wbLine s a l := by
  rw [wbLine, clearBad_mzn, wbLine]

@[simp] theorem besideHalls_clearBad (s : State) (h : Nat) (y : LineAt) : besideHalls (clearBad s h y) = besideHalls s := by
  rw [clearBad_frame]
  rfl

/-! ### The array's copy of a line (R228) -/

/-- The state after a read that the array answers: the hit is counted, and the line is the one last used. -/
def arrayRead (s : State) (l : Nat) (x : ArrLine) : State :=
  tickMzn (setArray (addR s .mznHits 1 (homeSlice s l)) l (some { x with used := s.mzn.tick }))

/-- The state after a write of a line that the array holds: the line is dirty, and it is in no bad-line table. -/
def arrayPut (s : State) (l : Nat) (x : ArrLine) (d : List Byte) : State :=
  tickMzn (setArray (clearBad s (lineHall l) (.phys (lineOff l))) l
    (some { x with data := d, dirty := true, poison := false, used := s.mzn.tick }))

section
variable (s : State) (l : Nat) (x : ArrLine) (d : List Byte)

@[simp] theorem lineRec_arrayRead : lineRec (arrayRead s l x) l = lineRec s l := rfl
@[simp] theorem arrayRead_msgs : (arrayRead s l x).mzn.msgs = s.mzn.msgs := rfl
@[simp] theorem arrayRead_caches : (arrayRead s l x).mzn.caches = s.mzn.caches := rfl
@[simp] theorem arrayLine_arrayRead : arrayLine (arrayRead s l x) l = some { x with used := s.mzn.tick } := by simp [arrayRead]
@[simp] theorem besideMzn_arrayRead : besideMzn (arrayRead s l x) = besideMzn s := rfl

@[simp] theorem lineRec_arrayPut : lineRec (arrayPut s l x d) l = lineRec s l := by simp [arrayPut]
@[simp] theorem arrayPut_msgs : (arrayPut s l x d).mzn.msgs = s.mzn.msgs := by simp [arrayPut]
@[simp] theorem cacheLine_arrayPut (a k : Nat) : cacheLine (arrayPut s l x d) a k = cacheLine s a k := by simp [arrayPut]
@[simp] theorem wbLine_arrayPut (a k : Nat) : wbLine (arrayPut s l x d) a k = wbLine s a k := by simp [arrayPut]
@[simp] theorem arrayLine_arrayPut :
    arrayLine (arrayPut s l x d) l = some { x with data := d, dirty := true, poison := false, used := s.mzn.tick } := by simp [arrayPut]
@[simp] theorem besideHalls_arrayPut : besideHalls (arrayPut s l x d) = besideHalls s := by simp [arrayPut]

end

/-- A sound line of the array answers a clean read. -/
theorem readMem_array {s : State} {q : HomeReq} {x : ArrLine} (src : Nat) (he : q.err = MemErr.none) (hl : hostLine q.line = false)
    (hx : arrayLine s q.line = some x) (hp : x.poison = false) : readMem s q src = (arrayRead s q.line x, x.data, 0) := by
  simp [readMem, hl, hx, he, MemErr.none, hp, arrayRead]

/-- A write of a line that the array holds ends there. -/
theorem writeMem_array {s : State} {l : Nat} {x : ArrLine} (wing : Option Nat) (d : List Byte) (hl : hostLine l = false)
    (hx : arrayLine s l = some x) : writeMem s wing l d = (arrayPut s l x d, 0) := by
  simp [writeMem, hl, hx, arrayPut]

/-! ### A request meets its line (R234, R235) -/

/-- The transaction that a home opens for a request: the snoops' answers and the host's are awaited. -/
def openTxn (s : State) (q : HomeReq) : Txn :=
  ⟨q, (snoopsOf (lineRec s q.line) q).map Prod.fst, none, false, false, hostNeed s (lineRec s q.line) q, false⟩

/-- A transaction that awaits no answer. -/
def freshTxn (q : HomeReq) : Txn := ⟨q, [], none, false, false, none, false⟩

/-- Nothing waits for a line, and its transaction, if it has one, awaits an answer. -/
def LineRec.rests (r : LineRec) : Prop :=
  match r.txn with
  | some t => t.ready = false
  | none => r.hostWaiting = [] ∧ r.reserved = [] ∧ r.waiting = []

/-- Sending snoops leaves them on the Corridor, counted. -/
theorem sendSnoops_eq (l sl : Nat) (sn : List (Nat × SnpKind)) (s : State) :
    ∃ rg, sn.foldl (fun t e => addR (sendMzn t (.snp e.1 l e.2)) .mznSnoops 1 sl) s =
      { s with regs := rg, mzn := { s.mzn with msgs := s.mzn.msgs ++ sn.map fun e => .snp e.1 l e.2 } } := by
  induction sn generalizing s with
  | nil => exact ⟨s.regs, by simp⟩
  | cons e sn ih =>
    obtain ⟨rg, h⟩ := ih (addR (sendMzn s (.snp e.1 l e.2)) .mznSnoops 1 sl)
    refine ⟨rg, ?_⟩
    rw [List.foldl_cons, h, List.map_cons, addR_mzn, sendMzn_msgs, List.append_assoc, List.singleton_append]
    rfl

/-- Starting a request opens its transaction and sends its snoops, and changes nothing else but counters. -/
theorem startReq_eq (s : State) (q : HomeReq) :
    ∃ rg, startReq s q = { s with
      regs := rg
      mzn := { s.mzn with
        recs := tmod (fun _ => noRec) s.mzn.recs q.line fun x => { x with txn := some (openTxn s q) }
        msgs := s.mzn.msgs ++ (snoopsOf (lineRec s q.line) q).map fun e => .snp e.1 q.line e.2 } } := by
  obtain ⟨rg, h⟩ := sendSnoops_eq q.line (homeSlice s q.line) (snoopsOf (lineRec s q.line) q)
    (addR (modRec s q.line fun x => { x with txn := some (openTxn s q) }) .mznBusyWaitNs (if q.asker.onDevice then s.now - q.since else 0)
      (homeSlice s q.line))
  exact ⟨rg, h⟩

section
variable (s : State) (q : HomeReq)

@[simp] theorem lineRec_startReq : lineRec (startReq s q) q.line = { lineRec s q.line with txn := some (openTxn s q) } := by
  obtain ⟨rg, h⟩ := startReq_eq s q
  rw [h]
  exact tget_tset_same ..

@[simp] theorem startReq_msgs :
    (startReq s q).mzn.msgs = s.mzn.msgs ++ (snoopsOf (lineRec s q.line) q).map fun e => .snp e.1 q.line e.2 := by
  obtain ⟨rg, h⟩ := startReq_eq s q
  rw [h]

@[simp] theorem startReq_caches : (startReq s q).mzn.caches = s.mzn.caches := by
  obtain ⟨rg, h⟩ := startReq_eq s q
  rw [h]

@[simp] theorem cacheLine_startReq (a l : Nat) : cacheLine (startReq s q) a l = cacheLine s a l := by rw [cacheLine, startReq_caches, cacheLine]

@[simp] theorem wbLine_startReq (a l : Nat) : wbLine (startReq s q) a l = wbLine s a l := by
  obtain ⟨rg, h⟩ := startReq_eq s q
  rw [h]
  rfl

@[simp] theorem arrayLine_startReq (l : Nat) : arrayLine (startReq s q) l = arrayLine s l := by
  obtain ⟨rg, h⟩ := startReq_eq s q
  rw [h]
  rfl

@[simp] theorem startReq_halls : (startReq s q).halls = s.halls := by
  obtain ⟨rg, h⟩ := startReq_eq s q
  rw [h]

@[simp] theorem besideMzn_startReq : besideMzn (startReq s q) = besideMzn s := by
  obtain ⟨rg, h⟩ := startReq_eq s q
  rw [h]
  rfl

@[simp] theorem besideHalls_startReq : besideHalls (startReq s q) = besideHalls s := besideHalls_of_besideMzn (besideMzn_startReq s q)

end

/-- A request without snoops counts the time that it waited, and nothing else (R259). -/
theorem regsKeptBut_startReq {s : State} {q : HomeReq} (h : snoopsOf (lineRec s q.line) q = []) :
    regsKeptBut s (startReq s q) (regKey 0 .mznBusyWaitNs (homeSlice s q.line) 0) := by
  intro r i j f hk
  rw [startReq]
  simp only [h, List.foldl_nil]
  exact getR_addR_other _ _ _ _ _ _ _ _ _ _ hk

/-- A line at rest stays as it is. -/
theorem pumpLine_rests {s : State} {l : Nat} (n : Nat) (h : (lineRec s l).rests) : pumpLine s l n = s := by
  cases n with
  | zero => rfl
  | succ n =>
    unfold LineRec.rests at h
    cases ht : (lineRec s l).txn with
    | some t =>
      rw [ht] at h
      simp only at h
      simp [pumpLine, ht, h]
    | none =>
      rw [ht] at h
      obtain ⟨hh, hr, hw⟩ := h
      simp [pumpLine, ht, hh, hr, hw]

/-- A request that awaits an answer has started, and its line rests. -/
theorem pumpLine_startReq_awaits {s : State} {q : HomeReq} (n : Nat) (h : (openTxn s q).ready = false) :
    pumpLine (startReq s q) q.line n = startReq s q :=
  pumpLine_rests n (by simp [LineRec.rests, h])

/-- A transaction that awaits nothing completes. -/
theorem pumpLine_completes {s : State} {l : Nat} {t : Txn} (n : Nat) (ht : (lineRec s l).txn = some t) (hr : t.ready = true)
    (hrest : (lineRec (completeTxn s l t) l).rests) : pumpLine s l (n + 1) = completeTxn s l t := by
  rw [pumpLine]
  simp only [ht, hr, if_true]
  exact pumpLine_rests n hrest

/-- A request that awaits nothing is served at once. -/
theorem pumpLine_startReq_completes {s : State} {q : HomeReq} (n : Nat) (ho : openTxn s q = freshTxn q)
    (hrest : (lineRec (completeTxn (startReq s q) q.line (freshTxn q)) q.line).rests) :
    pumpLine (startReq s q) q.line (n + 1) = completeTxn (startReq s q) q.line (freshTxn q) :=
  pumpLine_completes n (by rw [lineRec_startReq, ho]) rfl hrest

/-- The requests that queue behind a line's other requests: all but the host's snoops. -/
def ReqKind.queues : ReqKind → Bool
  | .snpData => false
  | .snpInv => false
  | .snpCur => false
  | _ => true

/-- The state in which a request has queued for its line and its turn has come. -/
def queued (s : State) (q : HomeReq) : State :=
  modRec (modRec s q.line fun r => { r with waiting := r.waiting ++ [q] }) q.line fun r => { r with waiting := [] }

/-- A request that finds its line free starts (R235). -/
theorem arriveReq_free {s : State} {q : HomeReq} {hs : List (Nat × Hold)} (hk : q.kind.queues = true) (h : lineFree s q.line hs) :
    ∃ n, arriveReq s q = pumpLine (startReq (queued s q) q) q.line (n + 1) := by
  obtain ⟨hb, ht, hw, hh, hr, -⟩ := h
  refine ⟨2 * (lineRec s q.line).held.length + 4, ?_⟩
  have hgo : arriveReq s q = pump (modRec s q.line fun r => { r with waiting := r.waiting ++ [q] }) q.line := by
    rw [arriveReq, if_neg (by omega)]
    cases hq : q.kind <;> simp_all [ReqKind.queues]
  rw [hgo, pump, pumpFuel]
  simp only [lineRec_modRec, hw, hh]
  simp only [List.nil_append, List.length_cons, List.length_nil]
  rw [show 2 * (0 + 1 + 0 + (lineRec s q.line).held.length) + 4 = 2 * (lineRec s q.line).held.length + 4 + 1 + 1 by omega, pumpLine]
  simp [ht, hh, hr, hw, queued]

/-- A request that has queued and whose turn has come leaves its line's record as it was. -/
theorem lineRec_queued {s : State} {q : HomeReq} (h : (lineRec s q.line).waiting = []) : lineRec (queued s q) q.line = lineRec s q.line := by
  simp only [queued, lineRec_modRec]
  rw [← h]

@[simp] theorem getR_queued (s : State) (q : HomeReq) (r : Reg) (i j f : Nat) : getR (queued s q) r i j f = getR s r i j f := rfl
@[simp] theorem queued_msgs (s : State) (q : HomeReq) : (queued s q).mzn.msgs = s.mzn.msgs := rfl
@[simp] theorem queued_caches (s : State) (q : HomeReq) : (queued s q).mzn.caches = s.mzn.caches := rfl
@[simp] theorem cacheLine_queued (s : State) (q : HomeReq) (a l : Nat) : cacheLine (queued s q) a l = cacheLine s a l := rfl
@[simp] theorem wbLine_queued (s : State) (q : HomeReq) (a l : Nat) : wbLine (queued s q) a l = wbLine s a l := rfl
@[simp] theorem besideHalls_queued (s : State) (q : HomeReq) : besideHalls (queued s q) = besideHalls s := rfl
@[simp] theorem besideMzn_queued (s : State) (q : HomeReq) : besideMzn (queued s q) = besideMzn s := rfl

/-- No request waits at a line, and its home records these holders. -/
def noneWaits (s : State) (l : Nat) (hs : List (Nat × Hold)) : Prop :=
  (lineRec s l).waiting = [] ∧ (lineRec s l).hostWaiting = [] ∧ (lineRec s l).reserved = [] ∧ (lineRec s l).holders = hs

/-- At a free line no request waits. -/
theorem noneWaits_of_lineFree {s : State} {l : Nat} {hs : List (Nat × Hold)} (h : lineFree s l hs) : noneWaits s l hs := by
  obtain ⟨-, -, hw, hh, hr, hhs⟩ := h
  exact ⟨hw, hh, hr, hhs⟩

/-- A request whose turn has come leaves no other waiting behind it. -/
theorem noneWaits_queued {s : State} {q : HomeReq} {hs : List (Nat × Hold)} (h : lineFree s q.line hs) : noneWaits (queued s q) q.line hs := by
  have hw := noneWaits_of_lineFree h
  rwa [noneWaits, lineRec_queued hw.1]

/-- A line that nobody holds needs no snoop. -/
theorem snoopsOf_of_unheld {r : LineRec} (q : HomeReq) (h : r.holders = []) : snoopsOf r q = [] := by
  simp only [snoopsOf, h, List.filter_nil, List.map_nil]
  split <;> rfl

/-- A line of device memory under device bias needs no word of the host (R252). -/
theorem hostNeed_of_deviceBias {s : State} {q : HomeReq} (r : LineRec) (hl : hostLine q.line = false) (hb : hostBias s q.line = false) :
    hostNeed s r q = none := by
  simp [hostNeed, hl, hb]

/-- A request that needs neither snoops nor the host awaits no answer. -/
theorem openTxn_eq_freshTxn {s : State} {q : HomeReq} (hs : snoopsOf (lineRec s q.line) q = []) (hh : hostNeed s (lineRec s q.line) q = none) :
    openTxn s q = freshTxn q := by
  rw [openTxn, hs, hh]
  rfl

/-- A request for a line of device memory that nobody holds awaits no answer. -/
theorem openTxn_of_unheld {s : State} {q : HomeReq} (hw : noneWaits s q.line []) (hl : hostLine q.line = false) (hb : hostBias s q.line = false) :
    openTxn s q = freshTxn q :=
  openTxn_eq_freshTxn (snoopsOf_of_unheld q hw.2.2.2) (hostNeed_of_deviceBias _ hl hb)

/-- A request whose snoops go out awaits their answers. -/
theorem openTxn_awaits {s : State} {q : HomeReq} (h : snoopsOf (lineRec s q.line) q ≠ []) : (openTxn s q).ready = false := by
  simp [openTxn, Txn.ready, h]

/-- A kind other than UPGR is served as it is (R234). -/
theorem effectiveKind_eq (r : LineRec) {q : HomeReq} (h : q.kind ≠ .upgr) : effectiveKind r q = q.kind := by
  unfold effectiveKind
  split
  · exact absurd ‹_› h
  · rfl

/-! ### The end of a transaction -/

@[simp] theorem freshTxn_req (q : HomeReq) : (freshTxn q).req = q := rfl
@[simp] theorem freshTxn_buffer (q : HomeReq) : (freshTxn q).buffer = none := rfl
@[simp] theorem txnData_freshTxn (s : State) (q : HomeReq) (src : Nat) : txnData s (freshTxn q) src = readMem s q src := rfl

section
variable (s : State) (l : Nat)

@[simp] theorem lineRec_freeLine : lineRec (freeLine s l) l = { lineRec s l with txn := none, freeSince := s.now } := by simp [freeLine]
@[simp] theorem freeLine_msgs : (freeLine s l).mzn.msgs = s.mzn.msgs := rfl
@[simp] theorem cacheLine_freeLine (a k : Nat) : cacheLine (freeLine s l) a k = cacheLine s a k := rfl
@[simp] theorem wbLine_freeLine (a k : Nat) : wbLine (freeLine s l) a k = wbLine s a k := rfl
@[simp] theorem arrayLine_freeLine (k : Nat) : arrayLine (freeLine s l) k = arrayLine s k := rfl
@[simp] theorem freeLine_caches : (freeLine s l).mzn.caches = s.mzn.caches := rfl
@[simp] theorem freeLine_halls : (freeLine s l).halls = s.halls := rfl
@[simp] theorem freeLine_regs : (freeLine s l).regs = s.regs := rfl
@[simp] theorem granted_regs : (granted s l).regs = s.regs := rfl
@[simp] theorem getR_freeLine (r : Reg) (i j f : Nat) : getR (freeLine s l) r i j f = getR s r i j f := rfl
@[simp] theorem besideMzn_freeLine : besideMzn (freeLine s l) = besideMzn s := rfl
@[simp] theorem besideHalls_freeLine : besideHalls (freeLine s l) = besideHalls s := rfl

@[simp] theorem lineRec_granted :
    lineRec (granted s l) l = { lineRec s l with txn := (lineRec s l).txn.map fun t => { t with granted := true } } := by simp [granted]
@[simp] theorem granted_msgs : (granted s l).mzn.msgs = s.mzn.msgs := rfl
@[simp] theorem granted_caches : (granted s l).mzn.caches = s.mzn.caches := rfl
@[simp] theorem besideMzn_granted : besideMzn (granted s l) = besideMzn s := rfl

end

end Sys2Proof.Machine

/-! ### Requests of a line that the array holds -/

namespace Sys2Proof.Machine

open Sys2Proof.Safety

/-- The array still holds a line when its home has noted a request. -/
theorem inArray_queued {s : State} (q : HomeReq) {l : Nat} {x : ArrLine} (h : inArray s l x) : inArray (queued s q) l x := h

/-- The array still holds a line when a request for it has started. -/
theorem inArray_startReq {s : State} (q : HomeReq) {l : Nat} {x : ArrLine} (h : inArray s l x) : inArray (startReq s q) l x := by
  obtain ⟨rg, hs⟩ := startReq_eq s q
  rw [hs]
  exact h

/-- What the host's bias of a line rests on. -/
theorem hostBias_queued (s : State) (q : HomeReq) (l : Nat) : hostBias (queued s q) l = hostBias s l := rfl

/-- A read for sharing of a line that nobody holds brings it in E (R234). -/
theorem completeTxn_rdS_unheld {s : State} {q : HomeReq} {a : Nat} {x : ArrLine} (hk : q.kind = .rdS) (ha : q.asker = .agent a)
    (he : q.err = MemErr.none) (hh : (lineRec s q.line).holders = []) (hx : inArray s q.line x) :
    completeTxn s q.line (freshTxn q) =
      granted (sendMzn (modRec (arrayRead s q.line x) q.line fun y => setHold y a (some .x)) (.gdat (.agent a) q.line (some .e) x.data 0))
        q.line := by
  obtain ⟨hl, -, hax, hp⟩ := hx
  simp [completeTxn, effectiveKind_eq (lineRec s q.line) (q := q) (by simp [hk]), hk, readMem_array 2 he hl hax hp, hh, hl, HomeReq.agent, ha]

/-- A read for ownership of a line that nobody else holds any more brings it in M (R234). -/
theorem completeTxn_rdU {s : State} {q : HomeReq} {a : Nat} {x : ArrLine} (hk : q.kind = .rdU) (ha : q.asker = .agent a)
    (he : q.err = MemErr.none) (hx : inArray s q.line x) :
    completeTxn s q.line (freshTxn q) =
      granted (sendMzn (modRec (arrayRead s q.line x) q.line fun y => { y with holders := [(a, .x)] })
        (.gdat (.agent a) q.line (some .m) x.data 0)) q.line := by
  obtain ⟨hl, -, hax, hp⟩ := hx
  simp [completeTxn, effectiveKind_eq (lineRec s q.line) (q := q) (by simp [hk]), hk, readMem_array 2 he hl hax hp, HomeReq.agent, ha]

/-- An upgrade of an agent that is still recorded makes it the only holder, without data (R234). -/
theorem completeTxn_upgr {s : State} {l : Nat} {t : Txn} {a : Nat} (hk : t.req.kind = .upgr) (ha : t.req.asker = .agent a)
    (hh : (heldAs (lineRec s l) a).isSome = true) :
    completeTxn s l t = granted (sendMzn (modRec s l fun y => { y with holders := [(a, .x)] }) (.cmp (.agent a) l .upgr)) l := by
  simp [completeTxn, effectiveKind, hk, ha, HomeReq.agent, hh]

/-- A read without caching answers with the memory copy (R234). -/
theorem completeTxn_rdNc {s : State} {q : HomeReq} {x : ArrLine} (hk : q.kind = .rdNc) (he : q.err = MemErr.none) (hx : inArray s q.line x) :
    completeTxn s q.line (freshTxn q) = freeLine (sendMzn (arrayRead s q.line x) (.gdat q.asker q.line none x.data 0)) q.line := by
  obtain ⟨hl, -, hax, hp⟩ := hx
  simp [completeTxn, effectiveKind_eq (lineRec s q.line) (q := q) (by simp [hk]), hk, readMem_array 2 he hl hax hp]

/-- A write of a whole line writes the memory copy and leaves no holder (R234, R241). -/
theorem completeTxn_wrFull {s : State} {q : HomeReq} {x : ArrLine} (hk : q.kind = .wrFull) (hx : inArray s q.line x) :
    completeTxn s q.line (freshTxn q) =
      freeLine (sendMzn (modRec (arrayPut s q.line x q.data) q.line fun y => { y with holders := [] }) (.wcmp q.asker q.line 0)) q.line := by
  obtain ⟨hl, -, hax, -⟩ := hx
  simp [completeTxn, effectiveKind_eq (lineRec s q.line) (q := q) (by simp [hk]), hk, writeMem_array q.wing q.data hl hax]

/-- The state in which a home has read a line from the array and records no holder of it. -/
def readUnheld (s : State) (l : Nat) (x : ArrLine) : State := modRec (arrayRead s l x) l fun y => { y with holders := [] }

@[simp] theorem lineRec_readUnheld (s : State) (l : Nat) (x : ArrLine) : lineRec (readUnheld s l x) l = { lineRec s l with holders := [] } := by
  simp [readUnheld]
@[simp] theorem readUnheld_msgs (s : State) (l : Nat) (x : ArrLine) : (readUnheld s l x).mzn.msgs = s.mzn.msgs := rfl
@[simp] theorem besideHalls_readUnheld (s : State) (l : Nat) (x : ArrLine) : besideHalls (readUnheld s l x) = besideHalls s := rfl

/-- A line that the home has read is in the array, used last. -/
theorem arrayLine_readUnheld (s : State) (l : Nat) (x : ArrLine) : arrayLine (readUnheld s l x) l = some { x with used := s.mzn.tick } := by
  simp [readUnheld]

/-- A merge of some of a line's bytes reads the memory copy and writes it with those bytes changed (R234). -/
theorem completeTxn_wrMerge {s : State} {q : HomeReq} {x : ArrLine} (hk : q.kind = .wrMerge) (he : q.err = MemErr.none)
    (hm : q.mask ≠ 2 ^ 64 - 1) (hx : inArray s q.line x) :
    completeTxn s q.line (freshTxn q) =
      freeLine (sendMzn (arrayPut (readUnheld s q.line x) q.line { x with used := s.mzn.tick } (mergeMask q.mask x.data q.data))
        (.wcmp q.asker q.line 0)) q.line := by
  obtain ⟨hl, -, hax, hp⟩ := hx
  simp only [completeTxn, freshTxn_req, effectiveKind_eq (lineRec s q.line) (q := q) (by simp [hk]), hk, hm, if_false, txnData_freshTxn,
    readMem_array 4 he hl hax hp, if_true]
  rw [← readUnheld, writeMem_array q.wing _ hl (arrayLine_readUnheld s q.line x)]

/-- An atomic at the home answers the old line and writes the result (R243). -/
theorem completeTxn_atomH {s : State} {q : HomeReq} {x : ArrLine} (hk : q.kind = .atomH) (he : q.err = MemErr.none) (hx : inArray s q.line x) :
    completeTxn s q.line (freshTxn q) =
      freeLine (sendMzn (arrayPut (readUnheld s q.line x) q.line { x with used := s.mzn.tick } (atomLine q x.data))
        (.gdat q.asker q.line none x.data 0)) q.line := by
  obtain ⟨hl, -, hax, hp⟩ := hx
  simp only [completeTxn, freshTxn_req, effectiveKind_eq (lineRec s q.line) (q := q) (by simp [hk]), hk, txnData_freshTxn,
    readMem_array 2 he hl hax hp, if_true]
  rw [← readUnheld, writeMem_array q.wing _ hl (arrayLine_readUnheld s q.line x)]

/-- An agent that a list records alone. -/
theorem heldAs_singleton {r : LineRec} {a : Nat} {k : Hold} (h : r.holders = [(a, k)]) : heldAs r a = some k := by simp [heldAs, h]

/-- Taking the only holder out leaves none. -/
theorem setHold_none_singleton {r : LineRec} {a : Nat} {k : Hold} (h : r.holders = [(a, k)]) : setHold r a none = { r with holders := [] } := by
  simp [setHold, h]

/-- A writeback of the owner writes its data to the memory copy (R234, R239). -/
theorem completeTxn_wb {s : State} {q : HomeReq} {a : Nat} {x : ArrLine} {w : WbLine} (hk : q.kind = .wb) (ha : q.asker = .agent a)
    (hh : (lineRec s q.line).holders = [(a, .x)]) (hw : wbLine s a q.line = some w) (hp : w.poison = false) (hx : inArray s q.line x) :
    completeTxn s q.line (freshTxn q) =
      freeLine (sendMzn (modRec (arrayPut s q.line x w.data) q.line fun y => if heldAs y a = some .s then y else setHold y a none)
        (.cmp (.agent a) q.line .wb)) q.line := by
  obtain ⟨hl, -, hax, -⟩ := hx
  simp [completeTxn, effectiveKind_eq (lineRec s q.line) (q := q) (by simp [hk]), hk, ha, HomeReq.agent, heldAs_singleton hh, hw, hp,
    writeMem_array q.wing w.data hl hax, hl]

/-- A clean eviction of the only holder leaves none (R234). -/
theorem completeTxn_evc {s : State} {q : HomeReq} {a : Nat} (hk : q.kind = .evc) (ha : q.asker = .agent a) (hl : hostLine q.line = false) :
    completeTxn s q.line (freshTxn q) =
      freeLine (setCache (modRec s q.line fun y => setHold y a none) a q.line none) q.line := by
  simp [completeTxn, effectiveKind_eq (lineRec s q.line) (q := q) (by simp [hk]), hk, ha, HomeReq.agent, hl]

end Sys2Proof.Machine

namespace Sys2Proof.Machine

open Sys2Proof.Safety

/-! ### A request of a line at which nothing waits, until the line rests -/

/-- A line whose transaction has granted rests. -/
theorem rests_of_granted {r : LineRec} {t : Txn} (h : r.txn = some t) (hg : t.granted = true) : r.rests := by
  simp [LineRec.rests, h, Txn.ready, hg]

/-- A free line at which nothing waits rests. -/
theorem rests_of_free {r : LineRec} (h : r.txn = none) (hw : r.waiting = []) (hh : r.hostWaiting = []) (hr : r.reserved = []) : r.rests := by
  simp [LineRec.rests, h, hw, hh, hr]

/-- A request that awaits no answer is served at once. -/
theorem pumpLine_startReq_serves {s t : State} {q : HomeReq} (n : Nat) (ho : openTxn s q = freshTxn q)
    (hc : completeTxn (startReq s q) q.line (freshTxn q) = t) (hrest : (lineRec t q.line).rests) :
    pumpLine (startReq s q) q.line (n + 1) = t := by
  subst hc
  exact pumpLine_startReq_completes n ho hrest

/-- A request whose snoops go out stands at its line until they are answered. -/
theorem serve_snoops {s : State} {q : HomeReq} {sn : List (Nat × SnpKind)} (n : Nat) (hsn : snoopsOf (lineRec s q.line) q = sn) (hne : sn ≠ []) :
    ∃ t, pumpLine (startReq s q) q.line n = t ∧ t.mzn.msgs = s.mzn.msgs ++ sn.map (fun e => .snp e.1 q.line e.2) ∧
      (∃ x, (lineRec t q.line).txn = some x ∧ x.awaiting = sn.map Prod.fst ∧ x.granted = false) ∧
      (lineRec t q.line).holders = (lineRec s q.line).holders ∧ besideMzn t = besideMzn s := by
  subst hsn
  exact ⟨_, pumpLine_startReq_awaits n (openTxn_awaits hne), by simp, ⟨openTxn s q, by simp, rfl, rfl⟩, by simp, by simp⟩

section
variable {s : State} {q : HomeReq} {a : Nat} {x : ArrLine} (n : Nat)

/-- A read for sharing of a line that nobody holds is answered with the line in E. -/
theorem serve_rdS (hk : q.kind = .rdS) (ha : q.asker = .agent a) (he : q.err = MemErr.none) (hw : noneWaits s q.line []) (hx : inArray s q.line x) :
    ∃ t, pumpLine (startReq s q) q.line (n + 1) = t ∧ t.mzn.msgs = s.mzn.msgs ++ [.gdat (.agent a) q.line (some .e) x.data 0] ∧
      (lineRec t q.line).holders = [(a, .x)] ∧ (∃ m, (lineRec t q.line).txn = some m ∧ m.granted = true ∧ m.req.agent = some a) ∧
      t.mzn.caches = s.mzn.caches ∧ besideMzn t = besideMzn s := by
  have ho := openTxn_of_unheld hw hx.1 hx.2.1
  obtain ⟨-, -, -, hh⟩ := hw
  have hc := completeTxn_rdS_unheld hk ha he (by simp [hh]) (inArray_startReq q hx)
  refine ⟨_, pumpLine_startReq_serves n ho hc (rests_of_granted (by simp [setHold]; rfl) rfl), ?_, ?_, ⟨_, by simp [setHold]; rfl, rfl, ?_⟩,
    by simp, by simp⟩
  · simp [snoopsOf_of_unheld q hh]
  · simp [setHold, hh]
  · simp [HomeReq.agent, ha, ho]

/-- A read for ownership of a line that nobody holds is answered with the line in M. -/
theorem serve_rdU (hk : q.kind = .rdU) (ha : q.asker = .agent a) (he : q.err = MemErr.none) (hw : noneWaits s q.line []) (hx : inArray s q.line x) :
    ∃ t, pumpLine (startReq s q) q.line (n + 1) = t ∧ t.mzn.msgs = s.mzn.msgs ++ [.gdat (.agent a) q.line (some .m) x.data 0] ∧
      (lineRec t q.line).holders = [(a, .x)] ∧ besideMzn t = besideMzn s := by
  have ho := openTxn_of_unheld hw hx.1 hx.2.1
  have hc := completeTxn_rdU hk ha he (inArray_startReq q hx)
  refine ⟨_, pumpLine_startReq_serves n ho hc (rests_of_granted (by simp; rfl) rfl), ?_, by simp, by simp⟩
  simp [snoopsOf_of_unheld q hw.2.2.2]

/-- An upgrade of the only holder of a line is answered without data. -/
theorem serve_upgr {k : Hold} (hk : q.kind = .upgr) (ha : q.asker = .agent a) (hl : hostLine q.line = false) (hw : noneWaits s q.line [(a, k)]) :
    ∃ t, pumpLine (startReq s q) q.line (n + 1) = t ∧ t.mzn.msgs = s.mzn.msgs ++ [.cmp (.agent a) q.line .upgr] ∧
      (lineRec t q.line).holders = [(a, .x)] ∧ besideMzn t = besideMzn s := by
  obtain ⟨-, -, -, hh⟩ := hw
  have hkind : effectiveKind (lineRec s q.line) q = .upgr := by simp [effectiveKind, hk, ha, HomeReq.agent, heldAs_singleton hh]
  have hsn : snoopsOf (lineRec s q.line) q = [] := by simp [snoopsOf, hkind, hh, HomeReq.agent, ha]
  have ho : openTxn s q = freshTxn q := openTxn_eq_freshTxn hsn (by simp [hostNeed, hkind, hl])
  have hc := completeTxn_upgr (s := startReq s q) (l := q.line) (t := freshTxn q) hk ha (by simp [heldAs, hh])
  refine ⟨_, pumpLine_startReq_serves n ho hc (rests_of_granted (by simp; rfl) rfl), ?_, by simp, by simp⟩
  simp [hsn]

/-- A writeback of the owner's dirty data writes the array's copy and leaves no holder. -/
theorem serve_wb {w : WbLine} (hk : q.kind = .wb) (ha : q.asker = .agent a) (hb : wbLine s a q.line = some w) (hp : w.poison = false)
    (hw : noneWaits s q.line [(a, .x)]) (hx : inArray s q.line x) :
    ∃ t, pumpLine (startReq s q) q.line (n + 1) = t ∧ cacheLine t a q.line = cacheLine s a q.line ∧ wbLine t a q.line = some w ∧
      arrayWritten t q.line x w.data ∧ (lineRec t q.line).holders = [] ∧ (lineRec t q.line).txn = none ∧
      t.mzn.msgs = s.mzn.msgs ++ [.cmp (.agent a) q.line .wb] ∧ besideHalls t = besideHalls s := by
  obtain ⟨hwait, hhost, hres, hh⟩ := hw
  have hsn : snoopsOf (lineRec s q.line) q = [] := by simp [snoopsOf, effectiveKind_eq _ (q := q) (by simp [hk]), hk]
  have ho : openTxn s q = freshTxn q := openTxn_eq_freshTxn hsn (hostNeed_of_deviceBias _ hx.1 hx.2.1)
  have hc := completeTxn_wb (s := startReq s q) hk ha (by simp [hh]) (by simp [hb]) hp (inArray_startReq q hx)
  refine ⟨_, pumpLine_startReq_serves n ho hc (rests_of_free ?_ ?_ ?_ ?_), ?_, ?_, ⟨(startReq s q).mzn.tick, ?_⟩, ?_, ?_, ?_, ?_⟩
  all_goals simp [heldAs, setHold, hh, hwait, hhost, hres, hb, hsn]

/-- A clean eviction of the only holder leaves none, and no message. -/
theorem serve_evc {k : Hold} (hk : q.kind = .evc) (ha : q.asker = .agent a) (hl : hostLine q.line = false) (hw : noneWaits s q.line [(a, k)]) :
    ∃ t, pumpLine (startReq s q) q.line (n + 1) = t ∧ cacheLine t a q.line = none ∧ (lineRec t q.line).holders = [] ∧
      (lineRec t q.line).txn = none ∧ t.mzn.msgs = s.mzn.msgs ∧ besideMzn t = besideMzn s ∧
      regsKeptBut s t (regKey 0 .mznBusyWaitNs (homeSlice s q.line) 0) := by
  obtain ⟨hwait, hhost, hres, hh⟩ := hw
  have hkind : effectiveKind (lineRec s q.line) q = .evc := (effectiveKind_eq _ (by simp [hk])).trans hk
  have hsn : snoopsOf (lineRec s q.line) q = [] := by simp [snoopsOf, hkind]
  have ho : openTxn s q = freshTxn q := openTxn_eq_freshTxn hsn (by simp [hostNeed, hkind, hl])
  have hc := completeTxn_evc (s := startReq s q) hk ha hl
  refine ⟨_, pumpLine_startReq_serves n ho hc (rests_of_free ?_ ?_ ?_ ?_), ?_, ?_, ?_, ?_, ?_, fun r i j f hr => ?_⟩
  case refine_10 => simpa using regsKeptBut_startReq hsn r i j f hr
  all_goals simp [setHold, hh, hwait, hhost, hres, hsn]

/-- A read without caching of a line that nobody holds is answered with the memory copy. -/
theorem serve_rdNc (hk : q.kind = .rdNc) (he : q.err = MemErr.none) (hw : noneWaits s q.line []) (hx : inArray s q.line x) :
    ∃ t, pumpLine (startReq s q) q.line (n + 1) = t ∧ t.mzn.msgs = s.mzn.msgs ++ [.gdat q.asker q.line none x.data 0] ∧
      (lineRec t q.line).holders = [] ∧ (lineRec t q.line).txn = none ∧ besideMzn t = besideMzn s := by
  have ho := openTxn_of_unheld hw hx.1 hx.2.1
  obtain ⟨hwait, hhost, hres, hh⟩ := hw
  have hc := completeTxn_rdNc hk he (inArray_startReq q hx)
  refine ⟨_, pumpLine_startReq_serves n ho hc (rests_of_free ?_ ?_ ?_ ?_), ?_, ?_, ?_, ?_⟩
  all_goals simp [hh, hwait, hhost, hres, snoopsOf_of_unheld q hh]

/-- A write of a whole line that nobody holds writes the array's copy. -/
theorem serve_wrFull (hk : q.kind = .wrFull) (hw : noneWaits s q.line []) (hx : inArray s q.line x) :
    ∃ t, pumpLine (startReq s q) q.line (n + 1) = t ∧ arrayWritten t q.line x q.data ∧ t.mzn.msgs = s.mzn.msgs ++ [.wcmp q.asker q.line 0] ∧
      (lineRec t q.line).txn = none ∧ besideHalls t = besideHalls s := by
  have ho := openTxn_of_unheld hw hx.1 hx.2.1
  obtain ⟨hwait, hhost, hres, hh⟩ := hw
  have hc := completeTxn_wrFull hk (inArray_startReq q hx)
  refine ⟨_, pumpLine_startReq_serves n ho hc (rests_of_free ?_ ?_ ?_ ?_), ⟨(startReq s q).mzn.tick, ?_⟩, ?_, ?_, ?_⟩
  all_goals simp [hh, hwait, hhost, hres, snoopsOf_of_unheld q hh]

/-- A merge into a line that nobody holds changes the named bytes of the array's copy. -/
theorem serve_wrMerge (hk : q.kind = .wrMerge) (he : q.err = MemErr.none) (hm : q.mask ≠ 2 ^ 64 - 1) (hw : noneWaits s q.line [])
    (hx : inArray s q.line x) :
    ∃ t, pumpLine (startReq s q) q.line (n + 1) = t ∧ arrayWritten t q.line x (mergeMask q.mask x.data q.data) ∧
      t.mzn.msgs = s.mzn.msgs ++ [.wcmp q.asker q.line 0] ∧ (lineRec t q.line).txn = none ∧ besideHalls t = besideHalls s := by
  have ho := openTxn_of_unheld hw hx.1 hx.2.1
  obtain ⟨hwait, hhost, hres, hh⟩ := hw
  have hc := completeTxn_wrMerge hk he hm (inArray_startReq q hx)
  refine ⟨_, pumpLine_startReq_serves n ho hc (rests_of_free ?_ ?_ ?_ ?_), ⟨(readUnheld (startReq s q) q.line x).mzn.tick, ?_⟩, ?_, ?_, ?_⟩
  all_goals simp [hh, hwait, hhost, hres, snoopsOf_of_unheld q hh]

/-- An atomic on a line that nobody holds answers the array's copy and changes it. -/
theorem serve_atomH (hk : q.kind = .atomH) (he : q.err = MemErr.none) (hw : noneWaits s q.line []) (hx : inArray s q.line x) :
    ∃ t, pumpLine (startReq s q) q.line (n + 1) = t ∧ arrayWritten t q.line x (atomLine q x.data) ∧
      t.mzn.msgs = s.mzn.msgs ++ [.gdat q.asker q.line none x.data 0] ∧ besideHalls t = besideHalls s := by
  have ho := openTxn_of_unheld hw hx.1 hx.2.1
  obtain ⟨hwait, hhost, hres, hh⟩ := hw
  have hc := completeTxn_atomH hk he (inArray_startReq q hx)
  refine ⟨_, pumpLine_startReq_serves n ho hc (rests_of_free ?_ ?_ ?_ ?_), ⟨(readUnheld (startReq s q) q.line x).mzn.tick, ?_⟩, ?_, ?_⟩
  all_goals simp [hh, hwait, hhost, hres, snoopsOf_of_unheld q hh]

end

end Sys2Proof.Machine

/-! ### RD_S, RD_U, UPGR, WB and EVC (R234) -/

namespace Sys2Proof.Machine

open Sys2Proof.Safety

/-- A request that finds its line free is served there; what the home does with it is said of a line at which nothing waits. -/
theorem arriveReq_serve {s : State} {q : HomeReq} {hs : List (Nat × Hold)} {P : State → Prop} (hk : q.kind.queues = true) (hf : lineFree s q.line hs)
    (h : ∀ n, ∃ t, pumpLine (startReq (queued s q) q) q.line (n + 1) = t ∧ P t) : ∃ t, arriveReq s q = t ∧ P t := by
  obtain ⟨n, hn⟩ := arriveReq_free hk hf
  obtain ⟨t, ht, hP⟩ := h n
  exact ⟨t, hn.trans ht, hP⟩

section
variable {s : State} {a l : Nat}

/-- An agent that may cache a line, holds nothing of it and has no request under way reads it to share (R229, R234). -/
theorem exec_rdS (err : MemErr) (hp : agentPresent s a = true) (hc : cacheable s l = true) (hb : agentBusy s a l = false)
    (hn : cacheLine s a l = none) : exec (.rdS a l err) s = .next (agentReq s .rdS a l err) :=
  if_pos (by simp [hp, hc, hb, hn])

/-- Such an agent reads it for ownership. -/
theorem exec_rdU (err : MemErr) (hp : agentPresent s a = true) (hc : cacheable s l = true) (hb : agentBusy s a l = false)
    (hn : cacheLine s a l = none) : exec (.rdU a l err) s = .next (agentReq s .rdU a l err) :=
  if_pos (by simp [hp, hc, hb, hn])

/-- An agent that shares a line asks for ownership. -/
theorem exec_upgr {c : CLine} (err : MemErr) (hc : cacheLine s a l = some c) (hst : c.st = .s ∨ c.st = .o) (hb : agentBusy s a l = false) :
    exec (.upgr a l err) s = .next (agentReq s .upgr a l err) := by
  show execUpgr a l err s = _
  simp only [execUpgr, hc]
  exact if_pos (by rcases hst with h | h <;> simp [h, hb])

/-- An agent with a dirty line evicts it. -/
theorem exec_wb {c : CLine} (hc : cacheLine s a l = some c) (hst : c.st = .m) (hb : agentBusy s a l = false) :
    exec (.wb a l) s = .next (evictLine s a l) := by
  show execWb a l s = _
  simp only [execWb, hc]
  exact if_pos (by simp [hst, hb])

/-- An agent with a clean line announces its eviction. -/
theorem exec_evc {c : CLine} (hc : cacheLine s a l = some c) (hst : c.st = .e ∨ c.st = .s) (hb : agentBusy s a l = false) :
    exec (.evc a l) s = .next (evictLine s a l) := by
  show execEvc a l s = _
  simp only [execEvc, hc]
  exact if_pos (by rcases hst with h | h <;> simp [h, hb])

/-- A line that an agent may cache is under device bias (R229). -/
theorem hostBias_of_cacheable (h : cacheable s l = true) : hostBias s l = false := by
  simp only [cacheable, Bool.and_eq_true, Bool.not_eq_true'] at h
  exact h.2

/-- A read for sharing pulls the owner (R234). -/
theorem snoopsOf_rdS_owner {r : LineRec} {q : HomeReq} {b : Nat} {k : Hold} (hq : q.kind = .rdS) (hh : r.holders = [(b, k)])
    (hb : q.agent ≠ some b) (hk : k ≠ .s) : snoopsOf r q = [(b, .pull)] := by
  simp [snoopsOf, effectiveKind_eq r (q := q) (by simp [hq]), hq, hh, hb, hk]

/-- A read for ownership takes every other holder's copy, with its data from an owner (R234). -/
theorem snoopsOf_rdU_others {r : LineRec} {q : HomeReq} {hs : List (Nat × Hold)} (hq : q.kind = .rdU) (hh : r.holders = hs)
    (hb : ∀ e ∈ hs, q.agent ≠ some e.1) : snoopsOf r q = hs.map fun e => (e.1, if e.2 == .s then .inv else .invd) := by
  simp only [snoopsOf, effectiveKind_eq r (q := q) (by simp [hq]), hq, hh]
  rw [List.filter_eq_self.mpr (by simpa using hb)]

/-- The eviction of a clean line that its agent alone holds (R238). -/
theorem evictLine_clean {c : CLine} {k : Hold} (hc : cacheLine s a l = some c) (hst : c.st = .e ∨ c.st = .s) (hl : hostLine l = false)
    (hf : lineFree s l [(a, k)]) :
    ∃ t, evictLine s a l = t ∧ cacheLine t a l = none ∧ (lineRec t l).holders = [] ∧ (lineRec t l).txn = none ∧
      t.mzn.msgs = s.mzn.msgs ∧ besideMzn t = besideMzn s ∧ regsKeptBut s t (regKey 0 .mznBusyWaitNs (homeSlice s l) 0) := by
  have hgo : evictLine s a l = arriveReq s (plainReq .evc (.agent a) l (agentWing s a) MemErr.none s.now) := by
    rcases hst with h | h <;> simp [evictLine, hc, h]
  obtain ⟨t, ht, hcl, hh, hx, hm, hframe, hregs⟩ := arriveReq_serve (q := plainReq .evc (.agent a) l (agentWing s a) MemErr.none s.now) rfl hf
    fun n => serve_evc n rfl rfl hl (noneWaits_queued hf)
  exact ⟨t, hgo.trans ht, hcl, hh, hx, hm, hframe.trans (besideMzn_queued ..), fun r i j f hr => hregs r i j f hr⟩

/-- The state in which an agent has moved a dirty line from its cache to its writeback buffer. -/
def intoBuffer (s : State) (a l : Nat) (c : CLine) : State := setWb (setCache s a l none) a l (some ⟨some .m, c.data, c.poison⟩)

/-- The eviction of a dirty line that its agent owns (R239). -/
theorem evictLine_dirty {c : CLine} {x : ArrLine} (hc : cacheLine s a l = some c) (hst : c.st = .m) (hp : c.poison = false)
    (hf : lineFree s l [(a, .x)]) (hx : inArray s l x) :
    ∃ t, evictLine s a l = t ∧ cacheLine t a l = none ∧ wbLine t a l = some ⟨some .m, c.data, false⟩ ∧ arrayWritten t l x c.data ∧
      (lineRec t l).holders = [] ∧ (lineRec t l).txn = none ∧ t.mzn.msgs = s.mzn.msgs ++ [.cmp (.agent a) l .wb] ∧
      besideHalls t = besideHalls s := by
  have hgo : evictLine s a l = arriveReq (intoBuffer s a l c) (plainReq .wb (.agent a) l (agentWing s a) MemErr.none s.now) := by
    simp [evictLine, hc, hst, intoBuffer]
  have hfb : lineFree (intoBuffer s a l c) l [(a, .x)] := hf
  have hxb : inArray (intoBuffer s a l c) l x := hx
  have hn : cacheLine (intoBuffer s a l c) a l = none := by simp [intoBuffer]
  have hw : wbLine (intoBuffer s a l c) a l = some ⟨some .m, c.data, false⟩ := by simp [intoBuffer, hp]
  have hm : (intoBuffer s a l c).mzn.msgs = s.mzn.msgs := rfl
  have hb : besideHalls (intoBuffer s a l c) = besideHalls s := rfl
  rw [hgo, ← hm, ← hb]
  generalize intoBuffer s a l c = u at hfb hxb hn hw
  obtain ⟨t, ht, hcl, hwb, hxw, hh, hxn, hmsgs, hframe⟩ := arriveReq_serve (q := plainReq .wb (.agent a) l (agentWing s a) MemErr.none s.now) rfl hfb
    fun n => serve_wb n rfl rfl hw rfl (noneWaits_queued hfb) (inArray_queued _ hxb)
  exact ⟨t, ht, hcl.trans hn, hwb, hxw, hh, hxn, hmsgs, hframe.trans (besideHalls_queued ..)⟩

end

end Sys2Proof.Machine

section
open Sys2Proof Sys2Proof.Machine Sys2Proof.Safety

/-- Settles O40: each request finds its line free, so that its home starts it at once. With no snoop to send it is served on the spot; otherwise
it stands at the line, and the snoops of R234 are on the Corridor. -/
theorem homesServeAgents : Obligations.HomesServeAgents := by
  refine ⟨?share, ?pull, ?own, ?modify, ?upgrade, ?writeback, ?evict⟩
  case share =>
    intro s a l x hp hc hb hn hf hx
    obtain ⟨t, ht, hm, hh, ho, hcs, hframe⟩ := arriveReq_serve (q := plainReq .rdS (.agent a) l (agentWing s a) MemErr.none s.now) rfl hf
      fun n => serve_rdS n rfl rfl rfl (noneWaits_queued hf) (inArray_queued _ hx)
    exact ⟨t, (exec_rdS _ hp hc hb hn).trans (congrArg _ ht), hm, hh, ho, hcs, eq_of_besideMzn (hframe.trans (besideMzn_queued ..))⟩
  case pull =>
    intro s a b l k hp hc hb hn hl hne hk hf
    have hh := (noneWaits_queued (q := plainReq .rdS (.agent a) l (agentWing s a) MemErr.none s.now) hf).2.2.2
    have hag : some a ≠ some b := fun h => hne (Option.some.inj h).symm
    obtain ⟨t, ht, hm, hx, hhs, hframe⟩ := arriveReq_serve (q := plainReq .rdS (.agent a) l (agentWing s a) MemErr.none s.now) rfl hf
      fun n => serve_snoops (n + 1) (snoopsOf_rdS_owner rfl hh hag hk) (by simp)
    exact ⟨t, (exec_rdS _ hp hc hb hn).trans (congrArg _ ht), hm, hx, hhs.trans hh, eq_of_besideMzn (hframe.trans (besideMzn_queued ..))⟩
  case own =>
    intro s a l hs hp hc hb hn hl hne hd hf
    have hh := (noneWaits_queued (q := plainReq .rdU (.agent a) l (agentWing s a) MemErr.none s.now) hf).2.2.2
    have hag : ∀ e ∈ hs, some a ≠ some e.1 := fun e he h => hd e he (Option.some.inj h).symm
    obtain ⟨t, ht, hm, ⟨x, hx, ha, -⟩, -, hframe⟩ := arriveReq_serve (q := plainReq .rdU (.agent a) l (agentWing s a) MemErr.none s.now) rfl hf
      fun n => serve_snoops (n + 1) (snoopsOf_rdU_others rfl hh hag) (by simp [hne])
    exact ⟨t, (exec_rdU _ hp hc hb hn).trans (congrArg _ ht), hm.trans (by rw [List.map_map]; rfl), ⟨x, hx, ha.trans List.map_map⟩,
      eq_of_besideMzn (hframe.trans (besideMzn_queued ..))⟩
  case modify =>
    intro s a l x hp hc hb hn hf hx
    obtain ⟨t, ht, hm, hh, hframe⟩ := arriveReq_serve (q := plainReq .rdU (.agent a) l (agentWing s a) MemErr.none s.now) rfl hf
      fun n => serve_rdU n rfl rfl rfl (noneWaits_queued hf) (inArray_queued _ hx)
    exact ⟨t, (exec_rdU _ hp hc hb hn).trans (congrArg _ ht), hm, hh, eq_of_besideMzn (hframe.trans (besideMzn_queued ..))⟩
  case upgrade =>
    intro s a l c k hc hst hb hl hf
    obtain ⟨t, ht, hm, hh, hframe⟩ := arriveReq_serve (q := plainReq .upgr (.agent a) l (agentWing s a) MemErr.none s.now) rfl hf
      fun n => serve_upgr n rfl rfl hl (noneWaits_queued hf)
    exact ⟨t, (exec_upgr _ hc hst hb).trans (congrArg _ ht), hm, hh, eq_of_besideMzn (hframe.trans (besideMzn_queued ..))⟩
  case writeback =>
    intro s a l c x hc hst hp hb hf hx
    obtain ⟨t, ht, hcl, hw, hx, hh, hxn, hm, hframe⟩ := evictLine_dirty hc hst hp hf hx
    exact ⟨t, (exec_wb hc hst hb).trans (congrArg _ ht), hcl, hw, hx, hh, hxn, hm, eq_of_besideHalls hframe⟩
  case evict =>
    intro s a l c k hc hst hb hl hf
    obtain ⟨t, ht, hcl, hh, hxn, hm, hframe, -⟩ := evictLine_clean hc hst hl hf
    exact ⟨t, (exec_evc hc hst hb).trans (congrArg _ ht), hcl, hh, hxn, hm, eq_of_besideMzn hframe⟩

end

/-! ## Messages on the Corridor -/

namespace Sys2Proof.Machine

open Sys2Proof.Safety

/-! ### The receipt of a message (R231) -/

/-- The state in which a message has left the Corridor and is about to be received. -/
def delivered (s : State) (m : Msg) : State := modMzn s fun z => { z with msgs := z.msgs.erase m }

/-- The first message that a test finds is the one received. -/
theorem receiveFirst_found {s : State} {p : Msg → Bool} {m : Msg} (bad : Bool) (h : s.mzn.msgs.find? p = some m) :
    receiveFirst s p bad = receive (delivered s m) m bad := by
  simp only [receiveFirst, h, delivered]

/-- A message on the Corridor is found by a test for it. -/
theorem find_eq_of_mem {m : Msg} {l : List Msg} (h : m ∈ l) : l.find? (fun y => y == m) = some m := by
  cases hf : l.find? (fun y => y == m) with
  | none => exact absurd (List.find?_eq_none.mp hf m h) (by simp)
  | some y =>
    have hy : (y == m) = true := List.find?_some (p := fun y => y == m) hf
    rw [eq_of_beq hy]

/-- A message on the Corridor is received by a test for it. -/
theorem receiveFirst_mem {s : State} {m : Msg} (bad : Bool) (h : m ∈ s.mzn.msgs) :
    receiveFirst s (fun y => y == m) bad = receive (delivered s m) m bad := receiveFirst_found bad (find_eq_of_mem h)

section
variable (s : State) (m : Msg) (a l : Nat)

@[simp] theorem delivered_msgs : (delivered s m).mzn.msgs = s.mzn.msgs.erase m := rfl
@[simp] theorem cacheLine_delivered : cacheLine (delivered s m) a l = cacheLine s a l := rfl
@[simp] theorem wbLine_delivered : wbLine (delivered s m) a l = wbLine s a l := rfl
@[simp] theorem lineRec_delivered : lineRec (delivered s m) l = lineRec s l := rfl
@[simp] theorem delivered_tick : (delivered s m).mzn.tick = s.mzn.tick := rfl
@[simp] theorem delivered_regs : (delivered s m).regs = s.regs := rfl
@[simp] theorem besideMzn_delivered : besideMzn (delivered s m) = besideMzn s := rfl
@[simp] theorem besideHalls_delivered : besideHalls (delivered s m) = besideHalls s := rfl

end

/-! ### A holder answers a snoop (R234, R239) -/

/-- A holder that has the line in its cache answers a pull with its data and keeps a copy. -/
theorem answerSnoop_pull {s : State} {a l : Nat} {c : CLine} (bad : Bool) (h : cacheLine s a l = some c) :
    answerSnoop s a l .pull bad =
      sendMzn (setCache s a l (some { c with st := if c.st == .m || c.st == .o then .o else .s }))
        (.sdat a l c.data (c.st == .m || c.st == .o) (c.poison || bad)) := by
  simp only [answerSnoop, h]

/-- It answers a peek with its data and changes nothing. -/
theorem answerSnoop_peek {s : State} {a l : Nat} {c : CLine} (bad : Bool) (h : cacheLine s a l = some c) :
    answerSnoop s a l .peek bad = sendMzn s (.sdat a l c.data (c.st == .m || c.st == .o) (c.poison || bad)) := by
  simp only [answerSnoop, h]

/-- It answers an invalidation without data and drops its copy. -/
theorem answerSnoop_inv {s : State} {a l : Nat} {c : CLine} (bad : Bool) (h : cacheLine s a l = some c) :
    answerSnoop s a l .inv bad = sendMzn (setCache s a l none) (.srsp a l) := by
  simp only [answerSnoop, h]

/-- It answers the invalidation of an owner with its data and drops its copy. -/
theorem answerSnoop_invd {s : State} {a l : Nat} {c : CLine} (bad : Bool) (h : cacheLine s a l = some c) :
    answerSnoop s a l .invd bad =
      sendMzn (setCache s a l none) (.sdat a l c.data (c.st == .m || c.st == .o) (c.poison || bad)) := by
  simp only [answerSnoop, h]

/-- A snoop that reaches its holder is answered (R231). -/
theorem snoopArrives_eq {s : State} {a l : Nat} {k : SnpKind} (bad : Bool) (h : Msg.snp a l k ∈ s.mzn.msgs) :
    snoopArrives s k a l bad = answerSnoop (delivered s (.snp a l k)) a l k bad := receiveFirst_mem bad h

/-- A holder whose line waits in its writeback buffer answers from there: the data is dirty, an invalidation takes the buffer's ownership,
and a pull leaves it O (R239). -/
theorem answerSnoop_buffer {s : State} {a l : Nat} {w : WbLine} (k : SnpKind) (hc : cacheLine s a l = none) (hw : wbLine s a l = some w) :
    (k = .pull ∨ k = .peek ∨ k = .invd → (answerSnoop s a l k false).mzn.msgs = s.mzn.msgs ++ [.sdat a l w.data true w.poison]) ∧
      (k = .inv ∨ k = .invd → wbLine (answerSnoop s a l k false) a l = some { w with st := none }) ∧
      (k = .pull → wbLine (answerSnoop s a l k false) a l = some { w with st := some .o }) := by
  cases k <;> simp [answerSnoop, hc, hw]

/-! ### The flush of a set (R257) -/

/-- Whether a line is free at its home rests on the homes' records and on which slices there are. -/
theorem lineFree_congr {s t : State} {l : Nat} {hs : List (Nat × Hold)} (hm : t.mzn = s.mzn) (hp : ∀ k i, present t k i = present s k i)
    (h : lineFree s l hs) : lineFree t l hs := by
  have hh : homeSlice t = homeSlice s := funext fun k => by simp only [homeSlice, presentSlices, hp]
  simpa only [lineFree, trackersUsed, lineRec, hm, hh] using h

/-- MZN_EVENTS shows the filter error of a slice (R257). -/
theorem bit_filterError (s : State) (i : Nat) : bit (getR (setSticky s .mznEvents .mznEventEn 4 i) .mznEvents i) 2 = true := by
  rw [getR_setSticky_above _ _ _ _ _ _ _ _ _ (le_regKey_of_base 0 i 0 (by decide)), getR_setR_same]
  exact bit_or_two_pow_mod _ 2 32 (by decide)

end Sys2Proof.Machine

section
open Sys2Proof Sys2Proof.Machine Sys2Proof.Safety

/-- Settles O41: a snoop on the Corridor is taken off it and answered from the cache, or from the writeback buffer where the line has left the
cache; a flush notes the filter error and evicts the lines of the set, here one that its agent alone holds. -/
theorem holdersAnswerSnoops : Obligations.HoldersAnswerSnoops := by
  refine ⟨?pull, ?peek, ?inv, ?invd, ?buffer, ?flush, ?empty⟩
  case pull =>
    intro s a l bad c hm hc dirty
    refine ⟨_, congrArg Host.Outcome.next ((snoopArrives_eq bad hm).trans (answerSnoop_pull bad hc)), by simp [dirty], rfl, rfl⟩
  case peek =>
    intro s a l bad c hm hc
    exact congrArg Host.Outcome.next ((snoopArrives_eq bad hm).trans (answerSnoop_peek bad hc))
  case inv =>
    intro s a l c hm hc
    exact ⟨_, congrArg Host.Outcome.next ((snoopArrives_eq false hm).trans (answerSnoop_inv false hc)), by simp, rfl, rfl⟩
  case invd =>
    intro s a l bad c hm hc
    exact ⟨_, congrArg Host.Outcome.next ((snoopArrives_eq bad hm).trans (answerSnoop_invd bad hc)), by simp, rfl, rfl⟩
  case buffer =>
    intro s a l k w hm hc hw
    exact ⟨_, receiveFirst_mem false hm, answerSnoop_buffer k hc hw⟩
  case flush =>
    intro s a set i l c hp hi hset hc hst hl hf
    have hmzn : (setSticky s .mznEvents .mznEventEn 4 i).mzn = s.mzn := setSticky_mzn ..
    have hf' := lineFree_congr hmzn (fun k j => by simp [present, presenceWord]) hf
    obtain ⟨t, ht, hcl, hh, -, -, -, hregs⟩ := evictLine_clean (by rwa [cacheLine, hmzn]) hst hl hf'
    refine ⟨t, ?_, hcl, hh, ?_⟩
    · show execFlushSet a set i s = _
      rw [execFlushSet, if_pos (by rw [hp, hi]; rfl)]
      simp only [agentSet, hmzn] at hset ⊢
      rw [hset]
      exact congrArg _ ht
    · rw [hregs _ _ _ _ (by simp [regKey, regOff, regSpec]; omega)]
      exact bit_filterError s i
  case empty =>
    intro s a set i hp hi hset
    have hmzn : (setSticky s .mznEvents .mznEventEn 4 i).mzn = s.mzn := setSticky_mzn ..
    show execFlushSet a set i s = _
    rw [execFlushSet, if_pos (by rw [hp, hi]; rfl)]
    simp only [agentSet, hmzn] at hset ⊢
    rw [hset]
    rfl

end

namespace Sys2Proof.Machine

open Sys2Proof.Safety

/-! ### A home receives the answer to a snoop (R234, R237) -/

/-- A line at rest does not go on. -/
theorem pump_rests {s : State} {l : Nat} (h : (lineRec s l).rests) : pump s l = s := pumpLine_rests _ h

/-- A line whose transaction awaits nothing goes on with its completion. -/
theorem pump_completes {s t : State} {l : Nat} {x : Txn} (hx : (lineRec s l).txn = some x) (hr : x.ready = true) (hc : completeTxn s l x = t)
    (hrest : (lineRec t l).rests) : pump s l = t := by
  subst hc
  exact pumpLine_completes _ hx hr hrest

/-- The answer without data to a snoop that the home awaits: the home awaits the others. -/
theorem takeSnoop_srsp {s : State} {a l : Nat} {x : Txn} (hx : (lineRec s l).txn = some x) (ha : a ∈ x.awaiting) :
    takeSnoop s a l none false false =
      pump (modRec (modRec s l fun y => y) l fun y => { y with txn := some { x with awaiting := x.awaiting.filter fun y => y != a } }) l := by
  simp [takeSnoop, hx, ha]

/-- The state in which a pull that found a dirty owner is counted (R259). -/
def pullCounted (s : State) (l : Nat) (dirty : Bool) : State := if dirty then addR s .mznOwnedPulls 1 (homeSlice s l) else s

@[simp] theorem pullCounted_mzn (s : State) (l : Nat) (dirty : Bool) : (pullCounted s l dirty).mzn = s.mzn := by cases dirty <;> rfl
@[simp] theorem besideMzn_pullCounted (s : State) (l : Nat) (dirty : Bool) : besideMzn (pullCounted s l dirty) = besideMzn s := by
  cases dirty <;> rfl

/-- A pulled holder's line reaches the home: it is counted if it is dirty, its sender is recorded O or S, and it fills the line buffer. -/
theorem takeSnoop_pulled {s : State} {a l : Nat} {x : Txn} (d : List Byte) (dirty : Bool) (hx : (lineRec s l).txn = some x) (ha : a ∈ x.awaiting)
    (hk : x.req.kind = .rdS) :
    takeSnoop s a l (some d) dirty false =
      pump (modRec (modRec (pullCounted s l dirty) l
          fun y => setHold y a (some (if dirty then .o else .s))) l
        fun y => { y with txn := some { x with
          awaiting := x.awaiting.filter fun y => y != a, buffer := some d, dirty := x.dirty || dirty } }) l := by
  simp [takeSnoop, hx, ha, hk, pullCounted]

/-- A read for sharing whose data a holder has sent goes on to the reader, which shares the line (R234). -/
theorem completeTxn_rdS_shared {s : State} {l : Nat} {t : Txn} {b : Nat} {d : List Byte} (hk : t.req.kind = .rdS) (hb : t.req.asker = .agent b)
    (hd : t.buffer = some d) (hp : t.poison = false) (ho : ∃ e ∈ (lineRec s l).holders, e.1 ≠ b) :
    completeTxn s l t = granted (sendMzn (modRec s l fun y => setHold y b (some .s)) (.gdat (.agent b) l (some .s) d 0)) l := by
  have hn : (lineRec s l).holders.all (fun e => decide (t.req.agent = some e.1)) = false := by
    obtain ⟨e, he, hne⟩ := ho
    rw [List.all_eq_false]
    exact ⟨e, he, by simp [HomeReq.agent, hb, Ne.symm hne]⟩
  simp only [completeTxn, effectiveKind_eq (lineRec s l) (q := t.req) (by simp [hk]), hk, txnData, hd, hp, hn]
  simp [HomeReq.agent, hb]

/-- An agent is recorded as it was set. -/
theorem heldAs_setHold_same (r : LineRec) (a : Nat) (k : Hold) : heldAs (setHold r a (some k)) a = some k := by
  simp only [heldAs, setHold, List.find?_append]
  rw [List.find?_eq_none.mpr (by simp)]
  simp

/-- Setting one agent's record leaves another's. -/
theorem heldAs_setHold_other (r : LineRec) {a b : Nat} (k : Option Hold) (h : a ≠ b) : heldAs (setHold r b k) a = heldAs r a := by
  have hf : (r.holders.filter fun e => e.1 != b).find? (fun e => e.1 == a) = r.holders.find? fun e => e.1 == a := by
    rw [List.find?_filter]
    congr 1
    funext e
    by_cases he : e.1 = a <;> simp [he, h]
  cases k with
  | none => simp only [heldAs, setHold, hf]
  | some k => simp [heldAs, setHold, List.find?_append, hf, Ne.symm h]

end Sys2Proof.Machine

namespace Sys2Proof.Machine

open Sys2Proof.Safety

/-- A home that has the data of a read for sharing sends it on, records the reader, and awaits its ACK. -/
theorem pump_rdS_shared {v : State} {l : Nat} {t : Txn} {b : Nat} {d : List Byte} (ht : (lineRec v l).txn = some t) (hr : t.ready = true)
    (hk : t.req.kind = .rdS) (hb : t.req.asker = .agent b) (hd : t.buffer = some d) (hp : t.poison = false)
    (ho : ∃ e ∈ (lineRec v l).holders, e.1 ≠ b) :
    ∃ w, pump v l = w ∧ (∀ a, a ≠ b → heldAs (lineRec w l) a = heldAs (lineRec v l) a) ∧ heldAs (lineRec w l) b = some .s ∧
      w.mzn.msgs = v.mzn.msgs ++ [.gdat (.agent b) l (some .s) d 0] ∧ w.regs = v.regs ∧ besideMzn w = besideMzn v := by
  have hc := completeTxn_rdS_shared hk hb hd hp ho
  refine ⟨_, pump_completes ht hr hc (rests_of_granted (t := { t with granted := true }) (by simp [setHold, ht]) rfl), fun a ha => ?_, ?_, by simp,
    by simp, by simp⟩
  · simpa [heldAs] using heldAs_setHold_other (lineRec v l) (some .s) ha
  · simpa [heldAs] using heldAs_setHold_same (lineRec v l) b .s

/-- With the last answer to its snoops, a read for sharing passes the pulled data on (R234, R237). -/
theorem takeSnoop_pulled_last {s : State} {a b l : Nat} {x : Txn} (d : List Byte) (dirty : Bool) (hx : lineOf s l x) (hw : x.awaiting = [a])
    (hh : x.host = none) (hg : x.granted = false) (hp : x.poison = false) (hk : x.req.kind = .rdS) (hb : x.req.asker = .agent b) (hne : a ≠ b) :
    ∃ t, takeSnoop s a l (some d) dirty false = t ∧ heldAs (lineRec t l) a = some (if dirty then .o else .s) ∧
      heldAs (lineRec t l) b = some .s ∧ t.mzn.msgs = s.mzn.msgs ++ [.gdat (.agent b) l (some .s) d 0] ∧
      t.regs = (pullCounted s l dirty).regs ∧ besideMzn t = besideMzn s := by
  have hin : a ∈ x.awaiting := by simp [hw]
  rw [takeSnoop_pulled d dirty hx.1 hin hk]
  obtain ⟨t, ht, hothers, hreader, hm, hregs, hframe⟩ := pump_rdS_shared (l := l) (d := d)
    (t := { x with awaiting := x.awaiting.filter fun y => y != a, buffer := some d, dirty := x.dirty || dirty })
    (v := modRec (modRec (pullCounted s l dirty) l fun y => setHold y a (some (if dirty then .o else .s))) l
      fun y => { y with txn := some { x with
        awaiting := x.awaiting.filter fun y => y != a, buffer := some d, dirty := x.dirty || dirty } })
    (by rw [lineRec_modRec]) (by simp [Txn.ready, hw, hh, hg]) hk hb rfl hp ⟨(a, if dirty then .o else .s), by simp [setHold], hne⟩
  refine ⟨t, ht, (hothers a hne).trans ?_, hreader, by simpa using hm, hregs, by simpa using hframe⟩
  rw [lineRec_modRec, lineRec_modRec]
  exact heldAs_setHold_same ..

/-- With the last answer to its snoops, an upgrade makes its agent the only holder (R234). -/
theorem takeSnoop_upgr_last {s : State} {a b l : Nat} {x : Txn} (hx : lineOf s l x) (hw : x.awaiting = [a]) (hh : x.host = none)
    (hg : x.granted = false) (hk : x.req.kind = .upgr) (hb : x.req.asker = .agent b) (hheld : (heldAs (lineRec s l) b).isSome = true) :
    ∃ t, takeSnoop s a l none false false = t ∧ (lineRec t l).holders = [(b, .x)] ∧ t.mzn.msgs = s.mzn.msgs ++ [.cmp (.agent b) l .upgr] ∧
      t = { s with mzn := t.mzn } := by
  have hin : a ∈ x.awaiting := by simp [hw]
  rw [takeSnoop_srsp hx.1 hin]
  exact ⟨_, pump_completes (x := { x with awaiting := x.awaiting.filter fun y => y != a }) (by rw [lineRec_modRec])
    (by simp [Txn.ready, hw, hh, hg]) (completeTxn_upgr hk hb (by simpa [heldAs] using hheld)) (rests_of_granted (by simp; rfl) rfl),
    by simp, by simp, eq_of_besideMzn_regs (by simp) (by simp)⟩

/-- While other answers are due the home waits (R235). -/
theorem takeSnoop_srsp_more {s : State} {a l : Nat} {x : Txn} (hx : (lineRec s l).txn = some x) (ha : a ∈ x.awaiting)
    (hmore : x.awaiting.filter (fun y => y != a) ≠ []) :
    ∃ t, takeSnoop s a l none false false = t ∧ (lineRec t l).txn = some { x with awaiting := x.awaiting.filter fun y => y != a } ∧
      t.mzn.msgs = s.mzn.msgs ∧ t = { s with mzn := t.mzn } := by
  rw [takeSnoop_srsp hx ha]
  refine ⟨_, pump_rests ?_, by simp, by simp, eq_of_besideMzn_regs (by simp) (by simp)⟩
  simp only [LineRec.rests, lineRec_modRec, Txn.ready, List.isEmpty_eq_false_iff.mpr hmore, Bool.false_and]

/-! ### A requester receives its answer (R231, R235) -/

/-- The state in which a requester holds the answer to its request. -/
def tookAnswer (s : State) (d : List Byte) (st : Nat) : State := modMzn s fun z => { z with answer := d, answerStatus := st }

section
variable (s : State) (d : List Byte) (st a l : Nat)

@[simp] theorem tookAnswer_answer : (tookAnswer s d st).mzn.answer = d := rfl
@[simp] theorem tookAnswer_answerStatus : (tookAnswer s d st).mzn.answerStatus = st := rfl
@[simp] theorem tookAnswer_msgs : (tookAnswer s d st).mzn.msgs = s.mzn.msgs := rfl
@[simp] theorem tookAnswer_regs : (tookAnswer s d st).regs = s.regs := rfl
@[simp] theorem cacheLine_tookAnswer : cacheLine (tookAnswer s d st) a l = cacheLine s a l := rfl
@[simp] theorem besideMzn_tookAnswer : besideMzn (tookAnswer s d st) = besideMzn s := rfl

end

/-- A granted line enters the requester's cache where its set has room, and an ACK goes to the home. -/
theorem receive_gdat_agent {s : State} {a l : Nat} (st : LineSt) (d : List Byte) (bad : Bool) (hv : victimOf s a l = none) :
    receive s (.gdat (.agent a) l (some st) d 0) bad =
      sendMzn (tookAnswer (tickMzn (setCache s a l (some ⟨st, d, false, s.mzn.tick⟩))) d 0) (.ack a l) := by
  simp [receive, installLine, hv, tookAnswer]

/-- An upgraded line becomes M, and an ACK goes to the home. -/
theorem receive_cmp_upgr {s : State} {a l : Nat} {c : CLine} (bad : Bool) (hc : cacheLine s a l = some c) :
    receive s (.cmp (.agent a) l .upgr) bad =
      sendMzn (tickMzn (setCache s a l (some { c with st := .m, used := s.mzn.tick }))) (.ack a l) := by
  simp [receive, hc]

/-- The completion of a writeback frees its buffer (R239). -/
theorem receive_cmp_wb (s : State) (a l : Nat) (bad : Bool) : receive s (.cmp (.agent a) l .wb) bad = setWb s a l none := by
  simp [receive]

/-- The completion of a closed write-combining entry for a write of the host frees the entry (R274). -/
theorem bufferDone_host {s : State} {h l : Nat} {e : WcbEntry} (st : Nat)
    (he : (ctl s h).wcb.find? (fun x => x.line == l && x.closed) = some e) (hw : e.writers = [.host]) (hq : (ctl s h).wcbWaiting = []) :
    bufferDone s h l st = modCtl (modCtl s h fun c => { c with wcb := c.wcb.erase e }) h fun c => { c with wcbWaiting := [] } := by
  simp [bufferDone, he, hw, writerDone, admitWaiters, hq]

/-- The ACK of the agent that a line was granted to frees the line (R235). -/
theorem takeAck_grantee {s : State} {a l : Nat} {x : Txn} (hx : lineOf s l x) (hg : x.granted = true) (ha : x.req.agent = some a) :
    takeAck s a l = freeLine s l := by
  obtain ⟨htxn, hw, hh, hr⟩ := hx
  have hgo : takeAck s a l = pump (freeLine s l) l := by simp [takeAck, htxn, hg, ha]
  rw [hgo]
  exact pump_rests (rests_of_free (by simp) (by simp [hw]) (by simp [hh]) (by simp [hr]))

end Sys2Proof.Machine

section
open Sys2Proof Sys2Proof.Machine Sys2Proof.Safety

/-- Settles O42: each message is the first that its row finds, is taken off the Corridor and received; what its receipt does is said above. -/
theorem messagesMoveLines : Obligations.MessagesMoveLines := by
  refine ⟨?more, ?upgraded, ?pulled, ?granted, ?answer, ?upgrade, ?written, ?unit, ?buffer, ?ack⟩
  case more =>
    intro s a l x hm hx ha hmore
    obtain ⟨t, ht, htxn, hmsgs, hframe⟩ := takeSnoop_srsp_more (s := delivered s (.srsp a l)) hx ha hmore
    refine ⟨t, congrArg Host.Outcome.next ((receiveFirst_mem false hm).trans ht), htxn, ?_, hframe⟩
    rw [hmsgs, corridor, List.append_nil, delivered_msgs]
  case upgraded =>
    intro s a b l x hm hx hw hh hg hk hb hheld
    obtain ⟨t, ht, hhs, hmsgs, hframe⟩ := takeSnoop_upgr_last (s := delivered s (.srsp a l)) hx hw hh hg hk hb hheld
    exact ⟨t, congrArg Host.Outcome.next ((receiveFirst_mem false hm).trans ht), hhs, hmsgs, hframe⟩
  case pulled =>
    intro s a b l x d dirty hm hx hw hh hg hp hk hb hne
    obtain ⟨t, ht, hold, hnew, hmsgs, hregs, hframe⟩ :=
      takeSnoop_pulled_last (s := delivered s (.sdat a l d dirty false)) d dirty hx hw hh hg hp hk hb hne
    refine ⟨t, congrArg Host.Outcome.next ((receiveFirst_found false hm).trans ht), hold, hnew, hmsgs, ?_, eq_of_besideMzn hframe⟩
    rintro rfl
    rw [getR, hregs]
    exact getR_addR_same s .mznOwnedPulls 1 (homeSlice s l) 0 0
  case granted =>
    intro s a l st d hm hv
    exact ⟨_, congrArg Host.Outcome.next ((receiveFirst_found false hm).trans (receive_gdat_agent st d false hv)), by simp, by simp, by simp,
      by simp [corridor], eq_of_besideMzn_regs (by simp) (by simp)⟩
  case answer =>
    intro s l status d hm
    refine (congrArg Host.Outcome.next (receiveFirst_found false hm)).trans ?_
    rw [corridor, List.append_nil]
    rfl
  case upgrade =>
    intro s a l c hm hc
    exact ⟨_, congrArg Host.Outcome.next ((receiveFirst_found false hm).trans (receive_cmp_upgr false hc)), by simp, by simp [corridor],
      eq_of_besideMzn_regs (by simp) (by simp)⟩
  case written =>
    intro s a l hm
    exact ⟨_, congrArg Host.Outcome.next ((receiveFirst_found false hm).trans (receive_cmp_wb _ a l false)), by simp, by simp [corridor],
      eq_of_besideMzn_regs (by simp) (by simp)⟩
  case unit =>
    intro s l status hm
    refine (congrArg Host.Outcome.next (receiveFirst_found false hm)).trans ?_
    rw [corridor, List.append_nil]
    rfl
  case buffer =>
    intro s h l e hm he hw hq
    refine ⟨_, congrArg Host.Outcome.next ((receiveFirst_found false hm).trans (bufferDone_host 0 he hw hq)), ?_, ?_, rfl⟩
    · rw [ctl_modCtl, ctl_modCtl]
      rfl
    · rw [corridor, List.append_nil]
      rfl
  case ack =>
    intro s a l x hm hx hg ha
    refine ⟨_, congrArg Host.Outcome.next ((receiveFirst_mem false hm).trans (takeAck_grantee hx hg ha)), ?_, ?_, ?_, rfl⟩
    · rw [lineRec_freeLine]
    · rw [lineRec_freeLine]
      rfl
    · rw [corridor, List.append_nil]
      rfl

end

/-! ## Requests of units that do not cache -/

namespace Sys2Proof.Machine

open Sys2Proof.Safety

/-! ### Their snoops (R234, R243) -/

section
variable {r : LineRec} {q : HomeReq}

/-- A read without caching peeks the owner. -/
theorem snoopsOf_rdNc_owner {b : Nat} {k : Hold} (hq : q.kind = .rdNc) (hn : q.agent = none) (hh : r.holders = [(b, k)]) (hk : k ≠ .s) :
    snoopsOf r q = [(b, .peek)] := by
  simp [snoopsOf, effectiveKind_eq r (q := q) (by simp [hq]), hq, hn, hh, hk]

/-- A write of a whole line invalidates every holder. -/
theorem snoopsOf_wrFull {hs : List (Nat × Hold)} (hq : q.kind = .wrFull) (hn : q.agent = none) (hh : r.holders = hs) :
    snoopsOf r q = hs.map fun e => (e.1, .inv) := by
  simp [snoopsOf, effectiveKind_eq r (q := q) (by simp [hq]), hq, hn, hh]

end

/-! ### Hall memory -/

/-- A read of hall memory has as many bytes as asked for. -/
theorem length_hallRead (s : State) (h o n : Nat) : (hallRead s h o n).length = n := by
  induction n generalizing o with
  | zero => rfl
  | succ n ih => simp [hallRead, ih]

/-- A byte of what a read of hall memory gives. -/
theorem getElem_hallRead (s : State) (h o n k : Nat) (hk : k < (hallRead s h o n).length) : (hallRead s h o n)[k] = hallByte s h (o + k) := by
  induction n generalizing o k with
  | zero => simp [hallRead] at hk
  | succ n ih =>
    cases k with
    | zero => rfl
    | succ k =>
      simp only [hallRead, List.getElem_cons_succ]
      rw [ih, Nat.add_assoc, Nat.add_comm 1 k]

/-- Two states with the same bytes in a hall read alike there. -/
theorem hallRead_congr {s t : State} {h : Nat} (o n : Nat) (hm : (ctl t h).mem = (ctl s h).mem) : hallRead t h o n = hallRead s h o n := by
  induction n generalizing o with
  | zero => rfl
  | succ n ih => simp only [hallRead, hallByte, hm, ih]

/-- Bytes written to hall memory read back. -/
theorem hallRead_hallPut (s : State) (h o n : Nat) (bs : List Byte) (hn : bs.length = n) : hallRead (hallPut s h o bs) h o n = bs := by
  refine List.ext_getElem (by rw [length_hallRead, hn]) fun k h1 h2 => ?_
  rw [getElem_hallRead, hallByte, hallPut, ctl_modCtl]
  exact tget_putBytes_inside (ctl s h).mem o k bs h2

/-- The bad-line table is beside a hall's bytes. -/
theorem ctl_clearBad_mem (s : State) (h : Nat) (y : LineAt) : (ctl (clearBad s h y) h).mem = (ctl s h).mem := by
  unfold clearBad
  split
  · rw [ctl_modCtl]
  · rfl

/-- A hall's controller rests on the table of halls. -/
theorem ctl_congr {s t : State} (h : t.halls = s.halls) (k : Nat) : ctl t k = ctl s k := by simp only [ctl, getHall, h]

/-- A line written to hall memory reads back. -/
theorem hallRead_hallLinePut (s : State) (l : Nat) (d : List Byte) (h : d.length = 64) :
    hallRead (hallLinePut s l d) (lineHall l) (lineOff l * 64) 64 = d :=
  (hallRead_congr _ _ (ctl_clearBad_mem ..)).trans (hallRead_hallPut _ _ _ _ _ h)

@[simp] theorem hallLinePut_mzn (s : State) (l : Nat) (d : List Byte) : (hallLinePut s l d).mzn = s.mzn := by
  rw [hallLinePut, clearBad_mzn]
  rfl

@[simp] theorem lineRec_hallLinePut (s : State) (l : Nat) (d : List Byte) (k : Nat) : lineRec (hallLinePut s l d) k = lineRec s k := by
  rw [lineRec, hallLinePut_mzn, lineRec]

@[simp] theorem besideHalls_hallLinePut (s : State) (l : Nat) (d : List Byte) : besideHalls (hallLinePut s l d) = besideHalls s := by
  rw [hallLinePut, besideHalls_clearBad, hallPut, besideHalls_modCtl]

/-! ### Lines of STREAM pages (R226, R228) -/

/-- A line of a STREAM page is one of device memory. -/
theorem hostLine_of_isStream {l : Nat} (h : isStream l = true) : hostLine l = false := by
  simp only [isStream, Bool.and_eq_true, Bool.not_eq_true'] at h
  exact h.1.1

/-- It is never placed in the array. -/
theorem placeLine_stream {s : State} {l : Nat} (wing : Option Nat) (d : List Byte) (dirty : Bool) (h : isStream l = true) :
    placeLine s wing l d dirty = none := by
  simp [placeLine, h]

/-- A read that meets no error in a line that no bad-line table holds changes nothing (R265). -/
theorem readLine_clean {s : State} {h : Nat} {y : LineAt} (src : Nat) (hb : lineHeld s h y = false) :
    readLine s h y src MemErr.none.hall = (s, false) := by
  have hd : decodeLine (markedPin s h (linePc s y)) MemErr.none.hall = .clean := by
    unfold decodeLine
    cases markedPin s h (linePc s y) <;> rfl
  simp [readLine, hb, hd]

/-- A line of a STREAM page that the array does not hold is read from its hall. -/
theorem readMem_stream {s : State} {q : HomeReq} (src : Nat) (he : q.err = MemErr.none) (hs : isStream q.line = true)
    (hx : arrayLine s q.line = none) (hh : halted s (lineHall q.line) = false)
    (hb : lineHeld s (lineHall q.line) (.phys (lineOff q.line)) = false) :
    readMem s q src = (s, hallRead s (lineHall q.line) (lineOff q.line * 64) 64, 0) := by
  simp [readMem, hostLine_of_isStream hs, hx, hs, readHallLine, hh, he, readLine_clean src hb, placeLine_stream _ _ _ hs]

/-- It is written to its hall. -/
theorem writeMem_stream {s : State} {l : Nat} (wing : Option Nat) (d : List Byte) (hs : isStream l = true) (hx : arrayLine s l = none)
    (hh : halted s (lineHall l) = false) : writeMem s wing l d = (hallLinePut s l d, 0) := by
  simp [writeMem, hostLine_of_isStream hs, hx, hh, placeLine_stream _ _ _ hs]

/-- An atomic at the home of a STREAM line answers the old line and writes the result to the hall (R243). -/
theorem completeTxn_atomH_stream {s : State} {q : HomeReq} (hk : q.kind = .atomH) (he : q.err = MemErr.none) (hs : isStream q.line = true)
    (hx : arrayLine s q.line = none) (hh : halted s (lineHall q.line) = false)
    (hb : lineHeld s (lineHall q.line) (.phys (lineOff q.line)) = false) :
    completeTxn s q.line (freshTxn q) =
      freeLine (sendMzn (hallLinePut (modRec s q.line fun y => { y with holders := [] }) q.line
          (atomLine q (hallRead s (lineHall q.line) (lineOff q.line * 64) 64)))
        (.gdat q.asker q.line none (hallRead s (lineHall q.line) (lineOff q.line * 64) 64) 0)) q.line := by
  simp only [completeTxn, freshTxn_req, effectiveKind_eq (lineRec s q.line) (q := q) (by simp [hk]), hk, txnData_freshTxn,
    readMem_stream 2 he hs hx hh hb, if_true]
  rw [writeMem_stream (s := modRec s q.line _) q.wing _ hs hx hh]

/-- Bytes laid over a line inside it leave its length. -/
theorem length_overlay {d bs : List Byte} {off : Nat} (h : off + bs.length ≤ d.length) : (overlay d off bs).length = d.length := by
  simp only [overlay, List.length_append, List.length_take, List.length_drop]
  omega

/-- A home's counters are no hall's status (R515). -/
theorem halted_startReq {s : State} {q : HomeReq} {h : Nat} (_ : h < 16) (hsn : snoopsOf (lineRec s q.line) q = []) :
    halted (startReq s q) h = halted s h := by
  rw [halted, regsKeptBut_startReq hsn _ _ _ _ (by simp [regKey, regOff, regSpec]; omega), halted]

/-- There are 16 halls. -/
theorem lineHall_lt (l : Nat) : lineHall l < 16 := Nat.mod_lt _ (by decide)

/-- An atomic on a STREAM line that nobody holds, from its start to rest. -/
theorem serve_atomH_stream {s : State} {q : HomeReq} (n : Nat) (hk : q.kind = .atomH) (he : q.err = MemErr.none) (hw : noneWaits s q.line [])
    (hs : isStream q.line = true) (hbias : hostBias s q.line = false) (hx : arrayLine s q.line = none) (hh : halted s (lineHall q.line) = false)
    (hb : lineHeld s (lineHall q.line) (.phys (lineOff q.line)) = false) :
    ∃ t, pumpLine (startReq s q) q.line (n + 1) = t ∧
      (q.off + q.atom.size ≤ 64 → hallRead t (lineHall q.line) (lineOff q.line * 64) 64 =
        atomLine q (hallRead s (lineHall q.line) (lineOff q.line * 64) 64)) ∧
      t.mzn.msgs = s.mzn.msgs ++ [.gdat q.asker q.line none (hallRead s (lineHall q.line) (lineOff q.line * 64) 64) 0] ∧
      (lineRec t q.line).txn = none ∧ besideHalls t = besideHalls s := by
  have hsn := snoopsOf_of_unheld q hw.2.2.2
  have ho := openTxn_of_unheld hw (hostLine_of_isStream hs) hbias
  obtain ⟨hwait, hhost, hres, -⟩ := hw
  have hctl : ctl (startReq s q) (lineHall q.line) = ctl s (lineHall q.line) := ctl_congr (startReq_halls s q) _
  have hread : hallRead (startReq s q) (lineHall q.line) (lineOff q.line * 64) 64 = hallRead s (lineHall q.line) (lineOff q.line * 64) 64 :=
    hallRead_congr _ _ (by rw [hctl])
  have hc := completeTxn_atomH_stream (s := startReq s q) hk he hs (by rw [arrayLine_startReq, hx])
    ((halted_startReq (lineHall_lt _) hsn).trans hh) (by rw [lineHeld, hctl]; exact hb)
  rw [hread] at hc
  refine ⟨_, pumpLine_startReq_serves n ho hc (rests_of_free ?_ ?_ ?_ ?_), fun hlen => ?_, ?_, ?_, ?_⟩
  case refine_5 =>
    refine (hallRead_congr _ _ (congrArg _ (ctl_congr (by rw [freeLine_halls, sendMzn_halls]) _))).trans (hallRead_hallLinePut _ _ _ ?_)
    rw [atomLine, length_overlay] <;> simp [length_hallRead, hlen]
  all_goals simp [hwait, hhost, hres, hsn]

/-- An atomic on a STREAM line that nobody holds, from its arrival to rest. -/
theorem arriveReq_atomH_stream {s : State} {q : HomeReq} (hk : q.kind = .atomH) (he : q.err = MemErr.none) (hf : lineFree s q.line [])
    (hs : isStream q.line = true) (hbias : hostBias s q.line = false) (hx : arrayLine s q.line = none) (hh : halted s (lineHall q.line) = false)
    (hb : lineHeld s (lineHall q.line) (.phys (lineOff q.line)) = false) :
    ∃ t, arriveReq s q = t ∧
      (q.off + q.atom.size ≤ 64 → hallRead t (lineHall q.line) (lineOff q.line * 64) 64 =
        atomLine q (hallRead s (lineHall q.line) (lineOff q.line * 64) 64)) ∧
      t.mzn.msgs = s.mzn.msgs ++ [.gdat q.asker q.line none (hallRead s (lineHall q.line) (lineOff q.line * 64) 64) 0] ∧
      (lineRec t q.line).txn = none ∧ besideHalls t = besideHalls s := by
  have hread : hallRead (queued s q) (lineHall q.line) (lineOff q.line * 64) 64 = hallRead s (lineHall q.line) (lineOff q.line * 64) 64 :=
    hallRead_congr _ _ rfl
  have h := arriveReq_serve (s := s) (q := q) (by rw [hk]; rfl) hf
    fun n => serve_atomH_stream n hk he (noneWaits_queued hf) hs (show hostBias (queued s q) q.line = false from hbias) hx hh hb
  rwa [hread, queued_msgs, besideHalls_queued] at h

end Sys2Proof.Machine

section
open Sys2Proof Sys2Proof.Machine Sys2Proof.Safety

/-- Settles O43: with no holder each request is served at once from the array or, for a line of a STREAM page, from its hall; with holders their
snoops go out. -/
theorem homesServeOthers : Obligations.HomesServeOthers := by
  refine ⟨?read, ?peek, ?write, ?invalidate, ?merge, ?atomic⟩
  case read =>
    intro s l w x hf hx
    obtain ⟨t, ht, hm, hh, hn, hframe⟩ := arriveReq_serve (q := plainReq .rdNc .unit l (some w) MemErr.none s.now) rfl hf
      fun n => serve_rdNc n rfl rfl (noneWaits_queued hf) (inArray_queued _ hx)
    exact ⟨t, congrArg Host.Outcome.next ht, hm, hh, hn, eq_of_besideMzn (hframe.trans (besideMzn_queued ..))⟩
  case peek =>
    intro s l w o k hl hb hk hf
    have hh := (noneWaits_queued (q := plainReq .rdNc .unit l (some w) MemErr.none s.now) hf).2.2.2
    obtain ⟨t, ht, hm, -, hhs, hframe⟩ := arriveReq_serve (q := plainReq .rdNc .unit l (some w) MemErr.none s.now) rfl hf
      fun n => serve_snoops (n + 1) (snoopsOf_rdNc_owner rfl rfl hh hk) (by simp)
    exact ⟨t, congrArg Host.Outcome.next ht, hm, hhs.trans hh, eq_of_besideMzn (hframe.trans (besideMzn_queued ..))⟩
  case write =>
    intro s l w d x hd hf hx
    have hpad : (d ++ bytesOf 64 0).take 64 = d := List.take_left' hd
    obtain ⟨t, ht, hw, hm, hn, hframe⟩ := arriveReq_serve (q := { plainReq .wrFull .unit l (some w) MemErr.none s.now with data := d }) rfl hf
      fun n => serve_wrFull n rfl (noneWaits_queued hf) (inArray_queued _ hx)
    refine ⟨t, ?_, hw, hm, hn, eq_of_besideHalls (hframe.trans (besideHalls_queued ..))⟩
    show execWrFull l w d s = _
    rw [execWrFull, hpad]
    exact congrArg Host.Outcome.next ht
  case invalidate =>
    intro s l w d hs hl hb hne hf
    have hh := (noneWaits_queued
      (q := { plainReq .wrFull .unit l (some w) MemErr.none s.now with data := (d ++ bytesOf 64 0).take 64 }) hf).2.2.2
    obtain ⟨t, ht, hm, ⟨x, hx, ha, -⟩, -, hframe⟩ := arriveReq_serve
      (q := { plainReq .wrFull .unit l (some w) MemErr.none s.now with data := (d ++ bytesOf 64 0).take 64 }) rfl hf
      fun n => serve_snoops (n + 1) (snoopsOf_wrFull rfl rfl hh) (by simp [hne])
    exact ⟨t, congrArg Host.Outcome.next ht, hm.trans (by rw [List.map_map]; rfl), ⟨x, hx, ha.trans List.map_map⟩,
      eq_of_besideMzn (hframe.trans (besideMzn_queued ..))⟩
  case merge =>
    intro s l q x hm hf hx hmask
    obtain ⟨rfl, hk⟩ : q.line = l ∧ q.kind = .wrMerge := by simpa using List.find?_some hm
    obtain ⟨t, ht, hw, hmsgs, hn, hframe⟩ := arriveReq_serve (s := delivered s (.req q)) (q := { q with err := MemErr.none, since := s.now })
      (by simp [ReqKind.queues, hk]) hf
      fun n => serve_wrMerge n hk rfl (Nat.ne_of_lt hmask) (noneWaits_queued hf) (inArray_queued _ (show inArray (delivered s _) q.line x from hx))
    refine ⟨t, ?_, hw, hmsgs, hn, eq_of_besideHalls ((hframe.trans (besideHalls_queued ..)).trans (besideHalls_delivered ..))⟩
    show execWrMerge q.line MemErr.none s = _
    rw [execWrMerge, hm]
    exact congrArg Host.Outcome.next ht
  case atomic =>
    intro s u l off op size arg cmp hp hs hb hf hx hh hbad hoff old v
    obtain ⟨t, ht, hread, hm, hn, hframe⟩ := arriveReq_atomH_stream (q := { plainReq .atomH (.agent u) l (agentWing s u) MemErr.none s.now with
      atom := ⟨op, size, arg.toNat, cmp.toNat⟩, off := off }) rfl rfl hf hs hb hx hh hbad
    refine ⟨t, ?_, hread, hm, hn, eq_of_besideHalls hframe⟩
    show execAtomH u l off op size arg cmp MemErr.none s = _
    rw [execAtomH, if_pos (by simp [hp, cacheable, hs]), Nat.mod_eq_of_lt hoff]
    exact congrArg Host.Outcome.next ht

end

/-! ## Peers -/

namespace Sys2Proof.Machine

open Sys2Proof.Safety

/-! ### Numbers in bytes -/

/-- Bytes spell a number below their count's power of 256. -/
theorem ofLe_lt (l : List Byte) : ofLe (l.map BitVec.toNat) < 2 ^ (8 * l.length) := by
  induction l with
  | nil => simp [ofLe]
  | cons b l ih =>
    have hb := b.isLt
    simp only [List.map_cons, ofLe, List.length_cons]
    rw [Nat.mul_add, Nat.pow_add]
    omega

/-- A field of `n` bytes is below its power of 256. -/
theorem numAt_lt (bs : List Byte) (lo n : Nat) : numAt bs lo n < 2 ^ (8 * n) := by
  refine Nat.lt_of_lt_of_le (ofLe_lt _) (Nat.pow_le_pow_right (by decide) (Nat.mul_le_mul_left 8 ?_))
  simp

/-! ### Ports -/

section
variable (s : State) (p : Nat) (f : Port → Port)

@[simp] theorem portOf_modPort : portOf (modPort s p f) p = f (portOf s p) := tget_tset_same ..
@[simp] theorem portOf_queueTx (v : Nat) (b : List Byte) :
    portOf (queueTx s p v b) p = { portOf s p with txQueue := tmod (fun _ => []) (portOf s p).txQueue v fun l => l ++ [b] } := portOf_modPort ..

end

/-- A payload that is put into a send queue waits behind what was there (R413). -/
theorem waitingOn_queueTx (s : State) (p v : Nat) (b : List Byte) : (portOf (queueTx s p v b) p).waitingOn v = (portOf s p).waitingOn v ++ [b] := by
  simp only [portOf_queueTx, Port.waitingOn, tmod, tget_tset_same]

/-! ### A peer's request meets its line (R247 to R249) -/

/-- A peer's request as its home reads it: its line, its asker and the errors that its read meets. -/
def peerReq (s : State) (p tag : Nat) (v : Served) (err : MemErr) : HomeReq := plainReq .rdNc (.peer p tag) (v.addr / 64) none err s.now

/-- The atomic that a peer's request asks for: add, compare and swap, or swap (R247). -/
def peerAtom (v : Served) : AtomOp := ⟨match v.aop with | 0 => 0 | 1 => 9 | _ => 8, 8, numAt v.data 0 8, numAt v.data 8 8⟩

section
variable {s : State} {p tag k : Nat} {v : Served} (err : MemErr)

/-- A read goes to its line. -/
theorem peerServe_read (hv : servedOf s p tag = some v) (ho : v.op = 1) (hvec : v.vec = none) (hc : v.credit = some k) :
    peerServe s 1 p tag err = peerLine s p v k (peerReq s p tag v err) := by
  simp [peerServe, hv, ho, hvec, hc, peerReq]

/-- A write of a whole line goes to its line. -/
theorem peerServe_write (hv : servedOf s p tag = some v) (ho : v.op = 2) (hvec : v.vec = none) (hc : v.credit = some k) (hs : v.size = 64) :
    peerServe s 2 p tag err = peerLine s p v k { peerReq s p tag v err with kind := .wrFull, data := v.data } := by
  simp [peerServe, hv, ho, hvec, hc, hs, peerReq]

/-- A partial write of a free line goes into the write-combining buffer (R274). -/
theorem peerServe_part (hv : servedOf s p tag = some v) (ho : v.op = 2) (hvec : v.vec = none) (hc : v.credit = some k) (hs : v.size ≠ 64)
    {hs' : List (Nat × Hold)} (hf : lineFree s (v.addr / 64) hs') :
    peerServe s 2 p tag err =
      wcbWrite s (v.addr / 64) (spanMask (v.addr % 64) v.size) (bytesOf (v.addr % 64) 0 ++ v.data.take v.size) (.peer p tag) := by
  obtain ⟨-, ht, hw, -, hr, -⟩ := hf
  simp [peerServe, hv, ho, hvec, hc, hs, plainReq, ht, hr, hw]

/-- An atomic goes to its line. -/
theorem peerServe_atom (hv : servedOf s p tag = some v) (ho : v.op = 3) (hvec : v.vec = none) (hc : v.credit = some k) :
    peerServe s 3 p tag err =
      peerLine s p v k { peerReq s p tag v err with kind := .atomH, off := v.addr % 64, atom := peerAtom v } := by
  simp only [peerServe, hv, ho, hvec, hc, ne_eq, not_true_eq_false, if_false]
  rfl

/-- A peer's request that finds its line free is served there. -/
theorem peerLine_serve {q : HomeReq} {hs : List (Nat × Hold)} {P : State → Prop} (hf : lineFree s q.line hs)
    (h : ∀ n, ∃ t, pumpLine (startReq s q) q.line (n + 1) = t ∧ P t) : ∃ t, peerLine s p v k q = t ∧ P t := by
  obtain ⟨-, ht, hw, hh, hr, -⟩ := hf
  have hgo : peerLine s p v k q = pump (startReq s q) q.line := by simp [peerLine, ht, hw, hh, hr]
  rw [hgo]
  exact h _

/-- A peer's request that finds its line busy goes back with a NACK (R248). -/
theorem peerLine_busy {q : HomeReq} {y : Txn} (ht : (lineRec s q.line).txn = some y) (hk : k ∉ (lineRec s q.line).reserved) :
    peerLine s p v k q = nackPeer s p v k q.line := by
  simp [peerLine, ht, hk]

/-- A NACK other than the eighth counts one more for the request, which keeps its credit (R248). -/
theorem nackPeer_counts {l : Nat} {cr : Credit} (hc : tget (fun _ => none) s.mzn.credits k = some cr) (hn : cr.nacks + 1 ≠ 8) :
    nackPeer s p v k l =
      queueTx (modPort (setCredit (addR s .mznNacks 1 v.slice) k (some ⟨p, v.rtag, l, cr.nacks + 1⟩)) p
        fun x => { x with served := x.served.filter fun y => y.rtag != v.rtag }) p 6
        (responseBytes v.op 1 0 (cr.nacks + 1) 0 (k % 1024) v.rtag none) := by
  simp [nackPeer, hc, hn]

/-- A request is found under its tag. -/
theorem rtag_of_servedOf (hv : servedOf s p tag = some v) : v.rtag = tag := by simpa using List.find?_some hv

/-- The result of a peer's atomic (R247). -/
theorem atomResult_peerAtom (old : Nat) :
    atomResult (peerAtom v) old =
      match v.aop with
      | 0 => (old + numAt v.data 0 8) % 2 ^ 64
      | 1 => if old = numAt v.data 8 8 then numAt v.data 0 8 else old
      | _ => numAt v.data 0 8 := by
  have hfull (lo : Nat) : numAt v.data lo 8 % 2 ^ (8 * 8) = numAt v.data lo 8 := Nat.mod_eq_of_lt (numAt_lt _ _ 8)
  rcases hv : v.aop with _ | _ | n
  · simp only [atomResult, peerAtom, hv, hfull]
  · simp only [atomResult, peerAtom, hv, hfull]
  · simp only [atomResult, peerAtom, hv, hfull]

end

/-! ### A reservation lapses (R249) -/

/-- The state in which the reservation of a line has lapsed: its request counts its NACKs anew, and the lapse is counted and shown. -/
def lapsed (s : State) (l k : Nat) (cr : Credit) : State :=
  modRec (setCredit (setSticky (addR { s with now := max s.now ((lineRec s l).freeSince + getR s .mznResHoldNs) } .mznResLapsed 1 (homeSlice s l))
    .mznEvents .mznEventEn 8 (homeSlice s l)) k (some { cr with nacks := 0 })) l
    fun x => { x with reserved := [], freeSince := max s.now ((lineRec s l).freeSince + getR s .mznResHoldNs) }

theorem modRec_credits (s : State) (l : Nat) (f : LineRec → LineRec) : (modRec s l f).mzn.credits = s.mzn.credits := rfl

/-- A credit holds what was set for it. -/
theorem credit_setCredit (s : State) (k : Nat) (c : Option Credit) : tget (fun _ => none) (setCredit s k c).mzn.credits k = c :=
  tget_tset_same ..

section
variable (s : State) (l k : Nat) (cr : Credit)

theorem lineRec_lapsed :
    lineRec (lapsed s l k cr) l =
      { lineRec s l with reserved := [], freeSince := max s.now ((lineRec s l).freeSince + getR s .mznResHoldNs) } := by
  rw [lapsed, lineRec_modRec]
  simp only [lineRec, setCredit, modMzn, setSticky_mzn, addR_mzn]

theorem credit_lapsed : tget (fun _ => none) (lapsed s l k cr).mzn.credits k = some { cr with nacks := 0 } := by
  rw [lapsed, modRec_credits, credit_setCredit]

theorem lapsed_now : (lapsed s l k cr).now = max s.now ((lineRec s l).freeSince + getR s .mznResHoldNs) :=
  (setSticky_now ..).trans (addR_now ..)

theorem getR_lapsed_mznResLapsed :
    getR (lapsed s l k cr) .mznResLapsed (homeSlice s l) = (getR s .mznResLapsed (homeSlice s l) + 1) % 2 ^ 64 := by
  refine (getR_setSticky_above _ _ _ _ _ _ _ _ _ (le_regKey_of_base 0 _ 0 (by decide))).trans ?_
  have hne : regKey 0 .mznResLapsed (homeSlice s l) 0 ≠ regKey 0 .mznEvents (homeSlice s l) 0 := regKey_ne_of_base 0 _ 0 rfl rfl (by decide)
  rw [getR_setR_other (h := hne), getR_addR_same]
  rfl

theorem bit_lapsed_mznEvents : bit (getR (lapsed s l k cr) .mznEvents (homeSlice s l)) 3 = true := by
  refine (congrArg (bit · 3) (getR_setSticky_above _ _ _ _ _ _ _ _ _ (le_regKey_of_base 0 _ 0 (by decide)))).trans ?_
  rw [getR_setR_same]
  exact bit_or_two_pow_mod _ 3 32 (by decide)

end

/-- The only reservation of a free line lapses while its retry has not come (R249). -/
theorem exec_reservationLapse {s : State} {l k : Nat} {cr : Credit} (hr : (lineRec s l).reserved = [k]) (ht : (lineRec s l).txn = none)
    (hh : (lineRec s l).held = []) (hw : (lineRec s l).waiting = []) (hhw : (lineRec s l).hostWaiting = [])
    (hc : tget (fun _ => none) s.mzn.credits k = some cr) : exec (.reservationLapse l) s = .next (lapsed s l k cr) := by
  have hgo : exec (.reservationLapse l) s = .next (pump (lapsed s l k cr) l) := by
    show execReservationLapse l s = _
    simp [execReservationLapse, hr, ht, hh, hc, lapsed]
  have hrest : (lineRec (lapsed s l k cr) l).rests := by
    rw [lineRec_lapsed]
    exact rests_of_free ht hw hhw rfl
  rw [hgo, pump_rests hrest]

end Sys2Proof.Machine

section
open Sys2Proof Sys2Proof.Machine Sys2Proof.Safety

/-- Settles O44: a peer's request of a free line runs as the device's own; the partial write of one goes to the buffer; a busy line sends it back,
and the lapse of a reservation leaves its line free. -/
theorem peersAreServed : Obligations.PeersAreServed := by
  refine ⟨?read, ?write, ?part, ?atomic, ?nack, ?window, ?lapse⟩
  case read =>
    intro s p tag k v x hv ho hvec hc hf hx
    obtain ⟨t, ht, hm, -, -, hframe⟩ := peerLine_serve (p := p) (k := k) (v := v) (q := peerReq s p tag v MemErr.none) hf
      fun n => serve_rdNc n rfl rfl (noneWaits_of_lineFree hf) hx
    exact ⟨t, congrArg Host.Outcome.next ((peerServe_read _ hv ho hvec hc).trans ht), hm, eq_of_besideMzn hframe⟩
  case write =>
    intro s p tag k v x hv ho hvec hc hs hf hx
    obtain ⟨t, ht, hw, hm, -, hframe⟩ := peerLine_serve (p := p) (k := k) (v := v)
      (q := { peerReq s p tag v MemErr.none with kind := .wrFull, data := v.data }) hf
      fun n => serve_wrFull n rfl (noneWaits_of_lineFree hf) hx
    exact ⟨t, congrArg Host.Outcome.next ((peerServe_write _ hv ho hvec hc hs).trans ht), hw, hm, eq_of_besideHalls hframe⟩
  case part =>
    intro s p tag k v hv ho hvec hc hs hf
    exact congrArg Host.Outcome.next (peerServe_part _ hv ho hvec hc hs hf)
  case atomic =>
    intro s p tag k v x hv ho hvec hc hf hx hoff haop old new
    obtain ⟨t, ht, hw, hm, hframe⟩ := peerLine_serve (p := p) (k := k) (v := v)
      (q := { peerReq s p tag v MemErr.none with kind := .atomH, off := v.addr % 64, atom := peerAtom v }) hf
      fun n => serve_atomH n rfl rfl (noneWaits_of_lineFree hf) hx
    refine ⟨t, congrArg Host.Outcome.next ((peerServe_atom _ hv ho hvec hc).trans ht), ?_, hm, eq_of_besideHalls hframe⟩
    have hnew : atomResult (peerAtom v) old = new := atomResult_peerAtom old
    rw [← hnew]
    exact hw
  case nack =>
    intro s p tag k v y cr hv ho hvec hc hy hk hcr hn
    have hgo := (peerServe_read MemErr.none hv ho hvec hc).trans ((peerLine_busy hy hk).trans (nackPeer_counts hcr hn))
    obtain rfl := rtag_of_servedOf hv
    refine ⟨_, congrArg Host.Outcome.next hgo, ?_, ?_, credit_setCredit .., ?_, rfl⟩
    · simp [servedOf]
    · rw [waitingOn_queueTx, portOf_modPort, ho]
      rfl
    · exact getR_addR_same s .mznNacks 1 v.slice 0 0
  case window =>
    intro s p tag c h v hv ho hvec hcoll
    show Host.Outcome.next (peerServe s 1 p tag MemErr.none) = _
    simp [peerServe, hv, ho, hvec, windowRead, hcoll, rtag_of_servedOf hv]
  case lapse =>
    intro s l k cr hr ht hh hw hhw hc
    exact ⟨_, exec_reservationLapse hr ht hh hw hhw hc, by rw [lineRec_lapsed], credit_lapsed .., lapsed_now .., getR_lapsed_mznResLapsed ..,
      bit_lapsed_mznEvents ..⟩

end

/-! ## The host -/

namespace Sys2Proof.Machine

open Sys2Proof.Safety

/-! ### Snoops of the host (R251) -/

/-- The state in which a snoop of the host has queued for its line and its turn has come. -/
def hostQueued (s : State) (q : HomeReq) : State :=
  modRec (modRec s q.line fun r => { r with hostWaiting := r.hostWaiting ++ [q] }) q.line fun r => { r with hostWaiting := [] }

/-- A snoop of the host that finds its line free starts. -/
theorem arriveReq_hostSnoop {s : State} {q : HomeReq} {hs : List (Nat × Hold)} (hk : q.kind.queues = false) (h : lineFree s q.line hs) :
    ∃ n, arriveReq s q = pumpLine (startReq (hostQueued s q) q) q.line n := by
  obtain ⟨hb, ht, hw, hh, hr, -⟩ := h
  refine ⟨2 * (lineRec s q.line).held.length + 4 + 1, ?_⟩
  have hgo : arriveReq s q = pump (modRec s q.line fun r => { r with hostWaiting := r.hostWaiting ++ [q] }) q.line := by
    rw [arriveReq, if_neg (by omega)]
    cases hq : q.kind <;> simp_all [ReqKind.queues]
  rw [hgo, pump, pumpFuel]
  simp only [lineRec_modRec, hw, hh]
  simp only [List.nil_append, List.length_cons, List.length_nil]
  rw [show 2 * (0 + (0 + 1) + (lineRec s q.line).held.length) + 4 = 2 * (lineRec s q.line).held.length + 4 + 1 + 1 by omega, pumpLine]
  simp [ht, hh, hostQueued]

/-- A snoop of the host whose turn has come leaves its line's holders as they were. -/
theorem holders_hostQueued (s : State) (q : HomeReq) : (lineRec (hostQueued s q) q.line).holders = (lineRec s q.line).holders := by
  simp [hostQueued]

/-- A snoop of the host for a line that an agent owns goes on to that agent. -/
theorem hostSnoop_owner {s : State} {k : ReqKind} {l o : Nat} {h : Hold} {y : SnpKind} (hl : hostLine l = true) (hk : k.queues = false)
    (hf : lineFree s l [(o, h)]) (hsn : ∀ r : LineRec, r.holders = [(o, h)] → snoopsOf r (plainReq k .host l none MemErr.none s.now) = [(o, y)]) :
    ∃ t, hostSnoop s k l = t ∧ t.mzn.msgs = s.mzn.msgs ++ [.snp o l y] ∧ t = { s with regs := t.regs, mzn := t.mzn } := by
  obtain ⟨n, hn⟩ := arriveReq_hostSnoop (q := plainReq k .host l none MemErr.none s.now) hk hf
  obtain ⟨-, -, -, -, -, hhold⟩ := hf
  have hh := (holders_hostQueued s (plainReq k .host l none MemErr.none s.now)).trans hhold
  obtain ⟨t, ht, hm, -, -, hframe⟩ := serve_snoops n (hsn _ hh) (by simp)
  refine ⟨t, ?_, hm, eq_of_besideMzn (hframe.trans ?_)⟩
  · rw [hostSnoop, if_pos hl, hn, ← ht]
  · rw [hostQueued, besideMzn_modRec, besideMzn_modRec]

/-- SNPDATA pulls the owner. -/
theorem snoopsOf_snpData {r : LineRec} {q : HomeReq} {o : Nat} {h : Hold} (hq : q.kind = .snpData) (hn : q.agent = none) (hs : h ≠ .s)
    (hh : r.holders = [(o, h)]) : snoopsOf r q = [(o, .pull)] := by
  simp [snoopsOf, effectiveKind_eq r (q := q) (by simp [hq]), hq, hn, hh, hs]

/-- SNPINV takes the owner's copy with its data. -/
theorem snoopsOf_snpInv {r : LineRec} {q : HomeReq} {o : Nat} {h : Hold} (hq : q.kind = .snpInv) (hn : q.agent = none) (hs : h ≠ .s)
    (hh : r.holders = [(o, h)]) : snoopsOf r q = [(o, .invd)] := by
  simp [snoopsOf, effectiveKind_eq r (q := q) (by simp [hq]), hq, hn, hh, hs]

/-- SNPCUR peeks the owner. -/
theorem snoopsOf_snpCur {r : LineRec} {q : HomeReq} {o : Nat} {h : Hold} (hq : q.kind = .snpCur) (hn : q.agent = none) (hs : h ≠ .s)
    (hh : r.holders = [(o, h)]) : snoopsOf r q = [(o, .peek)] := by
  simp [snoopsOf, effectiveKind_eq r (q := q) (by simp [hq]), hq, hn, hh, hs]

/-! ### The host's answer (R250) -/

/-- The host's state of a line after its answer to a request. -/
def hostAfter (k : D2h) (h : HostSt) : HostSt :=
  match k with
  | .rdShared => .s
  | .rdOwn => .e
  | .rdOwnNoData => .e
  | _ => h

/-- The state in which the host has answered a home with data. -/
def answered (s : State) (l : Nat) (d : List Byte) (x : Txn) (k : D2h) : State :=
  modRec (hostPut s (l % 2 ^ 57 * 64) d) l fun r => { r with txn := some { x with host := none }, host := hostAfter k r.host }

/-- The host's answer is noted at a line that still awaits a snoop's. -/
theorem hostAnswer_awaits {s : State} {l : Nat} {x : Txn} {k : D2h} (d : List Byte) (hl : hostLine l = true) (hx : (lineRec s l).txn = some x)
    (hk : x.host = some k) (ha : x.awaiting ≠ []) : hostAnswer s l (some d) = answered s l d x k := by
  have hgo : hostAnswer s l (some d) = pump (answered s l d x k) l := by
    simp only [hostAnswer, hx, hk, hl, if_true]
    cases k <;> rfl
  rw [hgo, pump_rests]
  simp [answered, LineRec.rests, Txn.ready, ha]

/-! ### CXL.mem accesses (R253, R357) -/

/-- A merge of all 64 bytes is the new line. -/
theorem mergeMask_full (old : List Byte) {d : List Byte} (h : d.length = 64) : mergeMask (2 ^ 64 - 1) old d = d := by
  refine List.ext_getElem (by simp [mergeMask, h]) fun i h1 h2 => ?_
  have hi : i < 64 := h ▸ h2
  have hb : bit (2 ^ 64 - 1) i = true := by
    have := Nat.testBit_two_pow_sub_one 64 i
    simpa [Nat.testBit_eq_decide_div_mod_eq, bit, hi] using this
  simp only [mergeMask, List.getElem_map, List.getElem_range, hb, if_true, List.getD_eq_getElem _ _ h2]

/-- A line under host bias is one of device memory. -/
theorem hostLine_of_hostBias {s : State} {l : Nat} (h : hostBias s l = true) : hostLine l = false := by
  simp only [hostBias, Bool.and_eq_true, Bool.not_eq_true'] at h
  exact h.1

section
variable {s : State} {a : Nat}

/-- A read of a line under device bias is a request of the host at the line's home. -/
theorem exec_cxlMemRead_device (err : MemErr) (hr : bar2Reaches s a = true) (hb : hostBias s (a / 64) = false) :
    exec (.cxlMemRead a err) s = .next (arriveReq s (plainReq .rdNc .host (a / 64) none err s.now)) := by
  show execCxlMemRead a err s = _
  simp [execCxlMemRead, hr, hb]

/-- A read of a line under host bias is answered with the memory copy. -/
theorem exec_cxlMemRead_host {x : ArrLine} (hr : bar2Reaches s a = true) (hb : hostBias s (a / 64) = true) (hx : arrayLine s (a / 64) = some x)
    (hp : x.poison = false) : exec (.cxlMemRead a MemErr.none) s = .next (hostReply (arrayRead s (a / 64) x) x.data 0) := by
  show execCxlMemRead a MemErr.none s = _
  simp only [execCxlMemRead, hr, hb, if_true]
  rw [readMem_array (q := plainReq .rdNc .host (a / 64) none MemErr.none s.now) 2 rfl (hostLine_of_hostBias hb) hx hp]
  rfl

variable {d : List Byte}

/-- A write of a whole line under device bias is a request of the host at the line's home. -/
theorem exec_cxlMemWrite_device (hr : bar2Reaches s a = true) (hb : hostBias s (a / 64) = false) (hd : d.length = 64) :
    exec (.cxlMemWrite a (2 ^ 64 - 1) d) s =
      .next (arriveReq s { plainReq .wrFull .host (a / 64) none MemErr.none s.now with data := d }) := by
  have hpad : (d ++ bytesOf 64 0).take 64 = d := List.take_left' hd
  show execCxlMemWrite a (2 ^ 64 - 1) d s = _
  simp [execCxlMemWrite, hr, hb, hpad]

/-- A write of some of a line's bytes under device bias goes into the write-combining buffer. -/
theorem exec_cxlMemWrite_part {m : Nat} (hr : bar2Reaches s a = true) (hb : hostBias s (a / 64) = false) (hd : d.length = 64) (hm : m ≠ 2 ^ 64 - 1) :
    exec (.cxlMemWrite a m d) s = .next (wcbWrite s (a / 64) m d .host) := by
  have hpad : (d ++ bytesOf 64 0).take 64 = d := List.take_left' hd
  show execCxlMemWrite a m d s = _
  simp only [execCxlMemWrite, hr, hb, hpad, hm]
  rfl

/-- A write of a whole line under host bias writes the memory copy. -/
theorem exec_cxlMemWrite_host {x : ArrLine} (hr : bar2Reaches s a = true) (hb : hostBias s (a / 64) = true) (hx : arrayLine s (a / 64) = some x)
    (hd : d.length = 64) : exec (.cxlMemWrite a (2 ^ 64 - 1) d) s = .next (arrayPut s (a / 64) x d) := by
  have hpad : (d ++ bytesOf 64 0).take 64 = d := List.take_left' hd
  show execCxlMemWrite a (2 ^ 64 - 1) d s = _
  simp only [execCxlMemWrite, hr, hb, hpad, if_true, mergeMask_full d hd, writeMem_array none d (hostLine_of_hostBias hb) hx]
  rfl

end

/-! ### The bias of pages (R252) -/

/-- The bias of pages has changed so that these are under host bias, and nothing else but counters has. -/
def rebiased (s t : State) (p : Nat → Prop) : Prop :=
  t = { s with regs := t.regs, mzn := { s.mzn with bias := t.mzn.bias } } ∧ ∀ i, i ∈ t.mzn.bias ↔ p i

/-- Changes of bias follow each other. -/
theorem rebiased_trans {s t u : State} {p q : Nat → Prop} (h1 : rebiased s t p) (h2 : rebiased t u q) : rebiased s u q := by
  obtain ⟨ht, -⟩ := h1
  obtain ⟨hu, hq⟩ := h2
  refine ⟨?_, hq⟩
  rw [ht] at hu
  exact hu

/-- Device bias is taken by the page that a step names. -/
theorem rebiased_pageToDevice (s : State) (j : Nat) : rebiased s (pageToDevice s j) fun i => i ∈ s.mzn.bias ∧ i ≠ j := by
  unfold pageToDevice
  split
  · exact ⟨rfl, fun i => by simp [modMzn]⟩
  · refine ⟨rfl, fun i => ⟨fun h => ⟨h, ?_⟩, And.left⟩⟩
    rintro rfl
    simp_all

/-- It is taken by every page that the steps name. -/
theorem rebiased_foldl_pageToDevice (l : List Nat) (s : State) :
    rebiased s (l.foldl pageToDevice s) fun i => i ∈ s.mzn.bias ∧ i ∉ l := by
  induction l generalizing s with
  | nil => exact ⟨rfl, by simp⟩
  | cons j l ih =>
    obtain ⟨hframe, hmem⟩ := rebiased_trans (rebiased_pageToDevice s j) (ih _)
    refine ⟨hframe, fun i => (hmem i).trans ?_⟩
    simp [(rebiased_pageToDevice s j).2, and_assoc]

/-- The Mezzanine holds no line of a page. -/
def pageEmpty (s : State) (j : Nat) : Prop := (∀ e ∈ s.mzn.recs, e.1 / 64 ≠ j) ∧ ∀ e ∈ s.mzn.array, e.1 / 64 ≠ j

/-- Host bias is taken by the page that a step names, with no flush where the Mezzanine holds none of its lines. -/
theorem rebiased_pageToHost {s : State} {j : Nat} (h : pageEmpty s j) : rebiased s (pageToHost s j) fun i => i ∈ s.mzn.bias ∨ i = j := by
  obtain ⟨hrecs, harr⟩ := h
  have hp : pageLines s j = [] := by simpa [pageLines] using fun l r hm => hrecs (l, r) hm
  have ha : (s.mzn.array.map Prod.fst).filter (fun l => l / 64 == j && (lineRec s l) == noRec) = [] := by
    simpa using fun l x hm hl => absurd hl (harr (l, x) hm)
  unfold pageToHost
  split
  · refine ⟨rfl, fun i => ⟨.inl, ?_⟩⟩
    rintro (h | rfl)
    · exact h
    · simp_all
  · rw [hp, ha]
    exact ⟨rfl, fun i => by simp [modMzn]⟩

/-- A change of bias moves no line. -/
theorem pageEmpty_rebiased {s t : State} {p : Nat → Prop} {j : Nat} (ht : rebiased s t p) (h : pageEmpty s j) : pageEmpty t j := by
  rw [ht.1]
  exact h

/-- It is taken by every page that the steps name. -/
theorem rebiased_foldl_pageToHost {l : List Nat} {s : State} (h : ∀ j ∈ l, pageEmpty s j) :
    rebiased s (l.foldl pageToHost s) fun i => i ∈ s.mzn.bias ∨ i ∈ l := by
  induction l generalizing s with
  | nil => exact ⟨rfl, by simp⟩
  | cons j l ih =>
    have hj := rebiased_pageToHost (h j (by simp))
    obtain ⟨hframe, hmem⟩ := rebiased_trans hj (ih fun k hk => pageEmpty_rebiased hj (h k (by simp [hk])))
    refine ⟨hframe, fun i => (hmem i).trans ?_⟩
    simp [hj.2, or_assoc]

section
variable {s t : State} {id : Nat} {c : Cmd} {p : Nat → Prop}

/-- A change of bias by a command that then ends. -/
theorem rebiased_finish (h : rebiased (started s id) t p) :
    finish t id 0 = { s with vst := (finish t id 0).vst, regs := t.regs, mzn := { s.mzn with bias := t.mzn.bias } } := by
  obtain ⟨ht, -⟩ := h
  calc finish t id 0 = { t with vst := (finish t id 0).vst } := rfl
    _ = _ := by rw [ht]; rfl

/-- It ends with success. -/
theorem ended_rebiased (hr : ready s id 0x68 c) (h : rebiased (started s id) t p) : ended (finish t id 0) id = some (plain 0x0000) :=
  ended_finish_started s t id 0x68 0 0 0 0 0 0 c hr (by rw [h.1])

/-- A BIAS_SET to device bias whose checks pass. -/
theorem exec_biasSet_device (hr : ready s id 0x68 c) (hf : biasSetFail c (started s id) = none) (hn : c.num 36 1 = 0) :
    exec (.biasSet id) s = .next (finish ((biasPages c).foldl pageToDevice (started s id)) id 0) := by
  show execBiasSet id s = _
  rw [execBiasSet, withCmd_ready s id 0x68 c _ hr, hf, orElse_none, id_of_ready _ _ _ _ hr]
  simp [hn, stOk]

/-- A BIAS_SET to host bias whose checks pass. -/
theorem exec_biasSet_host (hr : ready s id 0x68 c) (hf : biasSetFail c (started s id) = none) (hn : c.num 36 1 = 1) :
    exec (.biasSet id) s = .next (finish ((biasPages c).foldl pageToHost (started s id)) id 0) := by
  show execBiasSet id s = _
  rw [execBiasSet, withCmd_ready s id 0x68 c _ hr, hf, orElse_none, id_of_ready _ _ _ _ hr]
  simp [hn, stOk]

end

end Sys2Proof.Machine

section
open Sys2Proof Sys2Proof.Machine Sys2Proof.Safety

/-- Settles O45: the host's snoops and CXL.mem accesses meet a free line or a line under host bias, and BIAS_SET takes its pages one by one. -/
theorem hostIsServed : Obligations.HostIsServed := by
  refine ⟨?snoops, ?answer, ?outside, ?read, ?readHost, ?discard, ?write, ?writeHost, ?part, ?device, ?host, ?flush⟩
  case snoops =>
    intro s l o k hl hk hf
    obtain ⟨t, ht, hd⟩ := hostSnoop_owner hl rfl hf fun r => snoopsOf_snpData rfl rfl hk
    obtain ⟨u, hu, hi⟩ := hostSnoop_owner hl rfl hf fun r => snoopsOf_snpInv rfl rfl hk
    obtain ⟨v, hv, hc⟩ := hostSnoop_owner hl rfl hf fun r => snoopsOf_snpCur rfl rfl hk
    exact ⟨⟨t, congrArg Host.Outcome.next ht, hd⟩, ⟨u, congrArg Host.Outcome.next hu, hi⟩, v, congrArg Host.Outcome.next hv, hc⟩
  case answer =>
    intro s l d x k hl hd hx hk ha
    have hpad : (d ++ bytesOf 64 0).take 64 = d := List.take_left' hd
    refine ⟨answered s l d x k, ?_, hostRead_hostPut s _ 64 d hd, ?_, ?_, ?_, ?_, rfl⟩
    · show Host.Outcome.next (hostAnswer s l (some ((d ++ bytesOf 64 0).take 64))) = _
      rw [hpad, hostAnswer_awaits d hl hx hk ha]
    · have := hostKeptOutside_hostPut s (l % 2 ^ 57 * 64) d
      rw [hd] at this
      exact this
    · simp [answered]
    · rintro rfl
      simp [answered, hostAfter]
    · rintro rfl
      simp [answered, hostAfter]
  case outside =>
    intro s a hr
    have hz : bytesOf 64 0 = List.replicate 64 0 := by decide
    show execCxlMemRead a MemErr.none s = _
    simp [execCxlMemRead, hr, hz, hostReply, modMzn]
  case read =>
    intro s a x hr hf hx
    obtain ⟨t, ht, hm, -, -, hframe⟩ := arriveReq_serve (q := plainReq .rdNc .host (a / 64) none MemErr.none s.now) rfl hf
      fun n => serve_rdNc n rfl rfl (noneWaits_queued hf) (inArray_queued _ hx)
    refine ⟨t, ?_, hm, eq_of_besideMzn (hframe.trans (besideMzn_queued ..))⟩
    rw [exec_cxlMemRead_device _ hr hx.2.1, ht]
  case readHost =>
    intro s a x hr hb hx hp
    exact ⟨_, exec_cxlMemRead_host hr hb hx hp, rfl, rfl, rfl, rfl⟩
  case discard =>
    intro s a m d hr
    refine ⟨addR s .vstBar2Discards 1, ?_, getR_addR_same .., fun r i j f hk => getR_addR_other _ _ _ _ _ _ _ _ _ _ hk, rfl⟩
    show execCxlMemWrite a m d s = _
    simp [execCxlMemWrite, hr]
  case write =>
    intro s a d x hr hd hf hx
    obtain ⟨t, ht, hw, hm, -, hframe⟩ := arriveReq_serve (q := { plainReq .wrFull .host (a / 64) none MemErr.none s.now with data := d }) rfl hf
      fun n => serve_wrFull n rfl (noneWaits_queued hf) (inArray_queued _ hx)
    refine ⟨t, ?_, hw, hm, eq_of_besideHalls (hframe.trans (besideHalls_queued ..))⟩
    rw [exec_cxlMemWrite_device hr hx.2.1 hd, ht]
  case writeHost =>
    intro s a d x hr hd hb hx
    exact ⟨_, exec_cxlMemWrite_host hr hb hx hd, ⟨s.mzn.tick, by simp⟩, by simp⟩
  case part =>
    intro s a m d hr hd hb hm
    exact exec_cxlMemWrite_part hr hb hd hm
  case device =>
    intro s id c hr hf hn
    have hb := rebiased_foldl_pageToDevice (biasPages c) (started s id)
    refine ⟨_, exec_biasSet_device hr hf hn, ended_rebiased hr hb, fun p hp => ?_, fun p hp => ?_, rebiased_finish hb⟩
    · exact fun h => ((hb.2 p).1 h).2 hp
    · exact (hb.2 p).trans (and_iff_left hp)
  case host =>
    intro s id c hr hf hn hrecs harr
    have hb := rebiased_foldl_pageToHost (l := biasPages c) (s := started s id)
      fun j hj => ⟨fun e he h => hrecs e he (h ▸ hj), fun e he h => harr e he (h ▸ hj)⟩
    refine ⟨_, exec_biasSet_host hr hf hn, ended_rebiased hr hb, fun p hp => ?_, fun p hp => ?_, rebiased_finish hb⟩
    · exact (hb.2 p).2 (.inr hp)
    · exact (hb.2 p).trans (or_iff_left hp)
  case flush =>
    intro s id c hr hf hn
    exact exec_biasSet_host hr hf hn

end

/-! ## Requests of the partner, and requests to it -/

namespace Sys2Proof.Machine

open Sys2Proof.Safety

/-! ### The front of a receive buffer (R412, R418) -/

/-- A port without its receive buffers, their credits and its control records. -/
def besideRx (x : Port) : Port := { x with rxBuf := [], freed := [], told := [], control := [] }

/-- What changes the ports alone, after what changes the ports alone, changes the ports alone. -/
theorem ports_frame {s u t : State} (hu : u = { s with ports := u.ports }) (ht : t = { u with ports := t.ports }) :
    t = { s with ports := t.ports } := by
  rw [hu] at ht
  exact ht

theorem modPort_frame (s : State) (p : Nat) (f : Port → Port) : modPort s p f = { s with ports := (modPort s p f).ports } := rfl

theorem dueCredit_frame (s : State) (p v : Nat) : dueCredit s p v = { s with ports := (dueCredit s p v).ports } := by
  unfold dueCredit dueRecord
  exact ports_frame (modPort_frame s p _) (modPort_frame ..)

/-- Taking a sector out of a receive buffer, or part of it, changes the ports alone. -/
theorem setRxFront_frame (s : State) (p v : Nat) (rest : List Byte) :
    setRxFront s p v rest = { s with ports := (setRxFront s p v rest).ports } := by
  unfold setRxFront takeRx
  split
  · dsimp only
    split
    · exact ports_frame (modPort_frame s p _) (dueCredit_frame ..)
    · exact modPort_frame ..
  · exact modPort_frame ..

/-- It leaves the port but for its receive buffers, their credits and its control records. -/
theorem besideRx_setRxFront (s : State) (p v : Nat) (rest : List Byte) : besideRx (portOf (setRxFront s p v rest) p) = besideRx (portOf s p) := by
  unfold setRxFront takeRx
  split
  · dsimp only
    split
    · simp [dueCredit, dueRecord, besideRx]
    · simp [besideRx]
  · simp [besideRx]

section
variable (s : State) (p v : Nat) (rest : List Byte)

@[simp] theorem served_setRxFront : (portOf (setRxFront s p v rest) p).served = (portOf s p).served := by
  have h := congrArg Port.served (besideRx_setRxFront s p v rest)
  exact h
@[simp] theorem requests_setRxFront : (portOf (setRxFront s p v rest) p).requests = (portOf s p).requests := by
  have h := congrArg Port.requests (besideRx_setRxFront s p v rest)
  exact h
@[simp] theorem waitingOn_setRxFront (k : Nat) : (portOf (setRxFront s p v rest) p).waitingOn k = (portOf s p).waitingOn k := by
  have h := congrArg (fun x : Port => x.waitingOn k) (besideRx_setRxFront s p v rest)
  exact h
@[simp] theorem portWing_setRxFront (k : Nat) : portWing (setRxFront s p v rest) k = portWing s k := by
  rw [setRxFront_frame]
  rfl
@[simp] theorem setRxFront_now : (setRxFront s p v rest).now = s.now := by rw [setRxFront_frame]

end

/-! ### A request of the partner (R429) -/

/-- A window allows an operation. -/
def WindowAt.allows (w : WindowAt) (op : Nat) : Bool :=
  match op with
  | 1 => w.read
  | 2 => w.write
  | _ => w.atomic

/-- The record at the front of VC 5 (R429). -/
def recordOf (b : List Byte) : List Byte := (b ++ bytesOf 64 0).take 64

/-- The data that follow it. -/
def dataOf (b : List Byte) : List Byte := (b.drop 64 ++ bytesOf 64 0).take 64

/-- What is left there when the record, and the data of a write or an atomic, are taken. -/
def afterRecord (b : List Byte) : List Byte := b.drop (if numAt b 0 1 = 2 ∨ numAt b 0 1 = 3 then 128 else 64)

/-- The first request of a microsecond is noted. -/
def firstOfUs (s : State) (p : Nat) (rest : List Byte) : State :=
  modPort (setRxFront s p 5 rest) p fun y => { y with raTime := s.now / 1000, raCount := 1 }

section
variable {s : State} {p : Nat} {b : List Byte}

/-- A request record, or one with its data, is taken from VC 5 and checked. -/
theorem exec_remoteRequest (hb : rxFront s p 5 = some b) (ha : portState s p = 5) (ht : (portOf s p).raTime ≠ s.now / 1000)
    (hr : 0 < getR s .mrqPRaRate p) :
    exec (.remoteRequest p) s = .next (checkRequest (firstOfUs s p (afterRecord b)) p (recordOf b) (dataOf b)) := by
  show execRemoteRequest p s = _
  have hact : portActive s p = true := by simp [portActive, ha]
  simp [execRemoteRequest, hb, hact, ht, Nat.not_le.mpr hr, firstOfUs, afterRecord, recordOf, dataOf]

/-- Past the rate no request is taken. -/
theorem exec_remoteRequest_rate (hb : rxFront s p 5 = some b) (ht : (portOf s p).raTime = s.now / 1000)
    (hr : getR s .mrqPRaRate p ≤ (portOf s p).raCount) : exec (.remoteRequest p) s = .next s := by
  show execRemoteRequest p s = _
  simp [execRemoteRequest, hb, ht, hr]

variable (s p) in
theorem firstOfUs_frame (rest : List Byte) : firstOfUs s p rest = { s with ports := (firstOfUs s p rest).ports } := by
  calc firstOfUs s p rest = { setRxFront s p 5 rest with ports := (firstOfUs s p rest).ports } := rfl
    _ = _ := by rw [setRxFront_frame]

@[simp] theorem served_firstOfUs (rest : List Byte) : (portOf (firstOfUs s p rest) p).served = (portOf s p).served := by simp [firstOfUs]

@[simp] theorem waitingOn_firstOfUs (rest : List Byte) (v : Nat) : (portOf (firstOfUs s p rest) p).waitingOn v = (portOf s p).waitingOn v := by
  rw [← waitingOn_setRxFront s p 5 rest v, firstOfUs, portOf_modPort]
  rfl

@[simp] theorem requestValid_firstOfUs (rest r : List Byte) : requestValid (firstOfUs s p rest) p r = requestValid s p r := by
  rw [firstOfUs_frame]
  rfl

@[simp] theorem windowOf_firstOfUs (rest : List Byte) (id : Nat) : windowOf (firstOfUs s p rest) p id = windowOf s p id := by
  rw [firstOfUs_frame]
  rfl

@[simp] theorem freeCredit_firstOfUs (rest : List Byte) (sl : Nat) : freeCredit (firstOfUs s p rest) sl = freeCredit s sl := by
  rw [firstOfUs_frame]
  rfl

@[simp] theorem homeSlice_firstOfUs (rest : List Byte) (l : Nat) : homeSlice (firstOfUs s p rest) l = homeSlice s l := by
  rw [firstOfUs_frame]
  rfl

variable {r : List Byte} (data : List Byte) {w : WindowAt}

/-- A record whose fields do not hold is malformed. -/
theorem checkRequest_malformed (h : requestValid s p r = false) :
    checkRequest s p r data = countMalformed (refuseRequest s p r 0x0103) p := by
  simp [checkRequest, h, stBadField]

/-- A request of a window that does not exist is a violation. -/
theorem checkRequest_noWindow (h : requestValid s p r = true) (hw : windowOf s p (numAt r 8 4) = none) :
    checkRequest s p r data = countViolation (refuseRequest s p r 0x0702) p := by
  simp [checkRequest, h, hw, stWindow]

/-- A request of a window is passed on when the window allows it and holds its bytes. -/
theorem checkRequest_window (h : requestValid s p r = true) (hw : windowOf s p (numAt r 8 4) = some w) :
    checkRequest s p r data =
      if !w.allows (numAt r 0 1) || decide (w.size < numAt r 16 8 + numAt r 1 1) then countViolation (refuseRequest s p r 0x0702) p
      else passRequest s p r data w := by
  simp only [checkRequest, h, hw]
  rfl

/-- The request that the home of a window's bytes is given. -/
def askedOf (w : WindowAt) (r data : List Byte) : Served :=
  ⟨numAt r 24 8, numAt r 0 1, 0, none, w.vec, w.base + numAt r 16 8, numAt r 1 1, numAt r 2 1, data⟩

/-- A request of a query window waits at the Hall. -/
theorem passRequest_vec (h : w.vec.isSome = true) :
    passRequest s p r data w = modPort s p fun x => { x with served := x.served ++ [askedOf w r data] } := by
  obtain ⟨y, hy⟩ := Option.isSome_iff_exists.1 h
  simp [passRequest, askedOf, hy]

/-- A new request takes the lowest free credit of its slice. -/
theorem passRequest_credit {k : Nat} (hv : w.vec = none) (hc : numAt r 4 2 = 0xFFFF)
    (hk : freeCredit s (homeSlice s ((w.base + numAt r 16 8) / 64)) = some k) :
    passRequest s p r data w =
      modPort (setCredit s k (some ⟨p, numAt r 24 8, (w.base + numAt r 16 8) / 64, 0⟩)) p fun x =>
        { x with served := x.served ++ [{ askedOf w r data with slice := homeSlice s ((w.base + numAt r 16 8) / 64), credit := some k }] } := by
  have hfree : tget (fun _ => none) s.mzn.credits k = none := by simpa using List.find?_some hk
  simp [passRequest, askedOf, hv, hc, hk, hfree]

/-- A new request to a slice that has no free credit is answered NACK. -/
theorem passRequest_noCredit (hv : w.vec = none) (hc : numAt r 4 2 = 0xFFFF)
    (hk : freeCredit s (homeSlice s ((w.base + numAt r 16 8) / 64)) = none) :
    passRequest s p r data w = queueTx s p 6 (responseBytes (numAt r 0 1) 1 0 0 0 0xFFFF (numAt r 24 8) none) := by
  simp [passRequest, hv, hc, hk]

end

/-! ### Requests that pass their checks (R247, R428, R429) -/

section
variable {s : State} {p : Nat} {b : List Byte} {w : WindowAt}

/-- A request that meets a window. -/
theorem exec_remoteRequest_window (hb : rxFront s p 5 = some b) (ha : portState s p = 5) (ht : (portOf s p).raTime ≠ s.now / 1000)
    (hr : 0 < getR s .mrqPRaRate p) (hv : requestValid s p (recordOf b) = true) (hw : windowOf s p (numAt (recordOf b) 8 4) = some w) :
    exec (.remoteRequest p) s = .next
      (if !w.allows (numAt (recordOf b) 0 1) || decide (w.size < numAt (recordOf b) 16 8 + numAt (recordOf b) 1 1) then
        countViolation (refuseRequest (firstOfUs s p (afterRecord b)) p (recordOf b) 0x0702) p
      else passRequest (firstOfUs s p (afterRecord b)) p (recordOf b) (dataOf b) w) :=
  (exec_remoteRequest hb ha ht hr).trans
    (congrArg _ (checkRequest_window _ ((requestValid_firstOfUs ..).trans hv) ((windowOf_firstOfUs ..).trans hw)))

/-- A request that its window does not allow, or does not hold, is a violation. -/
theorem exec_remoteRequest_violation (hb : rxFront s p 5 = some b) (ha : portState s p = 5) (ht : (portOf s p).raTime ≠ s.now / 1000)
    (hr : 0 < getR s .mrqPRaRate p) (hv : requestValid s p (recordOf b) = true) (hw : windowOf s p (numAt (recordOf b) 8 4) = some w)
    (hbad : w.allows (numAt (recordOf b) 0 1) = false ∨ w.size < numAt (recordOf b) 16 8 + numAt (recordOf b) 1 1) :
    exec (.remoteRequest p) s = .next (countViolation (refuseRequest (firstOfUs s p (afterRecord b)) p (recordOf b) 0x0702) p) :=
  (exec_remoteRequest_window hb ha ht hr hv hw).trans (congrArg _ (if_pos (by simpa using hbad)))

/-- A request that its window allows and holds is passed on. -/
theorem exec_remoteRequest_passes (hb : rxFront s p 5 = some b) (ha : portState s p = 5) (ht : (portOf s p).raTime ≠ s.now / 1000)
    (hr : 0 < getR s .mrqPRaRate p) (hv : requestValid s p (recordOf b) = true) (hw : windowOf s p (numAt (recordOf b) 8 4) = some w)
    (hop : w.allows (numAt (recordOf b) 0 1) = true) (hsize : numAt (recordOf b) 16 8 + numAt (recordOf b) 1 1 ≤ w.size) :
    exec (.remoteRequest p) s = .next (passRequest (firstOfUs s p (afterRecord b)) p (recordOf b) (dataOf b) w) :=
  (exec_remoteRequest_window hb ha ht hr hv hw).trans (congrArg _ (if_neg (by simpa [hop] using hsize)))

variable (r data rest : List Byte)

theorem portOf_setCredit (s : State) (k : Nat) (c : Option Credit) (i : Nat) : portOf (setCredit s k c) i = portOf s i := rfl

/-- The request of a query window is among the port's. -/
theorem passRequest_firstOfUs_vec (h : w.vec.isSome = true) :
    ∃ t, passRequest (firstOfUs s p rest) p r data w = t ∧ (portOf t p).served = (portOf s p).served ++ [askedOf w r data] ∧
      t = { s with ports := t.ports } := by
  refine ⟨_, passRequest_vec data h, ?_, ports_frame (firstOfUs_frame s p rest) rfl⟩
  rw [portOf_modPort, served_firstOfUs]

/-- A request that has its credit is among the port's, and the credit is its own. -/
theorem passRequest_firstOfUs_credit {k : Nat} (hv : w.vec = none) (hc : numAt r 4 2 = 0xFFFF)
    (hk : freeCredit s (homeSlice s ((w.base + numAt r 16 8) / 64)) = some k) :
    ∃ t, passRequest (firstOfUs s p rest) p r data w = t ∧
      (portOf t p).served = (portOf s p).served ++
        [{ askedOf w r data with slice := homeSlice s ((w.base + numAt r 16 8) / 64), credit := some k }] ∧
      tget (fun _ => none) t.mzn.credits k = some ⟨p, numAt r 24 8, (w.base + numAt r 16 8) / 64, 0⟩ ∧
      t = { s with ports := t.ports, mzn := { s.mzn with credits := t.mzn.credits } } := by
  have hgo := passRequest_credit (s := firstOfUs s p rest) (p := p) data hv hc (by rw [freeCredit_firstOfUs, homeSlice_firstOfUs, hk])
  rw [homeSlice_firstOfUs] at hgo
  refine ⟨_, hgo, ?_, credit_setCredit .., ?_⟩
  · rw [portOf_modPort, portOf_setCredit, served_firstOfUs]
  · rw [firstOfUs_frame]
    rfl

/-- A request without a credit is answered, and is not among the port's. -/
theorem passRequest_firstOfUs_noCredit (hv : w.vec = none) (hc : numAt r 4 2 = 0xFFFF)
    (hk : freeCredit s (homeSlice s ((w.base + numAt r 16 8) / 64)) = none) :
    ∃ t, passRequest (firstOfUs s p rest) p r data w = t ∧ (portOf t p).served = (portOf s p).served ∧
      (portOf t p).waitingOn 6 = (portOf s p).waitingOn 6 ++ [responseBytes (numAt r 0 1) 1 0 0 0 0xFFFF (numAt r 24 8) none] ∧
      t = { s with ports := t.ports } := by
  have hgo := passRequest_noCredit (s := firstOfUs s p rest) (p := p) data hv hc (by rw [freeCredit_firstOfUs, homeSlice_firstOfUs, hk])
  refine ⟨_, hgo, ?_, ?_, ports_frame (firstOfUs_frame s p rest) rfl⟩
  · rw [portOf_queueTx, served_firstOfUs]
  · rw [waitingOn_queueTx, waitingOn_firstOfUs]

end

/-! ### An answer of the partner (R248, R429, R430) -/

/-- The outstanding request that a record of VC 6 answers. -/
def answers (s : State) (p : Nat) (b : List Byte) : Option RaReq :=
  (portOf s p).requests.find? fun r => decide (r.tag = numAt b 24 8) && decide (r.op = numAt b 0 1) && r.due.isNone

section
variable {s : State} {p : Nat} {b : List Byte} {q : RaReq}

/-- A record and what follows it leave VC 6. -/
def answerTaken (s : State) (p : Nat) (b : List Byte) : State :=
  setRxFront s p 6 (b.drop (if decide (numAt b 1 1 = 0) && decide (numAt b 0 1 ≠ 2) then 128 else 64))

/-- A record answers a request of its operation. -/
theorem op_of_answers (h : answers s p b = some q) : q.op = numAt b 0 1 := by
  have := List.find?_some h
  simp only [Bool.and_eq_true, decide_eq_true_eq] at this
  exact this.1.2

/-- A record that answers no outstanding request is malformed. -/
theorem remoteAnswer_unasked (hb : rxFront s p 6 = some b) (h : answers s p b = none) :
    remoteAnswer s p false = countMalformed (answerTaken s p b) p := by
  unfold answers at h
  simp [remoteAnswer, hb, h, answerTaken]

/-- A response completes its request. -/
theorem remoteAnswer_response (hb : rxFront s p 6 = some b) (hf : numAt b 5 1 < 2) (h : answers s p b = some q) (hn : numAt b 1 1 ≠ 1)
    (hr : numAt b 1 1 ≤ 2) :
    remoteAnswer s p false = takeResponse (answerTaken s p b) p q b ((b.drop 64 ++ bytesOf 64 0).take 64) := by
  unfold answers at h
  simp [remoteAnswer, hb, h, hn, Nat.not_lt.mpr hr, Nat.not_le.mpr hf, answerTaken]

/-- A NACK goes to its request. -/
theorem remoteAnswer_nack (hb : rxFront s p 6 = some b) (hf : numAt b 5 1 < 2) (h : answers s p b = some q) (hn : numAt b 1 1 = 1) :
    remoteAnswer s p true = takeNack (answerTaken s p b) p q b := by
  unfold answers at h
  simp [remoteAnswer, hb, h, hn, Nat.not_le.mpr hf, answerTaken]

theorem requests_modRequest (s : State) (p tag : Nat) (f : RaReq → RaReq) :
    (portOf (modRequest s p tag f) p).requests = (portOf s p).requests.map fun y => if y.tag = tag then f y else y := by
  simp [modRequest]

theorem waitingOn_modRequest (s : State) (p tag : Nat) (f : RaReq → RaReq) (v : Nat) :
    (portOf (modRequest s p tag f) p).waitingOn v = (portOf s p).waitingOn v := by
  rw [modRequest, portOf_modPort]
  rfl

/-- What changes the ports alone after an answer was taken changes the ports alone. -/
theorem frame_of_answerTaken {t : State} (h : t = { answerTaken s p b with ports := t.ports }) : t = { s with ports := t.ports } :=
  ports_frame (setRxFront_frame ..) h

section
variable (data : List Byte)

/-- A request that is no longer outstanding. -/
def requestDone (s : State) (p : Nat) (q : RaReq) : State := modPort s p fun x => { x with requests := x.requests.erase q }

/-- A response that brings data writes them to line 2 of its block, and then line 3 (R430). -/
theorem takeResponse_data (h0 : numAt b 1 1 = 0) (h2 : q.op ≠ 2) :
    takeResponse s p q b data =
      completeBlock (writeFull (requestDone s p q) (portWing s p) ((q.block + 128) / 64) data).1 p q.block 0 (numAt b 4 1) := by
  simp only [takeResponse, h0, decide_true, Bool.true_and, ne_eq, h2, not_false_eq_true, if_true]
  rfl

/-- The response of a write brings none. -/
theorem takeResponse_write (h0 : numAt b 1 1 = 0) (h2 : q.op = 2) :
    takeResponse s p q b data = completeBlock (requestDone s p q) p q.block 0 (numAt b 4 1) := by
  simp [takeResponse, h0, h2, requestDone]

/-- A response that refuses brings its status. -/
theorem takeResponse_refused (h2 : numAt b 1 1 = 2) :
    takeResponse s p q b data = completeBlock (requestDone s p q) p q.block (numAt b 2 2) (numAt b 4 1) := by
  simp [takeResponse, h2, requestDone]

end

theorem modRequest_frame (s : State) (p tag : Nat) (f : RaReq → RaReq) :
    modRequest s p tag f = { s with ports := (modRequest s p tag f).ports } := rfl

theorem sendRequest_frame (s : State) (p : Nat) (r : RaReq) : sendRequest s p r = { s with ports := (sendRequest s p r).ports } := rfl

/-- A request that is sent waits behind what waits on VC 5. -/
theorem waitingOn_sendRequest (s : State) (p : Nat) (r : RaReq) :
    (portOf (sendRequest s p r) p).waitingOn 5 = (portOf s p).waitingOn 5 ++ [r.record ++ if r.op = 1 then [] else r.data] :=
  waitingOn_queueTx ..

theorem requests_sendRequest (s : State) (p : Nat) (r : RaReq) : (portOf (sendRequest s p r) p).requests = (portOf s p).requests := by
  rw [sendRequest, portOf_queueTx]

/-- A NACK sets the time of the next attempt. -/
theorem takeNack_backoff (s : State) (p : Nat) (q : RaReq) (h : numAt b 5 1 = 0) :
    takeNack s p q b = modRequest s p q.tag fun y =>
      { y with record := overlay q.record 4 (bytesOf 2 (numAt b 6 2))
               due := some (s.now + if numAt b 4 1 = 0 then 250 else min (250 * 2 ^ (numAt b 4 1 - 1)) 4000) } := by
  simp [takeNack, h, bit, patch]

/-- A NACK that is RESERVED sends the request again at once. -/
theorem takeNack_reserved (s : State) (p : Nat) (q : RaReq) (h : numAt b 5 1 = 1) :
    takeNack s p q b =
      sendRequest (modRequest s p q.tag fun y => { y with record := overlay q.record 4 (bytesOf 2 (numAt b 6 2)), due := none }) p
        { q with record := overlay q.record 4 (bytesOf 2 (numAt b 6 2)) } := by
  simp [takeNack, h, bit, patch]

end

/-! ### A submission (R430) -/

section
variable {s : State} {who : Requester} {p w : Nat} {a : W64}

/-- A submission meets the port. -/
theorem exec_raSubmit (hp : portHere s p = true) : exec (.raSubmit who p a) s = .next (submitRequest s who p a.toNat) :=
  congrArg Host.Outcome.next (if_pos hp)

/-- A block that is misaligned, in host memory or in a STREAM page, or that the submitter may not use, is refused and counted. -/
theorem submitRequest_refused {n : Nat} (h : n % 256 ≠ 0 ∨ isHostAddr n = true ∨ isStream (n / 64) = true ∨ mayUsePort s p who = false) :
    submitRequest s who p n = addR s .mrqPRaRefused 1 p := by
  rcases h with h | h | h | h <;> simp [submitRequest, h]

/-- The submitter may use the port, and its block is one that it may name. -/
def mayAsk (s : State) (who : Requester) (p w a : Nat) : Prop :=
  a % 256 = 0 ∧ isHostAddr a = false ∧ isStream (a / 64) = false ∧ mayUsePort s p who = true ∧ portWing s p = some w ∧ grantedTo s w a 256 = true

/-- With 64 requests outstanding a submission completes with the status of an overload. -/
theorem submitRequest_full {n : Nat} (h : mayAsk s who p w n) (hl : 64 ≤ (portOf s p).requests.length) :
    submitRequest s who p n = completeBlock s p n 0x0203 0 := by
  obtain ⟨ha, hh, hs, hm, hw, hg⟩ := h
  simp [submitRequest, ha, hh, hs, hm, hw, hg, hl, stRefusedOverload]

/-- On a port in QUARANTINED a submission completes with that status. -/
theorem submitRequest_quarantined {n : Nat} (h : mayAsk s who p w n) (hl : (portOf s p).requests.length < 64) (hq : portState s p = 7) :
    submitRequest s who p n = completeBlock s p n 0x0703 0 := by
  obtain ⟨ha, hh, hs, hm, hw, hg⟩ := h
  simp [submitRequest, ha, hh, hs, hm, hw, hg, Nat.not_le.mpr hl, hq, stQuarantined]

/-- On a port that is not ACTIVE a submission completes with the status of a lost peer. -/
theorem submitRequest_lost {n : Nat} (h : mayAsk s who p w n) (hl : (portOf s p).requests.length < 64) (hq : portState s p ≠ 7)
    (hact : portState s p ≠ 5) : submitRequest s who p n = completeBlock s p n 0x0503 0 := by
  obtain ⟨ha, hh, hs, hm, hw, hg⟩ := h
  simp [submitRequest, ha, hh, hs, hm, hw, hg, Nat.not_le.mpr hl, hq, hact, portActive, stPeerLost]

/-- The state in which a request is outstanding and waits to be sent. -/
def asked (s : State) (p : Nat) (q : RaReq) : State := sendRequest (modPort s p fun x => { x with requests := x.requests ++ [q] }) p q

theorem requests_asked (s : State) (p : Nat) (q : RaReq) : (portOf (asked s p q) p).requests = (portOf s p).requests ++ [q] := by
  rw [asked, requests_sendRequest, portOf_modPort]

theorem waitingOn_asked (s : State) (p : Nat) (q : RaReq) :
    (portOf (asked s p q) p).waitingOn 5 = (portOf s p).waitingOn 5 ++ [q.record ++ if q.op = 1 then [] else q.data] := by
  rw [asked, waitingOn_sendRequest, portOf_modPort]
  rfl

/-- A read is sent with its record alone. -/
theorem submitRequest_read {n : Nat} {s1 : State} {r : List Byte} (h : mayAsk s who p w n) (hl : (portOf s p).requests.length < 64)
    (hact : portState s p = 5) (hr : readNc s (some w) (n / 64) = (s1, r, 0)) (hop : numAt r 0 1 = 1) :
    submitRequest s who p n = asked s1 p ⟨numAt r 24 8, n, 1, overlay r 4 (bytesOf 2 0xFFFF), [], none⟩ := by
  obtain ⟨ha, hh, hs, hm, hw, hg⟩ := h
  simp [submitRequest, ha, hh, hs, hm, hw, hg, Nat.not_le.mpr hl, hact, portActive, hr, hop, asked, patch]

/-- A write or an atomic is sent with its data. -/
theorem submitRequest_data {n : Nat} {s1 s2 : State} {r d : List Byte} (h : mayAsk s who p w n) (hl : (portOf s p).requests.length < 64)
    (hact : portState s p = 5) (hr : readNc s (some w) (n / 64) = (s1, r, 0)) (hop : numAt r 0 1 ≠ 1)
    (hd : readNc s1 (some w) (n / 64 + 1) = (s2, d, 0)) :
    submitRequest s who p n = asked s2 p ⟨numAt r 24 8, n, numAt r 0 1, overlay r 4 (bytesOf 2 0xFFFF), d, none⟩ := by
  obtain ⟨ha, hh, hs, hm, hw, hg⟩ := h
  simp [submitRequest, ha, hh, hs, hm, hw, hg, Nat.not_le.mpr hl, hact, portActive, hr, hop, hd, asked, patch]

end

end Sys2Proof.Machine

section
open Sys2Proof Sys2Proof.Machine Sys2Proof.Safety

/-- Settles O52: each record of the partner, each answer of it and each submission by its case. -/
theorem remoteRequestsTravel : Obligations.RemoteRequestsTravel := by
  refine ⟨?request, ?rate, ?answer, ?unasked, ?retry, ?submit⟩
  case request =>
    intro s p b hb ha ht hr n u r data
    refine ⟨fun hv => ?_, fun hv hw => ?_, fun w hv hw hbad => ?_, fun w hv hw hop hsize => ?_⟩
    · exact (exec_remoteRequest hb ha ht hr).trans (congrArg _ (checkRequest_malformed _ ((requestValid_firstOfUs ..).trans hv)))
    · exact (exec_remoteRequest hb ha ht hr).trans
        (congrArg _ (checkRequest_noWindow _ ((requestValid_firstOfUs ..).trans hv) ((windowOf_firstOfUs ..).trans hw)))
    · exact exec_remoteRequest_violation hb ha ht hr hv hw hbad
    · have hpass := exec_remoteRequest_passes hb ha ht hr hv hw hop hsize
      refine ⟨fun hvec => ?_, fun k hvec hc hk => ?_, fun hvec hc hk => ?_⟩
      · obtain ⟨t, hgo, ht⟩ := passRequest_firstOfUs_vec (recordOf b) (dataOf b) (afterRecord b) hvec
        exact ⟨t, hpass.trans (congrArg _ hgo), ht⟩
      · obtain ⟨t, hgo, ht⟩ := passRequest_firstOfUs_credit (recordOf b) (dataOf b) (afterRecord b) hvec hc hk
        exact ⟨t, hpass.trans (congrArg _ hgo), ht⟩
      · obtain ⟨t, hgo, ht⟩ := passRequest_firstOfUs_noCredit (recordOf b) (dataOf b) (afterRecord b) hvec hc hk
        exact ⟨t, hpass.trans (congrArg _ hgo), ht⟩
  case rate =>
    intro s p b hb ha ht hr
    exact exec_remoteRequest_rate hb ht hr
  case answer =>
    intro s p b q hb hf hq withData u u1
    have hop : q.op = numAt b 0 1 := op_of_answers hq
    refine ⟨fun h0 h2 => ?_, fun h0 h2 => ?_, fun h2 => ?_, fun h1 h0 => ?_, fun h1 hr => ?_⟩
    · have hgo := (remoteAnswer_response hb hf hq (by simp [h0]) (by simp [h0])).trans (takeResponse_data _ h0 (hop ▸ h2))
      rw [answerTaken, portWing_setRxFront] at hgo
      exact congrArg Host.Outcome.next hgo
    · exact congrArg Host.Outcome.next
        ((remoteAnswer_response hb hf hq (by simp [h0]) (by simp [h0])).trans (takeResponse_write _ h0 (hop.trans h2)))
    · exact congrArg Host.Outcome.next
        ((remoteAnswer_response hb hf hq (by simp [h2]) (by simp [h2])).trans (takeResponse_refused _ h2))
    · refine ⟨_, congrArg Host.Outcome.next ((remoteAnswer_nack hb hf hq h1).trans (takeNack_backoff _ _ _ h0)), ?_, ?_⟩
      · rw [requests_modRequest, answerTaken, requests_setRxFront, setRxFront_now]
      · exact frame_of_answerTaken (modRequest_frame ..)
    · refine ⟨_, congrArg Host.Outcome.next ((remoteAnswer_nack hb hf hq h1).trans (takeNack_reserved _ _ _ hr)), ?_, ?_⟩
      · rw [waitingOn_sendRequest, waitingOn_modRequest, answerTaken, waitingOn_setRxFront]
      · exact frame_of_answerTaken (ports_frame (modRequest_frame ..) (sendRequest_frame ..))
  case unasked =>
    intro s p b hb hall
    have hn : answers s p b = none := by
      simpa [answers, List.find?_eq_none, or_assoc, imp_iff_not_or, Option.isSome_iff_ne_none] using hall
    refine congrArg Host.Outcome.next ((remoteAnswer_unasked hb hn).trans ?_)
    simp [answerTaken]
  case retry =>
    intro s p tag d q hq hd
    refine ⟨sendRequest (modRequest (notBefore s d) p tag fun y => { y with due := none }) p q, ?_, rfl, fun r hr htag => ?_, ?_, rfl⟩
    · show execNackRetry p tag s = _
      simp [execNackRetry, hq, hd]
    · rw [requests_sendRequest, requests_modRequest] at hr
      obtain ⟨y, -, rfl⟩ := List.mem_map.1 hr
      split at htag <;> simp_all
    · rw [waitingOn_sendRequest, waitingOn_modRequest]
      rfl
  case submit =>
    intro s who p a hp
    refine ⟨fun hbad => ?_, fun w ha hh hs hm hw hg => ?_⟩
    · exact ⟨_, (exec_raSubmit hp).trans (congrArg _ (submitRequest_refused hbad)), getR_addR_same ..,
        fun r i j f hk => getR_addR_other _ _ _ _ _ _ _ _ _ _ hk, rfl⟩
    · have hask : mayAsk s who p w a.toNat := ⟨ha, hh, hs, hm, hw, hg⟩
      refine ⟨fun hl => ?_, fun hl hq => ?_, fun hl hq hact => ?_, fun s1 r hl hact hr hop => ?_, fun s1 r s2 d hl hact hr hop hd => ?_⟩
      · exact (exec_raSubmit hp).trans (congrArg _ (submitRequest_full hask hl))
      · exact (exec_raSubmit hp).trans (congrArg _ (submitRequest_quarantined hask hl hq))
      · exact (exec_raSubmit hp).trans (congrArg _ (submitRequest_lost hask hl hq hact))
      · refine ⟨_, (exec_raSubmit hp).trans (congrArg _ (submitRequest_read hask hl hact hr hop)), requests_asked .., ?_, rfl⟩
        rw [waitingOn_asked]
        simp
      · refine ⟨_, (exec_raSubmit hp).trans (congrArg _ (submitRequest_data hask hl hact hr hop hd)), requests_asked .., ?_, rfl⟩
        rw [waitingOn_asked]
        simp [hop]

end

/-! ## Ushers reach memory -/

namespace Sys2Proof.Machine

open Sys2Proof.Safety

/-! ### Bytes of a line -/

/-- The bytes of a number spell it, modulo their width (R4). -/
theorem ofLe_bytesOf (n x : Nat) : ofLe ((bytesOf n x).map BitVec.toNat) = x % 2 ^ (8 * n) := by
  induction n generalizing x with
  | zero => simp [bytesOf, leBytes, ofLe, Nat.mod_one]
  | succ n ih =>
    have hstep : ofLe ((bytesOf (n + 1) x).map BitVec.toNat) = x % 256 + 256 * ofLe ((bytesOf n (x / 256)).map BitVec.toNat) := by
      simp [bytesOf, leBytes, ofLe]
    rw [hstep, ih, show 8 * (n + 1) = 8 + 8 * n by omega, Nat.pow_add, Nat.mod_mul]

/-- Bytes that stand at an offset of a line spell their number. -/
theorem numAt_of_slice {d : List Byte} {lo n x : Nat} (h : (d.drop lo).take n = bytesOf n x) : numAt d lo n = x % 2 ^ (8 * n) := by
  rw [numAt, h, ofLe_bytesOf]

/-- A mask names the bytes of its span. -/
theorem bit_spanMask (lo n i : Nat) : bit (spanMask lo n) i = decide (lo ≤ i ∧ i < lo + n) := by
  have h : (spanMask lo n).testBit i = decide (lo ≤ i ∧ i < lo + n) := by
    rw [spanMask, Nat.testBit_mul_two_pow, Nat.testBit_two_pow_sub_one, ← Bool.decide_and]
    exact decide_eq_decide.2 (by omega)
  rwa [Nat.testBit_eq_decide_div_mod_eq] at h

/-- A byte of a merge. -/
theorem getD_mergeMask (mask : Nat) (old new : List Byte) {i : Nat} (h : i < 64) :
    (mergeMask mask old new).getD i 0 = if bit mask i then new.getD i 0 else old.getD i 0 := by
  simp [mergeMask, h]

section
variable (old : List Byte) (lo : Nat) (bs : List Byte)

/-- The line with bytes stored at an offset. -/
def storedAt : List Byte := mergeMask (spanMask lo bs.length) old (bytesOf lo 0 ++ bs)

/-- Outside the stored bytes the line is what it was. -/
theorem getD_storedAt_outside {i : Nat} (hi : i < 64) (h : i < lo ∨ lo + bs.length ≤ i) : (storedAt old lo bs).getD i 0 = old.getD i 0 := by
  rw [storedAt, getD_mergeMask _ _ _ hi, bit_spanMask, if_neg (by simp; omega)]

/-- The stored bytes stand at their offset. -/
theorem slice_storedAt (h : lo + bs.length ≤ 64) : ((storedAt old lo bs).drop lo).take bs.length = bs := by
  have hlen : (storedAt old lo bs).length = 64 := by simp [storedAt, mergeMask]
  refine List.ext_getElem (by simp [hlen]; omega) fun i h1 h2 => ?_
  have hb : bit (spanMask lo bs.length) (lo + i) = true := by simp [bit_spanMask, h2]
  rw [List.getElem_take, List.getElem_drop]
  simp [storedAt, mergeMask, hb, h2]

/-- The stored number reads back. -/
theorem numAt_storedAt (n x : Nat) (h : lo + n ≤ 64) : numAt (storedAt old lo (bytesOf n x)) lo n = x % 2 ^ (8 * n) := by
  refine numAt_of_slice ?_
  have := slice_storedAt old lo (bytesOf n x) (by simpa using h)
  simpa using this

end

/-! ### Accesses inside one line -/

/-- An access whose size divides its address stays inside a line (R288). -/
theorem inside_of_aligned {a n : Nat} (hn : n = 1 ∨ n = 2 ∨ n = 4 ∨ n = 8) (ha : a % n = 0) : a % 64 + n ≤ 64 := by
  rcases hn with rfl | rfl | rfl | rfl <;> omega

/-- An access inside a line touches that line alone. -/
theorem linesOf_inside {a n : Nat} (hn : 0 < n) (h : a % 64 + n ≤ 64) : linesOf a n = [a / 64] := by
  have : (a + n - 1) / 64 - a / 64 + 1 = 1 := by omega
  rw [linesOf, if_neg (by omega), this]
  rfl

/-- A store inside a line is one part. -/
theorem storeParts_inside {a : Nat} {bs : List Byte} (hn : 0 < bs.length) (h : a % 64 + bs.length ≤ 64) :
    storeParts a bs = [(a / 64, spanMask (a % 64) bs.length, bytesOf (a % 64) 0 ++ bs)] := by
  have hlo : (if a / 64 * 64 < a then a - a / 64 * 64 else 0) = a % 64 := by split <;> omega
  have hhi : min 64 (a + bs.length - a / 64 * 64) - a % 64 = bs.length := by omega
  have hdrop : a / 64 * 64 + a % 64 - a = 0 := by omega
  simp [storeParts, linesOf_inside hn h, hlo, hhi, hdrop]

/-- Memory is what has bit 63 set or lies below 2^40 (R287). -/
theorem usherRegion_memory_iff (a : Nat) : usherRegion a = .memory ↔ bit a 63 = true ∨ a < 2 ^ 40 := by
  unfold usherRegion
  repeat' split
  all_goals simp_all

/-- A line of an address in memory is in memory. -/
theorem usherRegion_line {a : Nat} (h : usherRegion a = .memory) : usherRegion (a / 64 * 64) = .memory := by
  rw [usherRegion_memory_iff] at h ⊢
  refine h.imp (fun hb => ?_) fun hlt => by omega
  simp only [bit] at hb ⊢
  rwa [show a / 64 * 64 / 2 ^ 63 = a / 2 ^ 63 by omega]

section
variable {t : State} {u a n : Nat} {c : CLine}

/-- The L1 answers the load of a line that it holds, sound (R290). -/
theorem loadLine_inL1 (h : inL1 t u a n .load c) : loadLine t u (a / 64) = (useLine t u (a / 64) c, c.data, 0) := by
  obtain ⟨hreg, -, hnc, hc, hp, -⟩ := h
  simp [loadLine, usherRegion_line hreg, hnc, hc, hp]

/-- A load inside such a line. -/
theorem loadScalar_inL1 (hn : 0 < n) (hin : a % 64 + n ≤ 64) (h : inL1 t u a n .load c) :
    loadScalar t u a n = .ok (useLine t u (a / 64) c) (numAt c.data (a % 64) n) := by
  have hline := loadLine_inL1 h
  obtain ⟨hreg, hacc, -⟩ := h
  simp [loadScalar, hreg, loadBytes, hacc, Nat.ne_of_gt hn, linesOf_inside hn hin, loadLines, hline, UStep.andThen, numAt]

/-- A line that has been stored to in the L1. -/
def storedLine (t : State) (c : CLine) (lo : Nat) (bs : List Byte) : CLine :=
  { c with st := .m, data := storedAt c.data lo bs, poison := false, used := t.mzn.tick + 1 }

/-- The state after a store into a line that the L1 holds for writing: the line is gained, then written. -/
def storedL1 (t : State) (u l : Nat) (c : CLine) (lo : Nat) (bs : List Byte) : State :=
  tickMzn (setCache (useLine t u l c) u l (some (storedLine t c lo bs)))

@[simp] theorem cacheLine_storedL1 (t : State) (u l : Nat) (c : CLine) (lo : Nat) (bs : List Byte) :
    cacheLine (storedL1 t u l c lo bs) u l = some (storedLine t c lo bs) := by simp [storedL1]

theorem cacheLine_setCache_other (s : State) (c : Option CLine) {a l b k : Nat} (h : cacheKey b k ≠ cacheKey a l) :
    cacheLine (setCache s a l c) b k = cacheLine s b k := tget_tset_other _ _ _ _ _ h

/-- Every other line of every cache is what it was. -/
theorem cacheLine_storedL1_other (t : State) (u l : Nat) (c : CLine) (lo : Nat) (bs : List Byte) {b k : Nat} (h : cacheKey b k ≠ cacheKey u l) :
    cacheLine (storedL1 t u l c lo bs) b k = cacheLine t b k := by
  simp [storedL1, useLine, cacheLine_setCache_other _ _ h]

/-- A line that the L1 holds for writing is gained as it is (R290). -/
theorem gainLine_inL1 {k : UAccess} (hk : k ≠ .load) (whole : Bool) (h : inL1 t u a n k c) :
    gainLine t u (a / 64) whole = (useLine t u (a / 64) c, 0) := by
  obtain ⟨-, -, hnc, hc, hp, hst⟩ := h
  have hme : (c.st = .m || c.st = .e) = true := by simpa using hst hk
  simp only [gainLine, hnc, hc, hme]
  simp [useLine, hp]

/-- What has been gained is written there. -/
theorem putLine_useLine {l : Nat} (hnc : nonCaching t l = false) (hp : c.poison = false) (lo : Nat) (bs : List Byte) :
    putLine (useLine t u l c) u l (spanMask lo bs.length) (bytesOf lo 0 ++ bs) = storedL1 t u l c lo bs := by
  have hnc' : nonCaching (useLine t u l c) l = false := hnc
  have hc : cacheLine (useLine t u l c) u l = some { c with used := t.mzn.tick } := by simp [useLine]
  simp only [putLine, hnc', hc, hp]
  rfl

/-- A store inside a line that the L1 holds for writing. -/
theorem storeScalar_inL1 (hn : 0 < n) (hin : a % 64 + n ≤ 64) (v : Nat) (h : inL1 t u a n .store c) :
    storeScalar t u a n v = .ok (storedL1 t u (a / 64) c (a % 64) (bytesOf n v)) () := by
  have hgain (whole : Bool) := gainLine_inL1 (by decide) whole h
  obtain ⟨hreg, hacc, hnc, -, hp, -⟩ := h
  have hne : (bytesOf n v).isEmpty = false := by
    rw [← Bool.not_eq_true, List.isEmpty_iff_length_eq_zero, length_bytesOf]
    omega
  have hbytes : storeScalar t u a n v = storeLines t u (storeParts a (bytesOf n v)) := by
    simp [storeScalar, hreg, storeBytes, hne, hacc]
  rw [hbytes, storeParts_inside (by simpa using hn) (by simpa using hin)]
  simp only [storeLines, gainLines, hgain, if_true, UStep.andThen, List.foldl_cons, List.foldl_nil, putLine_useLine hnc hp]

/-- An atomic inside such a line answers the old value and stores the result (R243, R315). -/
theorem atomicAt_inL1 (o : AtomOp) (h : inL1 t u a o.size .atomic c) :
    atomicAt t u a o = (storedL1 t u (a / 64) c (a % 64) (bytesOf o.size (atomResult o (numAt c.data (a % 64) o.size))),
      numAt c.data (a % 64) o.size, 0) := by
  have hgain := gainLine_inL1 (by decide) false h
  obtain ⟨-, -, hnc, -, hp, -⟩ := h
  have hc : cacheLine (useLine t u (a / 64) c) u (a / 64) = some { c with used := t.mzn.tick } := by simp [useLine]
  have hput := putLine_useLine (u := u) hnc hp (a % 64) (bytesOf o.size (atomResult o (numAt c.data (a % 64) o.size)))
  rw [length_bytesOf] at hput
  simp [atomicAt, hnc, hgain, hc, hput]

end

/-! ### The instruction at a program counter (R297, R299) -/

section
variable {s t : State} {u w : Nat} {op : UOp} {body : State → Nat → Nat → URes}

/-- An instruction that completes goes on with the next. -/
theorem isaRow_next {r : State} (h : atInsn s u op t w) (hb : body t (usher s u).pc.toNat w = .next r (nextPc (usher s u).pc.toNat w)) :
    isaRow u op s body = advanced s r u w := by
  obtain ⟨hp, hst, hf, ho⟩ := h
  simp [isaRow, hp, mayRun, hst, hf, ho, waitOver, hb, advanced, retired]

/-- An instruction that faults raises its fault. -/
theorem isaRow_fault {r : State} {f : UFault} (h : atInsn s u op t w) (hb : body t (usher s u).pc.toNat w = .fault r f) :
    isaRow u op s body = raiseFault r u f none := by
  obtain ⟨hp, hst, hf, ho⟩ := h
  simp [isaRow, hp, mayRun, hst, hf, ho, waitOver, hb]

/-- The first of an instruction's checks that fails is its fault. -/
theorem guardU_fault (s : State) {f : UFault} {l : List (Bool × UFault)} (k : URes) (h : firstFault l = some f) : guardU s l k = .fault s f := by
  simp [guardU, h]

/-- Checks that do not fail let an instruction go on. -/
theorem guardU_passes (s : State) {l : List (Bool × UFault)} (k : URes) (h : firstFault l = none) : guardU s l k = k := by
  simp [guardU, h]

end

/-- The sizes of scalar accesses (R302). -/
theorem szBytes_cases (sz : Nat) : szBytes sz = 1 ∨ szBytes sz = 2 ∨ szBytes sz = 4 ∨ szBytes sz = 8 := by
  have h : sz % 4 < 4 := Nat.mod_lt _ (by decide)
  unfold szBytes
  interval_cases sz % 4 <;> simp

section
variable {s t r : State} {u w : Nat}

/-- A load that is aligned and meets no fault (R302). -/
theorem exec_ld {v : Nat} (h : atInsn s u .ld t w) (hsz : bits w 17 3 < 7) (ha : scalarAddr t u w % szBytes (bits w 17 3) = 0)
    (hl : loadScalar t u (scalarAddr t u w) (szBytes (bits w 17 3)) = .ok r v) :
    exec (.ld u) s = .next (advanced s (putS r u (fD w) (loadValue (bits w 17 3) v)) u w) := by
  refine congrArg Host.Outcome.next (isaRow_next h ?_)
  simp only [encoding, hl, UStep.bind]
  rw [guardU_passes _ _ (by simp [firstFault, Nat.ne_of_lt hsz]), guardU_passes _ _ (by simp [firstFault, ha])]

/-- A load that is misaligned. -/
theorem exec_ld_misaligned (h : atInsn s u .ld t w) (hsz : bits w 17 3 < 7) (ha : scalarAddr t u w % szBytes (bits w 17 3) ≠ 0) :
    exec (.ld u) s = .next (raiseFault t u ⟨3, 0x0104, some (scalarAddr t u w)⟩ none) := by
  refine congrArg Host.Outcome.next (isaRow_fault h ?_)
  simp only [encoding]
  rw [guardU_passes _ _ (by simp [firstFault, Nat.ne_of_lt hsz]), guardU_fault _ _ (by simp [firstFault, ha]; rfl)]
  rfl

/-- A store that is aligned and meets no fault. -/
theorem exec_st (h : atInsn s u .st t w) (hsz : bits w 17 3 < 4) (ha : scalarAddr t u w % szBytes (bits w 17 3) = 0)
    (hl : storeScalar t u (scalarAddr t u w) (szBytes (bits w 17 3)) (getS t u (fD w) % 2 ^ (8 * szBytes (bits w 17 3))) = .ok r ()) :
    exec (.st u) s = .next (advanced s r u w) := by
  refine congrArg Host.Outcome.next (isaRow_next h ?_)
  simp only [encoding, hl, UStep.bind]
  rw [guardU_passes _ _ (by simp [firstFault, Nat.not_le.mpr hsz]), guardU_passes _ _ (by simp [firstFault, ha])]

/-- A burst whose lines may be written and are gained (R310). -/
theorem exec_vst (h : atInsn s u .vst t w) (ha : vmAddr t u w % 64 = 0)
    (hacc : ∀ p ∈ burstParts (vmAddr t u w) (vtBytes (fVT w)) (guardBits (getP t u (fPG w)) (vtBytes (fVT w)) (vtLanes (fVT w))) (getV t u (fD w)),
      accessFault t u (p.1 * 64) 64 .store = none)
    (hl : storeLines t u (burstParts (vmAddr t u w) (vtBytes (fVT w)) (guardBits (getP t u (fPG w)) (vtBytes (fVT w)) (vtLanes (fVT w)))
      (getV t u (fD w))) = .ok r ()) : exec (.vst u) s = .next (advanced s r u w) := by
  refine congrArg Host.Outcome.next (isaRow_next h ?_)
  simp only [List.findSome?_eq_none_iff.2 hacc, hl, UStep.bind]
  rw [guardU_passes _ _ (by simp [firstFault, ha])]

/-- The operation that an ATOM names (R315). -/
def atomOf (t : State) (u w : Nat) : AtomOp := ⟨bits w 25 4, if bit w 29 then 8 else 4, getS t u (fB w), getS t u (fD w)⟩

/-- What an ATOM writes back of the old value. -/
def atomAnswer (n old : Nat) : Nat := if n = 4 then ofSigned 64 (toSigned 32 old) else old

/-- An ATOM that is aligned, orders nothing and meets no fault. -/
theorem exec_atom {old : Nat} (h : atInsn s u .atom t w) (hop : bits w 25 4 < 10) (hpg : fPG w = 0) (hord : bit w 31 = false)
    (ha : getS t u (fA w) % (atomOf t u w).size = 0) (hacc : accessFault t u (getS t u (fA w)) (atomOf t u w).size .atomic = none)
    (hat : atomicAt t u (getS t u (fA w)) (atomOf t u w) = (r, old, 0)) :
    exec (.atom u) s = .next (advanced s (putS r u (fD w) (atomAnswer (atomOf t u w).size old)) u w) := by
  refine congrArg Host.Outcome.next (isaRow_next h ?_)
  unfold atomOf at hat hacc ha
  simp only [encoding, hord, hacc, Bool.false_eq_true, if_false, hat]
  rw [guardU_passes _ _ (by simp [firstFault, Nat.not_le.mpr hop, hpg]), guardU_passes _ _ (by simpa [firstFault] using ha)]
  rfl

end

end Sys2Proof.Machine

/-! ### What serving a line leaves of the Ushers

A request of a line moves messages, lines, hall memory, host memory, ports and counters, never the context of an Usher's program. -/

namespace Sys2Proof.Machine

open Sys2Proof.Safety

section
variable (s : State)

/-! ### Halls -/

@[simp] theorem modColl_ushers (c : Nat) (g : Coll → Coll) : (modColl s c g).ushers = s.ushers := by rw [modColl_frame]
@[simp] theorem hallPut_ushers (h o : Nat) (bs : List Byte) : (hallPut s h o bs).ushers = s.ushers := rfl
@[simp] theorem clearBad_ushers (h : Nat) (y : LineAt) : (clearBad s h y).ushers = s.ushers := by rw [clearBad_frame]
@[simp] theorem hallLinePut_ushers (l : Nat) (d : List Byte) : (hallLinePut s l d).ushers = s.ushers := clearBad_ushers ..

@[simp] theorem hallEvent_ushers (h m pc pin : Nat) : (hallEvent s h m pc pin).ushers = s.ushers := by
  rw [hallEvent, porterEvt]
  split <;> exact setSticky_ushers ..

@[simp] theorem logUe_ushers (h : Nat) (y : LineAt) (src : Nat) : (logUe s h y src).ushers = s.ushers := by
  simp only [logUe, porterEvt]
  repeat' split
  all_goals simp

@[simp] theorem enterBad_ushers (h : Nat) (y : LineAt) (src : Nat) : (enterBad s h y src).ushers = s.ushers := by
  simp only [enterBad]
  repeat' split
  all_goals simp

@[simp] theorem corruptLine_ushers (h : Nat) (y : LineAt) : (corruptLine s h y).ushers = s.ushers := by
  simp only [corruptLine]
  repeat' split
  all_goals simp

@[simp] theorem countCorrected_ushers (h : Nat) (y : LineAt) (pins : List Nat) : (countCorrected s h y pins).ushers = s.ushers := by
  simp only [countCorrected]
  repeat' split
  all_goals simp

@[simp] theorem readLine_ushers (h : Nat) (y : LineAt) (src : Nat) (e : LineErr) : (readLine s h y src e).1.ushers = s.ushers := by
  simp only [readLine]
  repeat' split
  all_goals simp

/-! ### The array and the memory copy -/

variable (a l k n : Nat) (f : LineRec → LineRec) (c : Option CLine) (w : Option WbLine) (x : Option ArrLine) (m : Msg) (wing : Option Nat)
  (d : List Byte) (q : HomeReq) (src : Nat)

@[simp] theorem modRec_ushers : (modRec s l f).ushers = s.ushers := rfl
@[simp] theorem setCache_ushers : (setCache s a l c).ushers = s.ushers := rfl
@[simp] theorem setWb_ushers : (setWb s a l w).ushers = s.ushers := rfl
@[simp] theorem setArray_ushers : (setArray s l x).ushers = s.ushers := rfl
@[simp] theorem sendMzn_ushers : (sendMzn s m).ushers = s.ushers := rfl
@[simp] theorem tickMzn_ushers : (tickMzn s).ushers = s.ushers := rfl
@[simp] theorem freeLine_ushers : (freeLine s l).ushers = s.ushers := rfl
@[simp] theorem granted_ushers : (granted s l).ushers = s.ushers := rfl
@[simp] theorem mznEvent_ushers : (mznEvent s l n).ushers = s.ushers := setSticky_ushers ..

@[simp] theorem writeBack_ushers (y : ArrLine) : (writeBack s l y).ushers = s.ushers := by
  unfold writeBack
  split <;> simp

/-- A line that is placed in the array may drive another out. -/
theorem placeLine_ushers {t : State} {dirty : Bool} (h : placeLine s wing l d dirty = some t) : t.ushers = s.ushers := by
  simp only [placeLine] at h
  repeat' split at h
  all_goals cases h <;> simp

/-- Whether it is placed or not. -/
theorem getD_placeLine_ushers (dirty : Bool) : ((placeLine s wing l d dirty).getD s).ushers = s.ushers := by
  cases h : placeLine s wing l d dirty with
  | none => rfl
  | some t => exact placeLine_ushers s l wing d h

@[simp] theorem writeMem_ushers : (writeMem s wing l d).1.ushers = s.ushers := by
  simp only [writeMem]
  split
  · split <;> simp
  · split
    · simp
    · split
      · exact (placeLine_ushers _ _ _ _ ‹_›).trans (clearBad_ushers ..)
      · split <;> simp

@[simp] theorem poisonMem_ushers : (poisonMem s wing l d).ushers = s.ushers := by
  simp only [poisonMem]
  repeat' split
  all_goals simp

@[simp] theorem readHallLine_ushers : (readHallLine s q src).1.ushers = s.ushers := by
  simp only [readHallLine]
  repeat' split
  case _ => rfl
  case _ => simp
  case _ => exact (getD_placeLine_ushers ..).trans (readLine_ushers ..)

@[simp] theorem readMem_ushers : (readMem s q src).1.ushers = s.ushers := by
  simp only [readMem]
  repeat' split
  all_goals simp

/-! ### Homes and holders -/

@[simp] theorem startReq_ushers : (startReq s q).ushers = s.ushers := by
  obtain ⟨rg, h⟩ := startReq_eq s q
  rw [h]

@[simp] theorem txnData_ushers (t : Txn) : (txnData s t src).1.ushers = s.ushers := by
  unfold txnData
  split <;> simp

@[simp] theorem completeTxn_ushers (t : Txn) : (completeTxn s l t).ushers = s.ushers := by
  simp only [completeTxn]
  repeat' split
  all_goals simp

@[simp] theorem pumpLine_ushers : (pumpLine s l n).ushers = s.ushers := by fun_induction pumpLine s l n <;> simp [*]

@[simp] theorem pump_ushers : (pump s l).ushers = s.ushers := pumpLine_ushers ..

@[simp] theorem arriveReq_ushers : (arriveReq s q).ushers = s.ushers := by
  unfold arriveReq
  repeat' split
  all_goals simp

@[simp] theorem answerSnoop_ushers (y : SnpKind) (bad : Bool) : (answerSnoop s a l y bad).ushers = s.ushers := by
  simp only [answerSnoop]
  repeat' split
  all_goals simp

@[simp] theorem takeSnoop_ushers (o : Option (List Byte)) (dirty poison : Bool) : (takeSnoop s a l o dirty poison).ushers = s.ushers := by
  simp only [takeSnoop]
  repeat' split
  all_goals simp

@[simp] theorem evictLine_ushers : (evictLine s a l).ushers = s.ushers := by
  simp only [evictLine]
  repeat' split
  all_goals simp

@[simp] theorem installLine_ushers (st : LineSt) (poison : Bool) : (installLine s a l st d poison).ushers = s.ushers := by
  unfold installLine
  split <;> simp

@[simp] theorem takeAck_ushers : (takeAck s a l).ushers = s.ushers := by
  unfold takeAck
  repeat' split
  all_goals simp

@[simp] theorem peerDone_ushers (tag st : Nat) : (peerDone s k tag d st).ushers = s.ushers := by
  unfold peerDone
  split
  · rfl
  · dsimp only
    split <;> simp [setCredit, queueTx]

/-! ### The write-combining buffer -/

@[simp] theorem writerDone_ushers (st : Nat) (y : Writer) : (writerDone s l st y).ushers = s.ushers := by
  unfold writerDone
  repeat' split
  all_goals simp

@[simp] theorem closeEntry_ushers : (closeEntry s k l).ushers = s.ushers := by
  unfold closeEntry
  split <;> simp

theorem wcbTake_ushers {t : State} {y : Writer} (h : wcbTake s l n d y = some t) : t.ushers = s.ushers := by
  simp only [wcbTake] at h
  repeat' split at h
  all_goals cases h <;> simp

@[simp] theorem admitWaiters_ushers : (admitWaiters s k).ushers = s.ushers := by
  refine (foldl_keeps State.ushers _ (fun t y => ?_) _ _).trans (modCtl_ushers ..)
  cases h : wcbTake t y.line y.mask y.data y.writer with
  | none => simp
  | some v => exact wcbTake_ushers _ _ _ _ h

@[simp] theorem bufferDone_ushers (st : Nat) : (bufferDone s k l st).ushers = s.ushers := by
  unfold bufferDone
  split
  · rfl
  · exact (admitWaiters_ushers ..).trans ((foldl_keeps State.ushers _ (fun t y => writerDone_ushers t l st y) _ _).trans (modCtl_ushers ..))

@[simp] theorem deliverPlain_ushers (y : Asker) (st : Nat) : (deliverPlain s y l d st).ushers = s.ushers := by
  unfold deliverPlain
  split <;> simp

/-! ### The Corridor, until a line is served -/

@[simp] theorem receive_ushers (bad : Bool) : (receive s m bad).ushers = s.ushers := by
  simp only [receive]
  repeat' split
  all_goals simp

@[simp] theorem receiveFirst_ushers (p : Msg → Bool) (bad : Bool) : (receiveFirst s p bad).ushers = s.ushers := by
  unfold receiveFirst
  split <;> simp

@[simp] theorem hostAnswer_ushers (o : Option (List Byte)) : (hostAnswer s l o).ushers = s.ushers := by
  simp only [hostAnswer]
  repeat' split
  all_goals simp

@[simp] theorem runLine_ushers : (runLine s l n).ushers = s.ushers := by fun_induction runLine s l n <;> simp [*]

@[simp] theorem settleLine_ushers : (settleLine s l).ushers = s.ushers := runLine_ushers ..

@[simp] theorem serveLine_ushers : (serveLine s q).ushers = s.ushers := by simp [serveLine]

@[simp] theorem readNc_ushers : (readNc s wing l).1.ushers = s.ushers := serveLine_ushers ..

/-! ### An Usher's load (R290) -/

@[simp] theorem drainLine_ushers : (drainLine s a l).ushers = s.ushers := by
  unfold drainLine
  split <;> simp [closeUsherLine]

@[simp] theorem loadLine_ushers : (loadLine s a l).1.ushers = s.ushers := by
  simp only [loadLine]
  repeat' split
  all_goals simp [useLine, usherReq]

end

/-- A load of lines leaves the Ushers as they were. -/
theorem ushers_of_loadLines {u a : Nat} {ls : List Nat} {s r : State} {acc b : List Byte} (h : loadLines u a s ls acc = .ok r b) :
    r.ushers = s.ushers := by
  induction ls generalizing s acc with
  | nil =>
    cases h
    rfl
  | cons l ls ih =>
    simp only [loadLines] at h
    split at h
    · exact (ih h).trans (loadLine_ushers ..)
    · cases h

/-- A load leaves the Ushers as they were. -/
theorem ushers_of_loadBytes {s r : State} {u a n : Nat} {b : List Byte} (h : loadBytes s u a n = .ok r b) : r.ushers = s.ushers := by
  unfold loadBytes at h
  split at h
  · cases h
  · cases hl : loadLines u a s (linesOf a n) [] with
    | fault t f =>
      rw [hl] at h
      cases h
    | ok t d =>
      rw [hl] at h
      cases h
      exact ushers_of_loadLines hl

/-! ### An Usher's fetch (R290, R296) -/

theorem usher_modUsher (s : State) (u : Nat) (f : Usher → Usher) : usher (modUsher s u f) u = f (usher s u) := tget_tset_same ..

theorem usher_congr {s t : State} (h : t.ushers = s.ushers) (u : Nat) : usher t u = usher s u := by rw [usher, h, usher]

/-- A fetch fills the instruction cache, and leaves the state of the program. -/
theorem st_fetchLine (s : State) (u l : Nat) : (usher (fetchLine s u l).1 u).st = (usher s u).st := by
  unfold fetchLine
  split
  · rfl
  · dsimp only
    split
    · rw [usher_modUsher, usher_congr (readNc_ushers ..)]
    · rw [usher_congr (readNc_ushers ..)]

theorem st_of_fetchWord {s t : State} {u a w : Nat} (h : fetchWord s u a = .ok t w) : (usher t u).st = (usher s u).st := by
  unfold fetchWord at h
  split at h
  · cases h
  · dsimp only at h
    split at h
    · cases h
      exact st_fetchLine ..
    · cases h

/-- The fetch of an instruction leaves the state of the program. -/
theorem st_of_fetchInsn {s t : State} {u a w : Nat} (h : fetchInsn s u a = .ok t w) : (usher t u).st = (usher s u).st := by
  unfold fetchInsn at h
  cases h1 : fetchWord s u a with
  | fault t1 f =>
    rw [h1] at h
    cases h
  | ok t1 w1 =>
    rw [h1, UStep.andThen] at h
    refine Eq.trans ?_ (st_of_fetchWord h1)
    split at h
    · cases h
      rfl
    · cases h2 : fetchWord t1 u (wrap64 (a + 4)) with
      | fault t2 f =>
        rw [h2] at h
        cases h
      | ok t2 w2 =>
        rw [h2] at h
        cases h
        exact st_of_fetchWord h2

end Sys2Proof.Machine

/-! ### Vector lanes and guards (R285, R305, R310) -/

namespace Sys2Proof.Machine

open Sys2Proof.Safety

/-- The number whose bits are the truth values of a test below `n`. -/
def maskOf (f : Nat → Bool) (n : Nat) : Nat := (List.range n).foldl (fun m i => if f i then m + 2 ^ i else m) 0

theorem maskOf_succ (f : Nat → Bool) (n : Nat) : maskOf f (n + 1) = if f n then maskOf f n + 2 ^ n else maskOf f n := by
  simp only [maskOf, List.range_succ, List.foldl_append, List.foldl_cons, List.foldl_nil]

theorem maskOf_lt (f : Nat → Bool) (n : Nat) : maskOf f n < 2 ^ n := by
  induction n with
  | zero => simp [maskOf]
  | succ n ih =>
    rw [maskOf_succ]
    split <;> omega

/-- Its bits are those truth values. -/
theorem testBit_maskOf (f : Nat → Bool) (n i : Nat) : (maskOf f n).testBit i = (decide (i < n) && f i) := by
  induction n with
  | zero => simp [maskOf]
  | succ n ih =>
    have hadd : (maskOf f n + 2 ^ n).testBit i = ((maskOf f n).testBit i || decide (n = i)) := by
      have hor := Nat.two_pow_add_eq_or_of_lt (maskOf_lt f n) 1
      rw [Nat.mul_one] at hor
      rw [Nat.add_comm, hor, Nat.testBit_or, Nat.testBit_two_pow, Bool.or_comm]
    rw [maskOf_succ]
    split
    · rw [hadd, ih]
      grind
    · rw [ih]
      grind

theorem bit_maskOf (f : Nat → Bool) {n i : Nat} (h : i < n) : bit (maskOf f n) i = f i := by
  have := testBit_maskOf f n i
  rwa [Nat.testBit_eq_decide_div_mod_eq, decide_eq_true h, Bool.true_and] at this

/-- The sizes of vector elements (R285). -/
theorem vtBytes_cases (vt : Nat) : vtBytes vt = 1 ∨ vtBytes vt = 2 ∨ vtBytes vt = 4 ∨ vtBytes vt = 8 := by
  unfold vtBytes
  rcases vt with _ | _ | _ | _ | _ | _ | _ | _ | n <;> simp

/-- The lanes of a register fill it. -/
theorem vtBytes_mul_vtLanes (vt : Nat) : vtBytes vt * vtLanes vt = 256 := by
  rcases vtBytes_cases vt with h | h | h | h <;> simp [vtLanes, h]

/-- A byte of a register lies in one of its lanes. -/
theorem div_vtBytes_lt {vt j : Nat} (h : j < 256) : j / vtBytes vt < vtLanes vt :=
  Nat.div_lt_of_lt_mul (by rwa [vtBytes_mul_vtLanes])

/-- The guard bit of a lane. -/
theorem getD_guardBits (p e : Nat) {n i : Nat} (h : i < n) : (guardBits p e n).getD i false = bit p (e * i) := by simp [guardBits, h]

/-- A part of a guarded burst is one of its four lines, with the mask of its guarded bytes. -/
theorem mem_burstParts {a e : Nat} {g : List Bool} {v : List Byte} {p : Nat × Nat × List Byte} (hp : p ∈ burstParts a e g v) :
    ∃ k, k < 4 ∧ p.1 = a / 64 + k ∧ p.2.1 = maskOf (fun i => g.getD ((64 * k + i) / e) false) 64 := by
  obtain ⟨k, hk, hp⟩ := List.mem_filterMap.1 hp
  refine ⟨k, List.mem_range.1 hk, ?_⟩
  rw [maskOf]
  generalize (List.range 64).foldl (fun m i => if g.getD ((64 * k + i) / e) false then m + 2 ^ i else m) 0 = mask at hp ⊢
  dsimp only at hp
  split at hp <;> cases hp
  exact ⟨rfl, rfl⟩

/-- A part of a guarded burst stores the bytes of the lanes that the guard takes. -/
theorem bit_burstParts {a vt P : Nat} {v : List Byte} {p : Nat × Nat × List Byte}
    (hp : p ∈ burstParts a (vtBytes vt) (guardBits P (vtBytes vt) (vtLanes vt)) v) {i : Nat} (hi : i < 64) :
    bit p.2.1 i = bit P (vtBytes vt * ((64 * (p.1 - a / 64) + i) / vtBytes vt)) := by
  obtain ⟨k, hk, h1, hmask⟩ := mem_burstParts hp
  rw [hmask, bit_maskOf _ hi, h1, Nat.add_sub_cancel_left, getD_guardBits P _ (div_vtBytes_lt (by omega))]

section
variable (e n : Nat) (b : List Byte) (l : List Nat)

theorem length_lanesOf : (lanesOf e n b).length = n := by
  induction n generalizing b with
  | zero => rfl
  | succ n ih => simp [lanesOf, ih]

/-- A lane is below its width. -/
theorem lt_of_mem_lanesOf {x : Nat} (h : x ∈ lanesOf e n b) : x < 2 ^ (8 * e) := by
  induction n generalizing b with
  | zero => cases h
  | succ n ih =>
    rcases List.mem_cons.1 h with rfl | h
    · exact Nat.lt_of_lt_of_le (ofLe_lt _) (Nat.pow_le_pow_right (by decide) (by simp))
    · exact ih _ h

theorem length_laneBytes : (laneBytes e l).length = e * l.length := by
  induction l with
  | nil => rfl
  | cons x l ih => simp_all [laneBytes, Nat.mul_add, Nat.add_comm]

/-- The lanes of the bytes of lanes. -/
theorem lanesOf_laneBytes (h : ∀ x ∈ l, x < 2 ^ (8 * e)) : lanesOf e l.length (laneBytes e l) = l := by
  induction l with
  | nil => rfl
  | cons x l ih =>
    have hx := Nat.mod_eq_of_lt (h x (by simp))
    have hcons : laneBytes e (x :: l) = bytesOf e x ++ laneBytes e l := by simp [laneBytes, hx]
    rw [hcons, List.length_cons, lanesOf, List.take_left' (length_bytesOf e x), List.drop_left' (length_bytesOf e x), ofLe_bytesOf, hx,
      ih fun y hy => h y (by simp [hy])]

variable (g : List Bool) (new old : List Nat)

theorem length_mergeLanes : (mergeLanes g new old).length = old.length := by simp [mergeLanes]

/-- A lane is the new one where the guard takes it. -/
theorem getD_mergeLanes {i : Nat} (h : i < old.length) :
    (mergeLanes g new old).getD i 0 = if g.getD i false then new.getD i 0 else old.getD i 0 := by
  simp [mergeLanes, h]

/-- An element or 0. -/
theorem getD_lt {m i : Nat} (hm : 0 < m) (h : ∀ x ∈ l, x < m) : l.getD i 0 < m := by
  rw [List.getD_eq_getElem?_getD]
  cases hi : l[i]? with
  | none => exact hm
  | some x => exact h x (List.mem_of_getElem? hi)

theorem lt_of_mem_mergeLanes {m x : Nat} (hm : 0 < m) (hn : ∀ x ∈ new, x < m) (ho : ∀ x ∈ old, x < m) (h : x ∈ mergeLanes g new old) : x < m := by
  obtain ⟨i, -, rfl⟩ := List.mem_map.1 h
  split
  · exact getD_lt new hm hn
  · exact getD_lt old hm ho

end

/-- Lanes without flags set none. -/
theorem laneFlags_eq_zero (g : List Bool) (l : List Nat) : laneFlags g (l.map fun x => (x, 0, 0)) = (0, 0) := by
  unfold laneFlags
  induction g generalizing l with
  | nil => rfl
  | cons b g ih =>
    cases l with
    | nil => rfl
    | cons x l => simpa using ih l

/-! ### Writing a vector register -/

/-- Of two writes of a key the second stays. -/
theorem tput_tput {α : Type} (t : Tbl α) (k : Nat) (v w : α) : tput (tput t k v) k w = tput t k w := by
  induction t with
  | nil => simp [tput]
  | cons e t ih =>
    obtain ⟨j, x⟩ := e
    simp only [tput]
    split
    · simp [tput]
    · split
      · simp [tput]
      · simp [tput, *]

/-- A change of a running program that changes nothing goes before another without a trace. -/
theorem modUsher_id_modUsher {s : State} {u : Nat} (f : Usher → Usher) (h : (usher s u).st = .running) (hf : (f (usher s u)).st = .running) :
    modUsher (modUsher s u id) u f = modUsher s u f := by
  have hne {x : Usher} (hx : x.st = .running) : x ≠ resetUsher := by
    rintro rfl
    cases hx
  have hone : usher (modUsher s u id) u = usher s u := usher_modUsher s u id
  have hset (v : State) (x : Usher) (hx : x.st = .running) : tset (fun _ => resetUsher) v.ushers u x = tput v.ushers u x := if_neg (hne hx)
  have h1 : (modUsher s u id).ushers = tput s.ushers u (usher s u) := hset s _ h
  have h2 : (modUsher (modUsher s u id) u f).ushers = tput s.ushers u (f (usher s u)) := by
    calc (modUsher (modUsher s u id) u f).ushers
      _ = tset (fun _ => resetUsher) (modUsher s u id).ushers u (f (usher (modUsher s u id) u)) := rfl
      _ = tput (modUsher s u id).ushers u (f (usher s u)) := by rw [hone, hset _ _ hf]
      _ = _ := by rw [h1, tput_tput]
  have h3 : (modUsher s u f).ushers = tput s.ushers u (f (usher s u)) := hset s _ hf
  calc modUsher (modUsher s u id) u f
    _ = { s with ushers := (modUsher (modUsher s u id) u f).ushers } := rfl
    _ = modUsher s u f := by rw [h2, ← h3]; rfl

/-- Lanes without flags are written to their register alone. -/
theorem putLanes_noFlags {s : State} {u : Nat} (d e : Nat) (g : List Bool) (l : List Nat) (h : (usher s u).st = .running) :
    putLanes s u d e g (l.map fun x => (x, 0, 0)) = putV s u d (laneBytes e (mergeLanes g l (lanesOf e (256 / e) (getV s u d)))) := by
  have hflags : putFlags s u (0, 0) = modUsher s u id := by
    simp [putFlags]
    rfl
  rw [putLanes, laneFlags_eq_zero, hflags, List.map_map, putV, modUsher_id_modUsher _ h h]
  simp [putV, Function.comp_def]

/-- The bytes that VLD writes to its register. -/
def vldBytes (r : State) (u w : Nat) (b : List Byte) : List Byte :=
  laneBytes (vtBytes (fVT w)) (mergeLanes (guardBits (getP r u (fPG w)) (vtBytes (fVT w)) (vtLanes (fVT w)))
    (lanesOf (vtBytes (fVT w)) (vtLanes (fVT w)) b) (lanesOf (vtBytes (fVT w)) (vtLanes (fVT w)) (getV r u (fD w))))

/-! ### Stores into the L1 -/

section
variable (s t : State) (u w l : Nat) (c : CLine) (lo : Nat) (bs : List Byte)

/-- A store into the L1 changes the caches and their order of use alone. -/
theorem storedL1_frame :
    storedL1 t u l c lo bs =
      { t with mzn := { t.mzn with caches := (storedL1 t u l c lo bs).mzn.caches, tick := (storedL1 t u l c lo bs).mzn.tick } } := by
  unfold storedL1 useLine setCache tickMzn modMzn
  rfl

theorem advanced_mzn (m : Mezz) : advanced s { t with mzn := m } u w = { advanced s t u w with mzn := m } := by
  unfold advanced retired addR setR modUsher
  rfl

/-- So does an instruction that stores there, but for the program that goes on. -/
theorem advanced_storedL1 :
    advanced s (storedL1 t u l c lo bs) u w =
      { advanced s t u w with
        mzn := { t.mzn with caches := (storedL1 t u l c lo bs).mzn.caches, tick := (storedL1 t u l c lo bs).mzn.tick } } := by
  conv_lhs => rw [storedL1_frame, advanced_mzn]

theorem cacheLine_advanced (b k : Nat) : cacheLine (advanced s t u w) b k = cacheLine t b k := rfl

end

section
variable {s t r : State} {u w : Nat} {b : List Byte}

/-- A vector load that is aligned and meets no fault (R310). -/
theorem exec_vld (h : atInsn s u .vld t w) (ha : vmAddr t u w % 64 = 0) (hl : loadBytes t u (vmAddr t u w) 256 = .ok r b) :
    exec (.vld u) s = .next (advanced s (putV r u (fD w) (vldBytes r u w b)) u w) := by
  have hst : (usher r u).st = .running := by
    obtain ⟨-, hrun, hf, -⟩ := h
    rw [usher_congr (ushers_of_loadBytes hl), st_of_fetchInsn hf, hrun]
  refine congrArg Host.Outcome.next (isaRow_next h ?_)
  simp only [hl, UStep.bind, putLanes_noFlags _ _ _ _ hst]
  rw [guardU_passes _ _ (by simp [firstFault, ha])]
  rfl

variable (r u w b)

theorem length_vldBytes : (vldBytes r u w b).length = 256 := by
  rw [vldBytes, length_laneBytes, length_mergeLanes, length_lanesOf, vtBytes_mul_vtLanes]

/-- The lanes that VLD leaves: the loaded ones where the guard takes them. -/
theorem getD_lanesOf_vldBytes {i : Nat} (hi : i < vtLanes (fVT w)) :
    (lanesOf (vtBytes (fVT w)) (vtLanes (fVT w)) (vldBytes r u w b)).getD i 0 =
      if guarded r u (fVT w) (fPG w) i then (lanesOf (vtBytes (fVT w)) (vtLanes (fVT w)) b).getD i 0 else lane r u (fVT w) (fD w) i := by
  have hlanes := lanesOf_laneBytes (vtBytes (fVT w)) (mergeLanes (guardBits (getP r u (fPG w)) (vtBytes (fVT w)) (vtLanes (fVT w)))
    (lanesOf (vtBytes (fVT w)) (vtLanes (fVT w)) b) (lanesOf (vtBytes (fVT w)) (vtLanes (fVT w)) (getV r u (fD w))))
    fun x => lt_of_mem_mergeLanes _ _ _ (Nat.two_pow_pos _) (fun y => lt_of_mem_lanesOf _ _ _) (fun y => lt_of_mem_lanesOf _ _ _)
  rw [length_mergeLanes, length_lanesOf] at hlanes
  rw [vldBytes, hlanes, getD_mergeLanes _ _ _ (by rwa [length_lanesOf]), getD_guardBits _ _ hi]
  rfl

end

/-! ### The result of an atomic (R243, R315) -/

section
variable {o : AtomOp} {old : Nat}

/-- The result of an atomic is as wide as its operands. -/
theorem atomResult_lt (h : old < 2 ^ (8 * o.size)) : atomResult o old < 2 ^ (8 * o.size) := by
  have ha : o.arg % 2 ^ (8 * o.size) < 2 ^ (8 * o.size) := Nat.mod_lt _ (Nat.two_pow_pos _)
  unfold atomResult
  dsimp only
  split
  case h_1 => exact Nat.mod_lt _ (Nat.two_pow_pos _)
  case h_2 => exact Nat.and_lt_two_pow _ ha
  case h_3 => exact Nat.or_lt_two_pow h ha
  case h_4 => exact Nat.xor_lt_two_pow h ha
  case h_5 => split <;> assumption
  case h_6 => split <;> assumption
  case h_7 => exact Nat.lt_of_le_of_lt (Nat.min_le_left ..) h
  case h_8 => exact max_lt h ha
  case h_9 => exact ha
  case h_10 => split <;> assumption
  case h_11 => exact h

theorem atomResult_add (h : o.op = 0) : atomResult o old = (old + o.arg % 2 ^ (8 * o.size)) % 2 ^ (8 * o.size) := by simp only [atomResult, h]
theorem atomResult_and (h : o.op = 1) : atomResult o old = old &&& o.arg % 2 ^ (8 * o.size) := by simp only [atomResult, h]
theorem atomResult_or (h : o.op = 2) : atomResult o old = old ||| o.arg % 2 ^ (8 * o.size) := by simp only [atomResult, h]
theorem atomResult_xor (h : o.op = 3) : atomResult o old = old ^^^ o.arg % 2 ^ (8 * o.size) := by simp only [atomResult, h]
theorem atomResult_min (h : o.op = 6) : atomResult o old = min old (o.arg % 2 ^ (8 * o.size)) := by simp only [atomResult, h]
theorem atomResult_max (h : o.op = 7) : atomResult o old = max old (o.arg % 2 ^ (8 * o.size)) := by simp only [atomResult, h]
theorem atomResult_swap (h : o.op = 8) : atomResult o old = o.arg % 2 ^ (8 * o.size) := by simp only [atomResult, h]

/-- A compare and swap stores the argument where the old value is the one compared with. -/
theorem atomResult_cas (h : o.op = 9) :
    atomResult o old = if old = o.cmp % 2 ^ (8 * o.size) then o.arg % 2 ^ (8 * o.size) else old := by simp only [atomResult, h]

/-- The signed minimum is one of the two (R315). -/
theorem toSigned_atomResult_min (h : o.op = 4) :
    toSigned (8 * o.size) (atomResult o old) = min (toSigned (8 * o.size) old) (toSigned (8 * o.size) (o.arg % 2 ^ (8 * o.size))) := by
  simp only [atomResult, h]
  split
  · rw [min_eq_right (by omega)]
  · rw [min_eq_left (by omega)]

/-- So is the signed maximum. -/
theorem toSigned_atomResult_max (h : o.op = 5) :
    toSigned (8 * o.size) (atomResult o old) = max (toSigned (8 * o.size) old) (toSigned (8 * o.size) (o.arg % 2 ^ (8 * o.size))) := by
  simp only [atomResult, h]
  split
  · rw [max_eq_right (by omega)]
  · rw [max_eq_left (by omega)]

/-- What an atomic stores is its result. -/
theorem numAt_storedAt_atomResult (d : List Byte) (lo : Nat) (hlo : lo + o.size ≤ 64) (h : old < 2 ^ (8 * o.size)) :
    numAt (storedAt d lo (bytesOf o.size (atomResult o old))) lo o.size = atomResult o old := by
  rw [numAt_storedAt d lo _ _ hlo, Nat.mod_eq_of_lt (atomResult_lt h)]

end

end Sys2Proof.Machine

section
open Sys2Proof Sys2Proof.Machine Sys2Proof.Safety

/-- Settles O16: each instruction by the rule of its row; what it stores is a run of bytes of one line of the L1, and what it loads a run of bytes
or the lanes of 256. -/
theorem ushersReachMemory : Obligations.UshersReachMemory := by
  refine ⟨?ld, ?ldL1, ?ldAlign, ?st, ?stL1, ?vld, ?vst, ?atom⟩
  case ld =>
    intro s t r u w v h sz a hsz ha hl
    exact exec_ld h hsz ha hl
  case ldL1 =>
    intro s t u w c h sz a hsz ha hc
    exact loadScalar_inL1 (Nat.two_pow_pos _) (inside_of_aligned (szBytes_cases sz) ha) hc
  case ldAlign =>
    intro s t u w h hsz ha
    exact exec_ld_misaligned h hsz ha
  case st =>
    intro s t r u w h n a hsz ha hl
    exact exec_st h hsz ha hl
  case stL1 =>
    intro s t u w c h n a hsz ha hc
    have hin : a % 64 + n ≤ 64 := inside_of_aligned (szBytes_cases _) ha
    have hgo := exec_st h hsz ha (storeScalar_inL1 (Nat.two_pow_pos _) hin _ hc)
    refine ⟨_, _, hgo, (cacheLine_advanced ..).trans (cacheLine_storedL1 ..), rfl, rfl, ?_, fun i hi ho => ?_,
      fun b l hne => (cacheLine_advanced ..).trans (cacheLine_storedL1_other _ _ _ _ _ _ hne), advanced_storedL1 ..⟩
    · exact (numAt_storedAt _ _ _ _ hin).trans (Nat.mod_mod ..)
    · exact getD_storedAt_outside _ _ _ hi (by rwa [length_bytesOf])
  case vld =>
    intro s t r u w b h a vt ha hl
    exact ⟨_, exec_vld h ha hl, length_vldBytes .., fun i hi => getD_lanesOf_vldBytes _ _ _ _ hi⟩
  case vst =>
    intro s t r u w h a ps ha hacc hl
    refine ⟨exec_vst h ha hacc hl, fun p hp i hi => ?_⟩
    rw [bit_burstParts hp hi]
    rfl
  case atom =>
    intro s t u w c h n a old b hop hpg hord ha hc hlen
    have hsize : n = 1 ∨ n = 2 ∨ n = 4 ∨ n = 8 := by
      rcases Bool.eq_false_or_eq_true (bit w 29) with hb | hb <;> simp [n, hb]
    have hin : a % 64 + n ≤ 64 := inside_of_aligned hsize ha
    have hat := atomicAt_inL1 (atomOf t u w) hc
    obtain ⟨-, hacc, -⟩ := hc
    have hgo := exec_atom h hop hpg hord ha hacc hat
    have hres := numAt_storedAt_atomResult (o := atomOf t u w) (old := old) c.data (a % 64) hin (numAt_lt ..)
    refine ⟨_, _, hgo, cacheLine_storedL1 .., rfl, fun i hi ho => ?_, storedL1_frame .., fun h0 => ?_, fun h1 => ?_, fun h2 => ?_, fun h3 => ?_,
      fun h4 => ?_, fun h5 => ?_, fun h6 => ?_, fun h7 => ?_, fun h8 => ?_, fun h9 => ?_⟩
    · exact getD_storedAt_outside _ _ _ hi (by rwa [length_bytesOf])
    · exact hres.trans (atomResult_add h0)
    · exact hres.trans (atomResult_and h1)
    · exact hres.trans (atomResult_or h2)
    · exact hres.trans (atomResult_xor h3)
    · exact (congrArg _ hres).trans (toSigned_atomResult_min h4)
    · exact (congrArg _ hres).trans (toSigned_atomResult_max h5)
    · exact hres.trans (atomResult_min h6)
    · exact hres.trans (atomResult_max h7)
    · exact hres.trans (atomResult_swap h8)
    · exact hres.trans (atomResult_cas h9)

end

/-! ## Fields of registers, and the bits that events set -/

namespace Sys2Proof.Machine

open Sys2Proof.Safety

/-! ### Bits of a number -/

/-- A bit is the test of it. -/
theorem bit_eq_testBit (x n : Nat) : bit x n = x.testBit n := by
  rw [Nat.testBit_eq_decide_div_mod_eq]
  rfl

/-- A bit is a field one bit wide. -/
theorem bit_eq_bits (x n : Nat) : bit x n = (bits x n 1 == 1) := rfl

/-- Bits set in a register of `w` bits show beside those that it held. -/
theorem bit_or_mod (x m n w : Nat) (h : n < w) : bit ((x ||| m) % 2 ^ w) n = (bit x n || bit m n) := by
  simp only [bit_eq_testBit, Nat.testBit_mod_two_pow, h, decide_true, Bool.true_and, Nat.testBit_or]

/-- Clearing the bits of a mask leaves the others. -/
theorem testBit_clearBits (x m n : Nat) : (clearBits x m).testBit n = (x.testBit n && !m.testBit n) := by
  induction n generalizing x m with
  | zero =>
    have hle : x &&& m ≤ x := Nat.and_le_left
    have hm : (x &&& m) % 2 = 1 ↔ x % 2 = 1 ∧ m % 2 = 1 := Nat.and_mod_two_eq_one
    rw [Bool.eq_iff_iff]
    simp only [clearBits, Nat.testBit_zero, Bool.and_eq_true, Bool.not_eq_true', decide_eq_true_eq, decide_eq_false_iff_not]
    generalize x &&& m = y at hle hm ⊢
    omega
  | succ n ih =>
    have hhalf : clearBits x m / 2 = clearBits (x / 2) (m / 2) := by
      have hle : x &&& m ≤ x := Nat.and_le_left
      have hd : (x &&& m) / 2 = x / 2 &&& m / 2 := Nat.and_div_two
      have hm : (x &&& m) % 2 = 1 → x % 2 = 1 := fun h => (Nat.and_mod_two_eq_one.mp h).1
      simp only [clearBits, ← hd]
      generalize x &&& m = y at hle hm ⊢
      omega
    simp only [Nat.testBit_succ, hhalf, ih]

/-! ### Fields that a change of another field leaves -/

/-- A value with a field replaced: what lies below the field, the field, and what lies above. -/
theorem replace_eq (x lo w v : Nat) :
    x - bits x lo w * 2 ^ lo + v % 2 ^ w * 2 ^ lo = x % 2 ^ lo + 2 ^ lo * (v % 2 ^ w + 2 ^ w * (x / 2 ^ lo / 2 ^ w)) := by
  have hx : 2 ^ lo * (x / 2 ^ lo) + x % 2 ^ lo = x := Nat.div_add_mod ..
  have hq : 2 ^ w * (x / 2 ^ lo / 2 ^ w) + bits x lo w = x / 2 ^ lo := Nat.div_add_mod ..
  rw [← hq, Nat.mul_add] at hx
  rw [Nat.mul_add, Nat.mul_comm (bits x lo w), Nat.mul_comm (v % 2 ^ w)]
  omega

/-- A value whose field is replaced keeps every field beside it. -/
theorem bits_replace_other (x lo w v k n : Nat) (h : k + n ≤ lo ∨ lo + w ≤ k) :
    bits (x - bits x lo w * 2 ^ lo + v % 2 ^ w * 2 ^ lo) k n = bits x k n := by
  rw [replace_eq]
  rcases h with h | h
  · rw [← bits_mod_two_pow _ _ _ _ h, Nat.add_mul_mod_self_left, Nat.mod_mod, bits_mod_two_pow _ _ _ _ h]
  · obtain ⟨d, rfl⟩ := Nat.exists_eq_add_of_le h
    simp only [bits, Nat.pow_add, ← Nat.div_div_eq_div_mul]
    rw [Nat.add_mul_div_left _ _ (Nat.two_pow_pos lo), Nat.div_eq_of_lt (Nat.mod_lt x (Nat.two_pow_pos lo)), Nat.zero_add,
      Nat.add_mul_div_left _ _ (Nat.two_pow_pos w), Nat.div_eq_of_lt (Nat.mod_lt v (Nat.two_pow_pos w)), Nat.zero_add]

/-- Setting a field leaves every field beside it. -/
theorem fieldR_setField_other (s : State) (r : Reg) (lo w v i j f k n : Nat) (hb : k + n ≤ 8 * (regSpec r).bytes)
    (h : k + n ≤ lo ∨ lo + w ≤ k) : fieldR (setField s r lo w v i j f) r k n i j f = fieldR s r k n i j f := by
  rw [fieldR, setField, getR_setR_same, bits_mod_two_pow _ _ _ _ hb]
  exact bits_replace_other _ _ _ _ _ _ h

/-- Setting a field leaves every bit beside it. -/
theorem bit_setField_other (s : State) (r : Reg) (lo w v i j f n : Nat) (hb : n + 1 ≤ 8 * (regSpec r).bytes) (h : n + 1 ≤ lo ∨ lo + w ≤ n) :
    bit (getR (setField s r lo w v i j f) r i j f) n = bit (getR s r i j f) n := by
  rw [bit_eq_bits, bit_eq_bits]
  exact congrArg (· == 1) (fieldR_setField_other s r lo w v i j f n 1 hb h)

/-- A bit that was set reads as it was set. -/
theorem bit_setField_same (s : State) (r : Reg) (n v i j f : Nat) (hb : n + 1 ≤ 8 * (regSpec r).bytes) :
    bit (getR (setField s r n 1 v i j f) r i j f) n = (v % 2 == 1) := by
  rw [bit_eq_bits]
  exact congrArg (· == 1) (fieldR_setField_same s r n 1 v i j f hb)

/-! ### Sticky bits (R528) -/

/-- The sticky bits of a register above the physical function's block are those that it held and those that were set. -/
theorem getR_setSticky_same (s : State) (ev en : Reg) (m i : Nat) (hk : 0x140000 ≤ regKey 0 ev i 0) :
    getR (setSticky s ev en m i) ev i = (getR s ev i ||| m) % 2 ^ (8 * (regSpec ev).bytes) := by
  rw [getR_setSticky_above _ _ _ _ _ _ _ _ _ hk, getR_setR_same]

/-- Setting sticky bits leaves every other register above the physical function's block. -/
theorem getR_setSticky_other (s : State) (ev en : Reg) (m i : Nat) (q : Reg) (a b g : Nat) (hk : 0x140000 ≤ regKey g q a b)
    (h : regKey g q a b ≠ regKey 0 ev i 0) : getR (setSticky s ev en m i) q a b g = getR s q a b g := by
  rw [getR_setSticky_above _ _ _ _ _ _ _ _ _ hk, getR_setR_other _ _ _ _ _ _ _ _ _ _ h]

/-- Registers depend on the table of registers alone. -/
theorem getR_congr {s t : State} (h : t.regs = s.regs) (q : Reg) (a b g : Nat) : getR t q a b g = getR s q a b g := by
  rw [getR, getR, h]

end Sys2Proof.Machine

/-! ## Hall memory: heat, refresh, scrub, repair and write combining -/

namespace Sys2Proof.Machine

open Sys2Proof.Safety

/-! ### What an event of a hall leaves -/

/-- An event for the Porter enters its FIFO or is counted as lost. -/
theorem porterEvt_frame (s : State) (type : Nat) (fields : List Nat) :
    porterEvt s type fields = { s with fifo := (porterEvt s type fields).fifo, fifoLost := (porterEvt s type fields).fifoLost } := by
  rw [porterEvt]
  split <;> rfl

@[simp] theorem hallEvent_store (s : State) (h m pc pin : Nat) : (hallEvent s h m pc pin).store = s.store := by
  rw [hallEvent, porterEvt_frame]
  exact setSticky_store ..

/-- Of the registers above the functions' blocks, an event of a hall writes HAL_EVENTS alone. -/
theorem getR_hallEvent_other (s : State) (h m pc pin : Nat) (q : Reg) (a b g : Nat) (hk : 0x140000 ≤ regKey g q a b)
    (hne : regKey g q a b ≠ regKey 0 .halEvents h 0) : getR (hallEvent s h m pc pin) q a b g = getR s q a b g := by
  rw [hallEvent, porterEvt_frame]
  exact getR_setSticky_other _ _ _ _ _ _ _ _ _ hk hne

/-! ### A hall that stops (R89) -/

/-- Quiet rests on the store alone. -/
theorem quiet_of_store {s t : State} (h : t.store = s.store) (hq : quiet s) : quiet t := by rwa [quiet, h]

/-- Without queries, changing one changes none. -/
theorem quiet_modQuery {s : State} (ctx : Nat) (f : Query → Query) (hq : quiet s) : quiet (modQuery s ctx f) := by
  obtain ⟨hs, hn, he⟩ := hq
  exact ⟨by simp only [modQuery, hs, List.map_nil], hn, he⟩

/-- A flight that alights changes the halls alone. -/
theorem alight_frame (s : State) (h ctx : Nat) (thermal : Bool) : alight s h ctx thermal = { s with halls := (alight s h ctx thermal).halls } := by
  simp only [alight]
  split <;> rfl

/-- Flights that alight change the halls alone. -/
theorem alightWhere_frame (s : State) (h : Nat) (p : Tread → Bool) (thermal : Bool) :
    alightWhere s h p thermal = { s with halls := (alightWhere s h p thermal).halls } :=
  List.foldlRecOn (motive := fun t : State => t = { s with halls := t.halls }) _ _ rfl fun t ht c _ => by
    rw [alight_frame, ht]

/-- A waiting entry of a hall that stops leaves its Landing, and its flight goes on without the hall. -/
def leaveHall (h : Nat) (s : State) (e : FlightEntry) : State := addEmpty (leaveLanding s h e.ctx) e.ctx h true

theorem leaveHall_regs (h : Nat) (s : State) (e : FlightEntry) : (leaveHall h s e).regs = s.regs :=
  leaveLanding_regs s h e.ctx

theorem quiet_leaveHall {s : State} (h : Nat) (e : FlightEntry) (hq : quiet s) : quiet (leaveHall h s e) := by
  refine quiet_modQuery _ _ ?_
  rw [leaveLanding]
  split
  · exact quiet_modQuery _ _ (quiet_of_store rfl hq)
  · exact hq

/-- The waiting entries of a hall that stops have left it, and nobody is aboard. -/
def hallLeft (s : State) (h : Nat) : State :=
  (stair (alightWhere s h (fun _ => true) true) h).landing.foldl (leaveHall h) (alightWhere s h (fun _ => true) true)

theorem hallLeft_regs (s : State) (h : Nat) : (hallLeft s h).regs = s.regs :=
  (foldl_keeps State.regs (leaveHall h) (leaveHall_regs h) _ _).trans (by rw [alightWhere_frame])

theorem quiet_hallLeft {s : State} (h : Nat) (hq : quiet s) : quiet (hallLeft s h) :=
  List.foldlRecOn (motive := quiet) _ _ (quiet_of_store (by rw [alightWhere_frame]) hq) fun _ ht e _ => quiet_leaveHall h e ht

theorem thermalStop_eq (s : State) (h : Nat) :
    thermalStop s h =
      if (stair s h).running then setSticky (hallLeft s h) .strEvents .strEventEn 2 h else hallLeft s h := rfl

/-- A hall that stops leaves the device quiet. -/
theorem quiet_thermalStop {s : State} (h : Nat) (hq : quiet s) : quiet (thermalStop s h) := by
  rw [thermalStop_eq]
  split
  · exact quiet_of_store (setSticky_store ..) (quiet_hallLeft h hq)
  · exact quiet_hallLeft h hq

/-- Of the registers above the functions' blocks, a hall that stops writes STR_EVENTS alone. -/
theorem getR_thermalStop_other (s : State) (h : Nat) (q : Reg) (a b g : Nat) (hk : 0x140000 ≤ regKey g q a b)
    (hne : regKey g q a b ≠ regKey 0 .strEvents h 0) : getR (thermalStop s h) q a b g = getR s q a b g := by
  rw [thermalStop_eq, ← getR_congr (hallLeft_regs s h)]
  split
  · exact getR_setSticky_other _ _ _ _ _ _ _ _ _ hk hne
  · rfl

/-! ### The thermal state of a hall (R277) -/

/-- The hall's thermal state in HAL_STATUS: the step, and whether it is halted. -/
def heatSet (s : State) (h new : Nat) : State := setField (setField s .halStatus 0 2 (min new 3) h) .halStatus 2 1 (b2n (new = 4)) h

/-- The event of a transition, if it has one (R280). -/
def heatNoted (s : State) (h old new : Nat) : State := if heatEvents old new = 0 then s else hallEvent s h (heatEvents old new) 0 0

/-- The hall stops where the transition reaches step 3 (R89). -/
def heatStopped (s : State) (h old new : Nat) : State := if 3 ≤ new ∧ old < 3 then thermalStop s h else s

theorem setHeat_eq (s : State) (h new : Nat) :
    setHeat s h new =
      let t := heatStopped (heatNoted (heatSet s h new) h (heatState s h) new) h (heatState s h) new
      if heatState s h = new then t else afterRate t := rfl

/-- Of the registers of halls, the change of a thermal state writes HAL_STATUS and the two registers of events alone. -/
theorem getR_setHeat {s : State} (hq : quiet s) (h new : Nat) (q : Reg) (a b g : Nat) (hk : 0x140000 ≤ regKey g q a b)
    (he : regKey g q a b ≠ regKey 0 .halEvents h 0) (hs : regKey g q a b ≠ regKey 0 .strEvents h 0) :
    getR (setHeat s h new) q a b g = getR (heatSet s h new) q a b g := by
  have hnoted : ∀ t old, quiet t → quiet (heatNoted t h old new) ∧ getR (heatNoted t h old new) q a b g = getR t q a b g := by
    intro t old ht
    rw [heatNoted]
    split
    · exact ⟨ht, rfl⟩
    · exact ⟨quiet_of_store (hallEvent_store ..) ht, getR_hallEvent_other _ _ _ _ _ _ _ _ _ hk he⟩
  have hstopped : ∀ t old, quiet t → quiet (heatStopped t h old new) ∧ getR (heatStopped t h old new) q a b g = getR t q a b g := by
    intro t old ht
    rw [heatStopped]
    split
    · exact ⟨quiet_thermalStop h ht, getR_thermalStop_other _ _ _ _ _ _ hk hs⟩
    · exact ⟨ht, rfl⟩
  obtain ⟨hq1, hr1⟩ := hnoted (heatSet s h new) (heatState s h) (quiet_of_store rfl hq)
  obtain ⟨hq2, hr2⟩ := hstopped _ (heatState s h) hq1
  simp only [setHeat_eq, afterRate_quiet _ hq2, ite_self, hr2, hr1]

/-- The change of a thermal state shows in HAL_STATUS as it was set there. -/
theorem halStatus_setHeat {s : State} (hq : quiet s) (h new : Nat) : getR (setHeat s h new) .halStatus h = getR (heatSet s h new) .halStatus h :=
  getR_setHeat hq h new .halStatus h 0 0 (le_regKey_of_base 0 h 0 (by decide)) (regKey_ne_of_base 0 h 0 rfl rfl (by decide))
    (regKey_ne_of_base 0 h 0 rfl rfl (by decide))

/-- HAL_TEMP and HAL_STATUS are two registers of a hall. -/
theorem regKey_halTemp_ne (h : Nat) : regKey 0 .halTemp h 0 ≠ regKey 0 .halStatus h 0 := regKey_ne_of_base 0 h 0 rfl rfl (by decide)

/-- The change of a thermal state leaves the reading. -/
theorem halTemp_setHeat {s : State} (hq : quiet s) (h new : Nat) : getR (setHeat s h new) .halTemp h = getR s .halTemp h := by
  rw [getR_setHeat hq h new .halTemp h 0 0 (le_regKey_of_base 0 h 0 (by decide)) (regKey_ne_of_base 0 h 0 rfl rfl (by decide))
    (regKey_ne_of_base 0 h 0 rfl rfl (by decide)), heatSet, getR_setField_other _ _ _ _ _ _ _ _ _ _ _ _ (regKey_halTemp_ne h),
    getR_setField_other _ _ _ _ _ _ _ _ _ _ _ _ (regKey_halTemp_ne h)]

/-- The change of a thermal state leaves the sensor fault. -/
theorem sensorFault_setHeat {s : State} (hq : quiet s) (h new : Nat) : bit (getR (setHeat s h new) .halStatus h) 3 = bit (getR s .halStatus h) 3 := by
  rw [halStatus_setHeat hq, heatSet, bit_setField_other _ _ _ _ _ _ _ _ _ (by decide) (by decide),
    bit_setField_other _ _ _ _ _ _ _ _ _ (by decide) (by decide)]

/-- HAL_STATUS gives the thermal state. -/
theorem heatState_of_status {s t : State} {h : Nat} (he : getR t .halStatus h = getR s .halStatus h) : heatState t h = heatState s h := by
  have hh : halted t h = halted s h := by rw [halted, halted, he]
  have hst : thermalStep t h = thermalStep s h := by rw [thermalStep, thermalStep, fieldR, fieldR, he]
  rw [heatState, heatState, hh, hst]

/-- A thermal state that was set is the hall's. -/
theorem heatState_heatSet (s : State) (h new : Nat) (hn : new ≤ 4) : heatState (heatSet s h new) h = new := by
  have hh : halted (heatSet s h new) h = decide (new = 4) := by
    rw [halted, heatSet, bit_setField_same _ _ _ _ _ _ _ (by decide)]
    by_cases h4 : new = 4 <;> simp [b2n, h4]
  have hst : thermalStep (heatSet s h new) h = min new 3 := by
    rw [thermalStep, heatSet, fieldR_setField_other _ _ _ _ _ _ _ _ _ _ (by decide) (by decide), fieldR_setField_same _ _ _ _ _ _ _ _ (by decide)]
    omega
  rw [heatState, hh, hst]
  by_cases h4 : new = 4
  · simp [h4]
  · simp only [h4, decide_false, Bool.false_eq_true, if_false]
    omega

/-- The change of a thermal state takes the hall there. -/
theorem heatState_setHeat {s : State} (hq : quiet s) (h new : Nat) (hn : new ≤ 4) : heatState (setHeat s h new) h = new :=
  (heatState_of_status (halStatus_setHeat hq h new)).trans (heatState_heatSet s h new hn)

theorem heatState_le (s : State) (h : Nat) : heatState s h ≤ 4 := by
  have : thermalStep s h < 4 := Nat.mod_lt _ (by decide)
  rw [heatState]
  split <;> omega

theorem metState_le (q : Int) : metState q ≤ 4 := by
  simp only [metState, List.find?]
  repeat' split
  all_goals simp

/-- A reading takes a hall to a step or halts it. -/
theorem nextHeat_le {cur : Nat} (fault : Bool) (q : Int) (h : cur ≤ 4) : nextHeat cur fault q ≤ 4 := by
  have := metState_le q
  simp only [nextHeat]
  repeat' split
  all_goals omega

/-! ### Readings and the missing sensor (R277, R279) -/

/-- The state in which a reading is noted and the sensor is not at fault. -/
def tempRead (s : State) (h : Nat) (q : Int) : State :=
  setField (setR (noteSample s (64 + h) (250 * q)) .halTemp (ofSigned 16 q) h) .halStatus 3 1 0 h

theorem exec_tempSample {s : State} {h : Nat} (hp : present s .hall h = true) (x : Int) :
    exec (.tempSample h x) s = .next (setHeat (tempRead s h ((4 * x + 50) / 100)) h
      (nextHeat (heatState s h) (bit (getR s .halStatus h) 3) ((4 * x + 50) / 100))) := by
  simp only [exec, execTempSample, hp, if_true]
  rfl

theorem getR_halTemp_tempRead (s : State) (h : Nat) (q : Int) : getR (tempRead s h q) .halTemp h = ofSigned 16 q := by
  have hlt : ofSigned 16 q < 2 ^ 16 := by
    rw [ofSigned]
    omega
  rw [tempRead, getR_setField_other _ _ _ _ _ _ _ _ _ _ _ _ (regKey_halTemp_ne h), getR_setR_same]
  exact Nat.mod_eq_of_lt (Nat.lt_trans hlt (by decide))

/-- The state in which a missing sensor is noted. -/
def sensorLost (s : State) (h : Nat) : State := hallEvent (setField s .halStatus 3 1 1 h) h 128 0 0

theorem halStatus_sensorLost (s : State) (h : Nat) : getR (sensorLost s h) .halStatus h = getR (setField s .halStatus 3 1 1 h) .halStatus h :=
  getR_hallEvent_other _ _ _ _ _ _ _ _ _ (le_regKey_of_base 0 h 0 (by decide)) (regKey_ne_of_base 0 h 0 rfl rfl (by decide))

theorem exec_sensorTimeout {s : State} {h : Nat} (hp : present s .hall h = true) (hh : heatState s h < 3) :
    exec (.sensorTimeout h) s = .next (setHeat (sensorLost s h) h 3) := by
  simp only [exec, execSensorTimeout, hp, hh, if_true]
  rfl

/-! ### Refresh, scrub and repair (R268, R269, R276) -/

/-- A line without errors is read as it stands, or is known as bad. -/
theorem decodeLine_none (mark : Option Nat) : decodeLine mark ⟨[], false⟩ = .clean := by cases mark <;> rfl

theorem readLine_none (s : State) (h : Nat) (l : LineAt) (src : Nat) : (readLine s h l src ⟨[], false⟩).1 = s := by
  simp only [readLine, decodeLine_none]
  split <;> rfl

theorem exec_scrubLine_clean {s : State} {h : Nat} (hp : present s .hall h = true) (hon : bit (getR s .halScrubCfg h) 0 = true)
    (hst : thermalStep s h < 3) (hsr : selfRefresh s h = false) (h0 : 0 < getR s .halScrubPos h)
    (hl : getR s .halScrubPos h + 1 < 805306368) :
    exec (.scrubLine h none ⟨[], false⟩) s = .next (setR s .halScrubPos (getR s .halScrubPos h + 1) h) := by
  have hne : getR s .halScrubPos h ≠ 0 := Nat.ne_of_gt h0
  simp only [exec, execScrubLine, hp, hon, hst, hsr, hne, decodeLine_none, readLine_none, hl, stackLines, if_true, if_false, ite_self,
    decide_true, Bool.not_false, Bool.and_self]

theorem exec_repair_clean {s : State} {h : Nat} {l : LineAt} {ls : List LineAt} (hr : (ctl s h).repairs = l :: ls) :
    exec (.repair h ⟨[], false⟩) s = .next (modCtl s h fun c => { c with repairs := ls }) := by
  simp only [exec, execRepair, hr, decodeLine_none, ite_self]

/-! ### The write-combining buffer (R274) -/

/-- An entry joins the buffer of a line's hall. -/
def entryOpened (s : State) (e : WcbEntry) : State := modCtl s (lineHall e.line) fun c => { c with wcb := c.wcb ++ [e] }

/-- The entry that a partial write opens. -/
def entryOf (s : State) (l mask : Nat) (data : List Byte) (who : Writer) : WcbEntry :=
  ⟨l, mask, mergeMask mask [] data, [who], s.now, getR s .halWcbCfg (lineHall l), false⟩

/-- A partial write of a line without an open entry opens one. -/
theorem wcbTake_opens {s : State} {l mask : Nat} (data : List Byte) (who : Writer)
    (hf : ((ctl s (lineHall l)).wcb.find? fun e => e.line == l && !e.closed) = none) (hl : (ctl s (lineHall l)).wcb.length < 64)
    (hm : mask ≠ 2 ^ 64 - 1) : wcbTake s l mask data who = some (entryOpened s (entryOf s l mask data who)) := by
  simp only [wcbTake, hf, hl, hm, if_true, if_false]
  rfl

theorem exec_wcbPartialWrite_opens {s : State} {u line mask : Nat} {data : List Byte} (hh : hostLine line = false)
    (hp : present s .hall (lineHall line) = true) (hm : mask < 2 ^ 64 - 1) (hd : data.length = 64)
    (hf : ((ctl s (lineHall line)).wcb.find? fun e => e.line == line && !e.closed) = none) (hl : (ctl s (lineHall line)).wcb.length < 64) :
    exec (.wcbPartialWrite (some u) line mask data) s = .next (entryOpened s (entryOf s line mask data (.usher u))) := by
  have hmask : mask % 2 ^ 64 = mask := Nat.mod_eq_of_lt (by omega)
  have hdata : (data ++ bytesOf 64 0).take 64 = data := List.take_left' hd
  simp only [exec, execWcbPartialWrite, hh, hp, Bool.not_true, Bool.or_self, Bool.false_eq_true, if_false, hmask, hdata, wcbWrite,
    wcbTake_opens data (.usher u) hf hl (Nat.ne_of_lt hm)]

/-- The merge that an open entry sends. -/
def mergeOf (s : State) (h l : Nat) (e : WcbEntry) : HomeReq :=
  { plainReq .wrMerge (.buffer h) l (groupWing s h) MemErr.none s.now with mask := e.mask, data := e.data }

theorem closeEntry_open {s : State} {h l : Nat} {e : WcbEntry} (hf : ((ctl s h).wcb.find? fun x => x.line == l && !x.closed) = some e) :
    closeEntry s h l = sendMzn (addR (modCtl s h fun c => { c with wcb := c.wcb.map fun x => if x == e then { x with closed := true } else x })
      .halWcbMerges 1 h) (.req (mergeOf s h l e)) := by
  simp only [closeEntry, hf]
  rfl

/-- An open entry that closes sends its merge, and nothing but registers, halls and messages changes. -/
theorem closeEntry_sends {s : State} {l : Nat} {e : WcbEntry}
    (hf : ((ctl s (lineHall l)).wcb.find? fun x => x.line == l && !x.closed) = some e) :
    let t := closeEntry s (lineHall l) l
    (ctl t (lineHall l)).wcb = ((ctl s (lineHall l)).wcb.map fun x => if x == e then { x with closed := true } else x) ∧
      (∃ q : HomeReq, q.kind = .wrMerge ∧ q.line = l ∧ q.mask = e.mask ∧ q.data = e.data ∧ t.mzn.msgs = s.mzn.msgs ++ [.req q]) ∧
      t = { s with regs := t.regs, halls := t.halls, mzn := t.mzn } := by
  have hw := congrArg HallCtl.wcb
    (ctl_modCtl s (lineHall l) fun c => { c with wcb := c.wcb.map fun x => if x == e then { x with closed := true } else x })
  simp only [closeEntry_open hf]
  exact ⟨hw, ⟨mergeOf s (lineHall l) l e, rfl, rfl, rfl, rfl, rfl⟩, rfl⟩

end Sys2Proof.Machine

section
open Sys2Proof Sys2Proof.Machine Sys2Proof.Safety

/-- Settles O13: in a quiet device a change of heat writes HAL_STATUS beside the registers of events; a line without errors leaves the patrol and
the repair nothing to do; an entry of the write-combining buffer opens by `wcbTake_opens` and closes by `closeEntry_sends`. -/
theorem hallMemoryIsKept : Obligations.HallMemoryIsKept := by
  refine ⟨?temp, ?sensor, ?refresh, ?patrol, ?repair, ?write, ?timeout, ?close⟩
  case temp =>
    intro s h x _ hp hq
    have hq1 : quiet (tempRead s h ((4 * x + 50) / 100)) := quiet_of_store (noteSample_store ..) hq
    refine ⟨_, exec_tempSample hp x, ?_, heatState_setHeat hq1 h _ (nextHeat_le _ _ (heatState_le s h)), ?_⟩
    · rw [halTemp_setHeat hq1, getR_halTemp_tempRead]
    · rw [sensorFault_setHeat hq1, tempRead, bit_setField_same _ _ _ _ _ _ _ (by decide)]
      rfl
  case sensor =>
    intro s h _ hp hq hh
    have hq1 : quiet (sensorLost s h) := quiet_of_store (hallEvent_store ..) hq
    refine ⟨_, exec_sensorTimeout hp hh, heatState_setHeat hq1 h 3 (by decide), ?_⟩
    rw [sensorFault_setHeat hq1, halStatus_sensorLost, bit_setField_same _ _ _ _ _ _ _ (by decide)]
    rfl
  case refresh =>
    intro s h _ hp hsr
    refine ⟨modCtl (landR s .halScrubCfg h) h fun c => { c with round := if thermalStep s h = 0 then 3900000 else 1950000 }, ?_, ?_, ?_⟩
    · simp only [exec, execRefreshRound, hp, hsr, Bool.not_false, Bool.and_self, if_true]
    · rw [ctl_modCtl]
    · rw [landR_frame]
      rfl
  case patrol =>
    intro s h _ hp hon hst hsr h0 hl
    refine ⟨_, exec_scrubLine_clean hp hon hst hsr h0 hl, ?_, fun r i j f hne => getR_setR_other _ _ _ _ _ _ _ _ _ _ hne, rfl⟩
    rw [getR_setR_same]
    exact Nat.mod_eq_of_lt (Nat.lt_trans hl (by decide))
  case repair =>
    intro s h l ls hr _
    exact ⟨_, exec_repair_clean hr, by rw [ctl_modCtl], by rw [ctl_modCtl], rfl⟩
  case write =>
    intro s u line mask data hh hp hm hd hf hl
    exact ⟨_, exec_wcbPartialWrite_opens hh hp hm hd hf hl, congrArg HallCtl.wcb (ctl_modCtl ..), rfl⟩
  case timeout =>
    intro s line e hf
    obtain ⟨hw, hq, hframe⟩ := closeEntry_sends (s := { s with now := max s.now (e.opened + e.timeout) }) hf
    refine ⟨_, by simp only [exec, execWcbTimeout, hf], ?_, hw, hq⟩
    rw [hframe]
    exact Nat.le_max_right ..
  case close =>
    intro s line e hf
    exact ⟨_, rfl, closeEntry_sends hf⟩

end

/-! ## The Porter: starts, restarts, trials and the log -/

namespace Sys2Proof.Machine

open Sys2Proof.Safety

/-! ### Records of the log (R483) -/

/-- The record that an append writes. -/
def logRecord (s : State) (type cls inst : Nat) (fields : List Nat) : LogRec :=
  ⟨getR s .prtLogSeq, if !synced s then porterNow s else s.now, getR s .prtBoots, type, !synced s, cls, inst, fields⟩

/-- An append changes registers and the Porter's log alone. -/
theorem appendLog_frame (s : State) (type cls inst : Nat) (fields : List Nat) :
    appendLog s type cls inst fields = { s with
      regs := (appendLog s type cls inst fields).regs
      porter := { s.porter with log := (appendLog s type cls inst fields).porter.log } } := rfl

theorem getR_appendLog_other (s : State) (type cls inst : Nat) (fields : List Nat) (q : Reg) (a b g : Nat)
    (h : regKey g q a b ≠ regKey 0 .prtLogSeq 0 0) : getR (appendLog s type cls inst fields) q a b g = getR s q a b g :=
  getR_addR_other _ _ _ _ _ _ _ _ _ _ h

theorem getR_prtLogSeq_appendLog (s : State) (type cls inst : Nat) (fields : List Nat) :
    getR (appendLog s type cls inst fields) .prtLogSeq = (getR s .prtLogSeq + 1) % 2 ^ 64 := by
  have hw : 8 * (regSpec .prtLogSeq).bytes = 64 := rfl
  rw [appendLog, getR_addR_same, getR_modPorter, hw]

/-- The ring still holds the record that it took last. -/
theorem oldestSeq_succ_le (n : Nat) : oldestSeq (n + 1) ≤ n := by
  unfold oldestSeq
  omega

theorem getLast_appendLog (s : State) (type cls inst : Nat) (fields : List Nat) :
    (appendLog s type cls inst fields).porter.log.getLast? = some (logRecord s type cls inst fields) := by
  let held := fun x : LogRec => decide (oldestSeq (getR s .prtLogSeq + 1) ≤ x.seq)
  have hlog : (appendLog s type cls inst fields).porter.log = (s.porter.log ++ [logRecord s type cls inst fields]).filter held := rfl
  have hheld : held (logRecord s type cls inst fields) = true := decide_eq_true (oldestSeq_succ_le _)
  rw [hlog, List.filter_append, List.filter_cons_of_pos hheld, List.filter_nil, List.getLast?_concat]

/-! ### Sticky bits of the Porter (R501) -/

@[simp] theorem porterSticky_porter (s : State) (m : Nat) : (porterSticky s m).porter = s.porter := setSticky_porter ..

theorem getR_porterSticky_other (s : State) (m : Nat) (q : Reg) (a b g : Nat) (hk : 0x140000 ≤ regKey g q a b)
    (h : regKey g q a b ≠ regKey 0 .prtEvents 0 0) : getR (porterSticky s m) q a b g = getR s q a b g :=
  getR_setSticky_other _ _ _ _ _ _ _ _ _ hk h

theorem bit_prtEvents_porterSticky (s : State) (m n : Nat) (hn : n < 32) :
    bit (getR (porterSticky s m) .prtEvents) n = (bit (getR s .prtEvents) n || bit m n) := by
  rw [porterSticky, getR_setSticky_same _ _ _ _ _ (by decide)]
  exact bit_or_mod _ _ _ _ hn

/-! ### What a start leaves (R492) -/

/-- What the choice of a Vipol slot leaves, with the records that it makes. -/
structure Started (s t : State) : Prop where
  variant : t.variant = s.variant
  now : t.now = s.now
  oam : t.oam = s.oam
  micro : t.porter.micro = s.porter.micro
  localBase : t.porter.localBase = s.porter.localBase
  levelFloor : getR t .mrqLevelFloor = getR s .mrqLevelFloor
  boots : getR t .prtBoots = getR s .prtBoots
  /-- A bit of PRT_EVENTS that was set stays set. -/
  events : ∀ n, n < 32 → bit (getR s .prtEvents) n = true → bit (getR t .prtEvents) n = true

/-- What records and sticky bits of the Porter leave. -/
structure Noted (s t : State) : Prop extends Started s t where
  vipol : t.porter.vipol = s.porter.vipol
  state : t.porter.state = s.porter.state
  runSince : t.porter.runSince = s.porter.runSince

theorem Started.refl (s : State) : Started s s := ⟨rfl, rfl, rfl, rfl, rfl, rfl, rfl, fun _ _ h => h⟩

theorem Started.trans {s t u : State} (h : Started s t) (k : Started t u) : Started s u :=
  ⟨k.variant.trans h.variant, k.now.trans h.now, k.oam.trans h.oam, k.micro.trans h.micro, k.localBase.trans h.localBase,
    k.levelFloor.trans h.levelFloor, k.boots.trans h.boots, fun n hn hb => k.events n hn (h.events n hn hb)⟩

theorem Noted.refl (s : State) : Noted s s := ⟨Started.refl s, rfl, rfl, rfl⟩

theorem Noted.trans {s t u : State} (h : Noted s t) (k : Noted t u) : Noted s u :=
  ⟨h.toStarted.trans k.toStarted, k.vipol.trans h.vipol, k.state.trans h.state, k.runSince.trans h.runSince⟩

theorem noted_porterLog (s : State) (type : Nat) (fields : List Nat) : Noted s (porterLog s type fields) := by
  have hr : ∀ q : Reg, regKey 0 q 0 0 ≠ regKey 0 .prtLogSeq 0 0 → getR (porterLog s type fields) q = getR s q := fun q h =>
    getR_appendLog_other _ _ _ _ _ _ _ _ _ h
  refine ⟨⟨rfl, rfl, rfl, rfl, rfl, hr _ (by decide), hr _ (by decide), fun n _ h => ?_⟩, rfl, rfl, rfl⟩
  rwa [hr _ (by decide)]

theorem noted_porterSticky (s : State) (m : Nat) : Noted s (porterSticky s m) := by
  have hp := porterSticky_porter s m
  refine ⟨⟨setSticky_variant .., setSticky_now .., setSticky_oam .., by rw [hp], by rw [hp],
    getR_porterSticky_other _ _ _ _ _ _ (by decide) (by decide), getR_porterSticky_other _ _ _ _ _ _ (by decide) (by decide), fun n hn h => ?_⟩,
    by rw [hp], by rw [hp], by rw [hp]⟩
  rw [bit_prtEvents_porterSticky _ _ _ hn, h, Bool.true_or]

/-- A register of the mailbox may change. -/
theorem noted_setR (s : State) (r : Reg) (v : Nat) (hl : regKey 0 .mrqLevelFloor 0 0 ≠ regKey 0 r 0 0)
    (hb : regKey 0 .prtBoots 0 0 ≠ regKey 0 r 0 0) (he : regKey 0 .prtEvents 0 0 ≠ regKey 0 r 0 0) : Noted s (setR s r v) := by
  refine ⟨⟨rfl, rfl, rfl, rfl, rfl, getR_setR_other _ _ _ _ _ _ _ _ _ _ hl, getR_setR_other _ _ _ _ _ _ _ _ _ _ hb, fun n _ h => ?_⟩,
    rfl, rfl, rfl⟩
  rwa [getR_setR_other _ _ _ _ _ _ _ _ _ _ he]

theorem noted_bootNotes (s : State) : Noted s (bootNotes s) := by
  have hclear : ∀ t, Noted t (modPorter t fun p => { p with wdtNote := none, tripNote := none }) := fun t =>
    ⟨⟨rfl, rfl, rfl, rfl, rfl, rfl, rfl, fun _ _ h => h⟩, rfl, rfl, rfl⟩
  simp only [bootNotes]
  refine Noted.trans ?_ (hclear _)
  split <;> split
  · exact (noted_porterLog ..).trans (noted_porterLog ..)
  · exact noted_porterLog ..
  · exact noted_porterLog ..
  · exact Noted.refl s

theorem noted_endCommand (s : State) : Noted s (endCommand s) := by
  rw [endCommand]
  split
  · exact ((noted_setR _ _ _ (by decide) (by decide) (by decide)).trans (noted_setR _ _ _ (by decide) (by decide) (by decide))).trans
      (noted_porterSticky ..)
  · exact Noted.refl s

/-! ### The choice of a slot (R490, R492) -/

/-- Whether a slot is valid rests on what it holds, the component's counter, the variant and the floor of levels. -/
theorem slotValid_congr {s t : State} {c k : Nat} (hd : slotOf (firmware t c) k = slotOf (firmware s c) k)
    (hf : (firmware t c).fuses = (firmware s c).fuses) (hv : t.variant = s.variant) (hl : getR t .mrqLevelFloor = getR s .mrqLevelFloor) :
    slotValid t c k = slotValid s c k := by
  have hsec : secCounter (firmware t c) = secCounter (firmware s c) := by rw [secCounter, secCounter, hf]
  have hsig : imageSigned t c = imageSigned s c := funext fun bs => by simp only [imageSigned, variantBit, hv]
  have hcheck : imageCheck t c k = imageCheck s c k := by
    simp only [imageCheck]
    rw [hd, hsec, hsig, hl]
  rw [slotValid, slotValid, hcheck]

theorem slotValid_addR_prtBoots (s : State) (c k : Nat) : slotValid (addR s .prtBoots 1) c k = slotValid s c k :=
  slotValid_congr rfl rfl rfl (getR_addR_other _ _ _ _ _ _ _ _ _ _ (by decide))

/-- A change of a component's firmware is a change of that firmware. -/
@[simp] theorem firmware_modFirmware (s : State) (c : Nat) (f : Firmware → Firmware) : firmware (modFirmware s c f) c = f (firmware s c) := by
  simp only [firmware, modFirmware, modPorter]
  split <;> rfl

theorem bootActive_active {s : State} {c : Nat} (h : slotValid s c (firmware s c).active = true) :
    bootActive s c = (runSlot s c (firmware s c).active false, true) := by
  simp only [bootActive, h, if_true]

theorem bootActive_other {s : State} {c : Nat} (h : slotValid s c (firmware s c).active = false)
    (ho : slotValid s c (1 - (firmware s c).active) = true) :
    bootActive s c = (runSlot (modFirmware (fallbackLog s c (firmware s c).active (1 - (firmware s c).active) 3) c fun f =>
      { f with active := 1 - f.active }) c (1 - (firmware s c).active) false, true) := by
  simp only [bootActive, h, ho, Bool.false_eq_true, if_false, if_true]

theorem bootActive_none {s : State} {c : Nat} (h : slotValid s c (firmware s c).active = false)
    (ho : slotValid s c (1 - (firmware s c).active) = false) : bootActive s c = (s, false) := by
  simp only [bootActive, h, ho, Bool.false_eq_true, if_false]

theorem bootSlot_settled {s : State} {c : Nat} (ht : (firmware s c).trial = false) : bootSlot s c = bootActive s c := by
  simp only [bootSlot, ht, Bool.false_eq_true, if_false]

theorem bootSlot_trial {s : State} {c : Nat} (ht : (firmware s c).trial = true) (hn : (firmware s c).tries < 3)
    (hv : slotValid s c (firmware s c).active = true) :
    bootSlot s c = (runSlot (modFirmware s c fun f => { f with tries := f.tries + 1 }) c (firmware s c).active true, true) := by
  simp only [bootSlot, ht, hn, hv, decide_true, Bool.and_self, if_true]

theorem bootSlot_leaves {s : State} {c : Nat} (ht : (firmware s c).trial = true)
    (h : 3 ≤ (firmware s c).tries ∨ slotValid s c (firmware s c).active = false) :
    ∃ r, bootSlot s c = bootActive (leaveTrial s c r) c := by
  have hno : ¬ (decide ((firmware s c).tries < 3) && slotValid s c (firmware s c).active) = true := by
    rcases h with h | h
    · simp [Nat.not_lt.mpr h]
    · simp [h]
  exact ⟨_, by simp only [bootSlot, ht, if_true, if_neg hno]; rfl⟩

/-! ### The choice of a Vipol slot -/

theorem started_modVipol (s : State) (f : Firmware → Firmware) : Started s (modFirmware s 1 f) :=
  ⟨rfl, rfl, rfl, rfl, rfl, rfl, rfl, fun _ _ h => h⟩

theorem started_runSlot (s : State) (slot : Nat) (trial : Bool) : Started s (runSlot s 1 slot trial) := started_modVipol s _

theorem noted_fallbackLog (s : State) (c left booted reason : Nat) : Noted s (fallbackLog s c left booted reason) :=
  (noted_porterLog ..).trans (noted_porterSticky ..)

/-- A fallback shows in PRT_EVENTS. -/
theorem bit_fallbackLog (s : State) (c left booted reason : Nat) : bit (getR (fallbackLog s c left booted reason) .prtEvents) 5 = true := by
  rw [fallbackLog, bit_prtEvents_porterSticky _ _ _ (by decide)]
  exact Bool.or_true _

theorem started_leaveTrial (s : State) (reason : Nat) : Started s (leaveTrial s 1 reason) := by
  simp only [leaveTrial]
  exact (noted_fallbackLog ..).toStarted.trans (started_modVipol ..)

theorem bit_leaveTrial (s : State) (reason : Nat) : bit (getR (leaveTrial s 1 reason) .prtEvents) 5 = true :=
  (started_modVipol ..).events 5 (by decide) (bit_fallbackLog ..)

theorem vipol_leaveTrial (s : State) (reason : Nat) :
    (leaveTrial s 1 reason).porter.vipol = { s.porter.vipol with trial := false, onTrial := false, active := 1 - s.porter.vipol.active } :=
  congrArg (fun f : Firmware => { f with trial := false, onTrial := false, active := 1 - f.active }) (noted_fallbackLog ..).vipol

/-- The end of a trial leaves what the slots hold. -/
theorem slotValid_leaveTrial (s : State) (reason k : Nat) : slotValid (leaveTrial s 1 reason) 1 k = slotValid s 1 k := by
  have hfw : firmware (leaveTrial s 1 reason) 1 = { firmware s 1 with trial := false, onTrial := false, active := 1 - s.porter.vipol.active } :=
    vipol_leaveTrial s reason
  have hstart := started_leaveTrial s reason
  exact slotValid_congr (by rw [hfw]; rfl) (by rw [hfw]) hstart.variant hstart.levelFloor

theorem started_bootActive (s : State) : Started s (bootActive s 1).1 := by
  simp only [bootActive]
  split
  · exact started_runSlot ..
  · split
    · exact ((noted_fallbackLog ..).toStarted.trans (started_modVipol ..)).trans (started_runSlot ..)
    · exact Started.refl s

theorem started_bootSlot (s : State) : Started s (bootSlot s 1).1 := by
  simp only [bootSlot]
  split
  · split
    · exact (started_modVipol ..).trans (started_runSlot ..)
    · exact (started_leaveTrial ..).trans (started_bootActive _)
  · exact started_bootActive s

/-! ### Vipol runs (R484, R492, R503) -/

/-- The rails are up, or a microcode slot lets them rise (R504). -/
def railsReady (s : State) : Prop := slotValid s 2 0 = true ∨ slotValid s 2 1 = true ∨ s.oam.rails ≠ 0

theorem Started.railsReady {s t : State} (h : Started s t) (hr : railsReady s) : railsReady t := by
  have hv : ∀ k, slotValid t 2 k = slotValid s 2 k := fun k =>
    slotValid_congr (congrArg (slotOf · k) h.micro) (congrArg Firmware.fuses h.micro) h.variant h.levelFloor
  rwa [Machine.railsReady, hv, hv, h.oam]

/-- Rails that are ready rise, or stay as they are, without the Porter. -/
theorem raiseRails_ready {s : State} (h : railsReady s) : (raiseRails s).porter = s.porter ∧ (raiseRails s).regs = s.regs := by
  simp only [raiseRails, startRails]
  split
  · exact ⟨rfl, rfl⟩
  · split
    case _ hmay =>
      split
      · exact ⟨rfl, rfl⟩
      case _ hslots =>
        simp only [Bool.and_eq_true, decide_eq_true_eq] at hmay
        simp only [Bool.or_eq_true, not_or] at hslots
        rcases h with h | h | h
        · exact absurd h hslots.1
        · exact absurd h hslots.2
        · exact absurd hmay.1.2 h
    · exact ⟨rfl, rfl⟩

/-- Vipol runs from now on. -/
def vipolRunning (s : State) : State := modPorter s fun x => { x with state := .running, runSince := porterNow s }

/-- The records of a start: BOOT, and an activation's. -/
def bootRecords (s : State) : State :=
  let p := s.porter
  let t := porterLog (vipolRunning s) 1
    [p.vipol.running, slotNum s 1 p.vipol.running 8 4, p.micro.running, slotNum s 2 p.micro.running 8 4, restartCode p.cause]
  if p.cause = .activation then porterSticky (porterLog t 3 [1, p.vipol.running, slotNum s 1 p.vipol.running 8 4]) 16 else t

theorem vipolRuns_eq (s : State) : vipolRuns s = raiseRails (endCommand (bootNotes (bootRecords s))) := rfl

theorem noted_bootRecords (s : State) : Noted (vipolRunning s) (bootRecords s) := by
  simp only [bootRecords]
  split
  · exact ((noted_porterLog ..).trans (noted_porterLog ..)).trans (noted_porterSticky ..)
  · exact noted_porterLog ..

/-- A Vipol slot that boots runs: its firmware, the count of boots and the events that were shown stay. -/
theorem vipolRuns_runs {s : State} (h : railsReady s) :
    (vipolRuns s).porter.state = .running ∧ (vipolRuns s).porter.runSince = porterNow s ∧ (vipolRuns s).porter.vipol = s.porter.vipol ∧
      getR (vipolRuns s) .prtBoots = getR s .prtBoots ∧
      (bit (getR s .prtEvents) 5 = true → bit (getR (vipolRuns s) .prtEvents) 5 = true) := by
  have hrun : Started s (vipolRunning s) := ⟨rfl, rfl, rfl, rfl, rfl, rfl, rfl, fun _ _ h => h⟩
  have hn := ((noted_bootRecords s).trans (noted_bootNotes _)).trans (noted_endCommand _)
  obtain ⟨hp, hr⟩ := raiseRails_ready ((hrun.trans hn.toStarted).railsReady h)
  simp only [vipolRuns_eq, hp, getR_congr hr]
  exact ⟨hn.state, hn.runSince, hn.vipol, hn.boots, hn.events 5 (by decide)⟩

/-- A start that finds a slot boots it. -/
theorem exec_porterBoot_runs {s u : State} (hst : s.porter.state = .rom ∨ s.porter.state = .restarting) (hr : railsReady s)
    (hb : bootSlot (addR s .prtBoots 1) 1 = (u, true)) :
    ∃ t, exec .porterBoot s = .next t ∧ t.porter.state = .running ∧ t.porter.runSince = porterNow s ∧ t.porter.vipol = u.porter.vipol ∧
      getR t .prtBoots = (getR s .prtBoots + 1) % 2 ^ 64 ∧ (bit (getR u .prtEvents) 5 = true → bit (getR t .prtEvents) 5 = true) := by
  have hc : Started (addR s .prtBoots 1) u := by
    have := started_bootSlot (addR s .prtBoots 1)
    rwa [hb] at this
  have hr1 : railsReady (addR s .prtBoots 1) := by
    rw [railsReady, slotValid_addR_prtBoots, slotValid_addR_prtBoots]
    exact hr
  obtain ⟨hs, hsince, hv, hboots, he⟩ := vipolRuns_runs (hc.railsReady hr1)
  refine ⟨vipolRuns u, ?_, hs, ?_, hv, ?_, he⟩
  · simp only [exec, execPorterBoot, hst, hb, if_true]
  · rw [hsince, porterNow, hc.now, hc.localBase]
    rfl
  · rw [hboots, hc.boots, getR_addR_same]
    rfl

/-! ### A cold reset, and rails that are lost (R503, R509) -/

theorem clearedMain_porter (s : State) : (clearedMain s).porter = keptPorter s :=
  foldl_keeps State.porter (fun t w => setR t .ucrWDurableSeq (getR s .ucrWDurableSeq w) w) (fun _ _ => rfl) _ _

/-- A cold reset leaves the Porter as a reset of the main domain does. -/
theorem coldReset_porter (s : State) (cause : Option Nat) : (coldReset s cause).porter = keptPorter s := by
  have hk : keptPorter (if s.vst.linkUp then porterEvt s 0x30 [getR s .vstLink] else s) = keptPorter s := by
    split
    · rw [porterEvt_frame]
      rfl
    · rfl
  rw [← hk, ← clearedMain_porter]
  cases cause <;> rfl

/-- Rails that are lost leave the Porter's state and its Vipol firmware. -/
theorem mainLoss_keeps (s : State) (cause : Nat) :
    (mainLoss s cause).porter.state = s.porter.state ∧ (mainLoss s cause).porter.vipol = s.porter.vipol := by
  have hp : (mainLoss s cause).porter = if mainUp s then keptPorter s else s.porter := by
    rw [mainLoss]
    split
    · exact coldReset_porter ..
    · rfl
  rw [hp]
  split <;> exact ⟨rfl, rfl⟩

/-- A start that finds no slot stays in recovery, with the rails down. -/
theorem exec_porterBoot_recovers {s : State} (hst : s.porter.state = .rom ∨ s.porter.state = .restarting)
    (hb : bootSlot (addR s .prtBoots 1) 1 = (addR s .prtBoots 1, false)) :
    ∃ t, exec .porterBoot s = .next t ∧ t.porter.state = .recovery ∧ t.oam.rails = 0 ∧ t.oam.powerGood = false ∧
      t.porter.vipol = s.porter.vipol := by
  obtain ⟨hs, hv⟩ := mainLoss_keeps (modPorter (addR s .prtBoots 1) fun p => { p with state := .recovery }) 4
  refine ⟨mainLoss (modPorter (addR s .prtBoots 1) fun p => { p with state := .recovery }) 4, ?_, hs, rfl, rfl, hv⟩
  simp only [exec, execPorterBoot, hst, hb, if_true, Bool.false_eq_true, if_false]

/-! ### Trials that are committed (R491, R493) -/

/-- A trial is over. -/
def trialOver (s : State) (c : Nat) : State := modFirmware s c fun f => { f with trial := false, onTrial := false, tries := 0 }

/-- The trial of an image whose security version the counter has reached ends, and nothing else. -/
theorem commitTrial_reached {s : State} {c : Nat} (h : slotNum s c (firmware s c).running 6 1 ≤ secCounter (firmware s c)) :
    commitTrial s c = trialOver s c := by
  simp only [commitTrial, Nat.not_lt.mpr h, if_false]
  rfl

/-- The counter's fuses, blown up to a version. -/
def fusesTo (s : State) (c v : Nat) : State := modFirmware s c fun f => { f with fuses := BitVec.ofNat 64 (f.fuses.toNat ||| (2 ^ v - 1)) }

/-- The trial of an image of a higher security version ends, and the counter advances to the version. -/
theorem commitTrial_advances {s : State} {c : Nat} (h : secCounter (firmware s c) < slotNum s c (firmware s c).running 6 1) :
    commitTrial s c = porterLog (fusesTo (trialOver s c) c (slotNum s c (firmware s c).running 6 1)) 5
      [c, secCounter (firmware s c), slotNum s c (firmware s c).running 6 1] := by
  simp only [commitTrial, h, if_true]
  rfl

theorem firmware_porterLog (s : State) (type : Nat) (fields : List Nat) (c : Nat) : firmware (porterLog s type fields) c = firmware s c := rfl

/-- Fuses blown up to a version show every bit below it. -/
theorem bit_fusesTo (x : W64) {v i : Nat} (hv : v ≤ 64) (hi : i < v) : bit (BitVec.ofNat 64 (x.toNat ||| (2 ^ v - 1))).toNat i = true := by
  have h64 : i < 64 := Nat.lt_of_lt_of_le hi hv
  simp only [BitVec.toNat_ofNat, bit_eq_testBit, Nat.testBit_mod_two_pow, Nat.testBit_or, Nat.testBit_two_pow_sub_one, hi, h64, decide_true,
    Bool.or_true, Bool.and_self]

/-- The Porter time at which the trial of a component may be committed. -/
def trialEnd (s : State) (c : Nat) : Nat := (if c = 1 then s.porter.runSince else s.porter.upSince) + 600000000000

theorem exec_trialCommit {s : State} {c : Nat} (hc : c = 1 ∨ c = 2) (hr : trialRuns s c = true) :
    exec (.trialCommit c) s = .next (commitTrial (notBeforeLocal s (trialEnd s c)) c) := by
  have hc' : (decide (c = 1) || decide (c = 2)) = true := by simpa using hc
  simp only [exec, execTrialCommit, hr, hc', Bool.and_self, if_true]
  rfl

/-! ### Unit events (R477, R484) -/

/-- The record of a unit event. -/
def eventLogged (s : State) (e : UnitEvt) : State :=
  appendLog s e.type (eventClass e.type) (if eventClass e.type = 0 ∨ eventClass e.type = 10 then e.fields.getD 0 0 else 0) e.fields

theorem eventLogged_frame (s : State) (e : UnitEvt) :
    eventLogged s e = { s with regs := (eventLogged s e).regs, porter := (eventLogged s e).porter } ∧
      getR (eventLogged s e) .prtEvents = getR s .prtEvents :=
  ⟨rfl, getR_appendLog_other _ _ _ _ _ _ _ _ _ (by decide)⟩

/-- Changes of registers and the Porter alone, one after the other. -/
theorem regsPorter_trans {s t u : State} (h : t = { s with regs := t.regs, porter := t.porter })
    (k : u = { t with regs := u.regs, porter := u.porter }) : u = { s with regs := u.regs, porter := u.porter } := by
  rw [k, h]

theorem recordMark_frame (s : State) (h pc pin : Nat) :
    recordMark s h pc pin = { s with regs := (recordMark s h pc pin).regs, porter := (recordMark s h pc pin).porter } ∧
      getR (recordMark s h pc pin) .prtEvents = getR s .prtEvents :=
  ⟨rfl, getR_appendLog_other _ _ _ _ _ _ _ _ _ (by decide)⟩

/-- A unit event changes registers and the Porter alone, of the registers the number of records. -/
theorem logEvent_frame (s : State) (e : UnitEvt) :
    logEvent s e = { s with regs := (logEvent s e).regs, porter := (logEvent s e).porter } ∧
      getR (logEvent s e) .prtEvents = getR s .prtEvents := by
  obtain ⟨hframe, hlog⟩ := eventLogged_frame s e
  simp only [logEvent]
  split
  · exact ⟨rfl, rfl⟩
  · split
    · obtain ⟨hmark, hev⟩ := recordMark_frame (eventLogged s e) (e.fields.getD 0 0) (e.fields.getD 4 0) (e.fields.getD 5 0)
      exact ⟨regsPorter_trans hframe hmark, hev.trans hlog⟩
    · exact ⟨hframe, hlog⟩

/-- An event of another unit than a hall is logged. -/
theorem logEvent_other {s : State} {e : UnitEvt} (h : e.type ≠ 0x20) : logEvent s e = eventLogged s e := by
  simp only [logEvent, h, false_and, if_false]
  rfl

/-- The mark of a pin is logged and enters the table of marks (R267, R486). -/
theorem logEvent_mark {s : State} {e : UnitEvt} (h : e.type = 0x20) (hm : bit (e.fields.getD 1 0) 2 = true) :
    logEvent s e = recordMark (eventLogged s e) (e.fields.getD 0 0) (e.fields.getD 4 0) (e.fields.getD 5 0) := by
  have hlogged : e.fields.getD 1 0 &&& loggedHallBits ≠ 0 := by
    intro h0
    have hb : (e.fields.getD 1 0 &&& loggedHallBits).testBit 2 = true := by
      rw [Nat.testBit_and, ← bit_eq_testBit, hm]
      decide
    rw [h0] at hb
    simp at hb
  simp only [logEvent, h, hlogged, hm, and_false, if_false, and_self, if_true]
  simp only [eventLogged, h]

theorem tget_pinMarks_recordMark (s : State) (h pc pin : Nat) :
    tget (fun _ => 0) (recordMark s h pc pin).porter.pinMarks (64 * h + pc) = pin + 1 :=
  tget_tset_same (fun _ => 0) s.porter.pinMarks (64 * h + pc) (pin + 1)

theorem exec_porterEvent_front {s : State} {e : UnitEvt} {es : List UnitEvt} (hr : s.porter.state = .running) (h0 : s.fifoLost = 0)
    (hf : s.fifo = e :: es) : exec .porterEvent s = .next (logEvent { s with fifo := es } e) := by
  simp only [exec, execPorterEvent, porterRuns, hr, beq_self_eq_true, Bool.not_true, Bool.false_eq_true, if_false, h0, if_true, hf]

/-- The state in which the loss of events is reported. -/
def lossNoted (s : State) : State := porterSticky (porterLog { s with fifoLost := 0 } 0x51 [s.fifoLost]) 64

theorem lossNoted_shows (s : State) : (lossNoted s).fifoLost = 0 ∧ bit (getR (lossNoted s) .prtEvents) 6 = true := by
  refine ⟨setSticky_fifoLost .., ?_⟩
  rw [lossNoted, bit_prtEvents_porterSticky _ _ _ (by decide)]
  exact Bool.or_true _

theorem exec_porterEvent_lost {s : State} (hr : s.porter.state = .running) (h0 : s.fifoLost ≠ 0) :
    exec .porterEvent s = .next (lossNoted s) ∨ ∃ e es, exec .porterEvent s = .next (logEvent { lossNoted s with fifo := es } e) := by
  have he : exec .porterEvent s = match (lossNoted s).fifo with
      | [] => .next (lossNoted s)
      | e :: es => .next (logEvent { lossNoted s with fifo := es } e) := by
    simp only [exec, execPorterEvent, porterRuns, hr, beq_self_eq_true, Bool.not_true, Bool.false_eq_true, if_false, h0]
    rfl
  rw [he]
  split
  · exact .inl rfl
  · exact .inr ⟨_, _, rfl⟩

/-! ### The mirror (R485) -/

/-- Programs of the Undercroft leave the Porter. -/
@[simp] theorem programmed_porter (s : State) (n : Nat) : (programmed s n).porter = s.porter := by
  simp only [programmed]
  split
  · simp only [enterHealth]
    split <;> simp
  · rfl

theorem exec_logMirrorCommit {s : State} {l : LogRec} (hm : mayMirror s = true) (hl : s.porter.mirror.getLast? = some l)
    (hn : s.porter.mirror.length + (s.porter.log.filter fun r => decide (l.seq < r.seq)).length ≤ 4194304) :
    ∃ t, exec .logMirrorCommit s = .next t ∧
      t.porter = { s.porter with mirror := s.porter.mirror ++ s.porter.log.filter fun r => decide (l.seq < r.seq) } := by
  let new := s.porter.log.filter fun r => decide (l.seq < r.seq)
  have he : exec .logMirrorCommit s = if new.isEmpty then .next s else
      .next (programmed (modPorter s fun x => { x with
        mirror := (s.porter.mirror ++ new).drop ((s.porter.mirror ++ new).length - 4194304) }) (16384 * ((64 * new.length + 16383) / 16384))) := by
    simp only [exec, execLogMirrorCommit, hm, hl, Bool.not_true, Bool.false_eq_true, if_false]
    rfl
  rw [he]
  split
  case _ h =>
    refine ⟨s, rfl, ?_⟩
    have hnew : s.porter.log.filter (fun r => decide (l.seq < r.seq)) = [] := List.isEmpty_iff.mp h
    rw [hnew, List.append_nil]
  case _ =>
    refine ⟨_, rfl, ?_⟩
    have h0 : (s.porter.mirror ++ new).length - 4194304 = 0 := by
      rw [List.length_append]
      exact Nat.sub_eq_zero_of_le hn
    rw [programmed_porter, h0, List.drop_zero]
    rfl

/-! ### MCTP control (R487) -/

theorem mctp_answers {s : State} {via : Transport} (hs : s.porter.state = .running ∨ s.porter.state = .recovery) (hv : mctpReaches s via = true) :
    ((porterRuns s || decide (s.porter.state = .recovery)) && mctpReaches s via) = true := by
  rcases hs with hs | hs <;> simp [porterRuns, hs, hv]

end Sys2Proof.Machine

section
open Sys2Proof Sys2Proof.Machine Sys2Proof.Safety

/-- Settles O53: each row of the table of R492 names the slot that `bootSlot` chooses, and a start runs it or recovers; a commit, an event and the
mirror are each one change of the Porter. -/
theorem porterStartsAndLogs : Obligations.PorterStartsAndLogs := by
  refine ⟨?boot, ?idle, ?watchdog, ?sram, ?commit, ?event, ?lost, ?noMirror, ?mirror, ?mctp⟩
  case boot =>
    intro s hst f a
    have hv : ∀ k, slotValid (addR s .prtBoots 1) 1 k = slotValid s 1 k := slotValid_addR_prtBoots s 1
    refine ⟨fun hr => ⟨fun ht hn h => ?trial, fun ht h => ?active, fun ht h ho => ?leaves, fun ht h ho => ?other⟩, fun ht h ho => ?recovery⟩
    case trial =>
      obtain ⟨t, he, hs, hsince, hvip, hb, -⟩ := exec_porterBoot_runs hst hr
        (bootSlot_trial (s := addR s .prtBoots 1) (c := 1) ht hn ((hv a).trans h))
      exact ⟨t, he, hs, hsince, hvip, hb⟩
    case active =>
      obtain ⟨t, he, hs, hsince, hvip, hb, -⟩ := exec_porterBoot_runs hst hr
        ((bootSlot_settled (s := addR s .prtBoots 1) (c := 1) ht).trans (bootActive_active ((hv a).trans h)))
      exact ⟨t, he, hs, hsince, hvip, hb⟩
    case leaves =>
      obtain ⟨r, hb⟩ := bootSlot_leaves (s := addR s .prtBoots 1) (c := 1) ht (h.imp id (hv a).trans)
      have hfw := vipol_leaveTrial (addR s .prtBoots 1) r
      have hslots : ∀ k, slotValid (leaveTrial (addR s .prtBoots 1) 1 r) 1 k = slotValid s 1 k := fun k =>
        (slotValid_leaveTrial ..).trans (hv k)
      have hact : (firmware (leaveTrial (addR s .prtBoots 1) 1 r) 1).active = 1 - a := congrArg Firmware.active hfw
      obtain ⟨t, he, hs, -, hvip, -, h5⟩ := exec_porterBoot_runs hst hr
        (hb.trans (bootActive_active (by rw [hact, hslots, ho])))
      refine ⟨t, he, hs, h5 ((started_runSlot ..).events 5 (by decide) (bit_leaveTrial ..)), hvip.trans ?_⟩
      rw [hact]
      exact congrArg (fun x : Firmware => { x with running := 1 - a, onTrial := false }) hfw
    case other =>
      obtain ⟨t, he, hs, -, hvip, -, h5⟩ := exec_porterBoot_runs hst hr
        ((bootSlot_settled (s := addR s .prtBoots 1) (c := 1) ht).trans (bootActive_other ((hv a).trans h) ((hv (1 - a)).trans ho)))
      refine ⟨t, he, hs, h5 (((started_modVipol ..).trans (started_runSlot ..)).events 5 (by decide) (bit_fallbackLog ..)), hvip.trans ?_⟩
      exact congrArg (fun x : Firmware => { x with active := 1 - x.active, running := 1 - a, onTrial := false }) (noted_fallbackLog ..).vipol
    case recovery =>
      exact exec_porterBoot_recovers hst
        ((bootSlot_settled (s := addR s .prtBoots 1) (c := 1) ht).trans (bootActive_none ((hv a).trans h) ((hv (1 - a)).trans ho)))
  case idle =>
    intro s h1 h2
    simp only [exec, execPorterBoot, h1, h2, or_self, if_false]
  case watchdog =>
    intro s pc hr
    have hp := porterSticky_porter (addR s .prtWdtFires 1) 8
    refine ⟨modPorter (restartPorter (porterSticky (addR s .prtWdtFires 1) 8) .watchdog) fun p => { p with wdtNote := some (p.wdtMs, pc.toNat) },
      ?_, rfl, rfl, ?_, ?_, ?_, setSticky_oam .., ?_⟩
    · simp only [exec, execWatchdogExpiry, porterRuns, hr, beq_self_eq_true, if_true]
    · have hnote := congrArg (fun p : Porter => some (p.wdtMs, pc.toNat)) hp
      exact hnote
    · rw [getR_modPorter, restartPorter, getR_modPorter, getR_porterSticky_other _ _ _ _ _ _ (by decide) (by decide), getR_addR_same]
      rfl
    · rw [getR_modPorter, restartPorter, getR_modPorter, bit_prtEvents_porterSticky _ _ _ (by decide)]
      exact Bool.or_true _
    · have hsessions := congrArg Porter.sessions hp
      exact hsessions
  case sram =>
    intro s hr
    refine ⟨restartPorter s .sram, ?_, rfl, rfl, rfl, rfl, rfl⟩
    simp only [exec, execPorterSramUncorrectable, porterRuns, hr, beq_self_eq_true, if_true]
  case commit =>
    intro s c hc hr v
    rcases Nat.lt_or_ge (secCounter (firmware s c)) v with hlt | hge
    · have hcommit := commitTrial_advances (s := notBeforeLocal s (trialEnd s c)) hlt
      have hfw : firmware (commitTrial (notBeforeLocal s (trialEnd s c)) c) c =
          { firmware s c with
            trial := false, onTrial := false, tries := 0, fuses := BitVec.ofNat 64 ((firmware s c).fuses.toNat ||| (2 ^ v - 1)) } := by
        rw [hcommit, firmware_porterLog, fusesTo, firmware_modFirmware, trialOver, firmware_modFirmware]
        rfl
      refine ⟨_, exec_trialCommit hc hr, by rw [hfw], by rw [hfw], by rw [hfw], ?_,
        fun h => absurd hlt (Nat.not_lt.mpr h), fun _ h64 => ⟨fun i hi => ?_, ?_⟩⟩
      · rw [hcommit]
        rfl
      · rw [hfw]
        exact bit_fusesTo _ h64 hi
      · rw [hcommit]
        rfl
    · have hcommit := commitTrial_reached (s := notBeforeLocal s (trialEnd s c)) hge
      have hfw : firmware (commitTrial (notBeforeLocal s (trialEnd s c)) c) c =
          { firmware s c with trial := false, onTrial := false, tries := 0 } := by
        rw [hcommit, trialOver, firmware_modFirmware]
        rfl
      refine ⟨_, exec_trialCommit hc hr, by rw [hfw], by rw [hfw], by rw [hfw], ?_, fun _ => ⟨by rw [hfw], ?_⟩,
        fun h => absurd h (Nat.not_lt.mpr hge)⟩
      · rw [hcommit]
        rfl
      · rw [hcommit]
        rfl
  case event =>
    intro s e es hr h0 hf
    refine ⟨fun hty => ?_, fun hty hm => ?_⟩
    · exact ⟨_, logRecord { s with fifo := es } _ _ _ e.fields, (exec_porterEvent_front hr h0 hf).trans (congrArg Host.Outcome.next (logEvent_other hty)),
        rfl, getLast_appendLog .., rfl, rfl, rfl, rfl, getR_prtLogSeq_appendLog .., rfl⟩
    · obtain ⟨hlogged, -⟩ := eventLogged_frame { s with fifo := es } e
      obtain ⟨hmark, -⟩ := recordMark_frame (eventLogged { s with fifo := es } e) (e.fields.getD 0 0) (e.fields.getD 4 0) (e.fields.getD 5 0)
      have hframe := regsPorter_trans hlogged hmark
      exact ⟨_, (exec_porterEvent_front hr h0 hf).trans (congrArg Host.Outcome.next (logEvent_mark hty hm)),
        congrArg State.fifo hframe, tget_pinMarks_recordMark .., hframe⟩
  case lost =>
    intro s hr h0
    obtain ⟨hl, h6⟩ := lossNoted_shows s
    rcases exec_porterEvent_lost hr h0 with he | ⟨e, es, he⟩
    · exact ⟨_, he, hl, h6⟩
    · obtain ⟨hfr, hev⟩ := logEvent_frame { lossNoted s with fifo := es } e
      refine ⟨_, he, ?_, ?_⟩
      · rw [hfr]
        exact hl
      · rw [hev]
        exact h6
  case noMirror =>
    intro s hm
    simp only [exec, execLogMirrorCommit, hm, Bool.not_false, if_true]
  case mirror =>
    intro s l hm hl hn
    obtain ⟨t, he, ht⟩ := exec_logMirrorCommit hm hl hn
    exact ⟨t, he, by rw [ht], by rw [ht]⟩
  case mctp =>
    intro s via e hs hv h0 h255
    have hans := mctp_answers hs hv
    refine ⟨⟨modPorter s fun p => { p with eid := e, reply := some ⟨0, 1, 0, [e], []⟩ }, ?_, rfl, rfl⟩,
      ⟨modPorter s fun p => { p with reply := some ⟨0, 2, 0, [p.eid], []⟩ }, ?_, rfl, rfl⟩,
      ⟨modPorter s fun p => { p with reply := some ⟨0, 5, 0, [0x00, 0x01, 0x05, 0x7E], []⟩ }, ?_, rfl, rfl⟩⟩
    · simp only [exec, execMctpControlMessage, hans, h0, h255, or_self, if_true, if_false]
    · simp only [exec, execMctpControlMessage, hans, if_true]
    · simp only [exec, execMctpControlMessage, hans, if_true]

end

/-! ## Bring-up -/

namespace Sys2Proof.Machine

open Sys2Proof.Safety

/-! ### Units that fail (R511) -/

/-- A unit's bit lies inside its word of DEV_UNIT_PRESENCE. -/
theorem presenceBit_lt {k : UnitKind} {i : Nat} (h : i < unitCount k) : (presenceBit k i).2 < 64 := by
  cases k <;> simp only [presenceBit, unitCount] at h ⊢ <;> omega

/-- The units that failed, of a word. -/
def failedWord (s : State) (n : Nat) : Nat := (tget (fun _ => 0) s.failed n).toNat

/-- A unit is present where the fuses show it and bring-up has not found it failed. -/
theorem present_iff (s : State) (k : UnitKind) (i : Nat) :
    present s k i = true ↔ i < unitCount k ∧ (fuseWord s.variant (presenceBit k i).1).testBit (presenceBit k i).2 = true ∧
      (failedWord s (presenceBit k i).1).testBit (presenceBit k i).2 = false := by
  simp only [present, presenceWord, failedWord, bit_eq_testBit, testBit_clearBits, Bool.and_eq_true, decide_eq_true_eq, Bool.not_eq_true']

/-- A unit that fails joins those that failed. -/
theorem failedWord_failUnit (s : State) (k : UnitKind) (i n : Nat) :
    failedWord (failUnit s k i) n =
      if n = (presenceBit k i).1 then (failedWord s n ||| 2 ^ (presenceBit k i).2) % 2 ^ 64 else failedWord s n := by
  simp only [failedWord, failUnit, tmod]
  split
  case _ h => rw [h, tget_tset_same, BitVec.toNat_ofNat]
  case _ h => rw [tget_tset_other _ _ _ _ _ h]

/-- A unit that fails is absent. -/
theorem present_failUnit_same (s : State) (k : UnitKind) (i : Nat) : present (failUnit s k i) k i = false := by
  refine Bool.eq_false_iff.mpr fun hp => ?_
  obtain ⟨hi, -, hf⟩ := (present_iff _ _ _).mp hp
  rw [failedWord_failUnit, if_pos rfl, ← bit_eq_testBit, bit_or_mod _ _ _ _ (presenceBit_lt hi), bit_two_pow, Bool.or_true] at hf
  cases hf

/-- A unit that is absent stays absent when another fails. -/
theorem absent_failUnit (s : State) (k : UnitKind) (i : Nat) (u : UnitKind) (n : Nat) (h : present s u n = false) :
    present (failUnit s k i) u n = false := by
  refine Bool.eq_false_iff.mpr fun hp => Bool.eq_false_iff.mp h ?_
  obtain ⟨hi, hfuse, hf⟩ := (present_iff _ _ _).mp hp
  refine (present_iff _ _ _).mpr ⟨hi, hfuse, ?_⟩
  rw [failedWord_failUnit] at hf
  split at hf
  · rw [← bit_eq_testBit, bit_or_mod _ _ _ _ (presenceBit_lt hi), Bool.or_eq_false_iff, bit_eq_testBit] at hf
    exact hf.1
  · exact hf

/-! ### DEV_BOOT in bring-up (R506, R512) -/

/-- A failure shows its stage twice, and the failure itself. -/
theorem bringupFails_shows (s : State) {n : Nat} (hn : n < 16) :
    bootStage (bringupFails s n) = n ∧ fieldR (bringupFails s n) .devBoot 4 4 = n ∧ bit (getR (bringupFails s n) .devBoot) 9 = true ∧
      bit (getR (bringupFails s n) .devBoot) 8 = bit (getR s .devBoot) 8 := by
  refine ⟨?_, ?_, ?_, ?_⟩
  · rw [bootStage, bringupFails, fieldR_setField_other _ _ _ _ _ _ _ _ _ _ (by decide) (by decide),
      fieldR_setField_other _ _ _ _ _ _ _ _ _ _ (by decide) (by decide), fieldR_setField_same _ _ _ _ _ _ _ _ (by decide)]
    exact Nat.mod_eq_of_lt hn
  · rw [bringupFails, fieldR_setField_other _ _ _ _ _ _ _ _ _ _ (by decide) (by decide), fieldR_setField_same _ _ _ _ _ _ _ _ (by decide)]
    exact Nat.mod_eq_of_lt hn
  · exact bit_setField_same _ _ _ _ _ _ _ (by decide)
  · rw [bringupFails, bit_setField_other _ _ _ _ _ _ _ _ _ (by decide) (by decide), bit_setField_other _ _ _ _ _ _ _ _ _ (by decide) (by decide),
      bit_setField_other _ _ _ _ _ _ _ _ _ (by decide) (by decide)]

/-! ### The microcode (R492, R504 step 7) -/

/-- Without a trial the valid active slot is loaded. -/
theorem loadMicrocode_active {s : State} (passes : Bool) (ht : s.porter.micro.trial = false) (hv : slotValid s 2 s.porter.micro.active = true) :
    loadMicrocode s passes = (runSlot s 2 s.porter.micro.active false, true) := by
  have hb : bootSlot s 2 = (runSlot s 2 s.porter.micro.active false, true) := (bootSlot_settled (c := 2) ht).trans (bootActive_active (c := 2) hv)
  have hon : (runSlot s 2 s.porter.micro.active false).porter.micro.onTrial = false := rfl
  have hact : (runSlot s 2 s.porter.micro.active false).porter.micro.active = s.porter.micro.active := rfl
  simp only [loadMicrocode, hb, hon, hact, Bool.and_false, Bool.false_and, Bool.false_eq_true, if_false, if_true]

/-- Without a trial and without a valid slot none is loaded. -/
theorem loadMicrocode_none {s : State} (passes : Bool) (ht : s.porter.micro.trial = false) (hv : slotValid s 2 s.porter.micro.active = false)
    (ho : slotValid s 2 (1 - s.porter.micro.active) = false) : loadMicrocode s passes = (s, false) := by
  have hb : bootSlot s 2 = (s, false) := (bootSlot_settled (c := 2) ht).trans (bootActive_none (c := 2) hv ho)
  simp only [loadMicrocode, hb, Bool.false_and, Bool.false_eq_true, if_false, if_true]

theorem slotValid_setR_devBoot (s : State) (v c k : Nat) : slotValid (setR s .devBoot v) c k = slotValid s c k :=
  slotValid_congr rfl rfl rfl (getR_setR_other _ _ _ _ _ _ _ _ _ _ (by decide))

/-- A run of header bytes is a number of its width. -/
theorem headerNum_lt (comp slot : Nat) (d : SlotData) (lo n : Nat) : headerNum comp slot d lo n < 2 ^ (8 * n) := by
  have hle : ∀ l : List Byte, ofLe (l.map BitVec.toNat) < 2 ^ (8 * l.length) := by
    intro l
    induction l with
    | nil => simp [ofLe]
    | cons b l ih =>
      have hb : b.toNat < 2 ^ 8 := b.isLt
      simp only [List.map_cons, ofLe, List.length_cons, Nat.mul_add, Nat.pow_add]
      omega
  cases d with
  | shipped =>
    have := hle ((List.range n).map fun i => Config.shippedHeader comp slot (lo + i))
    simpa only [headerNum, List.map_map, Function.comp_def, List.length_map, List.length_range] using this
  | image bs =>
    exact Nat.lt_of_lt_of_le (hle _) (Nat.pow_le_pow_right (by decide) (Nat.mul_le_mul_left 8 (List.length_take_le ..)))
  | invalid => exact Nat.two_pow_pos _

/-! ### The dies leave reset (R504 steps 6 and 7, R506) -/

/-- The dies whose core has passed its test, with the microcode of a slot. -/
def microLoaded (s : State) (slot : Nat) : State := runSlot (setR s .devBoot 2) 2 slot false

/-- The Ushers that failed their test. -/
def ushersFailed (s : State) (l : List Nat) : State := (l.filter fun u => present s .usher u).foldl (fun t u => failUnit t .usher u) s

/-- The stacks may train, at the levels of the microcode that runs. -/
def diesUp (s : State) : State := setR (setField s .devBoot 0 4 3) .devLevels (slotNum s 2 s.porter.micro.running 12 2)

theorem exec_mainBringup_core {s : State} {d : DieTests} (hpg : s.oam.powerGood = true) (hr : s.porter.state = .running)
    (hb : getR s .devBoot = 0) (hc : d.core = false) : exec (.mainBringup d) s = .next (bringupFails s 1) := by
  simp [exec, execMainBringup, mainUp, porterRuns, hpg, hr, hb, hc]

theorem exec_mainBringup_loaded {s : State} {d : DieTests} (hpg : s.oam.powerGood = true) (hr : s.porter.state = .running)
    (hb : getR s .devBoot = 0) (hc : d.core = true) (ht : s.porter.micro.trial = false) (hv : slotValid s 2 s.porter.micro.active = true) :
    exec (.mainBringup d) s =
      let t := ushersFailed (microLoaded s s.porter.micro.active) d.failedUshers
      if (List.range 256).any fun u => present t .usher u then
        .next (diesUp t)
      else .next (bringupFails t 2) := by
  have hl := loadMicrocode_active (s := setR s .devBoot 2) d.microcode ht ((slotValid_setR_devBoot ..).trans hv)
  simp only [exec, execMainBringup, mainUp, porterRuns, hpg, hr, hb, hc, hl, beq_self_eq_true, Bool.not_true, Bool.or_self, Bool.false_eq_true,
    ne_eq, not_true_eq_false, decide_false, if_false]
  rfl

theorem exec_mainBringup_none {s : State} {d : DieTests} (hpg : s.oam.powerGood = true) (hr : s.porter.state = .running)
    (hb : getR s .devBoot = 0) (hc : d.core = true) (ht : s.porter.micro.trial = false) (hv : slotValid s 2 s.porter.micro.active = false)
    (ho : slotValid s 2 (1 - s.porter.micro.active) = false) :
    exec (.mainBringup d) s = .next (mainLoss (modPorter (setR s .devBoot 2) fun p => { p with state := .recovery }) 4) := by
  have hl := loadMicrocode_none (s := setR s .devBoot 2) d.microcode ht ((slotValid_setR_devBoot ..).trans hv) ((slotValid_setR_devBoot ..).trans ho)
  simp only [exec, execMainBringup, mainUp, porterRuns, hpg, hr, hb, hc, hl, beq_self_eq_true, Bool.not_true, Bool.or_self, Bool.false_eq_true,
    ne_eq, not_true_eq_false, decide_false, Bool.not_false, if_true, if_false]

/-- A fold of failures changes what failed alone. -/
theorem foldl_failed_frame {α : Type} (f : State → α → State) (hf : ∀ t a, f t a = { t with failed := (f t a).failed })
    (l : List α) (s : State) :
    l.foldl f s = { s with failed := (l.foldl f s).failed } :=
  List.foldlRecOn (motive := fun t : State => t = { s with failed := t.failed }) l f rfl fun t ht a _ => by rw [hf, ht]

theorem ushersFailed_frame (s : State) (l : List Nat) : ushersFailed s l = { s with failed := (ushersFailed s l).failed } :=
  foldl_failed_frame (fun t u => failUnit t .usher u) (fun _ _ => rfl) _ s

/-- An Usher that fails its test, or was absent before, is absent. -/
theorem absent_ushersFailed (s : State) (l : List Nat) (u : Nat) (h : present s .usher u = true → u ∈ l) :
    present (ushersFailed s l) .usher u = false := by
  by_cases hp : present s .usher u = true
  · exact foldl_reaches (fun t => present t .usher u = false) _ u (fun t => present_failUnit_same t .usher u)
      (fun t b ht => absent_failUnit t .usher b .usher u ht) _ (List.mem_filter.mpr ⟨h hp, hp⟩) s
  · exact List.foldlRecOn (motive := fun t => present t .usher u = false) _ _ (Bool.eq_false_iff.mpr hp) fun t ht b _ =>
      absent_failUnit t .usher b .usher u ht

/-! ### Stacks (R261, R267, R504 step 8) -/

/-- The pin mark of a pseudo-channel is set again where the table has one. -/
def markAgain (m : Tbl Nat) (h : Nat) (t : State) (pc : Nat) : State :=
  let pin := tget (fun _ => 0) m (64 * h + pc)
  if pin = 0 then t else setField (setField t .halPcCe 24 6 (pin - 1) h pc) .halPcCe 30 1 1 h pc

theorem applyMarks_eq_foldl (s : State) (h : Nat) : applyMarks s h = (List.range 64).foldl (markAgain s.porter.pinMarks h) s := rfl

theorem markAgain_frame (m : Tbl Nat) (h : Nat) (t : State) (pc : Nat) : markAgain m h t pc = { t with regs := (markAgain m h t pc).regs } := by
  simp only [markAgain]
  split <;> rfl

theorem applyMarks_frame (s : State) (h : Nat) : applyMarks s h = { s with regs := (applyMarks s h).regs } := by
  rw [applyMarks_eq_foldl]
  exact List.foldlRecOn (motive := fun t : State => t = { s with regs := t.regs }) _ _ rfl fun t ht pc _ => by rw [markAgain_frame, ht]

/-- A pseudo-channel shows the mark of a pin. -/
def marked (h pc pin : Nat) (t : State) : Prop := bit (getR t .halPcCe h pc) 30 = true ∧ fieldR t .halPcCe 24 6 h pc = pin

theorem marked_congr {h pc pin : Nat} {s t : State} (he : getR t .halPcCe h pc = getR s .halPcCe h pc) (hm : marked h pc pin s) :
    marked h pc pin t := by
  rwa [marked, fieldR, he]

theorem marked_markAgain {m : Tbl Nat} {h pc pin : Nat} (t : State) (hpin : pin < 64) (hm : tget (fun _ => 0) m (64 * h + pc) = pin + 1) :
    marked h pc pin (markAgain m h t pc) := by
  simp only [markAgain, hm, Nat.add_one_ne_zero, if_false, Nat.add_sub_cancel]
  refine ⟨bit_setField_same _ _ _ _ _ _ _ (by decide), ?_⟩
  rw [fieldR_setField_other _ _ _ _ _ _ _ _ _ _ (by decide) (by decide), fieldR_setField_same _ _ _ _ _ _ _ _ (by decide)]
  exact Nat.mod_eq_of_lt hpin

/-- The marks of other pseudo-channels leave a mark. -/
theorem getR_markAgain_other (m : Tbl Nat) (h : Nat) (t : State) {pc b : Nat} (hb : b ≠ pc) :
    getR (markAgain m h t b) .halPcCe h pc = getR t .halPcCe h pc := by
  have hk : regKey 0 .halPcCe h pc ≠ regKey 0 .halPcCe h b := by
    simp only [regKey, regOff, regSpec]
    omega
  simp only [markAgain]
  split
  · rfl
  · rw [getR_setField_other _ _ _ _ _ _ _ _ _ _ _ _ hk, getR_setField_other _ _ _ _ _ _ _ _ _ _ _ _ hk]

/-- A hall shows the marks that the table holds for it. -/
theorem marked_applyMarks {s : State} {h pc pin : Nat} (hpc : pc < 64) (hpin : pin < 64)
    (hm : tget (fun _ => 0) s.porter.pinMarks (64 * h + pc) = pin + 1) : marked h pc pin (applyMarks s h) := by
  rw [applyMarks_eq_foldl]
  refine foldl_reaches (marked h pc pin) _ pc (fun t => marked_markAgain t hpin hm) (fun t b ht => ?_) _ (List.mem_range.mpr hpc) s
  by_cases hb : b = pc
  · rw [hb]
    exact marked_markAgain t hpin hm
  · exact marked_congr (getR_markAgain_other _ h t hb) ht

/-- A stack has completed its training or failed it. -/
def stackDone (s : State) (h : Nat) (trained : Bool) : State :=
  modOam (if trained then applyMarks s h else failUnit s .hall h) fun m => { m with trained := m.trained ++ [h] }

/-- Every stack of the variant is done. -/
def stacksDone (s : State) : Bool := (List.range 16).all fun x => !bit (fuseWord s.variant 0) x || s.oam.trained.contains x

/-- The step of training ends with the last stack. -/
def trainingStep (s : State) : State := if stacksDone s then setField s .devBoot 0 4 4 else s

theorem exec_stackTraining {s : State} {h : Nat} (trained : Bool) (h3 : bootStage s = 3) (hh : h < 16) (hf : bit (fuseWord s.variant 0) h = true)
    (hn : h ∉ s.oam.trained) : exec (.stackTraining h trained) s = .next (trainingStep (stackDone s h trained)) := by
  have hc : s.oam.trained.contains h = false := by simpa using hn
  simp only [exec, execStackTraining, h3, hf, hc, Nat.not_le.mpr hh, ne_eq, not_true_eq_false, Bool.not_true, Bool.false_eq_true, or_self, if_false]
  rfl

theorem trainingStep_frame (s : State) : trainingStep s = { s with regs := (trainingStep s).regs } := by
  rw [trainingStep]
  split <;> rfl

/-- The end of the step writes DEV_BOOT alone. -/
theorem getR_trainingStep_other (s : State) (q : Reg) (a b g : Nat) (h : regKey g q a b ≠ regKey 0 .devBoot 0 0) :
    getR (trainingStep s) q a b g = getR s q a b g := by
  rw [trainingStep]
  split
  · exact getR_setField_other _ _ _ _ _ _ _ _ _ _ _ _ h
  · rfl

theorem stackDone_trained (s : State) (h : Nat) (b : Bool) :
    (stackDone s h b).oam.trained = s.oam.trained ++ [h] ∧ (stackDone s h b).variant = s.variant := by
  cases b
  · exact ⟨rfl, rfl⟩
  · simp only [stackDone, if_true]
    rw [applyMarks_frame]
    exact ⟨rfl, rfl⟩

/-- The last stack ends the step. -/
theorem bootStage_trainingStep {s : State} (h : stacksDone s = true) : bootStage (trainingStep s) = 4 := by
  rw [trainingStep, if_pos h, bootStage, fieldR_setField_same _ _ _ _ _ _ _ _ (by decide)]
  rfl

/-! ### The last step (R505, R507, R508, R511) -/

/-- The kind and the number of a unit that step 9 tests. -/
def testedUnit : TestedUnit → UnitKind × Nat
  | .port p => (.port, p)
  | .engine e => (.engine, e)
  | .lantern c => (.lantern, c)
  | .slice i => (.slice, i)

theorem failTested_eq (s : State) (x : TestedUnit) :
    failTested s x = if present s (testedUnit x).1 (testedUnit x).2 then failUnit s (testedUnit x).1 (testedUnit x).2 else s := by cases x <;> rfl

theorem failTested_frame (s : State) (x : TestedUnit) : failTested s x = { s with failed := (failTested s x).failed } := by
  rw [failTested_eq]
  split <;> rfl

/-- A unit that fails its test is absent. -/
theorem absent_failTested_same (s : State) (x : TestedUnit) : present (failTested s x) (testedUnit x).1 (testedUnit x).2 = false := by
  rw [failTested_eq]
  split
  · exact present_failUnit_same ..
  case _ h => exact Bool.eq_false_iff.mpr h

theorem absent_failTested (s : State) (x : TestedUnit) (u : UnitKind) (n : Nat) (h : present s u n = false) :
    present (failTested s x) u n = false := by
  rw [failTested_eq]
  split
  · exact absent_failUnit _ _ _ _ _ h
  · exact h

theorem absent_foldl_failTested (s : State) {l : List TestedUnit} {x : TestedUnit} (h : x ∈ l) :
    present (l.foldl failTested s) (testedUnit x).1 (testedUnit x).2 = false :=
  foldl_reaches (fun t => present t (testedUnit x).1 (testedUnit x).2 = false) failTested x (fun t => absent_failTested_same t x)
    (fun t b ht => absent_failTested t b _ _ ht) l h s

theorem restoreWings_frame (s : State) : restoreWings s = { s with regs := (restoreWings s).regs } := by
  rw [restoreWings]
  split
  · split <;> rfl
  · rfl

/-- The units that failed their test are absent, and the configuration of the wings is that of the last record. -/
def unitsTested (s : State) (l : List TestedUnit) : State := restoreWings (l.foldl failTested s)

theorem unitsTested_frame (s : State) (l : List TestedUnit) :
    unitsTested s l = { s with regs := (unitsTested s l).regs, failed := (l.foldl failTested s).failed } := by
  rw [unitsTested, restoreWings_frame, foldl_failed_frame failTested failTested_frame l s]

/-- DEV_BOOT shows the lost halls, READY and the last stage. -/
def readyShown (s : State) : State := setField (setField (setField s .devBoot 16 16 (lostHalls s)) .devBoot 8 1 1) .devBoot 0 4 5

theorem readyShown_frame (s : State) : readyShown s = { s with regs := (readyShown s).regs } := rfl

theorem readyShown_shows (s : State) : bootStage (readyShown s) = 5 ∧ bit (getR (readyShown s) .devBoot) 8 = true := by
  constructor
  · rw [bootStage, readyShown, fieldR_setField_same _ _ _ _ _ _ _ _ (by decide)]
    rfl
  · rw [readyShown, bit_setField_other _ _ _ _ _ _ _ _ _ (by decide) (by decide), bit_setField_same _ _ _ _ _ _ _ (by decide)]
    rfl

/-- The device is up. -/
def bringupDone (s : State) (l : List TestedUnit) : State :=
  modPorter (readyShown (unitsTested s l)) fun p => { p with upSince := porterNow (readyShown (unitsTested s l)) }

/-- A unit that fails the last test is absent in the device that is up. -/
theorem absent_bringupDone (s : State) {l : List TestedUnit} {x : TestedUnit} (h : x ∈ l) :
    present (bringupDone s l) (testedUnit x).1 (testedUnit x).2 = false := by
  rw [bringupDone, readyShown_frame, unitsTested, restoreWings_frame]
  exact (present_congr (s := l.foldl failTested s) rfl rfl ..).trans (absent_foldl_failTested s h)

/-- The last step changes registers, what failed and the Porter's time of READY alone. -/
theorem bringupDone_frame (s : State) (l : List TestedUnit) :
    bringupDone s l = { s with
      failed := (bringupDone s l).failed, regs := (bringupDone s l).regs, porter := { s.porter with upSince := porterNow s } } := by
  rw [bringupDone, readyShown_frame, unitsTested_frame s l]
  rfl

theorem exec_bringupReady {s : State} (l : List TestedUnit) (h4 : bootStage s = 4) (h8 : bit (getR s .devBoot) 8 = false)
    (hpg : s.oam.powerGood = true) :
    exec (.bringupReady l) s = .next (bringupDone s l) := by
  simp only [exec, execBringupReady, mainUp, h4, h8, hpg, ne_eq, not_true_eq_false, Bool.not_true, Bool.false_eq_true, or_self, if_false]
  rfl

end Sys2Proof.Machine

section
open Sys2Proof Sys2Proof.Machine Sys2Proof.Safety

/-- Settles O59: the dies' tests fail a stage, or the slot that `loadMicrocode` chooses runs; a stack shows its marks again or fails; a unit that
fails its test is absent and stays so. -/
theorem bringupRuns : Obligations.BringupRuns := by
  refine ⟨?early, ?dies, ?stack, ?noStack, ?ready, ?notReady⟩
  case early =>
    intro s d h
    have hno : (!mainUp s || !porterRuns s || decide (getR s .devBoot ≠ 0)) = true := by
      rcases h with h | h | h <;> simp [mainUp, porterRuns, h]
    simp only [exec, execMainBringup, hno, if_true]
  case dies =>
    intro s d hpg hr hb
    have h8 : bit (getR s .devBoot) 8 = false := by rw [hb]; rfl
    refine ⟨fun hc => ?core, fun hc ht hv => ⟨fun hu hp => ?loaded, fun hu => ?noUsher⟩, fun hc ht hv ho => ?none⟩
    case core =>
      obtain ⟨h1, h2, h3, h4⟩ := bringupFails_shows s (n := 1) (by decide)
      exact ⟨_, exec_mainBringup_core hpg hr hb hc, h1, h2, h3, h4.trans h8, rfl⟩
    case loaded =>
      have hnone : ushersFailed (microLoaded s s.porter.micro.active) d.failedUshers = microLoaded s s.porter.micro.active := by rw [hu]; rfl
      have hany : ((List.range 256).any fun u => present (microLoaded s s.porter.micro.active) .usher u) = true :=
        List.any_eq_true.mpr ⟨0, List.mem_range.mpr (by decide), hp⟩
      refine ⟨diesUp (microLoaded s s.porter.micro.active), ?_, ?_, rfl, rfl, ?_, rfl⟩
      · simp only [exec_mainBringup_loaded hpg hr hb hc ht hv, hnone, hany, if_true]
      · rw [bootStage, fieldR, diesUp, getR_setR_other _ _ _ _ _ _ _ _ _ _ (by decide)]
        exact fieldR_setField_same _ _ _ _ _ _ _ _ (by decide)
      · rw [diesUp, getR_setR_same]
        exact Nat.mod_eq_of_lt (Nat.lt_trans (headerNum_lt ..) (by decide))
    case noUsher =>
      let t := ushersFailed (microLoaded s s.porter.micro.active) d.failedUshers
      have habs : ∀ u, u < 256 → present t .usher u = false := fun u hlt => absent_ushersFailed _ _ u (hu u hlt)
      have hany : ((List.range 256).any fun u => present t .usher u) = false :=
        List.any_eq_false.mpr fun u hmem => Bool.eq_false_iff.mp (habs u (List.mem_range.mp hmem))
      have hboot : getR t .devBoot = 2 := by
        have h2 : getR (setR s .devBoot 2) .devBoot = 2 := getR_setR_same ..
        rw [← h2]
        exact getR_congr (congrArg State.regs (ushersFailed_frame ..)) ..
      obtain ⟨h1, h2, h3, h4⟩ := bringupFails_shows t (n := 2) (by decide)
      refine ⟨bringupFails t 2, ?_, h1, h2, h3, ?_, habs⟩
      · rw [exec_mainBringup_loaded hpg hr hb hc ht hv, if_neg (Bool.eq_false_iff.mp hany)]
      · rw [h4, hboot]
        rfl
    case none =>
      exact ⟨_, exec_mainBringup_none hpg hr hb hc ht hv ho, (mainLoss_keeps _ 4).1, rfl, rfl⟩
  case stack =>
    intro s h h3 hh hf hn
    refine ⟨?trained, ?failed, fun b hall => ?last⟩
    case trained =>
      refine ⟨_, exec_stackTraining true h3 hh hf hn, ?_, ?_, fun pc pin hpc hpin hm => ?_, ?_⟩
      · rw [trainingStep_frame]
        exact (stackDone_trained s h true).1
      · rw [trainingStep_frame, stackDone, if_pos rfl, applyMarks_frame]
        rfl
      · refine marked_congr ?_ (marked_applyMarks hpc hpin hm)
        rw [getR_trainingStep_other _ _ _ _ _ (Nat.ne_of_gt (Nat.lt_of_lt_of_le (by decide) (le_regKey_of_base (n := 0x1000000) 0 h pc (by decide))))]
        rfl
      · rw [trainingStep_frame, stackDone, if_pos rfl, applyMarks_frame]
        rfl
    case failed =>
      refine ⟨_, exec_stackTraining false h3 hh hf hn, ?_, ?_, ?_⟩
      · rw [trainingStep_frame]
        exact (stackDone_trained s h false).1
      · rw [trainingStep_frame]
        exact present_failUnit_same s .hall h
      · rw [trainingStep_frame]
        rfl
    case last =>
      refine ⟨_, exec_stackTraining b h3 hh hf hn, bootStage_trainingStep ?_⟩
      obtain ⟨htr, hv⟩ := stackDone_trained s h b
      refine List.all_eq_true.mpr fun x hx => ?_
      by_cases hfx : bit (fuseWord s.variant 0) x = true
      · have hmem : x ∈ s.oam.trained ++ [h] := by
          rcases hall x (List.mem_range.mp hx) hfx with rfl | hx
          · exact List.mem_append_right _ (List.mem_singleton_self _)
          · exact List.mem_append_left _ hx
        rw [htr, List.contains_iff_mem.mpr hmem, Bool.or_true]
      · rw [hv, Bool.eq_false_iff.mpr hfx, Bool.not_false, Bool.true_or]
  case noStack =>
    intro s h b hno
    have hno' : bootStage s ≠ 3 ∨ (!bit (fuseWord s.variant 0) h) = true ∨ 16 ≤ h ∨ s.oam.trained.contains h = true :=
      hno.imp id fun hm => .inr (.inr (List.contains_iff_mem.mpr hm))
    simp only [exec, execStackTraining, hno', if_true]
  case ready =>
    intro s l h4 h8 hpg
    obtain ⟨h5, h8'⟩ := readyShown_shows (unitsTested s l)
    have habs : ∀ x ∈ l, present (bringupDone s l) (testedUnit x).1 (testedUnit x).2 = false := fun _ => absent_bringupDone s
    refine ⟨bringupDone s l, exec_bringupReady l h4 h8 hpg, h5, h8', ?_, fun p => habs (.port p), fun e => habs (.engine e),
      fun c => habs (.lantern c), fun i => habs (.slice i), ?_⟩
    · rw [bringupDone_frame]
    · rw [bringupDone_frame]
  case notReady =>
    intro s l h
    simp only [exec, execBringupReady, ne_eq, h, not_false_eq_true, true_or, if_true]

end
